-- ==== Sys2Proof/Word.lean ====
section
/-! DEFINITION. Sys2Proof/Word.lean: the words the manual adds, shifts and masks (R27 tick counts are plain
numbers; registers are 32 bits, spec/00_scope.md "Register notation"), and the plainest arithmetic on them. -/
namespace Sys2Proof

/-- A 32-bit register or table word. -/
abbrev Word := BitVec 32
/-- A byte, the unit the device address map counts (R480). -/
abbrev Byte := BitVec 8

/-- Bits [hi:lo] of a number, as the manual writes a bit range. -/
def bits (n hi lo : Nat) : Nat := (n / 2 ^ lo) % 2 ^ (hi + 1 - lo)

/-- One bit of a number. -/
def bit (n i : Nat) : Bool := n.testBit i

/-- The number with bit `i` set, 0 or 1 as the flag says. -/
def putBit (n i : Nat) (b : Bool) : Nat := if n.testBit i then (if b then n else n - 2 ^ i) else (if b then n + 2 ^ i else n)

/-- A flag as the number 0 or 1. -/
def b2n (b : Bool) : Nat := if b then 1 else 0

/-- An increment that saturates at 0xFFFF_FFFF, as the manual's counters do (R70). -/
def satInc (n : Nat) : Nat := if n < 0xFFFFFFFF then n + 1 else 0xFFFFFFFF

/-- Saturating addition at `top`. -/
def satAdd (top a b : Nat) : Nat := if a + b < top then a + b else top

/-- The two's complement number that the low `w` bits of `n` spell. -/
def sext (w n : Nat) : Int :=
  if n % 2 ^ w < 2 ^ (w - 1) then ((n % 2 ^ w : Nat) : Int) else ((n % 2 ^ w : Nat) : Int) - ((2 ^ w : Nat) : Int)

/-- The low `w` bits of a two's complement number. -/
def ofSigned (w : Nat) (i : Int) : Nat := (i % ((2 ^ w : Nat) : Int)).toNat

/-- The number whose low 32 bits are `lo` and whose high 32 bits are `hi` (R494). -/
def join64 (lo hi : Nat) : Nat := lo % 2 ^ 32 + 2 ^ 32 * (hi % 2 ^ 32)

/-- Division rounded up. -/
def cdiv (a b : Nat) : Nat := (a + b - 1) / b

end Sys2Proof
end

