-- ==== Sys2Proof/Config.lean ====
section
/-! DEFINITION. Sys2Proof/Config.lean: what a fitted module fixes (the variant table of R2) and the values the
manual leaves open, as constants without a body (assumption log, entries 3 and 4). -/
namespace Sys2Proof

/-- The three variants of R2. -/
inductive Variant
  | ea1640
  | ea0820
  | ea0410
deriving DecidableEq, Repr

namespace Variant
/-- Generate channels (R2). -/
def gens : Variant → Nat
  | .ea1640 => 16
  | .ea0820 => 8
  | .ea0410 => 4
/-- Capture channels (R2). -/
def caps : Variant → Nat
  | .ea1640 => 4
  | .ea0820 => 2
  | .ea0410 => 1
/-- Pattern groups (R2). -/
def pats : Variant → Nat
  | .ea1640 => 4
  | .ea0820 => 2
  | .ea0410 => 1
/-- DRAM interfaces (R2). -/
def mifs : Variant → Nat
  | .ea1640 => 6
  | .ea0820 => 3
  | .ea0410 => 2
/-- DRAM installed, GiB (R2). -/
def dramGib : Variant → Nat
  | .ea1640 => 96
  | .ea0820 => 48
  | .ea0410 => 32
/-- Scratchpad banks of 4 MiB (R2). -/
def banks : Variant → Nat
  | .ea1640 => 32
  | .ea0820 => 16
  | .ea0410 => 8
/-- Gravers, generate and pattern (R2). -/
def gravers (v : Variant) : Nat := v.gens + v.pats
/-- Pool units of the sequence table pool (R2). -/
def poolUnits : Variant → Nat
  | .ea1640 => 384
  | .ea0820 => 192
  | .ea0410 => 96
/-- Scratchpad sequencer banks, which are also the number of the first general bank (R2). -/
def seqBanks : Variant → Nat
  | .ea1640 => 20
  | .ea0820 => 10
  | .ea0410 => 5
/-- Banks of the general area (R2): 20 to 29, 10 to 13, 5. -/
def genBanks : Variant → Nat
  | .ea1640 => 10
  | .ea0820 => 4
  | .ea0410 => 1
/-- Real-time DRAM ports (R2). -/
def rtPorts : Variant → Nat
  | .ea1640 => 28
  | .ea0820 => 14
  | .ea0410 => 7
/-- DEV.ID.PART (R498). -/
def part : Variant → Nat
  | .ea1640 => 0x1640
  | .ea0820 => 0x0820
  | .ea0410 => 0x0410
/-- Small configurations (spec/00_scope.md, Vocabulary). -/
def small : Variant → Bool
  | .ea1640 => false
  | _ => true
end Variant

/-- A value the manual leaves open: nothing is known of it (assumption log, entry 3). The first argument is the
running number of the request (State.fresh), the second says what is asked for. -/
opaque Config.freeValue : Nat → Nat → Nat
/-- HMAC-SHA-256 of R457 and of the bundles of R505, over key and message octets, uninterpreted (entry 4). -/
opaque Config.hmac : List Nat → List Nat → Nat
/-- Ed25519 verification of the images of R515 and R516, uninterpreted (entry 4). -/
opaque Config.signatureOk : List Nat → Bool
/-- The filter coefficients of R585, which this manual does not print (entry 5): the value of a word of the
read-only window 0x0861_0000, by its offset. -/
opaque Config.filterWord : Nat → BitVec 32
/-- The trim mirror of R211 where a mirrored trim differs from its recorded value, uninterpreted (entry 25): the trim
differences and nominal effects, and the model output. -/
opaque Config.mirror : List Int → Int → Int

/-- Whether Atelier composes the notice of a page and code, so that it travels in short form while Atelier is unavailable
(R22), which the manual does not list (entry 53). -/
opaque Config.atelierComposes : Nat → Nat → Bool
/-- A bundle opened under the key KB (R506): K0's serial number and the bundle's bytes give its decrypted entries as HOST_ID,
permissions and key, where its tag holds; uninterpreted (entry 4). -/
opaque Config.bundleOpen : Nat → List Nat → Option (List (Nat × Nat × Nat))
/-- The real part of a complex value turned by a phase of `p` parts in 2^20 of a cycle, I·cos - Q·sin as an integer (R49, R93, R96): the manual gives
the conversion 20 bits of phase and no word length, so that only the quarter turns are fixed (entry 132). -/
opaque Config.rotate : Int → Int → Nat → Int
/-- The raised-cosine edge at `t` samples of `r`, with 16 fractional bits, whose rounding the manual leaves open (R97, entry 133). -/
opaque Config.raisedCosine : Nat → Nat → Nat
/-- The decimation filter's tap for DEC, by its distance from the centre, with 30 fractional bits: the manual gives its response and its
span and no coefficients (R240, entry 141). -/
opaque Config.decimTap : Nat → Nat → Int
/-- The earliest point, in 1/1,024 sample, at which the trigger unit's interpolated signal equals a threshold, from 16 raw samples, if it
reaches it: the manual prints no taps (R246, entry 142). -/
opaque Config.crossing : List Int → Int → Option Nat
/-- The level of a bin in 1/128 dBFS from the inputs of a frame or a group of frames, by window, bin and length (R282): a logarithm of sums of
cosines, uninterpreted (entry 143). -/
opaque Config.binLevel : Nat → Nat → List (List (Int × Int)) → Nat → Int
/-- The provisioning key K0 in the OTP (R505), which this manual does not give (entry 4). -/
opaque Config.key0 : Nat

end Sys2Proof
end

