-- ==== Sys2Proof/Syntax.lean ====
section
/-! DEFINITION. Sys2Proof/Syntax.lean: the commands of spec/opcode_table.json, one constructor a row, and the data
they carry. A command is an access a host makes, a message or frame a host sends, or a happening at the block's pins,
clocks and engines; its operands are what the manual says such a happening brings with it (assumption log, entry 2). -/
namespace Sys2Proof

/-- Where a single register or table access comes from: the session, the SEQ of its command, and whether the
command is posted (R452, R460 to R462). -/
structure Org where
  sess : Nat
  seq : Nat
  posted : Bool
deriving DecidableEq, Repr

/-- The header of a message of an open session (R452), the port it arrived on, and whether LENGTH matches the
datagram and the body's rules (R454). -/
structure Hdr where
  sess : Nat
  token : Nat
  seq : Nat
  ack : Nat
  port : Nat
  lengthOk : Bool
deriving DecidableEq, Repr

/-- The reliable messages of a host (R453), with the bodies of R460 and R465. -/
inductive HostMsg
  | read (addr count : Nat)
  | write (posted : Bool) (addr : Nat) (data : List Word)
  | bulk (posted : Bool) (addr : Nat) (data : List Byte)
  | close
  | pullData (tag : Nat) (data : List Byte)
  | pullErr (tag reason : Nat)
deriving DecidableEq, Repr

/-- The body of OPEN_REQ (R457) and the port and address it came from. -/
structure OpenReq where
  port : Nat
  fromAddr : Nat
  fromUdp : Nat
  hostId : Nat
  target : Nat
  dual : Bool
  adopt : Bool
  reclaim : Bool
  leaseMs : Nat
  alt : Nat
  altUdp : Nat
deriving DecidableEq, Repr

/-- An entry of a STREAM_ACK body (R466). -/
structure AckEntry where
  acq : Nat
  refuse : Bool
  chan : Nat
  count : Nat
  first : Nat
deriving DecidableEq, Repr

/-- What a received ARP frame says (R448). -/
inductive ArpOp
  | request (targetAddr senderAddr senderMac : Nat)
  | reply (senderAddr senderMac : Nat)
deriving DecidableEq, Repr

/-- What a received NDP frame says (R448, R449). -/
inductive NdpOp
  | solicit (targetAddr senderAddr senderMac : Nat)
  | advert (targetAddr targetMac : Nat)
  | routerAdvert (prefixHi64 : Nat) (autonomous : Bool) (routerAddr routerMac : Nat)
deriving DecidableEq, Repr

/-- What a received DHCPv4 message says (R448, R449). -/
inductive DhcpOp
  | offer (addr server : Nat)
  | ack (addr server mask router : Nat) (leaseS : Nat)
  | nak
deriving DecidableEq, Repr

/-- The instants of a DHCP lease (R449). -/
inductive DhcpTimer
  | half
  | sevenEighths
  | ended
deriving DecidableEq, Repr

/-- Why a frame or a datagram is outside what R448 and R454 accept. -/
inductive DiscardWhy
  | outside
  | pause
  | fragment
  | untagged
  | wrongVersion
  | notAHostType
  | unknownSession
  | wrongToken
  | wrongPort
deriving DecidableEq, Repr

/-- The causes of the fault fill (R66). -/
inductive FillCause
  | ecc
  | underrun
deriving DecidableEq, Repr

/-- The three cache sets of a Graver (R128). -/
inductive CacheSet
  | active
  | next
  | commit
deriving DecidableEq, Repr

/-- A pin driver or termination that a fault disables (R194, R196, R219). -/
inductive DriverPort
  | lane (g i : Nat)
  | trigIn (k : Nat)
  | trigOut (k : Nat)
  | output (n : Nat)
deriving DecidableEq, Repr

/-- What the proof ADC brings at a proof sample (R202, R208, R364): the measured 12-bit value, and the nominal form of the OCXO's wave
there, in 1/4 LSB, which counts only within a timing burst. -/
structure ProofSample where
  meas : Nat
  burst : Int
deriving DecidableEq, Repr

/-- A whole proof window at its verdict (R214, R216, R225): the GF cycle of its first stroke, its samples, and the samples before it that
a snapshot has recorded, oldest first. -/
structure ProofWindow where
  first : Nat
  samples : List ProofSample
  before : List ProofSample
deriving DecidableEq, Repr

/-- What asks for a change of a group's state (R302): a write of its owner, or an event at its control consumer. -/
inductive GroupBy
  | write (o : Org)
  | event
deriving DecidableEq, Repr

/-- What an estimator block of 2^20 samples brings (R360 to R363): the usable samples, the signal level in 1/256 dB below
full scale, the equal sub-bands that carry power, the estimate in 1/256 trim LSB, its variance, and for MODEL the
candidate: its 48 coefficients, its nominal effects of gain and offset, and whether its predicted residual is at least
0.5 dB better. -/
structure EstBlock where
  usable : Nat
  level : Nat
  bands : Nat
  est : Int
  var : Nat
  coefs : List Nat
  nomGain : Nat
  nomOffset : Nat
  better : Bool
deriving DecidableEq, Repr

/-- The gaps of R364 and R365 in which a timing burst may be made. -/
inductive BurstGap
  | quiet
  | idleTerm
  | idleOpen
  | deadTime
  | notAcquiring
deriving DecidableEq, Repr

/-- The estimate of one skew estimator from a burst (R366): the estimator, its capture range, the estimate in 1/256 trim
LSB and its variance. -/
structure SkewEst where
  e : Nat
  r : Nat
  est : Int
  var : Nat
deriving DecidableEq, Repr

/-- How a timing burst ends (R364, R366): abandoned, or completed with the clock-path delay measured. -/
inductive BurstEnd
  | abandoned
  | completed (delay : Nat) (ests : List SkewEst)
deriving DecidableEq, Repr

/-- The eye of one byte lane (R387): read width and centre, write width and centre, in 1/128 UI. -/
structure LaneEye where
  rdWidth : Nat
  rdCentre : Nat
  wrWidth : Nat
  wrCentre : Nat
deriving DecidableEq, Repr

/-- What the training of an interface finds (R387): its 8 byte lanes, and the temperature of the hotter device in °C. -/
structure IfTraining where
  lanes : List LaneEye
  temp : Int
deriving DecidableEq, Repr

/-- A host access to device memory (R423, R460): a READ of `count` words, a WRITE or a BULK. -/
inductive MemAccess
  | read (addr count : Nat)
  | write (posted : Bool) (addr : Nat) (data : List Word)
  | bulk (posted : Bool) (addr : Nat) (data : List Byte)
deriving DecidableEq, Repr

/-- What a flash refresh rewrites (R522): a record by its type, or an image slot. -/
inductive Refresh
  | record (type : Nat)
  | slot (i : Nat)
deriving DecidableEq, Repr

/-- The commands, in the order of spec/opcode_table.json. -/
inductive Instr
  /-- R490. -/
  | registerWrite (o : Org) (addr : Nat) (w : Word)
  /-- R494. -/
  | shadowLowRead (o : Org) (addr : Nat)
  /-- R495. -/
  | shadowHighWrite (o : Org) (addr : Nat) (w : Word)
  /-- R495. -/
  | shadowLowWrite (o : Org) (addr : Nat) (w : Word)
  /-- R19. -/
  | clearOnRead (o : Org) (addr : Nat)
  /-- R70. -/
  | counterClear (o : Org) (addr : Nat) (mask : Word) (coincident : Word)
  /-- R489. -/
  | noticeRawClear (o : Org) (page : Nat) (mask : Word) (coincident : Word)
  /-- R457. -/
  | openReq (r : OpenReq)
  /-- R458. -/
  | openProof (port openId : Nat) (nh : List Nat) (mac rmac : Nat)
  /-- R457. -/
  | openProofTimeout (openId : Nat)
  /-- R473. -/
  | close (h : Hdr)
  /-- R461. -/
  | read (h : Hdr) (addr count : Nat)
  /-- R461. -/
  | write (h : Hdr) (posted : Bool) (addr : Nat) (data : List Word)
  /-- R461. -/
  | bulk (h : Hdr) (posted : Bool) (addr : Nat) (data : List Byte)
  /-- R455. -/
  | ack (h : Hdr)
  /-- R455. -/
  | bareAckSend (sess : Nat)
  /-- R456. -/
  | retransmit (sess seq : Nat)
  /-- R464. -/
  | credit (h : Hdr) (grant : Nat)
  /-- R473. -/
  | heartbeat (h : Hdr)
  /-- R465. -/
  | pullData (h : Hdr) (tag : Nat) (data : List Byte)
  /-- R465. -/
  | pullErr (h : Hdr) (tag reason : Nat)
  /-- R439. -/
  | pullTimeout (sess tag : Nat)
  /-- R466. -/
  | stream (ch : Nat)
  /-- R466. -/
  | streamAck (h : Hdr) (entries : List AckEntry)
  /-- R466. -/
  | streamBlockDeadline (sess ch acq blk : Nat)
  /-- R466. -/
  | deliveryGap (sess ch : Nat)
  /-- R470. -/
  | notice (sess : Nat)
  /-- R473. -/
  | leaseExpiry (sess : Nat)
  /-- R474. -/
  | graceExpiry (sess : Nat)
  /-- R475. -/
  | claimPage (o : Org) (page : Nat)
  /-- R475. -/
  | releasePage (o : Org) (page : Nat)
  /-- R447. -/
  | portDown (port : Nat) (los : Bool)
  /-- R447. -/
  | portUp (port : Nat)
  /-- R447. -/
  | portBypass (o : Org) (port : Nat) (on : Bool)
  /-- R448. -/
  | arpFrame (port : Nat) (f : ArpOp)
  /-- R448. -/
  | ndpFrame (port : Nat) (f : NdpOp)
  /-- R448. -/
  | icmpEcho (port : Nat) (v6 : Bool) (dst src : Nat) (len : Nat)
  /-- R449. -/
  | dhcpMessage (port : Nat) (f : DhcpOp)
  /-- R449. -/
  | dhcpLeaseTimer (port : Nat) (t : DhcpTimer)
  /-- R499. -/
  | moduleResetCmd (o : Org) (key : Nat) (go : Bool)
  /-- R549. -/
  | moduleReset (cause : Nat)
  /-- R515. -/
  | boot (goodA goodB : Bool) (damaged : List Nat)
  /-- R485. -/
  | blockEnable (o : Org) (page : Nat) (en : Bool)
  /-- R485. -/
  | blockReady (page : Nat)
  /-- R487. -/
  | blockPark (o : Org) (page : Nat) (park : Bool)
  /-- R486. -/
  | blockReset (o : Org) (page : Nat)
  /-- R486. -/
  | blockResetDone (page : Nat)
  /-- R488. -/
  | faultClr (o : Org) (page : Nat) (coincident : Option (Nat × Nat))
  /-- R68. -/
  | muteSet (o : Org) (n : Nat)
  /-- R68. -/
  | muteClear (o : Org) (n : Nat) (proofToo : Bool)
  /-- R63. -/
  | outputSettled (n : Nat)
  /-- R66. -/
  | fill (g : Nat) (cause : FillCause) (first missing before after : Nat)
  /-- R99. -/
  | stylusSlotLoad (n desc late : Nat)
  /-- R124. -/
  | graverJump (g slot strokes : Nat) (others : List Nat) (filled : Nat × Nat)
  /-- R126. -/
  | jumpCancelEvent (g slot : Nat) (byMask : Bool)
  /-- R124. -/
  | eventCutAdvance (g strokes : Nat) (others : List Nat) (filled : Nat × Nat)
  /-- R116. -/
  | advanceLatch (g : Nat)
  /-- R117. -/
  | timeAdvance (g : Nat) (filled : Nat × Nat)
  /-- R115. -/
  | passEnd (g : Nat) (filled : Nat × Nat)
  /-- R144. -/
  | tableEcc (g step strokes : Nat)
  /-- R188. -/
  | markerEdge (n k cycle : Nat)
  /-- R583. -/
  | jcacheFillDone (g : Nat) (set : CacheSet) (slot : Nat)
  /-- R137. -/
  | commitGo (o : Org) (g : Nat)
  /-- R142. -/
  | commitCancel (o : Org) (g : Nat)
  /-- R139. -/
  | commitCheckDone (g : Nat)
  /-- R139. -/
  | commitReady (g : Nat)
  /-- R140. -/
  | commitTakesEffect (g : Nat)
  /-- R141. -/
  | shadowResyncDone (g : Nat)
  /-- R112. -/
  | shadowWindowWrite (o : Org) (addr : Nat) (w : Word)
  /-- R110. -/
  | tableCapacityWrite (o : Org) (g capacity : Nat)
  /-- R79. -/
  | directoryWrite (o : Org) (addr : Nat) (w : Word)
  /-- R91. -/
  | descriptorWrite (o : Org) (addr : Nat) (w : Word)
  /-- R83. -/
  | plateRecordWrite (o : Org) (addr : Nat) (w : Word)
  /-- R85. -/
  | plateClaim (o : Org) (plate : Nat)
  /-- R85. -/
  | platePin (o : Org) (plate : Nat)
  /-- R85. -/
  | plateUnpin (o : Org) (plate : Nat)
  /-- R85. -/
  | plateRelease (o : Org) (plate : Nat)
  /-- R86. -/
  | plateDone
  /-- R149. -/
  | scenRecordWrite (o : Org) (addr : Nat) (w : Word)
  /-- R154. -/
  | arm (o : Org) (k : Nat)
  /-- R154. -/
  | armDone (k : Nat)
  /-- R157. -/
  | start (o : Org) (k : Nat)
  /-- R159. -/
  | stop (o : Org) (k : Nat)
  /-- R159. -/
  | stopBoundary (o : Org) (k : Nat)
  /-- R162. -/
  | park (o : Org) (k : Nat)
  /-- R164. -/
  | resume (o : Org) (k : Nat)
  /-- R152. -/
  | disarm (o : Org) (k : Nat)
  /-- R152. -/
  | disarmDone (k : Nat)
  /-- R155. -/
  | cancel (o : Org) (k : Nat)
  /-- R152. -/
  | scenRelease (o : Org) (k : Nat)
  /-- R156. -/
  | actionTime (k : Nat)
  /-- R156. -/
  | startEvent (k : Nat)
  /-- R168. -/
  | schedEntryWrite (o : Org) (addr : Nat) (w : Word)
  /-- R169. -/
  | submit (o : Org) (entry : Nat)
  /-- R169. -/
  | remove (o : Org) (entry : Nat)
  /-- R171. -/
  | schedDue (entry : Nat)
  /-- R173. -/
  | schedExtrapolate (entry : Nat)
  /-- R185. -/
  | laneFormatSettled (g : Nat)
  /-- R194. -/
  | laneOvercurrent (p : DriverPort)
  /-- R196. -/
  | laneContention (p : DriverPort)
  /-- R195. -/
  | overcurrentClear (o : Org) (trig : Bool) (g mask again : Nat)
  /-- R197. -/
  | contentionClear (o : Org) (trig : Bool) (g mask again : Nat)
  /-- R195. -/
  | reenableHoldExpiry (p : DriverPort)
  /-- R191. -/
  | trigInEdge (k : Nat) (rising : Bool) (ticks frac : Nat)
  /-- R192. -/
  | trigOutEvent (k : Nat)
  /-- R192. -/
  | trigOutPulseEnd (k : Nat)
  /-- R216. -/
  | windowVerdict (n : Nat) (w : ProofWindow)
  /-- R219. -/
  | overload (n dcMv : Nat)
  /-- R220. -/
  | overloadClear (o : Org) (n : Nat) (again : Bool)
  /-- R220. -/
  | overloadReexamDone (n : Nat) (persists : Bool) (dcMv : Nat)
  /-- R221. -/
  | proofContention (n first : Nat) (samples : List ProofSample)
  /-- R222. -/
  | proofOpen (n rl : Nat) (level : Int)
  /-- R223. -/
  | testGo (o : Org) (n : Nat)
  /-- R224. -/
  | testAbort (o : Org) (n : Nat) (samples : List ProofSample)
  /-- R224. -/
  | proofTestDone (n : Nat) (samples : List ProofSample)
  /-- R225. -/
  | snapRun (o : Org) (n : Nat)
  /-- R225. -/
  | snapFreeze (o : Org) (n : Nat) (samples : List ProofSample)
  /-- R206. -/
  | modelTakesEffect (n : Nat)
  /-- R232. -/
  | frontEndSettled (n : Nat)
  /-- R234. -/
  | inputOvervolt (n c : Nat)
  /-- R234. -/
  | protectExit (n c : Nat)
  /-- R250. -/
  | triggerCandidate (n : Nat) (raw : List Int)
  /-- R252. -/
  | triggerRecord (n : Nat)
  /-- R254. -/
  | trigConfigWrite (o : Org) (addr : Nat) (w : Word)
  /-- R244. -/
  | avgFactorChange (n : Nat)
  /-- R259. -/
  | acqStart (o : Org) (n : Nat)
  /-- R259. -/
  | acqStop (o : Org) (n : Nat)
  /-- R259. -/
  | acqBegin (n : Nat)
  /-- R264. -/
  | rearmInstant (n : Nat)
  /-- R263. -/
  | recordEnd (n : Nat)
  /-- R266. -/
  | ringEnable (o : Org) (n : Nat) (en : Bool)
  /-- R273. -/
  | blockClose (n : Nat) (raw : List Int) (fifo : Bool)
  /-- R273. -/
  | blockFlush (n : Nat) (raw : List Int) (fifo : Bool)
  /-- R269. -/
  | rateRaise (n : Nat)
  /-- R270. -/
  | rateLower (n : Nat)
  /-- R276. -/
  | acctLatch (o : Org) (n : Nat)
  /-- R278. -/
  | tdPassStart (n : Nat)
  /-- R280. -/
  | tdViolation (n : Nat) (raw : List Int)
  /-- R285. -/
  | spectralVerdict (n : Nat) (raw : List Int)
  /-- R277. -/
  | stencilMaskWrite (o : Org) (addr : Nat) (w : Word)
  /-- R295. -/
  | eventPublish (c prod : Nat)
  /-- R303. -/
  | eventFabricTick (c merged : Nat)
  /-- R306. -/
  | eventArrival (consumer c merged : Nat)
  /-- R296. -/
  | levelHoldExpiry (c : Nat)
  /-- R310. -/
  | claim (o : Org) (c : Nat)
  /-- R310. -/
  | release (o : Org) (c : Nat)
  /-- R310. -/
  | setShared (o : Org) (c : Nat)
  /-- R310. -/
  | setPrivate (o : Org) (c : Nat)
  /-- R310. -/
  | claimGroup (o : Org) (grp : Nat)
  /-- R310. -/
  | releaseGroup (o : Org) (grp : Nat)
  /-- R302. -/
  | groupEnable (w : GroupBy) (grp : Nat)
  /-- R302. -/
  | groupDisable (w : GroupBy) (grp : Nat)
  /-- R313. -/
  | inject (o : Org) (c : Nat)
  /-- R293. -/
  | producerRegister (o : Org) (c prod : Nat)
  /-- R297. -/
  | subscriptionWrite (o : Org) (addr : Nat) (w : Word)
  /-- R319. -/
  | select (o : Org)
  /-- R319. -/
  | bypass (o : Org)
  /-- R324. -/
  | refLoss
  /-- R322. -/
  | lockDeclared
  /-- R322. -/
  | unlock
  /-- R328. -/
  | refMonitorGate (dev : Option Int)
  /-- R323. -/
  | lockMonGate (transitions : Nat)
  /-- R318. -/
  | refAcquireTimeout
  /-- R330. -/
  | genRateWrite (o : Org) (rate : Nat)
  /-- R330. -/
  | capRateWrite (o : Org) (rate : Nat)
  /-- R330. -/
  | synthAcquired (cap : Bool)
  /-- R331. -/
  | glideDone (cap : Bool)
  /-- R332. -/
  | synthRelock (cap : Bool)
  /-- R335. -/
  | sscChange
  /-- R337. -/
  | ppsCapture (ticks frac : Nat)
  /-- R337. -/
  | ppsMissing
  /-- R338. -/
  | ppsModeWrite (o : Org) (mode : Nat)
  /-- R340. -/
  | roleWrite (o : Org) (role : Nat)
  /-- R344. -/
  | join (o : Org)
  /-- R347. -/
  | leave (o : Org)
  /-- R343. -/
  | measureDone
  /-- R344. -/
  | syncJoined (ticks hops total : Nat)
  /-- R345. -/
  | syncTriggerFrame (up crcOk : Bool) (a b : Option Nat)
  /-- R344. -/
  | syncTimeFrame (crcOk : Bool) (ticks lead : Nat)
  /-- R343. -/
  | syncMeasureFrame (crcOk : Bool) (sn : Nat)
  /-- R343. -/
  | syncEchoFrame (crcOk : Bool) (roundTrip : Nat)
  /-- R347. -/
  | syncSplitFrame (crcOk : Bool) (hop : Nat)
  /-- R343. -/
  | syncCorrectFrame (crcOk : Bool) (at32 c4 : Nat)
  /-- R347. -/
  | syncLinkDown (up : Bool)
  /-- R345. -/
  | syncPublish (line : Nat)
  /-- R356. -/
  | burnishBoundary
  /-- R361. -/
  | estimatorBlock (cap : Bool) (n e r : Nat) (b : EstBlock)
  /-- R364. -/
  | timingBurst (cap : Bool) (n : Nat) (gap : BurstGap)
  /-- R366. -/
  | timingBurstEnd (cap : Bool) (n : Nat) (r : BurstEnd)
  /-- R367. -/
  | timingCalStarved (cap : Bool) (n : Nat)
  /-- R369. -/
  | take (o : Org) (scopeGen scopeCap : Nat)
  /-- R370. -/
  | restore (o : Org) (immediate : Bool) (parts : Nat)
  /-- R374. -/
  | memcCfgWrite (o : Org) (w : Word)
  /-- R374. -/
  | memReinitDone
  /-- R388. -/
  | dramTrainingDone (rs : List IfTraining)
  /-- R379. -/
  | memEcc (a req inst : Nat)
  /-- R381. -/
  | patrolScrub (a corrected : Nat)
  /-- R389. -/
  | dramTempPoll (temps : List (Int × Int))
  /-- R393. -/
  | retrain (o : Org) (mif : Nat)
  /-- R394. -/
  | retrainDone (mif : Nat) (r : IfTraining)
  /-- R382. -/
  | portPanic (p fill : Nat)
  /-- R391. -/
  | mandatoryRefresh (mif : Nat)
  /-- R410. -/
  | spadEcc (a req inst : Nat)
  /-- R412. -/
  | spadPatrol (corrected : Nat) (bad : List Nat)
  /-- R408. -/
  | spadCollision (host : Bool) (o : Org) (addr : Nat) (w : Word)
  /-- R413. -/
  | spadRecoveryDone (corrected : Nat) (bad : List Nat)
  /-- R418. -/
  | spadTestGo (o : Org) (bank : Nat)
  /-- R418. -/
  | spadTestDone (pass : Bool)
  /-- R422. -/
  | frameClaim (o : Org) (count : Nat)
  /-- R422. -/
  | frameRelease (o : Org) (count : Nat)
  /-- R422. -/
  | frameDone
  /-- R423. -/
  | hostMemoryAccess (h : Hdr) (a : MemAccess)
  /-- R428. -/
  | commit (o : Org)
  /-- R430. -/
  | xlatCancel (o : Org)
  /-- R429. -/
  | xlatCheckDone (sess : Nat)
  /-- R430. -/
  | xlatDone (sess : Nat)
  /-- R431. -/
  | dmaSlotWrite (o : Org) (addr : Nat) (w : Word)
  /-- R433. -/
  | tailWrite (o : Org) (q tail : Nat)
  /-- R431. -/
  | queueClaim (o : Org) (q : Nat)
  /-- R444. -/
  | queueRelease (o : Org) (q : Nat)
  /-- R438. -/
  | queueCancel (o : Org) (q : Nat)
  /-- R441. -/
  | dmaResume (o : Org) (q : Nat)
  /-- R441. -/
  | dmaAbort (o : Org) (q : Nat)
  /-- R436. -/
  | dmaChunkStart
  /-- R434. -/
  | dmaChunkDone (chunk : Nat)
  /-- R510. -/
  | lifecycle (o : Org)
  /-- R507. -/
  | keyLoad (o : Org)
  /-- R513. -/
  | alarmClear (o : Org)
  /-- R516. -/
  | fwStage (o : Org) (readBackOk : Bool)
  /-- R517. -/
  | fwConfirm (o : Org)
  /-- R521. -/
  | settingsSave (o : Org)
  /-- R518. -/
  | atelierRestart (o : Org)
  /-- R523. -/
  | journalClear (o : Org)
  /-- R518. -/
  | atelierHeartbeatTimeout
  /-- R518. -/
  | atelierTrap (memory : Bool)
  /-- R518. -/
  | atelierRunning
  /-- R517. -/
  | fwTrialTimeout
  /-- R512. -/
  | tamper (lid : Bool)
  /-- R522. -/
  | flashRefresh (what : Refresh)
  /-- R522. -/
  | hoursUpdate
  /-- R530. -/
  | feedChange (f volts ma : Nat)
  /-- R531. -/
  | feedIsolate (o : Org) (isolate0 isolate1 : Bool)
  /-- R530. -/
  | feedHighRejoin (f : Nat)
  /-- R532. -/
  | powerFail
  /-- R536. -/
  | restEnter (o : Org)
  /-- R536. -/
  | restEntered
  /-- R537. -/
  | restWake (o : Org)
  /-- R537. -/
  | restScheduleWake
  /-- R539. -/
  | restWakeDone
  /-- R541. -/
  | thermState (st sensor temp : Nat)
  /-- R543. -/
  | thermalTrip (sensor : Nat)
  /-- R544. -/
  | baseplateRange (out : Bool) (temp : Nat)
  /-- R546. -/
  | loopCmdGo (o : Org) (ch : Nat)
  /-- R546. -/
  | capLoopDone (ampl time : Int)
  /-- R59. -/
  | strokeClip (n cycle : Nat)
  /-- R235. -/
  | adcClip (n : Nat) (raw : List Int)
  /-- R98. -/
  | stylusLimit (n cycle : Nat)
  /-- R317. -/
  | refInPresent (present : Bool)
  /-- R341. -/
  | syncLinkUp (up : Bool)
  /-- R511. -/
  | tamperInputRestored (lid : Bool)
  /-- R417. -/
  | spadStartupTestDone (failing : List Nat)
  /-- R449. -/
  | duplicateAddressDetection (port : Nat) (duplicate : Bool)
  /-- R448. -/
  | unsupportedFrame (port : Nat) (why : DiscardWhy)
  /-- R454. -/
  | discardedMessage (port : Nat) (why : DiscardWhy)
deriving DecidableEq, Repr

end Sys2Proof
end

