-- ==== Sys2Proof/Decode.lean ====
section
/-! DEFINITION. Sys2Proof/Decode.lean: the commands that spec/opcode_table.json spells by bits. It gives bits to none of
its rows, so no word spells a command. -/
namespace Sys2Proof

/-- The command a table word spells. No row of the table has bits, so there is none. -/
def decodeTableWord (_nbits _w : Nat) : Option Instr := none

end Sys2Proof
end

