-- ==== Sys2Proof/Machine/RegTable.lean ====
section
/-! DEFINITION. Sys2Proof/Machine/RegTable.lean: every register field of the manual's register tables, one
definition a field: its offset within the page, its bits, its access code (R14) and its Reset column (R13). A field
that stands in an array of registers carries the array's stride and count; a field whose description states a range
carries that range (R579). Where the Reset column says HW and the description gives one value for every variant, the
value stands here; values that differ by variant are in `hwReset` below. -/
namespace Sys2Proof.Machine

/-- The access codes of R14. SH is divided: `sho` is read only, `shw` writable, `shwa` writable as for RWA. -/
inductive Acc
  | rw | ro | wo | w1c | w1s | rwa | sho | shw | shwa
deriving DecidableEq, Repr

/-- One field of a register table. -/
structure Field where
  off : Nat
  hi : Nat
  lo : Nat
  acc : Acc
  rst : Nat
  stride : Nat := 4
  count : Nat := 1
  vmin : Nat := 0
  vmax : Nat := 0xFFFFFFFF
deriving DecidableEq, Repr

/-! GEN registers: spec/02_generate_signal_chain.md R72; spec/03_segments_plates_stylus.md R101; spec/07_proof_path.md R228. -/

abbrev GEN_CHAIN_CTRL : Nat := 0x040
def GEN_CHAIN_CTRL_MIXCOMP : Field := { off := 0x040, hi := 11, lo := 11, acc := .rwa, rst := 0x0 }
def GEN_CHAIN_CTRL_MIX_INV : Field := { off := 0x040, hi := 10, lo := 10, acc := .rwa, rst := 0x0 }
def GEN_CHAIN_CTRL_FILL : Field := { off := 0x040, hi := 9, lo := 8, acc := .rw, rst := 0x2, vmin := 0, vmax := 2 }
def GEN_CHAIN_CTRL_RANGE : Field := { off := 0x040, hi := 7, lo := 6, acc := .rwa, rst := 0x3 }
def GEN_CHAIN_CTRL_DAC_MODE : Field := { off := 0x040, hi := 3, lo := 3, acc := .rwa, rst := 0x0 }
def GEN_CHAIN_CTRL_OUT_EN : Field := { off := 0x040, hi := 1, lo := 1, acc := .rwa, rst := 0x0 }
abbrev GEN_MUTE_CTRL : Nat := 0x044
def GEN_MUTE_CTRL_CAUSE : Field := { off := 0x044, hi := 7, lo := 4, acc := .ro, rst := 0x1 }
def GEN_MUTE_CTRL_CLEAR : Field := { off := 0x044, hi := 2, lo := 2, acc := .wo, rst := 0x0 }
def GEN_MUTE_CTRL_SET : Field := { off := 0x044, hi := 1, lo := 1, acc := .wo, rst := 0x0 }
def GEN_MUTE_CTRL_MUTED : Field := { off := 0x044, hi := 0, lo := 0, acc := .ro, rst := 0x1 }
abbrev GEN_SRC_CTRL : Nat := 0x048
def GEN_SRC_CTRL_RATIO : Field := { off := 0x048, hi := 3, lo := 0, acc := .rwa, rst := 0x0, vmin := 0, vmax := 8 }
abbrev GEN_NCO_FTW : Nat := 0x050
def GEN_NCO_FTW_FTW_LO : Field := { off := 0x050, hi := 31, lo := 0, acc := .shwa, rst := 0x0 }
def GEN_NCO_FTW_FTW_HI : Field := { off := 0x054, hi := 15, lo := 0, acc := .shwa, rst := 0x0 }
abbrev GEN_NCO_PHASE : Nat := 0x058
def GEN_NCO_PHASE_PHASE : Field := { off := 0x058, hi := 31, lo := 0, acc := .rwa, rst := 0x0 }
abbrev GEN_AMPL : Nat := 0x05C
def GEN_AMPL_SCALE : Field := { off := 0x05C, hi := 15, lo := 0, acc := .rwa, rst := 0x8000 }
abbrev GEN_IDLE_CODE : Nat := 0x060
def GEN_IDLE_CODE_CODE : Field := { off := 0x060, hi := 15, lo := 0, acc := .rw, rst := 0x0 }
abbrev GEN_DELAY : Nat := 0x064
def GEN_DELAY_COARSE : Field := { off := 0x064, hi := 27, lo := 16, acc := .rwa, rst := 0x0 }
def GEN_DELAY_FINE : Field := { off := 0x064, hi := 7, lo := 0, acc := .rwa, rst := 0x0 }
abbrev GEN_LATENCY : Nat := 0x068
def GEN_LATENCY_CHAIN_GF : Field := { off := 0x068, hi := 15, lo := 0, acc := .ro, rst := 0x70 }
abbrev GEN_FTW_NOW : Nat := 0x070
def GEN_FTW_NOW_FTW_NOW_LO : Field := { off := 0x070, hi := 31, lo := 0, acc := .sho, rst := 0x0 }
def GEN_FTW_NOW_FTW_NOW_HI : Field := { off := 0x074, hi := 15, lo := 0, acc := .sho, rst := 0x0 }
abbrev GEN_PHASE_NOW : Nat := 0x078
def GEN_PHASE_NOW_PHASE_NOW : Field := { off := 0x078, hi := 31, lo := 0, acc := .ro, rst := 0x0 }
abbrev GEN_AMPL_NOW : Nat := 0x07C
def GEN_AMPL_NOW_AMPL_NOW : Field := { off := 0x07C, hi := 15, lo := 0, acc := .ro, rst := 0x8000 }
abbrev GEN_SAMPLE_COUNT : Nat := 0x080
def GEN_SAMPLE_COUNT_COUNT_LO : Field := { off := 0x080, hi := 31, lo := 0, acc := .sho, rst := 0x0 }
def GEN_SAMPLE_COUNT_COUNT_HI : Field := { off := 0x084, hi := 31, lo := 0, acc := .sho, rst := 0x0 }
abbrev GEN_CLIP_COUNT : Nat := 0x088
def GEN_CLIP_COUNT_COUNT : Field := { off := 0x088, hi := 31, lo := 0, acc := .ro, rst := 0x0 }
abbrev GEN_FILL_COUNT : Nat := 0x08C
def GEN_FILL_COUNT_COUNT : Field := { off := 0x08C, hi := 31, lo := 0, acc := .ro, rst := 0x0 }
abbrev GEN_UNDERRUN_COUNT : Nat := 0x090
def GEN_UNDERRUN_COUNT_COUNT : Field := { off := 0x090, hi := 31, lo := 0, acc := .ro, rst := 0x0 }
abbrev GEN_CNT_CLEAR : Nat := 0x094
def GEN_CNT_CLEAR_MARKER : Field := { off := 0x094, hi := 3, lo := 3, acc := .wo, rst := 0x0 }
def GEN_CNT_CLEAR_UNDERRUN : Field := { off := 0x094, hi := 2, lo := 2, acc := .wo, rst := 0x0 }
def GEN_CNT_CLEAR_FILL : Field := { off := 0x094, hi := 1, lo := 1, acc := .wo, rst := 0x0 }
def GEN_CNT_CLEAR_CLIP : Field := { off := 0x094, hi := 0, lo := 0, acc := .wo, rst := 0x0 }
abbrev GEN_MARKER_MERGE : Nat := 0x098
def GEN_MARKER_MERGE_M1_MERGED : Field := { off := 0x098, hi := 31, lo := 16, acc := .ro, rst := 0x0 }
def GEN_MARKER_MERGE_M0_MERGED : Field := { off := 0x098, hi := 15, lo := 0, acc := .ro, rst := 0x0 }
abbrev GEN_STYLUS_STATUS : Nat := 0x300
def GEN_STYLUS_STATUS_DESC : Field := { off := 0x300, hi := 29, lo := 16, acc := .ro, rst := 0x0 }
def GEN_STYLUS_STATUS_RENDERING : Field := { off := 0x300, hi := 2, lo := 2, acc := .ro, rst := 0x0 }
def GEN_STYLUS_STATUS_LATE : Field := { off := 0x300, hi := 1, lo := 1, acc := .w1c, rst := 0x0 }
def GEN_STYLUS_STATUS_LIMIT : Field := { off := 0x300, hi := 0, lo := 0, acc := .w1c, rst := 0x0 }
abbrev GEN_STYLUS_CTRL : Nat := 0x304
def GEN_STYLUS_CTRL_CNT_CLEAR : Field := { off := 0x304, hi := 2, lo := 2, acc := .wo, rst := 0x0 }
def GEN_STYLUS_CTRL_NOTICE_EN : Field := { off := 0x304, hi := 0, lo := 0, acc := .rw, rst := 0x1 }
abbrev GEN_STYLUS_LIMIT_COUNT : Nat := 0x308
def GEN_STYLUS_LIMIT_COUNT_COUNT : Field := { off := 0x308, hi := 31, lo := 0, acc := .ro, rst := 0x0 }
abbrev GEN_STYLUS_LATE_COUNT : Nat := 0x30C
def GEN_STYLUS_LATE_COUNT_COUNT : Field := { off := 0x30C, hi := 31, lo := 0, acc := .ro, rst := 0x0 }
abbrev GEN_PROOF_CTRL : Nat := 0x200
def GEN_PROOF_CTRL_OPEN_EN : Field := { off := 0x200, hi := 5, lo := 5, acc := .rw, rst := 0x1 }
def GEN_PROOF_CTRL_CONT_POLICY : Field := { off := 0x200, hi := 4, lo := 4, acc := .rw, rst := 0x0 }
def GEN_PROOF_CTRL_EN : Field := { off := 0x200, hi := 0, lo := 0, acc := .rw, rst := 0x1 }
abbrev GEN_PROOF_STATUS : Nat := 0x204
def GEN_PROOF_STATUS_MODEL_VER : Field := { off := 0x204, hi := 31, lo := 24, acc := .ro, rst := 0x0 }
def GEN_PROOF_STATUS_MODEL_SET : Field := { off := 0x204, hi := 18, lo := 16, acc := .ro, rst := 0x3 }
def GEN_PROOF_STATUS_TEST_OUTCOME : Field := { off := 0x204, hi := 6, lo := 5, acc := .ro, rst := 0x0 }
def GEN_PROOF_STATUS_TESTING : Field := { off := 0x204, hi := 3, lo := 3, acc := .ro, rst := 0x0 }
def GEN_PROOF_STATUS_MODEL_VALID : Field := { off := 0x204, hi := 2, lo := 2, acc := .ro, rst := 0x0 }
def GEN_PROOF_STATUS_ALIGNED : Field := { off := 0x204, hi := 1, lo := 1, acc := .ro, rst := 0x0 }
def GEN_PROOF_STATUS_ACTIVE : Field := { off := 0x204, hi := 0, lo := 0, acc := .ro, rst := 0x0 }
abbrev GEN_PROOF_LAT : Nat := 0x208
def GEN_PROOF_LAT_ALIGN : Field := { off := 0x208, hi := 23, lo := 16, acc := .ro, rst := 0x0 }
def GEN_PROOF_LAT_RESID_GF : Field := { off := 0x208, hi := 15, lo := 0, acc := .ro, rst := 0xA8 }
abbrev GEN_STEN_CFG : Nat := 0x20C
def GEN_STEN_CFG_BURNISH_SKIP : Field := { off := 0x20C, hi := 12, lo := 12, acc := .rw, rst := 0x0 }
def GEN_STEN_CFG_CONSEC : Field := { off := 0x20C, hi := 11, lo := 8, acc := .rw, rst := 0x0 }
def GEN_STEN_CFG_WINDOW : Field := { off := 0x20C, hi := 4, lo := 0, acc := .rw, rst := 0xE, vmin := 6, vmax := 24 }
abbrev GEN_STEN_RMS : Nat := 0x210
def GEN_STEN_RMS_EN : Field := { off := 0x210, hi := 18, lo := 18, acc := .rw, rst := 0x0 }
def GEN_STEN_RMS_ACTION : Field := { off := 0x210, hi := 17, lo := 16, acc := .rw, rst := 0x0, vmin := 0, vmax := 2 }
def GEN_STEN_RMS_LIMIT : Field := { off := 0x210, hi := 15, lo := 0, acc := .rw, rst := 0xFFFF }
abbrev GEN_STEN_PEAK : Nat := 0x214
def GEN_STEN_PEAK_EN : Field := { off := 0x214, hi := 18, lo := 18, acc := .rw, rst := 0x0 }
def GEN_STEN_PEAK_ACTION : Field := { off := 0x214, hi := 17, lo := 16, acc := .rw, rst := 0x0, vmin := 0, vmax := 2 }
def GEN_STEN_PEAK_LIMIT : Field := { off := 0x214, hi := 15, lo := 0, acc := .rw, rst := 0xFFFF }
abbrev GEN_STEN_LAST : Nat := 0x218
def GEN_STEN_LAST_PEAK : Field := { off := 0x218, hi := 31, lo := 16, acc := .ro, rst := 0x0 }
def GEN_STEN_LAST_RMS : Field := { off := 0x218, hi := 15, lo := 0, acc := .ro, rst := 0x0 }
abbrev GEN_STEN_WORST : Nat := 0x21C
def GEN_STEN_WORST_PEAK : Field := { off := 0x21C, hi := 31, lo := 16, acc := .ro, rst := 0x0 }
def GEN_STEN_WORST_RMS : Field := { off := 0x21C, hi := 15, lo := 0, acc := .ro, rst := 0x0 }
abbrev GEN_WIN_INFO : Nat := 0x220
def GEN_WIN_INFO_STEPS : Field := { off := 0x220, hi := 15, lo := 8, acc := .ro, rst := 0x0 }
def GEN_WIN_INFO_PEAK_VIOL : Field := { off := 0x220, hi := 1, lo := 1, acc := .ro, rst := 0x0 }
def GEN_WIN_INFO_RMS_VIOL : Field := { off := 0x220, hi := 0, lo := 0, acc := .ro, rst := 0x0 }
abbrev GEN_WIN_EVAL_COUNT : Nat := 0x224
def GEN_WIN_EVAL_COUNT_COUNT : Field := { off := 0x224, hi := 31, lo := 0, acc := .ro, rst := 0x0 }
abbrev GEN_WIN_SKIP_COUNT : Nat := 0x228
def GEN_WIN_SKIP_COUNT_COUNT : Field := { off := 0x228, hi := 31, lo := 0, acc := .ro, rst := 0x0 }
abbrev GEN_VIOL_RMS_COUNT : Nat := 0x22C
def GEN_VIOL_RMS_COUNT_COUNT : Field := { off := 0x22C, hi := 31, lo := 0, acc := .ro, rst := 0x0 }
abbrev GEN_VIOL_PEAK_COUNT : Nat := 0x230
def GEN_VIOL_PEAK_COUNT_COUNT : Field := { off := 0x230, hi := 31, lo := 0, acc := .ro, rst := 0x0 }
abbrev GEN_OVERLOAD_COUNT : Nat := 0x234
def GEN_OVERLOAD_COUNT_COUNT : Field := { off := 0x234, hi := 31, lo := 0, acc := .ro, rst := 0x0 }
abbrev GEN_CONTENTION_COUNT : Nat := 0x238
def GEN_CONTENTION_COUNT_COUNT : Field := { off := 0x238, hi := 31, lo := 0, acc := .ro, rst := 0x0 }
abbrev GEN_OPEN_COUNT : Nat := 0x23C
def GEN_OPEN_COUNT_COUNT : Field := { off := 0x23C, hi := 31, lo := 0, acc := .ro, rst := 0x0 }
abbrev GEN_PROOF_CNT_CLEAR : Nat := 0x240
def GEN_PROOF_CNT_CLEAR_WORST : Field := { off := 0x240, hi := 8, lo := 8, acc := .wo, rst := 0x0 }
def GEN_PROOF_CNT_CLEAR_CLEAR : Field := { off := 0x240, hi := 6, lo := 0, acc := .wo, rst := 0x0 }
abbrev GEN_PROOF_FAULT : Nat := 0x244
def GEN_PROOF_FAULT_ISOLATED : Field := { off := 0x244, hi := 4, lo := 4, acc := .ro, rst := 0x0 }
def GEN_PROOF_FAULT_OPEN : Field := { off := 0x244, hi := 2, lo := 2, acc := .w1c, rst := 0x0 }
def GEN_PROOF_FAULT_CONTENTION : Field := { off := 0x244, hi := 1, lo := 1, acc := .w1c, rst := 0x0 }
def GEN_PROOF_FAULT_OVERLOAD : Field := { off := 0x244, hi := 0, lo := 0, acc := .w1c, rst := 0x0 }
abbrev GEN_FAULT_CFG : Nat := 0x248
def GEN_FAULT_CFG_CONT_BLOCKS : Field := { off := 0x248, hi := 31, lo := 28, acc := .rw, rst := 0x3 }
def GEN_FAULT_CFG_OPEN_RL : Field := { off := 0x248, hi := 23, lo := 16, acc := .rw, rst := 0x30 }
def GEN_FAULT_CFG_CONT_LIMIT : Field := { off := 0x248, hi := 15, lo := 0, acc := .rw, rst := 0x400 }
abbrev GEN_FAULT_MEAS : Nat := 0x24C
def GEN_FAULT_MEAS_DC_MV : Field := { off := 0x24C, hi := 31, lo := 16, acc := .ro, rst := 0x0 }
def GEN_FAULT_MEAS_RL : Field := { off := 0x24C, hi := 15, lo := 0, acc := .ro, rst := 0xFFFF }
abbrev GEN_LAST_VIOL_TIME : Nat := 0x250
def GEN_LAST_VIOL_TIME_TIME_LO : Field := { off := 0x250, hi := 31, lo := 0, acc := .sho, rst := 0x0 }
def GEN_LAST_VIOL_TIME_TIME_HI : Field := { off := 0x254, hi := 31, lo := 0, acc := .sho, rst := 0x0 }
abbrev GEN_TEST_CFG : Nat := 0x260
def GEN_TEST_CFG_TARGET : Field := { off := 0x260, hi := 16, lo := 16, acc := .rw, rst := 0x0 }
def GEN_TEST_CFG_DURATION : Field := { off := 0x260, hi := 15, lo := 0, acc := .rw, rst := 0xA, vmin := 1, vmax := 10000 }
abbrev GEN_TEST_LIMIT : Nat := 0x264
def GEN_TEST_LIMIT_PEAK_LIMIT : Field := { off := 0x264, hi := 31, lo := 16, acc := .rw, rst := 0x100 }
def GEN_TEST_LIMIT_RMS_LIMIT : Field := { off := 0x264, hi := 15, lo := 0, acc := .rw, rst := 0x20 }
abbrev GEN_TEST_CMD : Nat := 0x268
def GEN_TEST_CMD_ABORT : Field := { off := 0x268, hi := 1, lo := 1, acc := .wo, rst := 0x0 }
def GEN_TEST_CMD_GO : Field := { off := 0x268, hi := 0, lo := 0, acc := .wo, rst := 0x0 }
abbrev GEN_TEST_RESULT : Nat := 0x26C
def GEN_TEST_RESULT_PEAK : Field := { off := 0x26C, hi := 31, lo := 16, acc := .ro, rst := 0x0 }
def GEN_TEST_RESULT_RMS : Field := { off := 0x26C, hi := 15, lo := 0, acc := .ro, rst := 0x0 }
abbrev GEN_SNAP_CFG : Nat := 0x270
def GEN_SNAP_CFG_FREEZE_ON : Field := { off := 0x270, hi := 8, lo := 8, acc := .rw, rst := 0x0 }
def GEN_SNAP_CFG_LOG2LEN : Field := { off := 0x270, hi := 4, lo := 0, acc := .rw, rst := 0x10, vmin := 6, vmax := 16 }
abbrev GEN_SNAP_CMD : Nat := 0x274
def GEN_SNAP_CMD_FREEZE : Field := { off := 0x274, hi := 1, lo := 1, acc := .wo, rst := 0x0 }
def GEN_SNAP_CMD_RUN : Field := { off := 0x274, hi := 0, lo := 0, acc := .wo, rst := 0x0 }
abbrev GEN_SNAP_STATUS : Nat := 0x278
def GEN_SNAP_STATUS_FIRST : Field := { off := 0x278, hi := 31, lo := 16, acc := .ro, rst := 0x0 }
def GEN_SNAP_STATUS_FROZEN : Field := { off := 0x278, hi := 1, lo := 1, acc := .ro, rst := 0x0 }
def GEN_SNAP_STATUS_RECORDING : Field := { off := 0x278, hi := 0, lo := 0, acc := .ro, rst := 0x0 }
abbrev GEN_SNAP_TIME : Nat := 0x280
def GEN_SNAP_TIME_TIME_LO : Field := { off := 0x280, hi := 31, lo := 0, acc := .sho, rst := 0x0 }
def GEN_SNAP_TIME_TIME_HI : Field := { off := 0x284, hi := 31, lo := 0, acc := .sho, rst := 0x0 }
def genFields0 : List Field :=
  [GEN_CHAIN_CTRL_MIXCOMP, GEN_CHAIN_CTRL_MIX_INV, GEN_CHAIN_CTRL_FILL, GEN_CHAIN_CTRL_RANGE,
   GEN_CHAIN_CTRL_DAC_MODE, GEN_CHAIN_CTRL_OUT_EN, GEN_MUTE_CTRL_CAUSE, GEN_MUTE_CTRL_CLEAR,
   GEN_MUTE_CTRL_SET, GEN_MUTE_CTRL_MUTED, GEN_SRC_CTRL_RATIO, GEN_NCO_FTW_FTW_LO,
   GEN_NCO_FTW_FTW_HI, GEN_NCO_PHASE_PHASE, GEN_AMPL_SCALE, GEN_IDLE_CODE_CODE,
   GEN_DELAY_COARSE, GEN_DELAY_FINE, GEN_LATENCY_CHAIN_GF, GEN_FTW_NOW_FTW_NOW_LO,
   GEN_FTW_NOW_FTW_NOW_HI, GEN_PHASE_NOW_PHASE_NOW, GEN_AMPL_NOW_AMPL_NOW, GEN_SAMPLE_COUNT_COUNT_LO,
   GEN_SAMPLE_COUNT_COUNT_HI, GEN_CLIP_COUNT_COUNT, GEN_FILL_COUNT_COUNT, GEN_UNDERRUN_COUNT_COUNT,
   GEN_CNT_CLEAR_MARKER, GEN_CNT_CLEAR_UNDERRUN, GEN_CNT_CLEAR_FILL, GEN_CNT_CLEAR_CLIP,
   GEN_MARKER_MERGE_M1_MERGED, GEN_MARKER_MERGE_M0_MERGED, GEN_STYLUS_STATUS_DESC, GEN_STYLUS_STATUS_RENDERING,
   GEN_STYLUS_STATUS_LATE, GEN_STYLUS_STATUS_LIMIT, GEN_STYLUS_CTRL_CNT_CLEAR, GEN_STYLUS_CTRL_NOTICE_EN]
def genFields1 : List Field :=
  [GEN_STYLUS_LIMIT_COUNT_COUNT, GEN_STYLUS_LATE_COUNT_COUNT, GEN_PROOF_CTRL_OPEN_EN, GEN_PROOF_CTRL_CONT_POLICY,
   GEN_PROOF_CTRL_EN, GEN_PROOF_STATUS_MODEL_VER, GEN_PROOF_STATUS_MODEL_SET, GEN_PROOF_STATUS_TEST_OUTCOME,
   GEN_PROOF_STATUS_TESTING, GEN_PROOF_STATUS_MODEL_VALID, GEN_PROOF_STATUS_ALIGNED, GEN_PROOF_STATUS_ACTIVE,
   GEN_PROOF_LAT_ALIGN, GEN_PROOF_LAT_RESID_GF, GEN_STEN_CFG_BURNISH_SKIP, GEN_STEN_CFG_CONSEC,
   GEN_STEN_CFG_WINDOW, GEN_STEN_RMS_EN, GEN_STEN_RMS_ACTION, GEN_STEN_RMS_LIMIT,
   GEN_STEN_PEAK_EN, GEN_STEN_PEAK_ACTION, GEN_STEN_PEAK_LIMIT, GEN_STEN_LAST_PEAK,
   GEN_STEN_LAST_RMS, GEN_STEN_WORST_PEAK, GEN_STEN_WORST_RMS, GEN_WIN_INFO_STEPS,
   GEN_WIN_INFO_PEAK_VIOL, GEN_WIN_INFO_RMS_VIOL, GEN_WIN_EVAL_COUNT_COUNT, GEN_WIN_SKIP_COUNT_COUNT,
   GEN_VIOL_RMS_COUNT_COUNT, GEN_VIOL_PEAK_COUNT_COUNT, GEN_OVERLOAD_COUNT_COUNT, GEN_CONTENTION_COUNT_COUNT,
   GEN_OPEN_COUNT_COUNT, GEN_PROOF_CNT_CLEAR_WORST, GEN_PROOF_CNT_CLEAR_CLEAR, GEN_PROOF_FAULT_ISOLATED]
def genFields2 : List Field :=
  [GEN_PROOF_FAULT_OPEN, GEN_PROOF_FAULT_CONTENTION, GEN_PROOF_FAULT_OVERLOAD, GEN_FAULT_CFG_CONT_BLOCKS,
   GEN_FAULT_CFG_OPEN_RL, GEN_FAULT_CFG_CONT_LIMIT, GEN_FAULT_MEAS_DC_MV, GEN_FAULT_MEAS_RL,
   GEN_LAST_VIOL_TIME_TIME_LO, GEN_LAST_VIOL_TIME_TIME_HI, GEN_TEST_CFG_TARGET, GEN_TEST_CFG_DURATION,
   GEN_TEST_LIMIT_PEAK_LIMIT, GEN_TEST_LIMIT_RMS_LIMIT, GEN_TEST_CMD_ABORT, GEN_TEST_CMD_GO,
   GEN_TEST_RESULT_PEAK, GEN_TEST_RESULT_RMS, GEN_SNAP_CFG_FREEZE_ON, GEN_SNAP_CFG_LOG2LEN,
   GEN_SNAP_CMD_FREEZE, GEN_SNAP_CMD_RUN, GEN_SNAP_STATUS_FIRST, GEN_SNAP_STATUS_FROZEN,
   GEN_SNAP_STATUS_RECORDING, GEN_SNAP_TIME_TIME_LO, GEN_SNAP_TIME_TIME_HI]
def genFields : List Field := genFields0 ++ genFields1 ++ genFields2

/-! MEMC registers: spec/03_segments_plates_stylus.md R107; spec/13_dram_controller.md R396. -/

abbrev MEMC_ADMIT_LIMIT : Nat := 0x200
def MEMC_ADMIT_LIMIT_LIMIT_MBPS : Field := { off := 0x200, hi := 31, lo := 0, acc := .ro, rst := 0xD555 }
abbrev MEMC_ADMIT_USED (i : Nat) : Nat := 0x210 + 4 * i
def MEMC_ADMIT_USED_USED_MBPS : Field := { off := 0x210, hi := 31, lo := 0, acc := .ro, rst := 0x0, stride := 4, count := 6 }
abbrev MEMC_CFG : Nat := 0x040
def MEMC_CFG_DATA_RATE : Field := { off := 0x040, hi := 4, lo := 4, acc := .rw, rst := 0x0 }
def MEMC_CFG_ECC_EN : Field := { off := 0x040, hi := 1, lo := 1, acc := .rw, rst := 0x1 }
def MEMC_CFG_ILV_MODE : Field := { off := 0x040, hi := 0, lo := 0, acc := .rw, rst := 0x0 }
abbrev MEMC_STATUS : Nat := 0x044
def MEMC_STATUS_FAILED : Field := { off := 0x044, hi := 21, lo := 16, acc := .ro, rst := 0x0 }
def MEMC_STATUS_PRESENT : Field := { off := 0x044, hi := 13, lo := 8, acc := .ro, rst := 0x0 }
def MEMC_STATUS_DEGRADED : Field := { off := 0x044, hi := 2, lo := 2, acc := .ro, rst := 0x0 }
def MEMC_STATUS_REINIT : Field := { off := 0x044, hi := 1, lo := 1, acc := .ro, rst := 0x0 }
abbrev MEMC_USABLE : Nat := 0x048
def MEMC_USABLE_BYTES_LO : Field := { off := 0x048, hi := 31, lo := 0, acc := .sho, rst := 0x0 }
def MEMC_USABLE_BYTES_HI : Field := { off := 0x04C, hi := 31, lo := 0, acc := .sho, rst := 0x0 }
abbrev MEMC_SCRUB : Nat := 0x050
def MEMC_SCRUB_HOURS : Field := { off := 0x050, hi := 15, lo := 0, acc := .rw, rst := 0x18, vmin := 0, vmax := 720 }
abbrev MEMC_PORT_CLEAR : Nat := 0x054
def MEMC_PORT_CLEAR_CLEAR : Field := { off := 0x054, hi := 0, lo := 0, acc := .wo, rst := 0x0 }
abbrev MEMC_PORT_STATUS (i : Nat) : Nat := 0x100 + 16 * i
def MEMC_PORT_STATUS_PANIC : Field := { off := 0x100, hi := 16, lo := 16, acc := .ro, rst := 0x0, stride := 16, count := 28 }
def MEMC_PORT_STATUS_EXTREME_PCT : Field := { off := 0x100, hi := 15, lo := 8, acc := .ro, rst := 0x0, stride := 16, count := 28 }
def MEMC_PORT_STATUS_FILL_PCT : Field := { off := 0x100, hi := 7, lo := 0, acc := .ro, rst := 0x0, stride := 16, count := 28 }
abbrev MEMC_PORT_PANIC_COUNT (i : Nat) : Nat := 0x104 + 16 * i
def MEMC_PORT_PANIC_COUNT_COUNT : Field := { off := 0x104, hi := 31, lo := 0, acc := .ro, rst := 0x0, stride := 16, count := 28 }
abbrev MEMC_PORT_PANIC_US (i : Nat) : Nat := 0x108 + 16 * i
def MEMC_PORT_PANIC_US_COUNT : Field := { off := 0x108, hi := 31, lo := 0, acc := .ro, rst := 0x0, stride := 16, count := 28 }
def memcFields0 : List Field :=
  [MEMC_ADMIT_LIMIT_LIMIT_MBPS, MEMC_ADMIT_USED_USED_MBPS, MEMC_CFG_DATA_RATE, MEMC_CFG_ECC_EN,
   MEMC_CFG_ILV_MODE, MEMC_STATUS_FAILED, MEMC_STATUS_PRESENT, MEMC_STATUS_DEGRADED,
   MEMC_STATUS_REINIT, MEMC_USABLE_BYTES_LO, MEMC_USABLE_BYTES_HI, MEMC_SCRUB_HOURS,
   MEMC_PORT_CLEAR_CLEAR, MEMC_PORT_STATUS_PANIC, MEMC_PORT_STATUS_EXTREME_PCT, MEMC_PORT_STATUS_FILL_PCT,
   MEMC_PORT_PANIC_COUNT_COUNT, MEMC_PORT_PANIC_US_COUNT]
def memcFields : List Field := memcFields0

/-! GRV registers: spec/04_graver_sequencer.md R146. -/

abbrev GRV_TABLE_CFG : Nat := 0x100
def GRV_TABLE_CFG_CAPACITY : Field := { off := 0x100, hi := 6, lo := 0, acc := .rwa, rst := 0x10, vmin := 1, vmax := 64 }
abbrev GRV_TABLE_STATUS : Nat := 0x104
def GRV_TABLE_STATUS_LAST_STEP : Field := { off := 0x104, hi := 31, lo := 16, acc := .ro, rst := 0x0 }
def GRV_TABLE_STATUS_LAST_RESULT : Field := { off := 0x104, hi := 15, lo := 8, acc := .ro, rst := 0x0 }
def GRV_TABLE_STATUS_SYNCING : Field := { off := 0x104, hi := 2, lo := 2, acc := .ro, rst := 0x0 }
def GRV_TABLE_STATUS_READY : Field := { off := 0x104, hi := 1, lo := 1, acc := .ro, rst := 0x0 }
def GRV_TABLE_STATUS_PENDING : Field := { off := 0x104, hi := 0, lo := 0, acc := .ro, rst := 0x0 }
abbrev GRV_TABLE_VERSION : Nat := 0x108
def GRV_TABLE_VERSION_VERSION : Field := { off := 0x108, hi := 31, lo := 0, acc := .ro, rst := 0x0 }
abbrev GRV_COMMIT_VERSION : Nat := 0x10C
def GRV_COMMIT_VERSION_VERSION : Field := { off := 0x10C, hi := 31, lo := 0, acc := .rw, rst := 0x0 }
abbrev GRV_COMMIT_ENTRY : Nat := 0x110
def GRV_COMMIT_ENTRY_ENTRY : Field := { off := 0x110, hi := 15, lo := 0, acc := .rw, rst := 0x0 }
abbrev GRV_COMMIT_CMD : Nat := 0x114
def GRV_COMMIT_CMD_CANCEL : Field := { off := 0x114, hi := 1, lo := 1, acc := .wo, rst := 0x0 }
def GRV_COMMIT_CMD_GO : Field := { off := 0x114, hi := 0, lo := 0, acc := .wo, rst := 0x0 }
abbrev GRV_STEP_PTR : Nat := 0x118
def GRV_STEP_PTR_INDEX : Field := { off := 0x118, hi := 15, lo := 0, acc := .rwa, rst := 0x0 }
abbrev GRV_STEP_NOW : Nat := 0x11C
def GRV_STEP_NOW_PLAYING : Field := { off := 0x11C, hi := 16, lo := 16, acc := .ro, rst := 0x0 }
def GRV_STEP_NOW_INDEX : Field := { off := 0x11C, hi := 15, lo := 0, acc := .ro, rst := 0x0 }
abbrev GRV_PASS_NOW : Nat := 0x120
def GRV_PASS_NOW_PASS : Field := { off := 0x120, hi := 31, lo := 0, acc := .ro, rst := 0x0 }
abbrev GRV_LOOP_ACTIVE : Nat := 0x124
def GRV_LOOP_ACTIVE_ACTIVE : Field := { off := 0x124, hi := 7, lo := 0, acc := .ro, rst := 0x0 }
abbrev GRV_JCACHE_STATUS : Nat := 0x128
def GRV_JCACHE_STATUS_COMMIT : Field := { off := 0x128, hi := 21, lo := 16, acc := .ro, rst := 0x3F }
def GRV_JCACHE_STATUS_NEXT : Field := { off := 0x128, hi := 12, lo := 8, acc := .ro, rst := 0x1F }
def GRV_JCACHE_STATUS_ACTIVE : Field := { off := 0x128, hi := 4, lo := 0, acc := .ro, rst := 0x1F }
abbrev GRV_JUMP_CTRL : Nat := 0x12C
def GRV_JUMP_CTRL_SLOT_MASK : Field := { off := 0x12C, hi := 11, lo := 8, acc := .rw, rst := 0x0 }
def GRV_JUMP_CTRL_CANCEL_EVT : Field := { off := 0x12C, hi := 7, lo := 0, acc := .rw, rst := 0x0 }
abbrev GRV_LOOP_COUNT (i : Nat) : Nat := 0x140 + 4 * i
def GRV_LOOP_COUNT_COUNT : Field := { off := 0x140, hi := 31, lo := 0, acc := .ro, rst := 0x0, stride := 4, count := 8 }
abbrev GRV_JUMP_COUNT : Nat := 0x160
def GRV_JUMP_COUNT_COUNT : Field := { off := 0x160, hi := 31, lo := 0, acc := .ro, rst := 0x0 }
abbrev GRV_JUMP_LATE_COUNT : Nat := 0x164
def GRV_JUMP_LATE_COUNT_COUNT : Field := { off := 0x164, hi := 31, lo := 0, acc := .ro, rst := 0x0 }
abbrev GRV_JUMP_SHADOW_COUNT : Nat := 0x168
def GRV_JUMP_SHADOW_COUNT_COUNT : Field := { off := 0x168, hi := 31, lo := 0, acc := .ro, rst := 0x0 }
abbrev GRV_JUMP_CANCEL_COUNT : Nat := 0x16C
def GRV_JUMP_CANCEL_COUNT_COUNT : Field := { off := 0x16C, hi := 31, lo := 0, acc := .ro, rst := 0x0 }
abbrev GRV_JUMP_SUPERSEDED_COUNT : Nat := 0x170
def GRV_JUMP_SUPERSEDED_COUNT_COUNT : Field := { off := 0x170, hi := 31, lo := 0, acc := .ro, rst := 0x0 }
abbrev GRV_EVT_OVERRUN_COUNT : Nat := 0x174
def GRV_EVT_OVERRUN_COUNT_COUNT : Field := { off := 0x174, hi := 31, lo := 0, acc := .ro, rst := 0x0 }
abbrev GRV_EVT_UNUSED_COUNT : Nat := 0x178
def GRV_EVT_UNUSED_COUNT_COUNT : Field := { off := 0x178, hi := 31, lo := 0, acc := .ro, rst := 0x0 }
abbrev GRV_WAIT_CAP_COUNT : Nat := 0x17C
def GRV_WAIT_CAP_COUNT_COUNT : Field := { off := 0x17C, hi := 31, lo := 0, acc := .ro, rst := 0x0 }
abbrev GRV_SEQ_CNT_CLEAR : Nat := 0x180
def GRV_SEQ_CNT_CLEAR_CLEAR : Field := { off := 0x180, hi := 7, lo := 0, acc := .wo, rst := 0x0 }
abbrev GRV_LAST_JUMP_TIME : Nat := 0x188
def GRV_LAST_JUMP_TIME_TIME_LO : Field := { off := 0x188, hi := 31, lo := 0, acc := .sho, rst := 0x0 }
def GRV_LAST_JUMP_TIME_TIME_HI : Field := { off := 0x18C, hi := 31, lo := 0, acc := .sho, rst := 0x0 }
abbrev GRV_COMMIT_TIME : Nat := 0x190
def GRV_COMMIT_TIME_TIME_LO : Field := { off := 0x190, hi := 31, lo := 0, acc := .sho, rst := 0x0 }
def GRV_COMMIT_TIME_TIME_HI : Field := { off := 0x194, hi := 31, lo := 0, acc := .sho, rst := 0x0 }
abbrev GRV_GRAVER_LAT : Nat := 0x198
def GRV_GRAVER_LAT_HORIZON : Field := { off := 0x198, hi := 31, lo := 16, acc := .ro, rst := 0x10 }
def GRV_GRAVER_LAT_JUMP_GF : Field := { off := 0x198, hi := 15, lo := 0, acc := .ro, rst := 0x80 }
def grvFields0 : List Field :=
  [GRV_TABLE_CFG_CAPACITY, GRV_TABLE_STATUS_LAST_STEP, GRV_TABLE_STATUS_LAST_RESULT, GRV_TABLE_STATUS_SYNCING,
   GRV_TABLE_STATUS_READY, GRV_TABLE_STATUS_PENDING, GRV_TABLE_VERSION_VERSION, GRV_COMMIT_VERSION_VERSION,
   GRV_COMMIT_ENTRY_ENTRY, GRV_COMMIT_CMD_CANCEL, GRV_COMMIT_CMD_GO, GRV_STEP_PTR_INDEX,
   GRV_STEP_NOW_PLAYING, GRV_STEP_NOW_INDEX, GRV_PASS_NOW_PASS, GRV_LOOP_ACTIVE_ACTIVE,
   GRV_JCACHE_STATUS_COMMIT, GRV_JCACHE_STATUS_NEXT, GRV_JCACHE_STATUS_ACTIVE, GRV_JUMP_CTRL_SLOT_MASK,
   GRV_JUMP_CTRL_CANCEL_EVT, GRV_LOOP_COUNT_COUNT, GRV_JUMP_COUNT_COUNT, GRV_JUMP_LATE_COUNT_COUNT,
   GRV_JUMP_SHADOW_COUNT_COUNT, GRV_JUMP_CANCEL_COUNT_COUNT, GRV_JUMP_SUPERSEDED_COUNT_COUNT, GRV_EVT_OVERRUN_COUNT_COUNT,
   GRV_EVT_UNUSED_COUNT_COUNT, GRV_WAIT_CAP_COUNT_COUNT, GRV_SEQ_CNT_CLEAR_CLEAR, GRV_LAST_JUMP_TIME_TIME_LO,
   GRV_LAST_JUMP_TIME_TIME_HI, GRV_COMMIT_TIME_TIME_LO, GRV_COMMIT_TIME_TIME_HI, GRV_GRAVER_LAT_HORIZON,
   GRV_GRAVER_LAT_JUMP_GF]
def grvFields : List Field := grvFields0

/-! SCEN registers: spec/05_scenarios_schedules.md R176. -/

abbrev SCEN_CMD : Nat := 0x040
def SCEN_CMD_SCEN : Field := { off := 0x040, hi := 13, lo := 8, acc := .wo, rst := 0x0 }
def SCEN_CMD_OP : Field := { off := 0x040, hi := 3, lo := 0, acc := .wo, rst := 0x0 }
abbrev SCEN_CMD_STATUS : Nat := 0x044
def SCEN_CMD_STATUS_QUEUED : Field := { off := 0x044, hi := 31, lo := 28, acc := .ro, rst := 0x0 }
def SCEN_CMD_STATUS_RESULT : Field := { off := 0x044, hi := 23, lo := 16, acc := .ro, rst := 0x0 }
def SCEN_CMD_STATUS_SCEN : Field := { off := 0x044, hi := 13, lo := 8, acc := .ro, rst := 0x0 }
def SCEN_CMD_STATUS_OP : Field := { off := 0x044, hi := 3, lo := 0, acc := .ro, rst := 0x0 }
abbrev SCEN_LEAD : Nat := 0x048
def SCEN_LEAD_CMD_LEAD : Field := { off := 0x048, hi := 31, lo := 16, acc := .ro, rst := 0xBB8 }
def SCEN_LEAD_EVT_LEAD : Field := { off := 0x048, hi := 15, lo := 0, acc := .ro, rst := 0x60 }
abbrev SCEN_EVT_UNUSED_COUNT : Nat := 0x04C
def SCEN_EVT_UNUSED_COUNT_COUNT : Field := { off := 0x04C, hi := 31, lo := 0, acc := .ro, rst := 0x0 }
abbrev SCEN_CNT_CLEAR : Nat := 0x050
def SCEN_CNT_CLEAR_CLEAR : Field := { off := 0x050, hi := 0, lo := 0, acc := .wo, rst := 0x0 }
abbrev SCEN_STATE_MAP (i : Nat) : Nat := 0x080 + 4 * i
def SCEN_STATE_MAP_STATE : Field := { off := 0x080, hi := 31, lo := 0, acc := .ro, rst := 0x0, stride := 4, count := 8 }
abbrev SCEN_GRAVER_STATE (i : Nat) : Nat := 0x400 + 16 * i
def SCEN_GRAVER_STATE_PLAYING : Field := { off := 0x400, hi := 31, lo := 31, acc := .ro, rst := 0x0, stride := 16, count := 20 }
def SCEN_GRAVER_STATE_SCEN : Field := { off := 0x400, hi := 29, lo := 24, acc := .ro, rst := 0x0, stride := 16, count := 20 }
def SCEN_GRAVER_STATE_SUSPENDED : Field := { off := 0x400, hi := 13, lo := 8, acc := .ro, rst := 0x0, stride := 16, count := 20 }
def SCEN_GRAVER_STATE_ARMED : Field := { off := 0x400, hi := 6, lo := 0, acc := .ro, rst := 0x0, stride := 16, count := 20 }
abbrev SCEN_GRAVER_START (i : Nat) : Nat := 0x408 + 16 * i
def SCEN_GRAVER_START_START_LO : Field := { off := 0x408, hi := 31, lo := 0, acc := .sho, rst := 0x0, stride := 16, count := 20 }
def SCEN_GRAVER_START_START_HI : Field := { off := 0x40C, hi := 31, lo := 0, acc := .sho, rst := 0x0, stride := 16, count := 20 }
def scenFields0 : List Field :=
  [SCEN_CMD_SCEN, SCEN_CMD_OP, SCEN_CMD_STATUS_QUEUED, SCEN_CMD_STATUS_RESULT,
   SCEN_CMD_STATUS_SCEN, SCEN_CMD_STATUS_OP, SCEN_LEAD_CMD_LEAD, SCEN_LEAD_EVT_LEAD,
   SCEN_EVT_UNUSED_COUNT_COUNT, SCEN_CNT_CLEAR_CLEAR, SCEN_STATE_MAP_STATE, SCEN_GRAVER_STATE_PLAYING,
   SCEN_GRAVER_STATE_SCEN, SCEN_GRAVER_STATE_SUSPENDED, SCEN_GRAVER_STATE_ARMED, SCEN_GRAVER_START_START_LO,
   SCEN_GRAVER_START_START_HI]
def scenFields : List Field := scenFields0

/-! SCHED registers: spec/05_scenarios_schedules.md R177. -/

abbrev SCHED_CMD : Nat := 0x040
def SCHED_CMD_OP : Field := { off := 0x040, hi := 25, lo := 24, acc := .wo, rst := 0x0 }
def SCHED_CMD_ENTRY : Field := { off := 0x040, hi := 9, lo := 0, acc := .wo, rst := 0x0 }
abbrev SCHED_CMD_STATUS : Nat := 0x044
def SCHED_CMD_STATUS_QUEUED : Field := { off := 0x044, hi := 31, lo := 28, acc := .ro, rst := 0x0 }
def SCHED_CMD_STATUS_RESULT : Field := { off := 0x044, hi := 23, lo := 16, acc := .ro, rst := 0x0 }
def SCHED_CMD_STATUS_OP : Field := { off := 0x044, hi := 11, lo := 10, acc := .ro, rst := 0x0 }
def SCHED_CMD_STATUS_ENTRY : Field := { off := 0x044, hi := 9, lo := 0, acc := .ro, rst := 0x0 }
abbrev SCHED_COUNTS : Nat := 0x048
def SCHED_COUNTS_PENDING : Field := { off := 0x048, hi := 26, lo := 16, acc := .ro, rst := 0x0 }
def SCHED_COUNTS_FREE : Field := { off := 0x048, hi := 10, lo := 0, acc := .ro, rst := 0x400 }
abbrev SCHED_NEXT_DUE : Nat := 0x050
def SCHED_NEXT_DUE_DUE_LO : Field := { off := 0x050, hi := 31, lo := 0, acc := .sho, rst := 0xFFFFFFFF }
def SCHED_NEXT_DUE_DUE_HI : Field := { off := 0x054, hi := 31, lo := 0, acc := .sho, rst := 0xFFFFFFFF }
def schedFields0 : List Field :=
  [SCHED_CMD_OP, SCHED_CMD_ENTRY, SCHED_CMD_STATUS_QUEUED, SCHED_CMD_STATUS_RESULT,
   SCHED_CMD_STATUS_OP, SCHED_CMD_STATUS_ENTRY, SCHED_COUNTS_PENDING, SCHED_COUNTS_FREE,
   SCHED_NEXT_DUE_DUE_LO, SCHED_NEXT_DUE_DUE_HI]
def schedFields : List Field := schedFields0

/-! PAT registers: spec/06_pattern_lanes_markers.md R199. -/

abbrev PAT_GROUP_CFG : Nat := 0x040
def PAT_GROUP_CFG_FILL : Field := { off := 0x040, hi := 9, lo := 8, acc := .rw, rst := 0x1, vmin := 0, vmax := 1 }
def PAT_GROUP_CFG_POLICY : Field := { off := 0x040, hi := 4, lo := 4, acc := .rw, rst := 0x0 }
def PAT_GROUP_CFG_FORMAT : Field := { off := 0x040, hi := 3, lo := 0, acc := .rwa, rst := 0x0, vmin := 0, vmax := 7 }
abbrev PAT_IDLE_LEVEL : Nat := 0x044
def PAT_IDLE_LEVEL_LEVEL : Field := { off := 0x044, hi := 7, lo := 0, acc := .rw, rst := 0x0 }
abbrev PAT_LANE_ENABLE : Nat := 0x048
def PAT_LANE_ENABLE_ENABLE : Field := { off := 0x048, hi := 7, lo := 0, acc := .rw, rst := 0xFF }
abbrev PAT_LANE_FAULT : Nat := 0x04C
def PAT_LANE_FAULT_DISABLED : Field := { off := 0x04C, hi := 23, lo := 16, acc := .ro, rst := 0x0 }
def PAT_LANE_FAULT_CONTENTION : Field := { off := 0x04C, hi := 15, lo := 8, acc := .w1c, rst := 0x0 }
def PAT_LANE_FAULT_OVERCURRENT : Field := { off := 0x04C, hi := 7, lo := 0, acc := .w1c, rst := 0x0 }
abbrev PAT_PIN_LEVEL : Nat := 0x050
def PAT_PIN_LEVEL_LEVEL : Field := { off := 0x050, hi := 7, lo := 0, acc := .ro, rst := 0x0 }
abbrev PAT_LATENCY : Nat := 0x054
def PAT_LATENCY_CHAIN_GF : Field := { off := 0x054, hi := 15, lo := 0, acc := .ro, rst := 0x70 }
abbrev PAT_LANE_CFG (i : Nat) : Nat := 0x060 + 8 * i
def PAT_LANE_CFG_SLEW : Field := { off := 0x060, hi := 11, lo := 10, acc := .rw, rst := 0x3, stride := 8, count := 8 }
def PAT_LANE_CFG_INVERT : Field := { off := 0x060, hi := 8, lo := 8, acc := .rwa, rst := 0x0, stride := 8, count := 8 }
def PAT_LANE_CFG_MK_CHAN : Field := { off := 0x060, hi := 7, lo := 4, acc := .rwa, rst := 0x0, stride := 8, count := 8 }
def PAT_LANE_CFG_MK_BIT : Field := { off := 0x060, hi := 3, lo := 3, acc := .rwa, rst := 0x0, stride := 8, count := 8 }
def PAT_LANE_CFG_SRC : Field := { off := 0x060, hi := 1, lo := 0, acc := .rwa, rst := 0x0, stride := 8, count := 8 }
abbrev PAT_LANE_DELAY (i : Nat) : Nat := 0x064 + 8 * i
def PAT_LANE_DELAY_COARSE : Field := { off := 0x064, hi := 27, lo := 16, acc := .rwa, rst := 0x0, stride := 8, count := 8 }
def PAT_LANE_DELAY_FINE : Field := { off := 0x064, hi := 5, lo := 0, acc := .rwa, rst := 0x0, stride := 8, count := 8 }
abbrev PAT_FILL_COUNT : Nat := 0x0A0
def PAT_FILL_COUNT_COUNT : Field := { off := 0x0A0, hi := 31, lo := 0, acc := .ro, rst := 0x0 }
abbrev PAT_UNDERRUN_COUNT : Nat := 0x0A4
def PAT_UNDERRUN_COUNT_COUNT : Field := { off := 0x0A4, hi := 31, lo := 0, acc := .ro, rst := 0x0 }
abbrev PAT_OVERCURRENT_COUNT : Nat := 0x0A8
def PAT_OVERCURRENT_COUNT_COUNT : Field := { off := 0x0A8, hi := 31, lo := 0, acc := .ro, rst := 0x0 }
abbrev PAT_CONTENTION_COUNT : Nat := 0x0AC
def PAT_CONTENTION_COUNT_COUNT : Field := { off := 0x0AC, hi := 31, lo := 0, acc := .ro, rst := 0x0 }
abbrev PAT_CNT_CLEAR : Nat := 0x0B0
def PAT_CNT_CLEAR_CLEAR : Field := { off := 0x0B0, hi := 3, lo := 0, acc := .wo, rst := 0x0 }
def patFields0 : List Field :=
  [PAT_GROUP_CFG_FILL, PAT_GROUP_CFG_POLICY, PAT_GROUP_CFG_FORMAT, PAT_IDLE_LEVEL_LEVEL,
   PAT_LANE_ENABLE_ENABLE, PAT_LANE_FAULT_DISABLED, PAT_LANE_FAULT_CONTENTION, PAT_LANE_FAULT_OVERCURRENT,
   PAT_PIN_LEVEL_LEVEL, PAT_LATENCY_CHAIN_GF, PAT_LANE_CFG_SLEW, PAT_LANE_CFG_INVERT,
   PAT_LANE_CFG_MK_CHAN, PAT_LANE_CFG_MK_BIT, PAT_LANE_CFG_SRC, PAT_LANE_DELAY_COARSE,
   PAT_LANE_DELAY_FINE, PAT_FILL_COUNT_COUNT, PAT_UNDERRUN_COUNT_COUNT, PAT_OVERCURRENT_COUNT_COUNT,
   PAT_CONTENTION_COUNT_COUNT, PAT_CNT_CLEAR_CLEAR]
def patFields : List Field := patFields0

/-! TRG registers: spec/06_pattern_lanes_markers.md R200. -/

abbrev TRG_TRIG_IN_CFG (i : Nat) : Nat := 0x400 + 4 * i
def TRG_TRIG_IN_CFG_EDGE : Field := { off := 0x400, hi := 13, lo := 12, acc := .rw, rst := 0x0, stride := 4, count := 4 }
def TRG_TRIG_IN_CFG_FILTER : Field := { off := 0x400, hi := 11, lo := 10, acc := .rw, rst := 0x0, stride := 4, count := 4 }
def TRG_TRIG_IN_CFG_TERM : Field := { off := 0x400, hi := 9, lo := 9, acc := .rw, rst := 0x0, stride := 4, count := 4 }
def TRG_TRIG_IN_CFG_HYST : Field := { off := 0x400, hi := 8, lo := 8, acc := .rw, rst := 0x0, stride := 4, count := 4 }
def TRG_TRIG_IN_CFG_THRESH : Field := { off := 0x400, hi := 7, lo := 0, acc := .rw, rst := 0x5F, stride := 4, count := 4, vmin := 0, vmax := 250 }
abbrev TRG_TRIG_OUT_CFG (i : Nat) : Nat := 0x410 + 8 * i
def TRG_TRIG_OUT_CFG_WIDTH : Field := { off := 0x410, hi := 31, lo := 16, acc := .rw, rst := 0x1, stride := 8, count := 4 }
def TRG_TRIG_OUT_CFG_INVERT : Field := { off := 0x410, hi := 6, lo := 6, acc := .rw, rst := 0x0, stride := 8, count := 4 }
def TRG_TRIG_OUT_CFG_SLEW : Field := { off := 0x410, hi := 5, lo := 4, acc := .rw, rst := 0x3, stride := 8, count := 4 }
def TRG_TRIG_OUT_CFG_LEVEL_V : Field := { off := 0x410, hi := 3, lo := 2, acc := .rw, rst := 0x2, stride := 8, count := 4, vmin := 0, vmax := 2 }
def TRG_TRIG_OUT_CFG_MODE : Field := { off := 0x410, hi := 1, lo := 0, acc := .rw, rst := 0x0, stride := 8, count := 4 }
abbrev TRG_TRIG_OUT_SUB (i : Nat) : Nat := 0x414 + 8 * i
def TRG_TRIG_OUT_SUB_GATE : Field := { off := 0x414, hi := 15, lo := 8, acc := .rw, rst := 0x0, stride := 8, count := 4 }
def TRG_TRIG_OUT_SUB_CHANNEL : Field := { off := 0x414, hi := 7, lo := 0, acc := .rw, rst := 0x0, stride := 8, count := 4 }
abbrev TRG_TRIG_STATUS : Nat := 0x430
def TRG_TRIG_STATUS_OUT_DISABLED : Field := { off := 0x430, hi := 27, lo := 24, acc := .ro, rst := 0x0 }
def TRG_TRIG_STATUS_OUT_CONTENTION : Field := { off := 0x430, hi := 23, lo := 20, acc := .w1c, rst := 0x0 }
def TRG_TRIG_STATUS_OUT_OVERCURRENT : Field := { off := 0x430, hi := 19, lo := 16, acc := .w1c, rst := 0x0 }
def TRG_TRIG_STATUS_IN_OVERCURRENT : Field := { off := 0x430, hi := 15, lo := 12, acc := .w1c, rst := 0x0 }
def TRG_TRIG_STATUS_OUT_LEVEL : Field := { off := 0x430, hi := 7, lo := 4, acc := .ro, rst := 0x0 }
def TRG_TRIG_STATUS_IN_LEVEL : Field := { off := 0x430, hi := 3, lo := 0, acc := .ro, rst := 0x0 }
abbrev TRG_TRIG_POLICY : Nat := 0x434
def TRG_TRIG_POLICY_POLICY : Field := { off := 0x434, hi := 0, lo := 0, acc := .rw, rst := 0x0 }
abbrev TRG_TRIG_IN_TIME (i : Nat) : Nat := 0x440 + 16 * i
def TRG_TRIG_IN_TIME_TIME_LO : Field := { off := 0x440, hi := 31, lo := 0, acc := .sho, rst := 0x0, stride := 16, count := 4 }
def TRG_TRIG_IN_TIME_TIME_HI : Field := { off := 0x444, hi := 31, lo := 0, acc := .sho, rst := 0x0, stride := 16, count := 4 }
def TRG_TRIG_IN_TIME_FRAC : Field := { off := 0x448, hi := 15, lo := 0, acc := .ro, rst := 0x0, stride := 16, count := 4 }
abbrev TRG_TRIG_IN_MERGED : Nat := 0x480
def TRG_TRIG_IN_MERGED_MERGED : Field := { off := 0x480, hi := 31, lo := 0, acc := .ro, rst := 0x0 }
abbrev TRG_TRIG_CNT : Nat := 0x484
def TRG_TRIG_CNT_CONTENTION : Field := { off := 0x484, hi := 31, lo := 16, acc := .ro, rst := 0x0 }
def TRG_TRIG_CNT_OVERCURRENT : Field := { off := 0x484, hi := 15, lo := 0, acc := .ro, rst := 0x0 }
def trgFields0 : List Field :=
  [TRG_TRIG_IN_CFG_EDGE, TRG_TRIG_IN_CFG_FILTER, TRG_TRIG_IN_CFG_TERM, TRG_TRIG_IN_CFG_HYST,
   TRG_TRIG_IN_CFG_THRESH, TRG_TRIG_OUT_CFG_WIDTH, TRG_TRIG_OUT_CFG_INVERT, TRG_TRIG_OUT_CFG_SLEW,
   TRG_TRIG_OUT_CFG_LEVEL_V, TRG_TRIG_OUT_CFG_MODE, TRG_TRIG_OUT_SUB_GATE, TRG_TRIG_OUT_SUB_CHANNEL,
   TRG_TRIG_STATUS_OUT_DISABLED, TRG_TRIG_STATUS_OUT_CONTENTION, TRG_TRIG_STATUS_OUT_OVERCURRENT, TRG_TRIG_STATUS_IN_OVERCURRENT,
   TRG_TRIG_STATUS_OUT_LEVEL, TRG_TRIG_STATUS_IN_LEVEL, TRG_TRIG_POLICY_POLICY, TRG_TRIG_IN_TIME_TIME_LO,
   TRG_TRIG_IN_TIME_TIME_HI, TRG_TRIG_IN_TIME_FRAC, TRG_TRIG_IN_MERGED_MERGED, TRG_TRIG_CNT_CONTENTION,
   TRG_TRIG_CNT_OVERCURRENT]
def trgFields : List Field := trgFields0

/-! CAP registers: spec/08_capture_triggers.md R256. -/

abbrev CAP_IN_CFG : Nat := 0x040
def CAP_IN_CFG_OFFSET : Field := { off := 0x040, hi := 27, lo := 16, acc := .rwa, rst := 0x0 }
def CAP_IN_CFG_COUPLING : Field := { off := 0x040, hi := 2, lo := 2, acc := .rwa, rst := 0x0 }
def CAP_IN_CFG_RANGE : Field := { off := 0x040, hi := 1, lo := 0, acc := .rwa, rst := 0x0 }
abbrev CAP_PATH_CTRL : Nat := 0x044
def CAP_PATH_CTRL_DDC_EN : Field := { off := 0x044, hi := 0, lo := 0, acc := .rwa, rst := 0x0 }
abbrev CAP_DDC_FTW : Nat := 0x048
def CAP_DDC_FTW_FTW_LO : Field := { off := 0x048, hi := 31, lo := 0, acc := .shwa, rst := 0x0 }
def CAP_DDC_FTW_FTW_HI : Field := { off := 0x04C, hi := 15, lo := 0, acc := .shwa, rst := 0x0 }
abbrev CAP_DDC_PHASE : Nat := 0x050
def CAP_DDC_PHASE_PHASE : Field := { off := 0x050, hi := 31, lo := 0, acc := .rwa, rst := 0x0 }
abbrev CAP_DDC_DEC : Nat := 0x054
def CAP_DDC_DEC_DEC : Field := { off := 0x054, hi := 10, lo := 0, acc := .rwa, rst := 0x2, vmin := 2, vmax := 1024 }
abbrev CAP_AVG : Nat := 0x058
def CAP_AVG_K : Field := { off := 0x058, hi := 4, lo := 0, acc := .rwa, rst := 0x0, vmin := 0, vmax := 16 }
abbrev CAP_AVG_NOW : Nat := 0x05C
def CAP_AVG_NOW_K_NOW : Field := { off := 0x05C, hi := 4, lo := 0, acc := .ro, rst := 0x0 }
abbrev CAP_CAP_STATUS : Nat := 0x060
def CAP_CAP_STATUS_PROTECTED : Field := { off := 0x060, hi := 4, lo := 4, acc := .ro, rst := 0x0 }
def CAP_CAP_STATUS_CLOCK_VALID : Field := { off := 0x060, hi := 3, lo := 3, acc := .ro, rst := 0x0 }
def CAP_CAP_STATUS_SETTLED : Field := { off := 0x060, hi := 2, lo := 2, acc := .ro, rst := 0x0 }
def CAP_CAP_STATUS_SCENARIO : Field := { off := 0x060, hi := 1, lo := 1, acc := .ro, rst := 0x0 }
def CAP_CAP_STATUS_ACQUIRING : Field := { off := 0x060, hi := 0, lo := 0, acc := .ro, rst := 0x0 }
abbrev CAP_CAP_FAULT : Nat := 0x064
def CAP_CAP_FAULT_OVERVOLT : Field := { off := 0x064, hi := 0, lo := 0, acc := .w1c, rst := 0x0 }
abbrev CAP_SAMPLE_COUNT : Nat := 0x068
def CAP_SAMPLE_COUNT_COUNT_LO : Field := { off := 0x068, hi := 31, lo := 0, acc := .sho, rst := 0x0 }
def CAP_SAMPLE_COUNT_COUNT_HI : Field := { off := 0x06C, hi := 31, lo := 0, acc := .sho, rst := 0x0 }
abbrev CAP_LATENCY : Nat := 0x070
def CAP_LATENCY_TRIG_CF : Field := { off := 0x070, hi := 15, lo := 0, acc := .ro, rst := 0x18 }
abbrev CAP_TRIG_CFG : Nat := 0x100
def CAP_TRIG_CFG_EVT : Field := { off := 0x100, hi := 31, lo := 24, acc := .rw, rst := 0x0 }
def CAP_TRIG_CFG_GATE : Field := { off := 0x100, hi := 23, lo := 16, acc := .rw, rst := 0x0 }
def CAP_TRIG_CFG_WIDTH_QUAL : Field := { off := 0x100, hi := 10, lo := 10, acc := .rw, rst := 0x0 }
def CAP_TRIG_CFG_COND : Field := { off := 0x100, hi := 9, lo := 8, acc := .rw, rst := 0x0 }
def CAP_TRIG_CFG_SLOPE : Field := { off := 0x100, hi := 5, lo := 4, acc := .rw, rst := 0x1 }
def CAP_TRIG_CFG_TYPE : Field := { off := 0x100, hi := 3, lo := 0, acc := .rw, rst := 0x0, vmin := 0, vmax := 8 }
abbrev CAP_TRIG_LEVEL : Nat := 0x104
def CAP_TRIG_LEVEL_HYST : Field := { off := 0x104, hi := 27, lo := 16, acc := .rw, rst := 0x10 }
def CAP_TRIG_LEVEL_LEVEL : Field := { off := 0x104, hi := 11, lo := 0, acc := .rw, rst := 0x0 }
abbrev CAP_TRIG_WINDOW : Nat := 0x108
def CAP_TRIG_WINDOW_HIGH : Field := { off := 0x108, hi := 27, lo := 16, acc := .rw, rst := 0x400 }
def CAP_TRIG_WINDOW_LOW : Field := { off := 0x108, hi := 11, lo := 0, acc := .rw, rst := 0xC00 }
abbrev CAP_TRIG_T1 : Nat := 0x10C
def CAP_TRIG_T1_LIMIT : Field := { off := 0x10C, hi := 31, lo := 0, acc := .rw, rst := 0x400 }
abbrev CAP_TRIG_T2 : Nat := 0x110
def CAP_TRIG_T2_LIMIT : Field := { off := 0x110, hi := 31, lo := 0, acc := .rw, rst := 0x400 }
abbrev CAP_TRIG_HOLDOFF : Nat := 0x114
def CAP_TRIG_HOLDOFF_SAMPLES : Field := { off := 0x114, hi := 31, lo := 0, acc := .rw, rst := 0x0 }
abbrev CAP_TRIG_STATUS : Nat := 0x118
def CAP_TRIG_STATUS_CLIPPED : Field := { off := 0x118, hi := 4, lo := 4, acc := .ro, rst := 0x0 }
def CAP_TRIG_STATUS_TYPE : Field := { off := 0x118, hi := 3, lo := 0, acc := .ro, rst := 0x0 }
abbrev CAP_TRIG_POS : Nat := 0x120
def CAP_TRIG_POS_POS_LO : Field := { off := 0x120, hi := 31, lo := 0, acc := .sho, rst := 0x0 }
def CAP_TRIG_POS_POS_HI : Field := { off := 0x124, hi := 31, lo := 0, acc := .sho, rst := 0x0 }
abbrev CAP_TRIG_SUB : Nat := 0x128
def CAP_TRIG_SUB_SUBSAMPLE : Field := { off := 0x128, hi := 25, lo := 16, acc := .ro, rst := 0x0 }
def CAP_TRIG_SUB_FRAC : Field := { off := 0x128, hi := 15, lo := 0, acc := .ro, rst := 0x0 }
abbrev CAP_TRIG_TIME : Nat := 0x130
def CAP_TRIG_TIME_TIME_LO : Field := { off := 0x130, hi := 31, lo := 0, acc := .sho, rst := 0x0 }
def CAP_TRIG_TIME_TIME_HI : Field := { off := 0x134, hi := 31, lo := 0, acc := .sho, rst := 0x0 }
abbrev CAP_TRIG_WIDTH : Nat := 0x138
def CAP_TRIG_WIDTH_WIDTH : Field := { off := 0x138, hi := 31, lo := 0, acc := .ro, rst := 0x0 }
abbrev CAP_TRIG_COUNT : Nat := 0x140
def CAP_TRIG_COUNT_COUNT : Field := { off := 0x140, hi := 31, lo := 0, acc := .ro, rst := 0x0 }
abbrev CAP_TRIG_HOLDOFF_COUNT : Nat := 0x144
def CAP_TRIG_HOLDOFF_COUNT_COUNT : Field := { off := 0x144, hi := 31, lo := 0, acc := .ro, rst := 0x0 }
abbrev CAP_TRIG_GATED_COUNT : Nat := 0x148
def CAP_TRIG_GATED_COUNT_COUNT : Field := { off := 0x148, hi := 31, lo := 0, acc := .ro, rst := 0x0 }
abbrev CAP_TRIG_MERGED_COUNT : Nat := 0x14C
def CAP_TRIG_MERGED_COUNT_COUNT : Field := { off := 0x14C, hi := 31, lo := 0, acc := .ro, rst := 0x0 }
abbrev CAP_TRIG_EVT_OVERRUN_COUNT : Nat := 0x150
def CAP_TRIG_EVT_OVERRUN_COUNT_COUNT : Field := { off := 0x150, hi := 31, lo := 0, acc := .ro, rst := 0x0 }
abbrev CAP_CLIP_COUNT : Nat := 0x154
def CAP_CLIP_COUNT_COUNT : Field := { off := 0x154, hi := 31, lo := 0, acc := .ro, rst := 0x0 }
abbrev CAP_PROTECT_COUNT : Nat := 0x158
def CAP_PROTECT_COUNT_COUNT : Field := { off := 0x158, hi := 31, lo := 0, acc := .ro, rst := 0x0 }
abbrev CAP_CNT_CLEAR : Nat := 0x15C
def CAP_CNT_CLEAR_CLEAR : Field := { off := 0x15C, hi := 6, lo := 0, acc := .wo, rst := 0x0 }
def capFields0 : List Field :=
  [CAP_IN_CFG_OFFSET, CAP_IN_CFG_COUPLING, CAP_IN_CFG_RANGE, CAP_PATH_CTRL_DDC_EN,
   CAP_DDC_FTW_FTW_LO, CAP_DDC_FTW_FTW_HI, CAP_DDC_PHASE_PHASE, CAP_DDC_DEC_DEC,
   CAP_AVG_K, CAP_AVG_NOW_K_NOW, CAP_CAP_STATUS_PROTECTED, CAP_CAP_STATUS_CLOCK_VALID,
   CAP_CAP_STATUS_SETTLED, CAP_CAP_STATUS_SCENARIO, CAP_CAP_STATUS_ACQUIRING, CAP_CAP_FAULT_OVERVOLT,
   CAP_SAMPLE_COUNT_COUNT_LO, CAP_SAMPLE_COUNT_COUNT_HI, CAP_LATENCY_TRIG_CF, CAP_TRIG_CFG_EVT,
   CAP_TRIG_CFG_GATE, CAP_TRIG_CFG_WIDTH_QUAL, CAP_TRIG_CFG_COND, CAP_TRIG_CFG_SLOPE,
   CAP_TRIG_CFG_TYPE, CAP_TRIG_LEVEL_HYST, CAP_TRIG_LEVEL_LEVEL, CAP_TRIG_WINDOW_HIGH,
   CAP_TRIG_WINDOW_LOW, CAP_TRIG_T1_LIMIT, CAP_TRIG_T2_LIMIT, CAP_TRIG_HOLDOFF_SAMPLES,
   CAP_TRIG_STATUS_CLIPPED, CAP_TRIG_STATUS_TYPE, CAP_TRIG_POS_POS_LO, CAP_TRIG_POS_POS_HI,
   CAP_TRIG_SUB_SUBSAMPLE, CAP_TRIG_SUB_FRAC, CAP_TRIG_TIME_TIME_LO, CAP_TRIG_TIME_TIME_HI]
def capFields1 : List Field :=
  [CAP_TRIG_WIDTH_WIDTH, CAP_TRIG_COUNT_COUNT, CAP_TRIG_HOLDOFF_COUNT_COUNT, CAP_TRIG_GATED_COUNT_COUNT,
   CAP_TRIG_MERGED_COUNT_COUNT, CAP_TRIG_EVT_OVERRUN_COUNT_COUNT, CAP_CLIP_COUNT_COUNT, CAP_PROTECT_COUNT_COUNT,
   CAP_CNT_CLEAR_CLEAR]
def capFields : List Field := capFields0 ++ capFields1

/-! STRM registers: spec/09_streaming_stencils.md R288. -/

abbrev STRM_ACQ_CFG : Nat := 0x040
def STRM_ACQ_CFG_FORMAT : Field := { off := 0x040, hi := 5, lo := 4, acc := .rwa, rst := 0x1, vmin := 0, vmax := 2 }
def STRM_ACQ_CFG_MODE : Field := { off := 0x040, hi := 1, lo := 0, acc := .rwa, rst := 0x0, vmin := 0, vmax := 2 }
abbrev STRM_RING_PLATE : Nat := 0x044
def STRM_RING_PLATE_PLATE : Field := { off := 0x044, hi := 7, lo := 0, acc := .rwa, rst := 0x0 }
abbrev STRM_RING_SIZE : Nat := 0x048
def STRM_RING_SIZE_SIZE_LO : Field := { off := 0x048, hi := 31, lo := 0, acc := .shwa, rst := 0x0 }
def STRM_RING_SIZE_SIZE_HI : Field := { off := 0x04C, hi := 15, lo := 0, acc := .shwa, rst := 0x2 }
abbrev STRM_RING_CTRL : Nat := 0x050
def STRM_RING_CTRL_EN : Field := { off := 0x050, hi := 0, lo := 0, acc := .rw, rst := 0x0 }
abbrev STRM_WATERMARK : Nat := 0x054
def STRM_WATERMARK_HIGH : Field := { off := 0x054, hi := 14, lo := 8, acc := .rw, rst := 0x4B, vmin := 1, vmax := 99 }
def STRM_WATERMARK_LOW : Field := { off := 0x054, hi := 6, lo := 0, acc := .rw, rst := 0x19 }
abbrev STRM_RATE_TIMING : Nat := 0x058
def STRM_RATE_TIMING_RAISE_HOLD_US : Field := { off := 0x058, hi := 31, lo := 16, acc := .rw, rst := 0x3E8, vmin := 1, vmax := 65535 }
def STRM_RATE_TIMING_DWELL_US : Field := { off := 0x058, hi := 15, lo := 0, acc := .rw, rst := 0x2710, vmin := 1, vmax := 65535 }
abbrev STRM_FLUSH : Nat := 0x05C
def STRM_FLUSH_FLUSH_US : Field := { off := 0x05C, hi := 15, lo := 0, acc := .rw, rst := 0x64, vmin := 1, vmax := 65535 }
abbrev STRM_POST : Nat := 0x060
def STRM_POST_SAMPLES : Field := { off := 0x060, hi := 31, lo := 0, acc := .rwa, rst := 0x0 }
abbrev STRM_REC_LEN : Nat := 0x064
def STRM_REC_LEN_LEN : Field := { off := 0x064, hi := 23, lo := 0, acc := .rwa, rst := 0x400, vmin := 64, vmax := 16777215 }
abbrev STRM_REC_PRE : Nat := 0x068
def STRM_REC_PRE_PRE : Field := { off := 0x068, hi := 15, lo := 0, acc := .rwa, rst := 0x0 }
abbrev STRM_ACQ_CMD : Nat := 0x06C
def STRM_ACQ_CMD_STOP : Field := { off := 0x06C, hi := 1, lo := 1, acc := .wo, rst := 0x0 }
def STRM_ACQ_CMD_START : Field := { off := 0x06C, hi := 0, lo := 0, acc := .wo, rst := 0x0 }
abbrev STRM_ACQ_STATUS : Nat := 0x070
def STRM_ACQ_STATUS_FILL_PCT : Field := { off := 0x070, hi := 22, lo := 16, acc := .ro, rst := 0x0 }
def STRM_ACQ_STATUS_END_CAUSE : Field := { off := 0x070, hi := 11, lo := 8, acc := .ro, rst := 0x0 }
def STRM_ACQ_STATUS_REC_ARMED : Field := { off := 0x070, hi := 1, lo := 1, acc := .ro, rst := 0x0 }
def STRM_ACQ_STATUS_ACQUIRING : Field := { off := 0x070, hi := 0, lo := 0, acc := .ro, rst := 0x0 }
abbrev STRM_RING_FILL : Nat := 0x074
def STRM_RING_FILL_BLOCKS : Field := { off := 0x074, hi := 31, lo := 0, acc := .ro, rst := 0x0 }
abbrev STRM_LAST_DEAD : Nat := 0x078
def STRM_LAST_DEAD_DEAD_LO : Field := { off := 0x078, hi := 31, lo := 0, acc := .sho, rst := 0x0 }
def STRM_LAST_DEAD_DEAD_HI : Field := { off := 0x07C, hi := 31, lo := 0, acc := .sho, rst := 0x0 }
abbrev STRM_ACQUIRED : Nat := 0x080
def STRM_ACQUIRED_COUNT_LO : Field := { off := 0x080, hi := 31, lo := 0, acc := .sho, rst := 0x0 }
def STRM_ACQUIRED_COUNT_HI : Field := { off := 0x084, hi := 31, lo := 0, acc := .sho, rst := 0x0 }
abbrev STRM_DELIVERED : Nat := 0x088
def STRM_DELIVERED_COUNT_LO : Field := { off := 0x088, hi := 31, lo := 0, acc := .sho, rst := 0x0 }
def STRM_DELIVERED_COUNT_HI : Field := { off := 0x08C, hi := 31, lo := 0, acc := .sho, rst := 0x0 }
abbrev STRM_PENDING : Nat := 0x090
def STRM_PENDING_COUNT_LO : Field := { off := 0x090, hi := 31, lo := 0, acc := .sho, rst := 0x0 }
def STRM_PENDING_COUNT_HI : Field := { off := 0x094, hi := 31, lo := 0, acc := .sho, rst := 0x0 }
abbrev STRM_DROPPED : Nat := 0x098
def STRM_DROPPED_COUNT_LO : Field := { off := 0x098, hi := 31, lo := 0, acc := .sho, rst := 0x0 }
def STRM_DROPPED_COUNT_HI : Field := { off := 0x09C, hi := 31, lo := 0, acc := .sho, rst := 0x0 }
abbrev STRM_DEAD : Nat := 0x0A0
def STRM_DEAD_COUNT_LO : Field := { off := 0x0A0, hi := 31, lo := 0, acc := .sho, rst := 0x0 }
def STRM_DEAD_COUNT_HI : Field := { off := 0x0A4, hi := 31, lo := 0, acc := .sho, rst := 0x0 }
abbrev STRM_TAIL : Nat := 0x0A8
def STRM_TAIL_COUNT_LO : Field := { off := 0x0A8, hi := 31, lo := 0, acc := .sho, rst := 0x0 }
def STRM_TAIL_COUNT_HI : Field := { off := 0x0AC, hi := 31, lo := 0, acc := .sho, rst := 0x0 }
abbrev STRM_UNDELIVERED : Nat := 0x0B0
def STRM_UNDELIVERED_COUNT_LO : Field := { off := 0x0B0, hi := 31, lo := 0, acc := .sho, rst := 0x0 }
def STRM_UNDELIVERED_COUNT_HI : Field := { off := 0x0B4, hi := 31, lo := 0, acc := .sho, rst := 0x0 }
abbrev STRM_ACCT_LATCH : Nat := 0x0B8
def STRM_ACCT_LATCH_LATCH : Field := { off := 0x0B8, hi := 0, lo := 0, acc := .wo, rst := 0x0 }
abbrev STRM_RATE_UP_COUNT : Nat := 0x0C0
def STRM_RATE_UP_COUNT_COUNT : Field := { off := 0x0C0, hi := 31, lo := 0, acc := .ro, rst := 0x0 }
abbrev STRM_RATE_DOWN_COUNT : Nat := 0x0C4
def STRM_RATE_DOWN_COUNT_COUNT : Field := { off := 0x0C4, hi := 31, lo := 0, acc := .ro, rst := 0x0 }
abbrev STRM_GAP_COUNT : Nat := 0x0C8
def STRM_GAP_COUNT_COUNT : Field := { off := 0x0C8, hi := 31, lo := 0, acc := .ro, rst := 0x0 }
abbrev STRM_RECORD_COUNT : Nat := 0x0CC
def STRM_RECORD_COUNT_COUNT : Field := { off := 0x0CC, hi := 31, lo := 0, acc := .ro, rst := 0x0 }
abbrev STRM_DEAD_TRIG_COUNT : Nat := 0x0D0
def STRM_DEAD_TRIG_COUNT_COUNT : Field := { off := 0x0D0, hi := 31, lo := 0, acc := .ro, rst := 0x0 }
abbrev STRM_MARK_LOST_COUNT : Nat := 0x0D4
def STRM_MARK_LOST_COUNT_COUNT : Field := { off := 0x0D4, hi := 31, lo := 0, acc := .ro, rst := 0x0 }
abbrev STRM_CNT_CLEAR : Nat := 0x0D8
def STRM_CNT_CLEAR_CLEAR : Field := { off := 0x0D8, hi := 5, lo := 0, acc := .wo, rst := 0x0 }
abbrev STRM_DEMAND : Nat := 0x0DC
def STRM_DEMAND_MBPS : Field := { off := 0x0DC, hi := 31, lo := 0, acc := .ro, rst := 0x0 }
def strmFields0 : List Field :=
  [STRM_ACQ_CFG_FORMAT, STRM_ACQ_CFG_MODE, STRM_RING_PLATE_PLATE, STRM_RING_SIZE_SIZE_LO,
   STRM_RING_SIZE_SIZE_HI, STRM_RING_CTRL_EN, STRM_WATERMARK_HIGH, STRM_WATERMARK_LOW,
   STRM_RATE_TIMING_RAISE_HOLD_US, STRM_RATE_TIMING_DWELL_US, STRM_FLUSH_FLUSH_US, STRM_POST_SAMPLES,
   STRM_REC_LEN_LEN, STRM_REC_PRE_PRE, STRM_ACQ_CMD_STOP, STRM_ACQ_CMD_START,
   STRM_ACQ_STATUS_FILL_PCT, STRM_ACQ_STATUS_END_CAUSE, STRM_ACQ_STATUS_REC_ARMED, STRM_ACQ_STATUS_ACQUIRING,
   STRM_RING_FILL_BLOCKS, STRM_LAST_DEAD_DEAD_LO, STRM_LAST_DEAD_DEAD_HI, STRM_ACQUIRED_COUNT_LO,
   STRM_ACQUIRED_COUNT_HI, STRM_DELIVERED_COUNT_LO, STRM_DELIVERED_COUNT_HI, STRM_PENDING_COUNT_LO,
   STRM_PENDING_COUNT_HI, STRM_DROPPED_COUNT_LO, STRM_DROPPED_COUNT_HI, STRM_DEAD_COUNT_LO,
   STRM_DEAD_COUNT_HI, STRM_TAIL_COUNT_LO, STRM_TAIL_COUNT_HI, STRM_UNDELIVERED_COUNT_LO,
   STRM_UNDELIVERED_COUNT_HI, STRM_ACCT_LATCH_LATCH, STRM_RATE_UP_COUNT_COUNT, STRM_RATE_DOWN_COUNT_COUNT]
def strmFields1 : List Field :=
  [STRM_GAP_COUNT_COUNT, STRM_RECORD_COUNT_COUNT, STRM_DEAD_TRIG_COUNT_COUNT, STRM_MARK_LOST_COUNT_COUNT,
   STRM_CNT_CLEAR_CLEAR, STRM_DEMAND_MBPS]
def strmFields : List Field := strmFields0 ++ strmFields1

/-! STEN registers: spec/09_streaming_stencils.md R289. -/

abbrev STEN_TD_CFG : Nat := 0x040
def STEN_TD_CFG_ACT_STOP : Field := { off := 0x040, hi := 7, lo := 7, acc := .rw, rst := 0x0 }
def STEN_TD_CFG_ACT_EVENT : Field := { off := 0x040, hi := 6, lo := 6, acc := .rw, rst := 0x0 }
def STEN_TD_CFG_ACT_MARK : Field := { off := 0x040, hi := 5, lo := 5, acc := .rw, rst := 0x1 }
def STEN_TD_CFG_BANK : Field := { off := 0x040, hi := 3, lo := 3, acc := .rw, rst := 0x0 }
def STEN_TD_CFG_ANCHOR : Field := { off := 0x040, hi := 1, lo := 1, acc := .rwa, rst := 0x0 }
def STEN_TD_CFG_EN : Field := { off := 0x040, hi := 0, lo := 0, acc := .rw, rst := 0x0 }
abbrev STEN_TD_VERT : Nat := 0x044
def STEN_TD_VERT_COUNT1 : Field := { off := 0x044, hi := 27, lo := 16, acc := .rw, rst := 0x0 }
def STEN_TD_VERT_COUNT0 : Field := { off := 0x044, hi := 11, lo := 0, acc := .rw, rst := 0x0 }
abbrev STEN_TD_PRE : Nat := 0x048
def STEN_TD_PRE_VALUE : Field := { off := 0x048, hi := 15, lo := 0, acc := .rwa, rst := 0x0 }
abbrev STEN_TD_PERIOD : Nat := 0x04C
def STEN_TD_PERIOD_VALUE : Field := { off := 0x04C, hi := 31, lo := 0, acc := .rwa, rst := 0x0 }
abbrev STEN_TD_PHASE : Nat := 0x050
def STEN_TD_PHASE_VALUE : Field := { off := 0x050, hi := 31, lo := 0, acc := .rwa, rst := 0x0 }
abbrev STEN_SP_CFG : Nat := 0x054
def STEN_SP_CFG_CONSEC : Field := { off := 0x054, hi := 31, lo := 28, acc := .rw, rst := 0x0 }
def STEN_SP_CFG_STREAM_EN : Field := { off := 0x054, hi := 20, lo := 20, acc := .rwa, rst := 0x0 }
def STEN_SP_CFG_ACT_STOP : Field := { off := 0x054, hi := 19, lo := 19, acc := .rw, rst := 0x0 }
def STEN_SP_CFG_ACT_TRIG : Field := { off := 0x054, hi := 18, lo := 18, acc := .rw, rst := 0x0 }
def STEN_SP_CFG_ACT_EVENT : Field := { off := 0x054, hi := 17, lo := 17, acc := .rw, rst := 0x0 }
def STEN_SP_CFG_ACT_MARK : Field := { off := 0x054, hi := 16, lo := 16, acc := .rw, rst := 0x1 }
def STEN_SP_CFG_BANK : Field := { off := 0x054, hi := 12, lo := 12, acc := .rw, rst := 0x0 }
def STEN_SP_CFG_DETECT : Field := { off := 0x054, hi := 11, lo := 11, acc := .rw, rst := 0x0 }
def STEN_SP_CFG_WINDOW : Field := { off := 0x054, hi := 10, lo := 9, acc := .rwa, rst := 0x2 }
def STEN_SP_CFG_OVERLAP : Field := { off := 0x054, hi := 8, lo := 8, acc := .rwa, rst := 0x0 }
def STEN_SP_CFG_NSIZE : Field := { off := 0x054, hi := 7, lo := 4, acc := .rwa, rst := 0x2, vmin := 0, vmax := 6 }
def STEN_SP_CFG_SRC : Field := { off := 0x054, hi := 1, lo := 1, acc := .rwa, rst := 0x0 }
def STEN_SP_CFG_EN : Field := { off := 0x054, hi := 0, lo := 0, acc := .rw, rst := 0x0 }
abbrev STEN_SP_VERT : Nat := 0x058
def STEN_SP_VERT_COUNT1 : Field := { off := 0x058, hi := 25, lo := 16, acc := .rw, rst := 0x0 }
def STEN_SP_VERT_COUNT0 : Field := { off := 0x058, hi := 9, lo := 0, acc := .rw, rst := 0x0 }
abbrev STEN_SP_AVG : Nat := 0x05C
def STEN_SP_AVG_A : Field := { off := 0x05C, hi := 4, lo := 0, acc := .rwa, rst := 0x0, vmin := 0, vmax := 16 }
abbrev STEN_LATENCY : Nat := 0x060
def STEN_LATENCY_SPEC_CF : Field := { off := 0x060, hi := 31, lo := 16, acc := .ro, rst := 0x260 }
def STEN_LATENCY_TD_CF : Field := { off := 0x060, hi := 15, lo := 0, acc := .ro, rst := 0x10 }
abbrev STEN_TD_LAST_C : Nat := 0x068
def STEN_TD_LAST_C_C_LO : Field := { off := 0x068, hi := 31, lo := 0, acc := .sho, rst := 0x0 }
def STEN_TD_LAST_C_C_HI : Field := { off := 0x06C, hi := 31, lo := 0, acc := .sho, rst := 0x0 }
abbrev STEN_SP_LAST_C : Nat := 0x070
def STEN_SP_LAST_C_C_LO : Field := { off := 0x070, hi := 31, lo := 0, acc := .sho, rst := 0x0 }
def STEN_SP_LAST_C_C_HI : Field := { off := 0x074, hi := 31, lo := 0, acc := .sho, rst := 0x0 }
abbrev STEN_SP_LAST : Nat := 0x078
def STEN_SP_LAST_EXCESS : Field := { off := 0x078, hi := 31, lo := 16, acc := .ro, rst := 0x0 }
def STEN_SP_LAST_BIN : Field := { off := 0x078, hi := 15, lo := 0, acc := .ro, rst := 0x0 }
abbrev STEN_TD_PASS_COUNT : Nat := 0x080
def STEN_TD_PASS_COUNT_COUNT : Field := { off := 0x080, hi := 31, lo := 0, acc := .ro, rst := 0x0 }
abbrev STEN_TD_VIOL_COUNT : Nat := 0x084
def STEN_TD_VIOL_COUNT_COUNT : Field := { off := 0x084, hi := 31, lo := 0, acc := .ro, rst := 0x0 }
abbrev STEN_TD_OVERLAP_COUNT : Nat := 0x088
def STEN_TD_OVERLAP_COUNT_COUNT : Field := { off := 0x088, hi := 31, lo := 0, acc := .ro, rst := 0x0 }
abbrev STEN_SP_FRAME_COUNT : Nat := 0x08C
def STEN_SP_FRAME_COUNT_COUNT : Field := { off := 0x08C, hi := 31, lo := 0, acc := .ro, rst := 0x0 }
abbrev STEN_SP_VIOL_COUNT : Nat := 0x090
def STEN_SP_VIOL_COUNT_COUNT : Field := { off := 0x090, hi := 31, lo := 0, acc := .ro, rst := 0x0 }
abbrev STEN_SPEC_DROP_COUNT : Nat := 0x094
def STEN_SPEC_DROP_COUNT_COUNT : Field := { off := 0x094, hi := 31, lo := 0, acc := .ro, rst := 0x0 }
abbrev STEN_CNT_CLEAR : Nat := 0x098
def STEN_CNT_CLEAR_CLEAR : Field := { off := 0x098, hi := 5, lo := 0, acc := .wo, rst := 0x0 }
def stenFields0 : List Field :=
  [STEN_TD_CFG_ACT_STOP, STEN_TD_CFG_ACT_EVENT, STEN_TD_CFG_ACT_MARK, STEN_TD_CFG_BANK,
   STEN_TD_CFG_ANCHOR, STEN_TD_CFG_EN, STEN_TD_VERT_COUNT1, STEN_TD_VERT_COUNT0,
   STEN_TD_PRE_VALUE, STEN_TD_PERIOD_VALUE, STEN_TD_PHASE_VALUE, STEN_SP_CFG_CONSEC,
   STEN_SP_CFG_STREAM_EN, STEN_SP_CFG_ACT_STOP, STEN_SP_CFG_ACT_TRIG, STEN_SP_CFG_ACT_EVENT,
   STEN_SP_CFG_ACT_MARK, STEN_SP_CFG_BANK, STEN_SP_CFG_DETECT, STEN_SP_CFG_WINDOW,
   STEN_SP_CFG_OVERLAP, STEN_SP_CFG_NSIZE, STEN_SP_CFG_SRC, STEN_SP_CFG_EN,
   STEN_SP_VERT_COUNT1, STEN_SP_VERT_COUNT0, STEN_SP_AVG_A, STEN_LATENCY_SPEC_CF,
   STEN_LATENCY_TD_CF, STEN_TD_LAST_C_C_LO, STEN_TD_LAST_C_C_HI, STEN_SP_LAST_C_C_LO,
   STEN_SP_LAST_C_C_HI, STEN_SP_LAST_EXCESS, STEN_SP_LAST_BIN, STEN_TD_PASS_COUNT_COUNT,
   STEN_TD_VIOL_COUNT_COUNT, STEN_TD_OVERLAP_COUNT_COUNT, STEN_SP_FRAME_COUNT_COUNT, STEN_SP_VIOL_COUNT_COUNT]
def stenFields1 : List Field :=
  [STEN_SPEC_DROP_COUNT_COUNT, STEN_CNT_CLEAR_CLEAR]
def stenFields : List Field := stenFields0 ++ stenFields1

/-! XH registers: spec/10_crosshatch_event_fabric.md R315. -/

abbrev XH_CHAN_CMD : Nat := 0x040
def XH_CHAN_CMD_OP : Field := { off := 0x040, hi := 27, lo := 24, acc := .wo, rst := 0x0 }
def XH_CHAN_CMD_TARGET : Field := { off := 0x040, hi := 7, lo := 0, acc := .wo, rst := 0x0 }
abbrev XH_CHAN_CMD_STATUS : Nat := 0x044
def XH_CHAN_CMD_STATUS_BUSY : Field := { off := 0x044, hi := 31, lo := 31, acc := .ro, rst := 0x0 }
def XH_CHAN_CMD_STATUS_RESULT : Field := { off := 0x044, hi := 23, lo := 16, acc := .ro, rst := 0x0 }
def XH_CHAN_CMD_STATUS_OP : Field := { off := 0x044, hi := 11, lo := 8, acc := .ro, rst := 0x0 }
def XH_CHAN_CMD_STATUS_TARGET : Field := { off := 0x044, hi := 7, lo := 0, acc := .ro, rst := 0x0 }
abbrev XH_INJECT : Nat := 0x048
def XH_INJECT_CHANNEL : Field := { off := 0x048, hi := 7, lo := 0, acc := .wo, rst := 0x0 }
abbrev XH_INJECT_COUNT : Nat := 0x04C
def XH_INJECT_COUNT_COUNT : Field := { off := 0x04C, hi := 31, lo := 0, acc := .ro, rst := 0x0 }
abbrev XH_GRP_CTRL (i : Nat) : Nat := 0x080 + 16 * i
def XH_GRP_CTRL_OWNER : Field := { off := 0x080, hi := 31, lo := 24, acc := .ro, rst := 0x0, stride := 16, count := 4 }
def XH_GRP_CTRL_STATE : Field := { off := 0x080, hi := 8, lo := 8, acc := .ro, rst := 0x1, stride := 16, count := 4 }
def XH_GRP_CTRL_DISABLE : Field := { off := 0x080, hi := 1, lo := 1, acc := .wo, rst := 0x0, stride := 16, count := 4 }
def XH_GRP_CTRL_ENABLE : Field := { off := 0x080, hi := 0, lo := 0, acc := .wo, rst := 0x0, stride := 16, count := 4 }
abbrev XH_GRP_EN_SUB (i : Nat) : Nat := 0x084 + 16 * i
def XH_GRP_EN_SUB_GATE : Field := { off := 0x084, hi := 15, lo := 8, acc := .rw, rst := 0x0, stride := 16, count := 4 }
def XH_GRP_EN_SUB_CHANNEL : Field := { off := 0x084, hi := 7, lo := 0, acc := .rw, rst := 0x0, stride := 16, count := 4 }
abbrev XH_GRP_DIS_SUB (i : Nat) : Nat := 0x088 + 16 * i
def XH_GRP_DIS_SUB_GATE : Field := { off := 0x088, hi := 15, lo := 8, acc := .rw, rst := 0x0, stride := 16, count := 4 }
def XH_GRP_DIS_SUB_CHANNEL : Field := { off := 0x088, hi := 7, lo := 0, acc := .rw, rst := 0x0, stride := 16, count := 4 }
abbrev XH_GRP_SUPP (i : Nat) : Nat := 0x08C + 16 * i
def XH_GRP_SUPP_COUNT : Field := { off := 0x08C, hi := 31, lo := 0, acc := .ro, rst := 0x0, stride := 16, count := 4 }
abbrev XH_CH_CFG (i : Nat) : Nat := 0x100 + 16 * i
def XH_CH_CFG_LEVEL_MODE : Field := { off := 0x100, hi := 18, lo := 17, acc := .rw, rst := 0x0, stride := 16, count := 64, vmin := 0, vmax := 2 }
def XH_CH_CFG_CLOCKING : Field := { off := 0x100, hi := 16, lo := 16, acc := .rw, rst := 0x0, stride := 16, count := 64 }
def XH_CH_CFG_PRODUCER : Field := { off := 0x100, hi := 15, lo := 0, acc := .rw, rst := 0x0, stride := 16, count := 64 }
abbrev XH_CH_HOLD (i : Nat) : Nat := 0x104 + 16 * i
def XH_CH_HOLD_HOLD_TICKS : Field := { off := 0x104, hi := 15, lo := 0, acc := .rw, rst := 0x0, stride := 16, count := 64 }
abbrev XH_CH_STAT (i : Nat) : Nat := 0x108 + 16 * i
def XH_CH_STAT_OWNER : Field := { off := 0x108, hi := 31, lo := 24, acc := .ro, rst := 0x0, stride := 16, count := 64 }
def XH_CH_STAT_ATTR : Field := { off := 0x108, hi := 23, lo := 22, acc := .ro, rst := 0x0, stride := 16, count := 64 }
def XH_CH_STAT_LEVEL : Field := { off := 0x108, hi := 21, lo := 21, acc := .ro, rst := 0x0, stride := 16, count := 64 }
def XH_CH_STAT_SUBS : Field := { off := 0x108, hi := 20, lo := 10, acc := .ro, rst := 0x0, stride := 16, count := 64 }
def XH_CH_STAT_ARM_REFS : Field := { off := 0x108, hi := 9, lo := 0, acc := .ro, rst := 0x0, stride := 16, count := 64 }
abbrev XH_CH_PUB (i : Nat) : Nat := 0x10C + 16 * i
def XH_CH_PUB_PUBLISHED : Field := { off := 0x10C, hi := 31, lo := 0, acc := .ro, rst := 0x0, stride := 16, count := 64 }
def xhFields0 : List Field :=
  [XH_CHAN_CMD_OP, XH_CHAN_CMD_TARGET, XH_CHAN_CMD_STATUS_BUSY, XH_CHAN_CMD_STATUS_RESULT,
   XH_CHAN_CMD_STATUS_OP, XH_CHAN_CMD_STATUS_TARGET, XH_INJECT_CHANNEL, XH_INJECT_COUNT_COUNT,
   XH_GRP_CTRL_OWNER, XH_GRP_CTRL_STATE, XH_GRP_CTRL_DISABLE, XH_GRP_CTRL_ENABLE,
   XH_GRP_EN_SUB_GATE, XH_GRP_EN_SUB_CHANNEL, XH_GRP_DIS_SUB_GATE, XH_GRP_DIS_SUB_CHANNEL,
   XH_GRP_SUPP_COUNT, XH_CH_CFG_LEVEL_MODE, XH_CH_CFG_CLOCKING, XH_CH_CFG_PRODUCER,
   XH_CH_HOLD_HOLD_TICKS, XH_CH_STAT_OWNER, XH_CH_STAT_ATTR, XH_CH_STAT_LEVEL,
   XH_CH_STAT_SUBS, XH_CH_STAT_ARM_REFS, XH_CH_PUB_PUBLISHED]
def xhFields : List Field := xhFields0

/-! CLK registers: spec/11_clocks_time_sync.md R349. -/

abbrev CLK_PAGE_STATUS : Nat := 0x010
def CLK_PAGE_STATUS_CAP_ACQ : Field := { off := 0x010, hi := 5, lo := 5, acc := .ro, rst := 0x1 }
def CLK_PAGE_STATUS_GEN_ACQ : Field := { off := 0x010, hi := 4, lo := 4, acc := .ro, rst := 0x1 }
def CLK_PAGE_STATUS_GLIDING : Field := { off := 0x010, hi := 3, lo := 3, acc := .ro, rst := 0x0 }
def CLK_PAGE_STATUS_ON_BYPASS : Field := { off := 0x010, hi := 2, lo := 2, acc := .ro, rst := 0x1 }
def CLK_PAGE_STATUS_CF_VALID : Field := { off := 0x010, hi := 1, lo := 1, acc := .ro, rst := 0x0 }
def CLK_PAGE_STATUS_GF_VALID : Field := { off := 0x010, hi := 0, lo := 0, acc := .ro, rst := 0x0 }
abbrev CLK_REF_CFG : Nat := 0x040
def CLK_REF_CFG_BW : Field := { off := 0x040, hi := 30, lo := 28, acc := .rw, rst := 0x3, vmin := 0, vmax := 6 }
def CLK_REF_CFG_FREQ_KHZ : Field := { off := 0x040, hi := 17, lo := 0, acc := .rw, rst := 0x2710, vmin := 5000, vmax := 250000 }
abbrev CLK_REF_CMD : Nat := 0x044
def CLK_REF_CMD_BYPASS : Field := { off := 0x044, hi := 1, lo := 1, acc := .wo, rst := 0x0 }
def CLK_REF_CMD_SELECT : Field := { off := 0x044, hi := 0, lo := 0, acc := .wo, rst := 0x0 }
abbrev CLK_REF_STATUS : Nat := 0x048
def CLK_REF_STATUS_LAST_CAUSE : Field := { off := 0x048, hi := 15, lo := 12, acc := .ro, rst := 0x0 }
def CLK_REF_STATUS_WARN : Field := { off := 0x048, hi := 5, lo := 5, acc := .ro, rst := 0x0 }
def CLK_REF_STATUS_FILTER_ABSENT : Field := { off := 0x048, hi := 4, lo := 4, acc := .w1c, rst := 0x0 }
def CLK_REF_STATUS_LOCK_HIGH : Field := { off := 0x048, hi := 3, lo := 3, acc := .ro, rst := 0x0 }
def CLK_REF_STATUS_PRESENT : Field := { off := 0x048, hi := 2, lo := 2, acc := .ro, rst := 0x0 }
def CLK_REF_STATUS_STATE : Field := { off := 0x048, hi := 1, lo := 0, acc := .ro, rst := 0x0 }
abbrev CLK_REF_DEV : Nat := 0x04C
def CLK_REF_DEV_DEV_PPB : Field := { off := 0x04C, hi := 31, lo := 0, acc := .ro, rst := 0x80000000 }
abbrev CLK_REF_LIMITS : Nat := 0x050
def CLK_REF_LIMITS_FAULT_PPB : Field := { off := 0x050, hi := 31, lo := 16, acc := .rw, rst := 0x2710 }
def CLK_REF_LIMITS_WARN_PPB : Field := { off := 0x050, hi := 15, lo := 0, acc := .rw, rst := 0x7D0 }
abbrev CLK_LOCK_MON : Nat := 0x054
def CLK_LOCK_MON_TRANSITIONS : Field := { off := 0x054, hi := 15, lo := 0, acc := .ro, rst := 0x0 }
abbrev CLK_RATE_CFG : Nat := 0x058
def CLK_RATE_CFG_MODE : Field := { off := 0x058, hi := 0, lo := 0, acc := .rw, rst := 0x0 }
abbrev CLK_GEN_RATE : Nat := 0x060
def CLK_GEN_RATE_RATE_LO : Field := { off := 0x060, hi := 31, lo := 0, acc := .shw, rst := 0xEF798000 }
def CLK_GEN_RATE_RATE_HI : Field := { off := 0x064, hi := 15, lo := 0, acc := .shw, rst := 0x15D3 }
abbrev CLK_CAP_RATE : Nat := 0x068
def CLK_CAP_RATE_RATE_LO : Field := { off := 0x068, hi := 31, lo := 0, acc := .shw, rst := 0xF7BCC000 }
def CLK_CAP_RATE_RATE_HI : Field := { off := 0x06C, hi := 15, lo := 0, acc := .shw, rst := 0xAE9 }
abbrev CLK_OUT_CFG (i : Nat) : Nat := 0x080 + 4 * i
def CLK_OUT_CFG_DIV_M1 : Field := { off := 0x080, hi := 27, lo := 16, acc := .rw, rst := 0x0, stride := 4, count := 4 }
def CLK_OUT_CFG_SRC : Field := { off := 0x080, hi := 10, lo := 8, acc := .rw, rst := 0x0, stride := 4, count := 4 }
def CLK_OUT_CFG_FORMAT : Field := { off := 0x080, hi := 6, lo := 4, acc := .rw, rst := 0x0, stride := 4, count := 4 }
def CLK_OUT_CFG_LEVEL : Field := { off := 0x080, hi := 3, lo := 2, acc := .rw, rst := 0x1, stride := 4, count := 4 }
def CLK_OUT_CFG_EN : Field := { off := 0x080, hi := 0, lo := 0, acc := .rw, rst := 0x0, stride := 4, count := 4 }
abbrev CLK_REF_OUT : Nat := 0x090
def CLK_REF_OUT_EN : Field := { off := 0x090, hi := 0, lo := 0, acc := .rw, rst := 0x1 }
abbrev CLK_SSC_CFG : Nat := 0x094
def CLK_SSC_CFG_QUIET : Field := { off := 0x094, hi := 0, lo := 0, acc := .rw, rst := 0x0 }
abbrev CLK_SWITCH_COUNT : Nat := 0x0A0
def CLK_SWITCH_COUNT_COUNT : Field := { off := 0x0A0, hi := 31, lo := 0, acc := .ro, rst := 0x0 }
abbrev CLK_SYNTH_RELOCK_COUNT : Nat := 0x0A4
def CLK_SYNTH_RELOCK_COUNT_COUNT : Field := { off := 0x0A4, hi := 31, lo := 0, acc := .ro, rst := 0x0 }
abbrev CLK_CNT_CLEAR : Nat := 0x0A8
def CLK_CNT_CLEAR_CLEAR : Field := { off := 0x0A8, hi := 1, lo := 0, acc := .wo, rst := 0x0 }
def clkFields0 : List Field :=
  [CLK_PAGE_STATUS_CAP_ACQ, CLK_PAGE_STATUS_GEN_ACQ, CLK_PAGE_STATUS_GLIDING, CLK_PAGE_STATUS_ON_BYPASS,
   CLK_PAGE_STATUS_CF_VALID, CLK_PAGE_STATUS_GF_VALID, CLK_REF_CFG_BW, CLK_REF_CFG_FREQ_KHZ,
   CLK_REF_CMD_BYPASS, CLK_REF_CMD_SELECT, CLK_REF_STATUS_LAST_CAUSE, CLK_REF_STATUS_WARN,
   CLK_REF_STATUS_FILTER_ABSENT, CLK_REF_STATUS_LOCK_HIGH, CLK_REF_STATUS_PRESENT, CLK_REF_STATUS_STATE,
   CLK_REF_DEV_DEV_PPB, CLK_REF_LIMITS_FAULT_PPB, CLK_REF_LIMITS_WARN_PPB, CLK_LOCK_MON_TRANSITIONS,
   CLK_RATE_CFG_MODE, CLK_GEN_RATE_RATE_LO, CLK_GEN_RATE_RATE_HI, CLK_CAP_RATE_RATE_LO,
   CLK_CAP_RATE_RATE_HI, CLK_OUT_CFG_DIV_M1, CLK_OUT_CFG_SRC, CLK_OUT_CFG_FORMAT,
   CLK_OUT_CFG_LEVEL, CLK_OUT_CFG_EN, CLK_REF_OUT_EN, CLK_SSC_CFG_QUIET,
   CLK_SWITCH_COUNT_COUNT, CLK_SYNTH_RELOCK_COUNT_COUNT, CLK_CNT_CLEAR_CLEAR]
def clkFields : List Field := clkFields0

/-! TIME registers: spec/11_clocks_time_sync.md R350. -/

abbrev TIME_NOW : Nat := 0x040
def TIME_NOW_VALUE_LO : Field := { off := 0x040, hi := 31, lo := 0, acc := .sho, rst := 0x0 }
def TIME_NOW_VALUE_HI : Field := { off := 0x044, hi := 31, lo := 0, acc := .sho, rst := 0x0 }
abbrev TIME_PPS_TIME : Nat := 0x050
def TIME_PPS_TIME_VALUE_LO : Field := { off := 0x050, hi := 31, lo := 0, acc := .sho, rst := 0x0 }
def TIME_PPS_TIME_VALUE_HI : Field := { off := 0x054, hi := 31, lo := 0, acc := .sho, rst := 0x0 }
abbrev TIME_PPS_COUNT : Nat := 0x060
def TIME_PPS_COUNT_VALUE_LO : Field := { off := 0x060, hi := 31, lo := 0, acc := .sho, rst := 0x0 }
def TIME_PPS_COUNT_VALUE_HI : Field := { off := 0x064, hi := 15, lo := 0, acc := .sho, rst := 0x0 }
abbrev TIME_PPS_NEXT : Nat := 0x068
def TIME_PPS_NEXT_VALUE_LO : Field := { off := 0x068, hi := 31, lo := 0, acc := .shw, rst := 0x0 }
def TIME_PPS_NEXT_VALUE_HI : Field := { off := 0x06C, hi := 15, lo := 0, acc := .shw, rst := 0x0 }
abbrev TIME_PPS_CFG : Nat := 0x048
def TIME_PPS_CFG_MODE : Field := { off := 0x048, hi := 1, lo := 0, acc := .rw, rst := 0x0, vmin := 0, vmax := 2 }
abbrev TIME_PPS_FRAC : Nat := 0x058
def TIME_PPS_FRAC_VALUE : Field := { off := 0x058, hi := 31, lo := 0, acc := .ro, rst := 0x0 }
abbrev TIME_PPS_ERR : Nat := 0x070
def TIME_PPS_ERR_VALUE : Field := { off := 0x070, hi := 31, lo := 0, acc := .ro, rst := 0x0 }
abbrev TIME_PPS_REJECT_COUNT : Nat := 0x080
def TIME_PPS_REJECT_COUNT_COUNT : Field := { off := 0x080, hi := 31, lo := 0, acc := .ro, rst := 0x0 }
abbrev TIME_PPS_OOW_COUNT : Nat := 0x084
def TIME_PPS_OOW_COUNT_COUNT : Field := { off := 0x084, hi := 31, lo := 0, acc := .ro, rst := 0x0 }
abbrev TIME_PPS_MISSING_COUNT : Nat := 0x088
def TIME_PPS_MISSING_COUNT_COUNT : Field := { off := 0x088, hi := 31, lo := 0, acc := .ro, rst := 0x0 }
abbrev TIME_SNAP_COUNT : Nat := 0x08C
def TIME_SNAP_COUNT_COUNT : Field := { off := 0x08C, hi := 31, lo := 0, acc := .ro, rst := 0x0 }
abbrev TIME_CNT_CLEAR : Nat := 0x090
def TIME_CNT_CLEAR_CLEAR : Field := { off := 0x090, hi := 3, lo := 0, acc := .wo, rst := 0x0 }
def timeFields0 : List Field :=
  [TIME_NOW_VALUE_LO, TIME_NOW_VALUE_HI, TIME_PPS_TIME_VALUE_LO, TIME_PPS_TIME_VALUE_HI,
   TIME_PPS_COUNT_VALUE_LO, TIME_PPS_COUNT_VALUE_HI, TIME_PPS_NEXT_VALUE_LO, TIME_PPS_NEXT_VALUE_HI,
   TIME_PPS_CFG_MODE, TIME_PPS_FRAC_VALUE, TIME_PPS_ERR_VALUE, TIME_PPS_REJECT_COUNT_COUNT,
   TIME_PPS_OOW_COUNT_COUNT, TIME_PPS_MISSING_COUNT_COUNT, TIME_SNAP_COUNT_COUNT, TIME_CNT_CLEAR_CLEAR]
def timeFields : List Field := timeFields0

/-! SYNC registers: spec/11_clocks_time_sync.md R351. -/

abbrev SYNC_CFG : Nat := 0x040
def SYNC_CFG_ROLE : Field := { off := 0x040, hi := 1, lo := 0, acc := .rw, rst := 0x0, vmin := 0, vmax := 2 }
abbrev SYNC_CMD : Nat := 0x044
def SYNC_CMD_LEAVE : Field := { off := 0x044, hi := 1, lo := 1, acc := .wo, rst := 0x0 }
def SYNC_CMD_JOIN : Field := { off := 0x044, hi := 0, lo := 0, acc := .wo, rst := 0x0 }
abbrev SYNC_STATUS : Nat := 0x048
def SYNC_STATUS_HOPS : Field := { off := 0x048, hi := 20, lo := 16, acc := .ro, rst := 0x0 }
def SYNC_STATUS_DOWN_UP : Field := { off := 0x048, hi := 9, lo := 9, acc := .ro, rst := 0x0 }
def SYNC_STATUS_UP_UP : Field := { off := 0x048, hi := 8, lo := 8, acc := .ro, rst := 0x0 }
def SYNC_STATUS_STATE : Field := { off := 0x048, hi := 2, lo := 0, acc := .ro, rst := 0x0 }
abbrev SYNC_BUS_LEAD : Nat := 0x04C
def SYNC_BUS_LEAD_TICKS : Field := { off := 0x04C, hi := 23, lo := 0, acc := .rw, rst := 0xBB8, vmin := 192, vmax := 4194303 }
abbrev SYNC_UP_DELAY : Nat := 0x050
def SYNC_UP_DELAY_DELAY : Field := { off := 0x050, hi := 31, lo := 0, acc := .ro, rst := 0x0 }
abbrev SYNC_TOTAL_DELAY : Nat := 0x054
def SYNC_TOTAL_DELAY_DELAY : Field := { off := 0x054, hi := 31, lo := 0, acc := .ro, rst := 0x0 }
abbrev SYNC_TX_A_SUB : Nat := 0x058
def SYNC_TX_A_SUB_GATE : Field := { off := 0x058, hi := 15, lo := 8, acc := .rw, rst := 0x0 }
def SYNC_TX_A_SUB_CHANNEL : Field := { off := 0x058, hi := 7, lo := 0, acc := .rw, rst := 0x0 }
abbrev SYNC_TX_B_SUB : Nat := 0x05C
def SYNC_TX_B_SUB_GATE : Field := { off := 0x05C, hi := 15, lo := 8, acc := .rw, rst := 0x0 }
def SYNC_TX_B_SUB_CHANNEL : Field := { off := 0x05C, hi := 7, lo := 0, acc := .rw, rst := 0x0 }
abbrev SYNC_TX_A_COUNT : Nat := 0x060
def SYNC_TX_A_COUNT_COUNT : Field := { off := 0x060, hi := 31, lo := 0, acc := .ro, rst := 0x0 }
abbrev SYNC_TX_B_COUNT : Nat := 0x064
def SYNC_TX_B_COUNT_COUNT : Field := { off := 0x064, hi := 31, lo := 0, acc := .ro, rst := 0x0 }
abbrev SYNC_LATE_COUNT : Nat := 0x068
def SYNC_LATE_COUNT_COUNT : Field := { off := 0x068, hi := 31, lo := 0, acc := .ro, rst := 0x0 }
abbrev SYNC_DROP_COUNT : Nat := 0x06C
def SYNC_DROP_COUNT_COUNT : Field := { off := 0x06C, hi := 31, lo := 0, acc := .ro, rst := 0x0 }
abbrev SYNC_CRC_COUNT : Nat := 0x070
def SYNC_CRC_COUNT_COUNT : Field := { off := 0x070, hi := 31, lo := 0, acc := .ro, rst := 0x0 }
abbrev SYNC_CNT_CLEAR : Nat := 0x074
def SYNC_CNT_CLEAR_CLEAR : Field := { off := 0x074, hi := 4, lo := 0, acc := .wo, rst := 0x0 }
def syncFields0 : List Field :=
  [SYNC_CFG_ROLE, SYNC_CMD_LEAVE, SYNC_CMD_JOIN, SYNC_STATUS_HOPS,
   SYNC_STATUS_DOWN_UP, SYNC_STATUS_UP_UP, SYNC_STATUS_STATE, SYNC_BUS_LEAD_TICKS,
   SYNC_UP_DELAY_DELAY, SYNC_TOTAL_DELAY_DELAY, SYNC_TX_A_SUB_GATE, SYNC_TX_A_SUB_CHANNEL,
   SYNC_TX_B_SUB_GATE, SYNC_TX_B_SUB_CHANNEL, SYNC_TX_A_COUNT_COUNT, SYNC_TX_B_COUNT_COUNT,
   SYNC_LATE_COUNT_COUNT, SYNC_DROP_COUNT_COUNT, SYNC_CRC_COUNT_COUNT, SYNC_CNT_CLEAR_CLEAR]
def syncFields : List Field := syncFields0

/-! CAL registers: spec/12_calibration_burnish.md R372. -/

abbrev CAL_BURNISH : Nat := 0x040
def CAL_BURNISH_INTERVAL_US : Field := { off := 0x040, hi := 19, lo := 0, acc := .rw, rst := 0x3E8, vmin := 10, vmax := 1000000 }
abbrev CAL_EST_CFG : Nat := 0x044
def CAL_EST_CFG_GEN_EXCITE : Field := { off := 0x044, hi := 31, lo := 24, acc := .rw, rst := 0x1E, vmin := 10, vmax := 60 }
def CAL_EST_CFG_CAP_EXCITE : Field := { off := 0x044, hi := 23, lo := 16, acc := .rw, rst := 0x1E, vmin := 10, vmax := 60 }
def CAL_EST_CFG_ACCEPT_N : Field := { off := 0x044, hi := 15, lo := 8, acc := .rw, rst := 0x40, vmin := 1, vmax := 255 }
abbrev CAL_TIMING_CFG : Nat := 0x048
def CAL_TIMING_CFG_STARVE_S : Field := { off := 0x048, hi := 31, lo := 20, acc := .rw, rst := 0x258, vmin := 60, vmax := 4095 }
def CAL_TIMING_CFG_TIMING_N : Field := { off := 0x048, hi := 19, lo := 12, acc := .rw, rst := 0x40, vmin := 1, vmax := 255 }
def CAL_TIMING_CFG_CADENCE_MS : Field := { off := 0x048, hi := 11, lo := 0, acc := .rw, rst := 0x64, vmin := 1, vmax := 4095 }
abbrev CAL_CMD : Nat := 0x04C
def CAL_CMD_OP : Field := { off := 0x04C, hi := 31, lo := 28, acc := .wo, rst := 0x0 }
def CAL_CMD_MODE : Field := { off := 0x04C, hi := 27, lo := 27, acc := .wo, rst := 0x0 }
def CAL_CMD_PARTS : Field := { off := 0x04C, hi := 26, lo := 24, acc := .wo, rst := 0x0 }
def CAL_CMD_SCOPE_CAP : Field := { off := 0x04C, hi := 23, lo := 20, acc := .wo, rst := 0x0 }
def CAL_CMD_SCOPE_GEN : Field := { off := 0x04C, hi := 15, lo := 0, acc := .wo, rst := 0x0 }
abbrev CAL_CMD_STATUS : Nat := 0x050
def CAL_CMD_STATUS_BUSY : Field := { off := 0x050, hi := 31, lo := 31, acc := .ro, rst := 0x0 }
def CAL_CMD_STATUS_RESULT : Field := { off := 0x050, hi := 15, lo := 8, acc := .ro, rst := 0x0 }
def CAL_CMD_STATUS_OP : Field := { off := 0x050, hi := 3, lo := 0, acc := .ro, rst := 0x0 }
abbrev CAL_STEP_COUNT : Nat := 0x060
def CAL_STEP_COUNT_COUNT : Field := { off := 0x060, hi := 31, lo := 0, acc := .ro, rst := 0x0 }
abbrev CAL_BURST_COUNT : Nat := 0x064
def CAL_BURST_COUNT_COUNT : Field := { off := 0x064, hi := 31, lo := 0, acc := .ro, rst := 0x0 }
abbrev CAL_BURST_ABANDON_COUNT : Nat := 0x068
def CAL_BURST_ABANDON_COUNT_COUNT : Field := { off := 0x068, hi := 31, lo := 0, acc := .ro, rst := 0x0 }
abbrev CAL_FROZEN_BLOCK_COUNT : Nat := 0x06C
def CAL_FROZEN_BLOCK_COUNT_COUNT : Field := { off := 0x06C, hi := 31, lo := 0, acc := .ro, rst := 0x0 }
abbrev CAL_CNT_CLEAR : Nat := 0x070
def CAL_CNT_CLEAR_CLEAR : Field := { off := 0x070, hi := 3, lo := 0, acc := .wo, rst := 0x0 }
abbrev CAL_GEN_CTRL (i : Nat) : Nat := 0x100 + 16 * i
def CAL_GEN_CTRL_IDLE_OPEN_GAP : Field := { off := 0x100, hi := 4, lo := 4, acc := .rw, rst := 0x0, stride := 16, count := 16 }
def CAL_GEN_CTRL_IDLE_TERM_GAP : Field := { off := 0x100, hi := 3, lo := 3, acc := .rw, rst := 0x1, stride := 16, count := 16 }
def CAL_GEN_CTRL_QUIET_GAP : Field := { off := 0x100, hi := 2, lo := 2, acc := .rw, rst := 0x1, stride := 16, count := 16 }
def CAL_GEN_CTRL_TIMING_EN : Field := { off := 0x100, hi := 1, lo := 1, acc := .rw, rst := 0x1, stride := 16, count := 16 }
def CAL_GEN_CTRL_EST_EN : Field := { off := 0x100, hi := 0, lo := 0, acc := .rw, rst := 0x1, stride := 16, count := 16 }
abbrev CAL_CAP_CTRL (i : Nat) : Nat := 0x200 + 16 * i
def CAL_CAP_CTRL_DEAD_GAP : Field := { off := 0x200, hi := 5, lo := 5, acc := .rw, rst := 0x1, stride := 16, count := 4 }
def CAL_CAP_CTRL_IDLE_TERM_GAP : Field := { off := 0x200, hi := 3, lo := 3, acc := .rw, rst := 0x1, stride := 16, count := 4 }
def CAL_CAP_CTRL_TIMING_EN : Field := { off := 0x200, hi := 1, lo := 1, acc := .rw, rst := 0x1, stride := 16, count := 4 }
def CAL_CAP_CTRL_EST_EN : Field := { off := 0x200, hi := 0, lo := 0, acc := .rw, rst := 0x1, stride := 16, count := 4 }
abbrev CAL_GEN_STATUS (i : Nat) : Nat := 0x104 + 16 * i
def CAL_GEN_STATUS_CONVERGED : Field := { off := 0x104, hi := 31, lo := 24, acc := .ro, rst := 0x0, stride := 16, count := 16 }
def CAL_GEN_STATUS_FROZEN : Field := { off := 0x104, hi := 23, lo := 16, acc := .ro, rst := 0x0, stride := 16, count := 16 }
def CAL_GEN_STATUS_MOVING : Field := { off := 0x104, hi := 1, lo := 1, acc := .ro, rst := 0x0, stride := 16, count := 16 }
def CAL_GEN_STATUS_STARVED : Field := { off := 0x104, hi := 0, lo := 0, acc := .w1c, rst := 0x0, stride := 16, count := 16 }
abbrev CAL_CAP_STATUS (i : Nat) : Nat := 0x204 + 16 * i
def CAL_CAP_STATUS_CONVERGED : Field := { off := 0x204, hi := 31, lo := 24, acc := .ro, rst := 0x0, stride := 16, count := 4 }
def CAL_CAP_STATUS_FROZEN : Field := { off := 0x204, hi := 23, lo := 16, acc := .ro, rst := 0x0, stride := 16, count := 4 }
def CAL_CAP_STATUS_MOVING : Field := { off := 0x204, hi := 1, lo := 1, acc := .ro, rst := 0x0, stride := 16, count := 4 }
def CAL_CAP_STATUS_STARVED : Field := { off := 0x204, hi := 0, lo := 0, acc := .w1c, rst := 0x0, stride := 16, count := 4 }
abbrev CAL_GEN_CLOCK_PATH (i : Nat) : Nat := 0x108 + 16 * i
def CAL_GEN_CLOCK_PATH_DELAY : Field := { off := 0x108, hi := 31, lo := 0, acc := .ro, rst := 0x0, stride := 16, count := 16 }
abbrev CAL_CAP_CLOCK_PATH (i : Nat) : Nat := 0x208 + 16 * i
def CAL_CAP_CLOCK_PATH_DELAY : Field := { off := 0x208, hi := 31, lo := 0, acc := .ro, rst := 0x0, stride := 16, count := 4 }
def calFields0 : List Field :=
  [CAL_BURNISH_INTERVAL_US, CAL_EST_CFG_GEN_EXCITE, CAL_EST_CFG_CAP_EXCITE, CAL_EST_CFG_ACCEPT_N,
   CAL_TIMING_CFG_STARVE_S, CAL_TIMING_CFG_TIMING_N, CAL_TIMING_CFG_CADENCE_MS, CAL_CMD_OP,
   CAL_CMD_MODE, CAL_CMD_PARTS, CAL_CMD_SCOPE_CAP, CAL_CMD_SCOPE_GEN,
   CAL_CMD_STATUS_BUSY, CAL_CMD_STATUS_RESULT, CAL_CMD_STATUS_OP, CAL_STEP_COUNT_COUNT,
   CAL_BURST_COUNT_COUNT, CAL_BURST_ABANDON_COUNT_COUNT, CAL_FROZEN_BLOCK_COUNT_COUNT, CAL_CNT_CLEAR_CLEAR,
   CAL_GEN_CTRL_IDLE_OPEN_GAP, CAL_GEN_CTRL_IDLE_TERM_GAP, CAL_GEN_CTRL_QUIET_GAP, CAL_GEN_CTRL_TIMING_EN,
   CAL_GEN_CTRL_EST_EN, CAL_CAP_CTRL_DEAD_GAP, CAL_CAP_CTRL_IDLE_TERM_GAP, CAL_CAP_CTRL_TIMING_EN,
   CAL_CAP_CTRL_EST_EN, CAL_GEN_STATUS_CONVERGED, CAL_GEN_STATUS_FROZEN, CAL_GEN_STATUS_MOVING,
   CAL_GEN_STATUS_STARVED, CAL_CAP_STATUS_CONVERGED, CAL_CAP_STATUS_FROZEN, CAL_CAP_STATUS_MOVING,
   CAL_CAP_STATUS_STARVED, CAL_GEN_CLOCK_PATH_DELAY, CAL_CAP_CLOCK_PATH_DELAY]
def calFields : List Field := calFields0

/-! MIF registers: spec/13_dram_controller.md R397. -/

abbrev MIF_STATUS : Nat := 0x040
def MIF_STATUS_RETRAIN_ADVISED : Field := { off := 0x040, hi := 10, lo := 10, acc := .ro, rst := 0x0 }
def MIF_STATUS_REFRESH_2X : Field := { off := 0x040, hi := 9, lo := 9, acc := .ro, rst := 0x0 }
def MIF_STATUS_MARGINAL : Field := { off := 0x040, hi := 8, lo := 8, acc := .ro, rst := 0x0 }
def MIF_STATUS_STATE : Field := { off := 0x040, hi := 2, lo := 0, acc := .ro, rst := 0x0 }
abbrev MIF_TEMP : Nat := 0x044
def MIF_TEMP_TRAIN_TEMP : Field := { off := 0x044, hi := 31, lo := 24, acc := .ro, rst := 0x0 }
def MIF_TEMP_DEV1 : Field := { off := 0x044, hi := 15, lo := 8, acc := .ro, rst := 0x0 }
def MIF_TEMP_DEV0 : Field := { off := 0x044, hi := 7, lo := 0, acc := .ro, rst := 0x0 }
abbrev MIF_CMD : Nat := 0x048
def MIF_CMD_RETRAIN : Field := { off := 0x048, hi := 0, lo := 0, acc := .wo, rst := 0x0 }
abbrev MIF_LAST_UE : Nat := 0x050
def MIF_LAST_UE_ADDR_LO : Field := { off := 0x050, hi := 31, lo := 0, acc := .sho, rst := 0x0 }
def MIF_LAST_UE_ADDR_HI : Field := { off := 0x054, hi := 31, lo := 0, acc := .sho, rst := 0x0 }
abbrev MIF_ECC_CORR_COUNT : Nat := 0x060
def MIF_ECC_CORR_COUNT_COUNT : Field := { off := 0x060, hi := 31, lo := 0, acc := .ro, rst := 0x0 }
abbrev MIF_ECC_UNCORR_COUNT : Nat := 0x064
def MIF_ECC_UNCORR_COUNT_COUNT : Field := { off := 0x064, hi := 31, lo := 0, acc := .ro, rst := 0x0 }
abbrev MIF_HAZARD_WAIT_COUNT : Nat := 0x068
def MIF_HAZARD_WAIT_COUNT_COUNT : Field := { off := 0x068, hi := 31, lo := 0, acc := .ro, rst := 0x0 }
abbrev MIF_MAND_REFRESH_COUNT : Nat := 0x06C
def MIF_MAND_REFRESH_COUNT_COUNT : Field := { off := 0x06C, hi := 31, lo := 0, acc := .ro, rst := 0x0 }
abbrev MIF_RETRAIN_COUNT : Nat := 0x070
def MIF_RETRAIN_COUNT_COUNT : Field := { off := 0x070, hi := 31, lo := 0, acc := .ro, rst := 0x0 }
abbrev MIF_CNT_CLEAR : Nat := 0x074
def MIF_CNT_CLEAR_CLEAR : Field := { off := 0x074, hi := 4, lo := 0, acc := .wo, rst := 0x0 }
abbrev MIF_LANE_EYE (i : Nat) : Nat := 0x080 + 4 * i
def MIF_LANE_EYE_RD_WIDTH : Field := { off := 0x080, hi := 31, lo := 24, acc := .ro, rst := 0x0, stride := 4, count := 8 }
def MIF_LANE_EYE_RD_CENTRE : Field := { off := 0x080, hi := 23, lo := 16, acc := .ro, rst := 0x0, stride := 4, count := 8 }
def MIF_LANE_EYE_WR_WIDTH : Field := { off := 0x080, hi := 15, lo := 8, acc := .ro, rst := 0x0, stride := 4, count := 8 }
def MIF_LANE_EYE_WR_CENTRE : Field := { off := 0x080, hi := 7, lo := 0, acc := .ro, rst := 0x0, stride := 4, count := 8 }
def mifFields0 : List Field :=
  [MIF_STATUS_RETRAIN_ADVISED, MIF_STATUS_REFRESH_2X, MIF_STATUS_MARGINAL, MIF_STATUS_STATE,
   MIF_TEMP_TRAIN_TEMP, MIF_TEMP_DEV1, MIF_TEMP_DEV0, MIF_CMD_RETRAIN,
   MIF_LAST_UE_ADDR_LO, MIF_LAST_UE_ADDR_HI, MIF_ECC_CORR_COUNT_COUNT, MIF_ECC_UNCORR_COUNT_COUNT,
   MIF_HAZARD_WAIT_COUNT_COUNT, MIF_MAND_REFRESH_COUNT_COUNT, MIF_RETRAIN_COUNT_COUNT, MIF_CNT_CLEAR_CLEAR,
   MIF_LANE_EYE_RD_WIDTH, MIF_LANE_EYE_RD_CENTRE, MIF_LANE_EYE_WR_WIDTH, MIF_LANE_EYE_WR_CENTRE]
def mifFields : List Field := mifFields0

/-! SPAD registers: spec/14_scratchpad.md R420. -/

abbrev SPAD_STATUS : Nat := 0x040
def SPAD_STATUS_BANKS : Field := { off := 0x040, hi := 29, lo := 24, acc := .ro, rst := 0x0 }
def SPAD_STATUS_GEN_FIRST : Field := { off := 0x040, hi := 20, lo := 16, acc := .ro, rst := 0x0 }
def SPAD_STATUS_SEQ_BANKS : Field := { off := 0x040, hi := 12, lo := 8, acc := .ro, rst := 0x0 }
def SPAD_STATUS_MODE : Field := { off := 0x040, hi := 2, lo := 0, acc := .ro, rst := 0x1 }
abbrev SPAD_BANK_FAIL : Nat := 0x044
def SPAD_BANK_FAIL_BANKS : Field := { off := 0x044, hi := 31, lo := 0, acc := .ro, rst := 0x0 }
abbrev SPAD_BANK_PINNED : Nat := 0x048
def SPAD_BANK_PINNED_BANKS : Field := { off := 0x048, hi := 31, lo := 0, acc := .ro, rst := 0x0 }
abbrev SPAD_TEST_CMD : Nat := 0x04C
def SPAD_TEST_CMD_GO : Field := { off := 0x04C, hi := 8, lo := 8, acc := .wo, rst := 0x0 }
def SPAD_TEST_CMD_BANK : Field := { off := 0x04C, hi := 4, lo := 0, acc := .wo, rst := 0x0 }
abbrev SPAD_TEST_STATUS : Nat := 0x050
def SPAD_TEST_STATUS_BUSY : Field := { off := 0x050, hi := 31, lo := 31, acc := .ro, rst := 0x0 }
def SPAD_TEST_STATUS_OUTCOME : Field := { off := 0x050, hi := 17, lo := 16, acc := .ro, rst := 0x0 }
def SPAD_TEST_STATUS_BANK : Field := { off := 0x050, hi := 4, lo := 0, acc := .ro, rst := 0x0 }
abbrev SPAD_LAST_UE : Nat := 0x058
def SPAD_LAST_UE_ADDR_LO : Field := { off := 0x058, hi := 31, lo := 0, acc := .sho, rst := 0x0 }
def SPAD_LAST_UE_ADDR_HI : Field := { off := 0x05C, hi := 31, lo := 0, acc := .sho, rst := 0x0 }
abbrev SPAD_ECC_CORR_COUNT : Nat := 0x060
def SPAD_ECC_CORR_COUNT_COUNT : Field := { off := 0x060, hi := 31, lo := 0, acc := .ro, rst := 0x0 }
abbrev SPAD_ECC_UNCORR_COUNT : Nat := 0x064
def SPAD_ECC_UNCORR_COUNT_COUNT : Field := { off := 0x064, hi := 31, lo := 0, acc := .ro, rst := 0x0 }
abbrev SPAD_CONFLICT_STALL_COUNT : Nat := 0x068
def SPAD_CONFLICT_STALL_COUNT_COUNT : Field := { off := 0x068, hi := 31, lo := 0, acc := .ro, rst := 0x0 }
abbrev SPAD_COLLISION_COUNT : Nat := 0x06C
def SPAD_COLLISION_COUNT_COUNT : Field := { off := 0x06C, hi := 31, lo := 0, acc := .ro, rst := 0x0 }
abbrev SPAD_SERIAL_COUNT : Nat := 0x070
def SPAD_SERIAL_COUNT_COUNT : Field := { off := 0x070, hi := 31, lo := 0, acc := .ro, rst := 0x0 }
abbrev SPAD_WIPE_COUNT : Nat := 0x074
def SPAD_WIPE_COUNT_COUNT : Field := { off := 0x074, hi := 31, lo := 0, acc := .ro, rst := 0x0 }
abbrev SPAD_CNT_CLEAR : Nat := 0x078
def SPAD_CNT_CLEAR_CLEAR : Field := { off := 0x078, hi := 4, lo := 0, acc := .wo, rst := 0x0 }
abbrev SPAD_SECURE : Nat := 0x07C
def SPAD_SECURE_RETAINED : Field := { off := 0x07C, hi := 8, lo := 8, acc := .ro, rst := 0x0 }
def SPAD_SECURE_LAST_CAUSE : Field := { off := 0x07C, hi := 1, lo := 0, acc := .ro, rst := 0x0 }
def spadFields0 : List Field :=
  [SPAD_STATUS_BANKS, SPAD_STATUS_GEN_FIRST, SPAD_STATUS_SEQ_BANKS, SPAD_STATUS_MODE,
   SPAD_BANK_FAIL_BANKS, SPAD_BANK_PINNED_BANKS, SPAD_TEST_CMD_GO, SPAD_TEST_CMD_BANK,
   SPAD_TEST_STATUS_BUSY, SPAD_TEST_STATUS_OUTCOME, SPAD_TEST_STATUS_BANK, SPAD_LAST_UE_ADDR_LO,
   SPAD_LAST_UE_ADDR_HI, SPAD_ECC_CORR_COUNT_COUNT, SPAD_ECC_UNCORR_COUNT_COUNT, SPAD_CONFLICT_STALL_COUNT_COUNT,
   SPAD_COLLISION_COUNT_COUNT, SPAD_SERIAL_COUNT_COUNT, SPAD_WIPE_COUNT_COUNT, SPAD_CNT_CLEAR_CLEAR,
   SPAD_SECURE_RETAINED, SPAD_SECURE_LAST_CAUSE]
def spadFields : List Field := spadFields0

/-! DMA registers: spec/15_dma_translation.md R444. -/

abbrev DMA_STATUS : Nat := 0x040
def DMA_STATUS_FAULTED : Field := { off := 0x040, hi := 31, lo := 16, acc := .ro, rst := 0x0 }
def DMA_STATUS_BUSY : Field := { off := 0x040, hi := 15, lo := 0, acc := .ro, rst := 0x0 }
abbrev DMA_PREEMPT_COUNT : Nat := 0x044
def DMA_PREEMPT_COUNT_COUNT : Field := { off := 0x044, hi := 31, lo := 0, acc := .ro, rst := 0x0 }
abbrev DMA_FAULT_COUNT : Nat := 0x048
def DMA_FAULT_COUNT_COUNT : Field := { off := 0x048, hi := 31, lo := 0, acc := .ro, rst := 0x0 }
abbrev DMA_CNT_CLEAR : Nat := 0x04C
def DMA_CNT_CLEAR_CLEAR : Field := { off := 0x04C, hi := 1, lo := 0, acc := .wo, rst := 0x0 }
abbrev DMA_Q_CTRL (i : Nat) : Nat := 0x100 + 16 * i
def DMA_Q_CTRL_OWNER : Field := { off := 0x100, hi := 31, lo := 24, acc := .ro, rst := 0x0, stride := 16, count := 16 }
def DMA_Q_CTRL_CLASS : Field := { off := 0x100, hi := 17, lo := 16, acc := .ro, rst := 0x0, stride := 16, count := 16 }
def DMA_Q_CTRL_ORPHAN : Field := { off := 0x100, hi := 8, lo := 8, acc := .rw, rst := 0x1, stride := 16, count := 16 }
abbrev DMA_Q_CMD (i : Nat) : Nat := 0x104 + 16 * i
def DMA_Q_CMD_OP : Field := { off := 0x104, hi := 2, lo := 0, acc := .wo, rst := 0x0, stride := 16, count := 16 }
abbrev DMA_Q_RING (i : Nat) : Nat := 0x108 + 16 * i
def DMA_Q_RING_TAIL : Field := { off := 0x108, hi := 29, lo := 24, acc := .rw, rst := 0x0, stride := 16, count := 16 }
def DMA_Q_RING_HEAD : Field := { off := 0x108, hi := 21, lo := 16, acc := .ro, rst := 0x0, stride := 16, count := 16 }
def DMA_Q_RING_STATE : Field := { off := 0x108, hi := 1, lo := 0, acc := .ro, rst := 0x0, stride := 16, count := 16 }
abbrev DMA_Q_DONE_COUNT (i : Nat) : Nat := 0x10C + 16 * i
def DMA_Q_DONE_COUNT_COUNT : Field := { off := 0x10C, hi := 31, lo := 0, acc := .ro, rst := 0x0, stride := 16, count := 16 }
def dmaFields0 : List Field :=
  [DMA_STATUS_FAULTED, DMA_STATUS_BUSY, DMA_PREEMPT_COUNT_COUNT, DMA_FAULT_COUNT_COUNT,
   DMA_CNT_CLEAR_CLEAR, DMA_Q_CTRL_OWNER, DMA_Q_CTRL_CLASS, DMA_Q_CTRL_ORPHAN,
   DMA_Q_CMD_OP, DMA_Q_RING_TAIL, DMA_Q_RING_HEAD, DMA_Q_RING_STATE,
   DMA_Q_DONE_COUNT_COUNT]
def dmaFields : List Field := dmaFields0

/-! DATU registers: spec/15_dma_translation.md R445. -/

abbrev DATU_ROOT : Nat := 0x040
def DATU_ROOT_ADDR_LO : Field := { off := 0x040, hi := 31, lo := 0, acc := .sho, rst := 0x0 }
def DATU_ROOT_ADDR_HI : Field := { off := 0x044, hi := 15, lo := 0, acc := .sho, rst := 0x0 }
abbrev DATU_NEW_ROOT : Nat := 0x050
def DATU_NEW_ROOT_ADDR_LO : Field := { off := 0x050, hi := 31, lo := 0, acc := .shw, rst := 0x0 }
def DATU_NEW_ROOT_ADDR_HI : Field := { off := 0x054, hi := 15, lo := 0, acc := .shw, rst := 0x0 }
abbrev DATU_VERSION : Nat := 0x048
def DATU_VERSION_VERSION : Field := { off := 0x048, hi := 31, lo := 0, acc := .ro, rst := 0x0 }
abbrev DATU_NEW_VERSION : Nat := 0x058
def DATU_NEW_VERSION_VERSION : Field := { off := 0x058, hi := 31, lo := 0, acc := .rw, rst := 0x0 }
abbrev DATU_XLAT_CMD : Nat := 0x05C
def DATU_XLAT_CMD_CANCEL : Field := { off := 0x05C, hi := 1, lo := 1, acc := .wo, rst := 0x0 }
def DATU_XLAT_CMD_COMMIT : Field := { off := 0x05C, hi := 0, lo := 0, acc := .wo, rst := 0x0 }
abbrev DATU_XLAT_STATUS : Nat := 0x060
def DATU_XLAT_STATUS_RESULT : Field := { off := 0x060, hi := 31, lo := 24, acc := .ro, rst := 0x0 }
def DATU_XLAT_STATUS_PLATE : Field := { off := 0x060, hi := 23, lo := 16, acc := .ro, rst := 0x0 }
def DATU_XLAT_STATUS_PENDING : Field := { off := 0x060, hi := 0, lo := 0, acc := .ro, rst := 0x0 }
abbrev DATU_XLAT_ADDR : Nat := 0x068
def DATU_XLAT_ADDR_ADDR_LO : Field := { off := 0x068, hi := 31, lo := 0, acc := .sho, rst := 0x0 }
def DATU_XLAT_ADDR_ADDR_HI : Field := { off := 0x06C, hi := 31, lo := 0, acc := .sho, rst := 0x0 }
abbrev DATU_FRAME_CMD : Nat := 0x070
def DATU_FRAME_CMD_OP : Field := { off := 0x070, hi := 31, lo := 28, acc := .wo, rst := 0x0 }
def DATU_FRAME_CMD_COUNT : Field := { off := 0x070, hi := 20, lo := 0, acc := .wo, rst := 0x0 }
abbrev DATU_FRAME_STATUS : Nat := 0x074
def DATU_FRAME_STATUS_BUSY : Field := { off := 0x074, hi := 31, lo := 31, acc := .ro, rst := 0x0 }
def DATU_FRAME_STATUS_RESULT : Field := { off := 0x074, hi := 23, lo := 16, acc := .ro, rst := 0x0 }
abbrev DATU_FRAME_BASE : Nat := 0x078
def DATU_FRAME_BASE_BASE_LO : Field := { off := 0x078, hi := 31, lo := 0, acc := .shw, rst := 0x0 }
def DATU_FRAME_BASE_BASE_HI : Field := { off := 0x07C, hi := 15, lo := 0, acc := .shw, rst := 0x0 }
abbrev DATU_FRAMES_OWNED : Nat := 0x080
def DATU_FRAMES_OWNED_COUNT : Field := { off := 0x080, hi := 31, lo := 0, acc := .ro, rst := 0x0 }
abbrev DATU_PLATE_CMD : Nat := 0x200
def DATU_PLATE_CMD_OP : Field := { off := 0x200, hi := 31, lo := 28, acc := .wo, rst := 0x0 }
def DATU_PLATE_CMD_PLATE : Field := { off := 0x200, hi := 7, lo := 0, acc := .wo, rst := 0x0 }
abbrev DATU_PLATE_STATUS : Nat := 0x204
def DATU_PLATE_STATUS_BUSY : Field := { off := 0x204, hi := 31, lo := 31, acc := .ro, rst := 0x0 }
def DATU_PLATE_STATUS_RESULT : Field := { off := 0x204, hi := 15, lo := 8, acc := .ro, rst := 0x0 }
def DATU_PLATE_STATUS_PLATE : Field := { off := 0x204, hi := 7, lo := 0, acc := .ro, rst := 0x0 }
def datuFields0 : List Field :=
  [DATU_ROOT_ADDR_LO, DATU_ROOT_ADDR_HI, DATU_NEW_ROOT_ADDR_LO, DATU_NEW_ROOT_ADDR_HI,
   DATU_VERSION_VERSION, DATU_NEW_VERSION_VERSION, DATU_XLAT_CMD_CANCEL, DATU_XLAT_CMD_COMMIT,
   DATU_XLAT_STATUS_RESULT, DATU_XLAT_STATUS_PLATE, DATU_XLAT_STATUS_PENDING, DATU_XLAT_ADDR_ADDR_LO,
   DATU_XLAT_ADDR_ADDR_HI, DATU_FRAME_CMD_OP, DATU_FRAME_CMD_COUNT, DATU_FRAME_STATUS_BUSY,
   DATU_FRAME_STATUS_RESULT, DATU_FRAME_BASE_BASE_LO, DATU_FRAME_BASE_BASE_HI, DATU_FRAMES_OWNED_COUNT,
   DATU_PLATE_CMD_OP, DATU_PLATE_CMD_PLATE, DATU_PLATE_STATUS_BUSY, DATU_PLATE_STATUS_RESULT,
   DATU_PLATE_STATUS_PLATE]
def datuFields : List Field := datuFields0

/-! LINK registers: spec/16_host_link_transport.md R477. -/

abbrev LINK_CTRL : Nat := 0x040
def LINK_CTRL_VLAN_ID : Field := { off := 0x040, hi := 27, lo := 16, acc := .rw, rst := 0x0 }
def LINK_CTRL_PCP : Field := { off := 0x040, hi := 10, lo := 8, acc := .rw, rst := 0x0 }
def LINK_CTRL_VLAN_EN : Field := { off := 0x040, hi := 2, lo := 2, acc := .rw, rst := 0x0 }
def LINK_CTRL_BYPASS : Field := { off := 0x040, hi := 1, lo := 1, acc := .rw, rst := 0x0 }
abbrev LINK_ADDR_CFG : Nat := 0x044
def LINK_ADDR_CFG_V6_PREFIX : Field := { off := 0x044, hi := 31, lo := 24, acc := .rw, rst := 0x40, vmin := 1, vmax := 128 }
def LINK_ADDR_CFG_V4_PREFIX : Field := { off := 0x044, hi := 23, lo := 16, acc := .rw, rst := 0x18, vmin := 1, vmax := 32 }
def LINK_ADDR_CFG_V6_MODE : Field := { off := 0x044, hi := 3, lo := 2, acc := .rw, rst := 0x0, vmin := 0, vmax := 2 }
def LINK_ADDR_CFG_V4_MODE : Field := { off := 0x044, hi := 1, lo := 0, acc := .rw, rst := 0x0, vmin := 0, vmax := 2 }
abbrev LINK_UDP : Nat := 0x048
def LINK_UDP_MTU : Field := { off := 0x048, hi := 31, lo := 16, acc := .rw, rst := 0x2400, vmin := 4352, vmax := 9216 }
def LINK_UDP_PORT : Field := { off := 0x048, hi := 15, lo := 0, acc := .rw, rst := 0xB86A }
abbrev LINK_STATUS : Nat := 0x04C
def LINK_STATUS_V6_STATE : Field := { off := 0x04C, hi := 7, lo := 6, acc := .ro, rst := 0x0 }
def LINK_STATUS_V4_STATE : Field := { off := 0x04C, hi := 5, lo := 4, acc := .ro, rst := 0x0 }
def LINK_STATUS_BYPASSED : Field := { off := 0x04C, hi := 3, lo := 3, acc := .ro, rst := 0x0 }
def LINK_STATUS_ALIGNED : Field := { off := 0x04C, hi := 2, lo := 2, acc := .ro, rst := 0x0 }
def LINK_STATUS_LOS : Field := { off := 0x04C, hi := 1, lo := 1, acc := .ro, rst := 0x1 }
def LINK_STATUS_UP : Field := { off := 0x04C, hi := 0, lo := 0, acc := .ro, rst := 0x0 }
abbrev LINK_MAC : Nat := 0x050
def LINK_MAC_MAC_LO : Field := { off := 0x050, hi := 31, lo := 0, acc := .sho, rst := 0x0 }
def LINK_MAC_MAC_HI : Field := { off := 0x054, hi := 15, lo := 0, acc := .sho, rst := 0x0 }
abbrev LINK_V4_ADDR : Nat := 0x058
def LINK_V4_ADDR_ADDR : Field := { off := 0x058, hi := 31, lo := 0, acc := .rw, rst := 0x0 }
abbrev LINK_V4_GW : Nat := 0x05C
def LINK_V4_GW_ADDR : Field := { off := 0x05C, hi := 31, lo := 0, acc := .rw, rst := 0x0 }
abbrev LINK_V6_ADDR (i : Nat) : Nat := 0x060 + 4 * i
def LINK_V6_ADDR_ADDR : Field := { off := 0x060, hi := 31, lo := 0, acc := .rw, rst := 0x0, stride := 4, count := 4 }
abbrev LINK_V6_GW (i : Nat) : Nat := 0x070 + 4 * i
def LINK_V6_GW_ADDR : Field := { off := 0x070, hi := 31, lo := 0, acc := .rw, rst := 0x0, stride := 4, count := 4 }
abbrev LINK_RX_FRAMES : Nat := 0x080
def LINK_RX_FRAMES_COUNT_LO : Field := { off := 0x080, hi := 31, lo := 0, acc := .sho, rst := 0x0 }
def LINK_RX_FRAMES_COUNT_HI : Field := { off := 0x084, hi := 31, lo := 0, acc := .sho, rst := 0x0 }
abbrev LINK_TX_FRAMES : Nat := 0x088
def LINK_TX_FRAMES_COUNT_LO : Field := { off := 0x088, hi := 31, lo := 0, acc := .sho, rst := 0x0 }
def LINK_TX_FRAMES_COUNT_HI : Field := { off := 0x08C, hi := 31, lo := 0, acc := .sho, rst := 0x0 }
abbrev LINK_RX_FCS_ERR : Nat := 0x090
def LINK_RX_FCS_ERR_COUNT_LO : Field := { off := 0x090, hi := 31, lo := 0, acc := .sho, rst := 0x0 }
def LINK_RX_FCS_ERR_COUNT_HI : Field := { off := 0x094, hi := 31, lo := 0, acc := .sho, rst := 0x0 }
abbrev LINK_RX_DISCARD : Nat := 0x098
def LINK_RX_DISCARD_COUNT_LO : Field := { off := 0x098, hi := 31, lo := 0, acc := .sho, rst := 0x0 }
def LINK_RX_DISCARD_COUNT_HI : Field := { off := 0x09C, hi := 31, lo := 0, acc := .sho, rst := 0x0 }
abbrev LINK_FEC_CORR : Nat := 0x0A0
def LINK_FEC_CORR_COUNT_LO : Field := { off := 0x0A0, hi := 31, lo := 0, acc := .sho, rst := 0x0 }
def LINK_FEC_CORR_COUNT_HI : Field := { off := 0x0A4, hi := 31, lo := 0, acc := .sho, rst := 0x0 }
abbrev LINK_FEC_UNCORR : Nat := 0x0A8
def LINK_FEC_UNCORR_COUNT_LO : Field := { off := 0x0A8, hi := 31, lo := 0, acc := .sho, rst := 0x0 }
def LINK_FEC_UNCORR_COUNT_HI : Field := { off := 0x0AC, hi := 31, lo := 0, acc := .sho, rst := 0x0 }
abbrev LINK_CNT_CLEAR : Nat := 0x0B0
def LINK_CNT_CLEAR_CLEAR : Field := { off := 0x0B0, hi := 5, lo := 0, acc := .wo, rst := 0x0 }
def linkFields0 : List Field :=
  [LINK_CTRL_VLAN_ID, LINK_CTRL_PCP, LINK_CTRL_VLAN_EN, LINK_CTRL_BYPASS,
   LINK_ADDR_CFG_V6_PREFIX, LINK_ADDR_CFG_V4_PREFIX, LINK_ADDR_CFG_V6_MODE, LINK_ADDR_CFG_V4_MODE,
   LINK_UDP_MTU, LINK_UDP_PORT, LINK_STATUS_V6_STATE, LINK_STATUS_V4_STATE,
   LINK_STATUS_BYPASSED, LINK_STATUS_ALIGNED, LINK_STATUS_LOS, LINK_STATUS_UP,
   LINK_MAC_MAC_LO, LINK_MAC_MAC_HI, LINK_V4_ADDR_ADDR, LINK_V4_GW_ADDR,
   LINK_V6_ADDR_ADDR, LINK_V6_GW_ADDR, LINK_RX_FRAMES_COUNT_LO, LINK_RX_FRAMES_COUNT_HI,
   LINK_TX_FRAMES_COUNT_LO, LINK_TX_FRAMES_COUNT_HI, LINK_RX_FCS_ERR_COUNT_LO, LINK_RX_FCS_ERR_COUNT_HI,
   LINK_RX_DISCARD_COUNT_LO, LINK_RX_DISCARD_COUNT_HI, LINK_FEC_CORR_COUNT_LO, LINK_FEC_CORR_COUNT_HI,
   LINK_FEC_UNCORR_COUNT_LO, LINK_FEC_UNCORR_COUNT_HI, LINK_CNT_CLEAR_CLEAR]
def linkFields : List Field := linkFields0

/-! XPORT registers: spec/16_host_link_transport.md R478. -/

abbrev XPORT_SESSION : Nat := 0x040
def XPORT_SESSION_HOST_ID : Field := { off := 0x040, hi := 31, lo := 16, acc := .ro, rst := 0x0 }
def XPORT_SESSION_PREF : Field := { off := 0x040, hi := 10, lo := 10, acc := .rw, rst := 0x0 }
def XPORT_SESSION_CURRENT : Field := { off := 0x040, hi := 9, lo := 9, acc := .ro, rst := 0x0 }
def XPORT_SESSION_DUAL : Field := { off := 0x040, hi := 8, lo := 8, acc := .ro, rst := 0x0 }
def XPORT_SESSION_NUMBER : Field := { off := 0x040, hi := 7, lo := 0, acc := .ro, rst := 0x0 }
abbrev XPORT_LEASE : Nat := 0x044
def XPORT_LEASE_GRACE_S : Field := { off := 0x044, hi := 31, lo := 16, acc := .rw, rst := 0xA, vmin := 0, vmax := 3600 }
def XPORT_LEASE_LEASE_MS : Field := { off := 0x044, hi := 15, lo := 0, acc := .rw, rst := 0xA, vmin := 10, vmax := 60000 }
abbrev XPORT_ORPHAN : Nat := 0x048
def XPORT_ORPHAN_ACQ : Field := { off := 0x048, hi := 0, lo := 0, acc := .rw, rst := 0x1 }
abbrev XPORT_RETX : Nat := 0x04C
def XPORT_RETX_RETX_US : Field := { off := 0x04C, hi := 15, lo := 0, acc := .rw, rst := 0xC8, vmin := 20, vmax := 65535 }
abbrev XPORT_OWN_CMD : Nat := 0x050
def XPORT_OWN_CMD_OP : Field := { off := 0x050, hi := 31, lo := 28, acc := .wo, rst := 0x0 }
def XPORT_OWN_CMD_PAGE : Field := { off := 0x050, hi := 11, lo := 0, acc := .wo, rst := 0x0 }
abbrev XPORT_OWN_STATUS : Nat := 0x054
def XPORT_OWN_STATUS_BUSY : Field := { off := 0x054, hi := 31, lo := 31, acc := .ro, rst := 0x0 }
def XPORT_OWN_STATUS_RESULT : Field := { off := 0x054, hi := 23, lo := 16, acc := .ro, rst := 0x0 }
def XPORT_OWN_STATUS_PAGE : Field := { off := 0x054, hi := 11, lo := 0, acc := .ro, rst := 0x0 }
abbrev XPORT_SESSION_MAP : Nat := 0x058
def XPORT_SESSION_MAP_STATE : Field := { off := 0x058, hi := 31, lo := 0, acc := .ro, rst := 0x0 }
abbrev XPORT_GRANT : Nat := 0x060
def XPORT_GRANT_COUNT : Field := { off := 0x060, hi := 31, lo := 0, acc := .ro, rst := 0x0 }
abbrev XPORT_SENT : Nat := 0x064
def XPORT_SENT_COUNT : Field := { off := 0x064, hi := 31, lo := 0, acc := .ro, rst := 0x0 }
abbrev XPORT_CONFIRMED : Nat := 0x068
def XPORT_CONFIRMED_COUNT : Field := { off := 0x068, hi := 31, lo := 0, acc := .ro, rst := 0x0 }
abbrev XPORT_RETURNED : Nat := 0x06C
def XPORT_RETURNED_COUNT : Field := { off := 0x06C, hi := 31, lo := 0, acc := .ro, rst := 0x0 }
abbrev XPORT_CMD_OUT : Nat := 0x070
def XPORT_CMD_OUT_OUT : Field := { off := 0x070, hi := 8, lo := 0, acc := .ro, rst := 0x0 }
abbrev XPORT_POSTED_FAIL_COUNT : Nat := 0x080
def XPORT_POSTED_FAIL_COUNT_COUNT : Field := { off := 0x080, hi := 31, lo := 0, acc := .ro, rst := 0x0 }
abbrev XPORT_RETX_COUNT : Nat := 0x084
def XPORT_RETX_COUNT_COUNT : Field := { off := 0x084, hi := 31, lo := 0, acc := .ro, rst := 0x0 }
abbrev XPORT_DUP_COUNT : Nat := 0x088
def XPORT_DUP_COUNT_COUNT : Field := { off := 0x088, hi := 31, lo := 0, acc := .ro, rst := 0x0 }
abbrev XPORT_DISCARD_COUNT_S : Nat := 0x08C
def XPORT_DISCARD_COUNT_S_COUNT : Field := { off := 0x08C, hi := 31, lo := 0, acc := .ro, rst := 0x0 }
abbrev XPORT_CREDIT_OVERRUN_COUNT : Nat := 0x090
def XPORT_CREDIT_OVERRUN_COUNT_COUNT : Field := { off := 0x090, hi := 31, lo := 0, acc := .ro, rst := 0x0 }
abbrev XPORT_GAP_BLOCK_COUNT : Nat := 0x094
def XPORT_GAP_BLOCK_COUNT_COUNT : Field := { off := 0x094, hi := 31, lo := 0, acc := .ro, rst := 0x0 }
abbrev XPORT_FAILOVER_COUNT : Nat := 0x098
def XPORT_FAILOVER_COUNT_COUNT : Field := { off := 0x098, hi := 31, lo := 0, acc := .ro, rst := 0x0 }
abbrev XPORT_DISCARD_COUNT : Nat := 0x0C0
def XPORT_DISCARD_COUNT_COUNT : Field := { off := 0x0C0, hi := 31, lo := 0, acc := .ro, rst := 0x0 }
abbrev XPORT_OPEN_FAIL_COUNT : Nat := 0x0C4
def XPORT_OPEN_FAIL_COUNT_COUNT : Field := { off := 0x0C4, hi := 31, lo := 0, acc := .ro, rst := 0x0 }
abbrev XPORT_CNT_CLEAR : Nat := 0x0D0
def XPORT_CNT_CLEAR_MODULE : Field := { off := 0x0D0, hi := 9, lo := 8, acc := .wo, rst := 0x0 }
def XPORT_CNT_CLEAR_SESSION : Field := { off := 0x0D0, hi := 6, lo := 0, acc := .wo, rst := 0x0 }
def xportFields0 : List Field :=
  [XPORT_SESSION_HOST_ID, XPORT_SESSION_PREF, XPORT_SESSION_CURRENT, XPORT_SESSION_DUAL,
   XPORT_SESSION_NUMBER, XPORT_LEASE_GRACE_S, XPORT_LEASE_LEASE_MS, XPORT_ORPHAN_ACQ,
   XPORT_RETX_RETX_US, XPORT_OWN_CMD_OP, XPORT_OWN_CMD_PAGE, XPORT_OWN_STATUS_BUSY,
   XPORT_OWN_STATUS_RESULT, XPORT_OWN_STATUS_PAGE, XPORT_SESSION_MAP_STATE, XPORT_GRANT_COUNT,
   XPORT_SENT_COUNT, XPORT_CONFIRMED_COUNT, XPORT_RETURNED_COUNT, XPORT_CMD_OUT_OUT,
   XPORT_POSTED_FAIL_COUNT_COUNT, XPORT_RETX_COUNT_COUNT, XPORT_DUP_COUNT_COUNT, XPORT_DISCARD_COUNT_S_COUNT,
   XPORT_CREDIT_OVERRUN_COUNT_COUNT, XPORT_GAP_BLOCK_COUNT_COUNT, XPORT_FAILOVER_COUNT_COUNT, XPORT_DISCARD_COUNT_COUNT,
   XPORT_OPEN_FAIL_COUNT_COUNT, XPORT_CNT_CLEAR_MODULE, XPORT_CNT_CLEAR_SESSION]
def xportFields : List Field := xportFields0

/-! NOTE registers: spec/16_host_link_transport.md R479. -/

abbrev NOTE_QUEUE : Nat := 0x040
def NOTE_QUEUE_DEPTH : Field := { off := 0x040, hi := 10, lo := 0, acc := .ro, rst := 0x0 }
abbrev NOTE_NEXT_NSEQ : Nat := 0x044
def NOTE_NEXT_NSEQ_VALUE : Field := { off := 0x044, hi := 31, lo := 0, acc := .ro, rst := 0x0 }
abbrev NOTE_LOST_PENDING : Nat := 0x048
def NOTE_LOST_PENDING_VALUE : Field := { off := 0x048, hi := 31, lo := 0, acc := .ro, rst := 0x0 }
abbrev NOTE_LOST_TOTAL : Nat := 0x04C
def NOTE_LOST_TOTAL_VALUE : Field := { off := 0x04C, hi := 31, lo := 0, acc := .ro, rst := 0x0 }
abbrev NOTE_MASKED_COUNT : Nat := 0x050
def NOTE_MASKED_COUNT_VALUE : Field := { off := 0x050, hi := 31, lo := 0, acc := .ro, rst := 0x0 }
abbrev NOTE_CNT_CLEAR : Nat := 0x054
def NOTE_CNT_CLEAR_CLEAR : Field := { off := 0x054, hi := 1, lo := 0, acc := .wo, rst := 0x0 }
def noteFields0 : List Field :=
  [NOTE_QUEUE_DEPTH, NOTE_NEXT_NSEQ_VALUE, NOTE_LOST_PENDING_VALUE, NOTE_LOST_TOTAL_VALUE,
   NOTE_MASKED_COUNT_VALUE, NOTE_CNT_CLEAR_CLEAR]
def noteFields : List Field := noteFields0

/-! HDR registers: spec/17_register_map.md R484. -/

abbrev HDR_PAGE_ID : Nat := 0x000
def HDR_PAGE_ID_TYPE : Field := { off := 0x000, hi := 31, lo := 16, acc := .ro, rst := 0x0 }
def HDR_PAGE_ID_INSTANCE : Field := { off := 0x000, hi := 15, lo := 8, acc := .ro, rst := 0x0 }
def HDR_PAGE_ID_LAYOUT : Field := { off := 0x000, hi := 7, lo := 0, acc := .ro, rst := 0x1 }
abbrev HDR_PAGE_CAPS : Nat := 0x004
def HDR_PAGE_CAPS_INSTANCES : Field := { off := 0x004, hi := 31, lo := 24, acc := .ro, rst := 0x0 }
def HDR_PAGE_CAPS_PARK_CAP : Field := { off := 0x004, hi := 2, lo := 2, acc := .ro, rst := 0x0 }
def HDR_PAGE_CAPS_RESET_CAP : Field := { off := 0x004, hi := 1, lo := 1, acc := .ro, rst := 0x0 }
def HDR_PAGE_CAPS_PER_SESSION : Field := { off := 0x004, hi := 0, lo := 0, acc := .ro, rst := 0x0 }
abbrev HDR_PAGE_OWNER : Nat := 0x008
def HDR_PAGE_OWNER_OWNER : Field := { off := 0x008, hi := 7, lo := 0, acc := .ro, rst := 0x0 }
abbrev HDR_PAGE_CTRL : Nat := 0x00C
def HDR_PAGE_CTRL_BUSY : Field := { off := 0x00C, hi := 9, lo := 9, acc := .ro, rst := 0x0 }
def HDR_PAGE_CTRL_READY : Field := { off := 0x00C, hi := 8, lo := 8, acc := .ro, rst := 0x0 }
def HDR_PAGE_CTRL_FAULT_CLR : Field := { off := 0x00C, hi := 3, lo := 3, acc := .wo, rst := 0x0 }
def HDR_PAGE_CTRL_PARK : Field := { off := 0x00C, hi := 2, lo := 2, acc := .rw, rst := 0x0 }
def HDR_PAGE_CTRL_RESET : Field := { off := 0x00C, hi := 1, lo := 1, acc := .wo, rst := 0x0 }
def HDR_PAGE_CTRL_EN : Field := { off := 0x00C, hi := 0, lo := 0, acc := .rw, rst := 0x1 }
abbrev HDR_PAGE_NOTICE_MASK : Nat := 0x014
def HDR_PAGE_NOTICE_MASK_MASK : Field := { off := 0x014, hi := 31, lo := 0, acc := .rw, rst := 0xFFFFFFFF }
abbrev HDR_PAGE_NOTICE_RAW : Nat := 0x018
def HDR_PAGE_NOTICE_RAW_RAW : Field := { off := 0x018, hi := 31, lo := 0, acc := .w1c, rst := 0x0 }
abbrev HDR_PAGE_FAULT : Nat := 0x01C
def HDR_PAGE_FAULT_MORE : Field := { off := 0x01C, hi := 31, lo := 24, acc := .ro, rst := 0x0 }
def HDR_PAGE_FAULT_DETAIL : Field := { off := 0x01C, hi := 23, lo := 16, acc := .ro, rst := 0x0 }
def HDR_PAGE_FAULT_CODE : Field := { off := 0x01C, hi := 15, lo := 0, acc := .ro, rst := 0x0 }
def hdrFields0 : List Field :=
  [HDR_PAGE_ID_TYPE, HDR_PAGE_ID_INSTANCE, HDR_PAGE_ID_LAYOUT, HDR_PAGE_CAPS_INSTANCES,
   HDR_PAGE_CAPS_PARK_CAP, HDR_PAGE_CAPS_RESET_CAP, HDR_PAGE_CAPS_PER_SESSION, HDR_PAGE_OWNER_OWNER,
   HDR_PAGE_CTRL_BUSY, HDR_PAGE_CTRL_READY, HDR_PAGE_CTRL_FAULT_CLR, HDR_PAGE_CTRL_PARK,
   HDR_PAGE_CTRL_RESET, HDR_PAGE_CTRL_EN, HDR_PAGE_NOTICE_MASK_MASK, HDR_PAGE_NOTICE_RAW_RAW,
   HDR_PAGE_FAULT_MORE, HDR_PAGE_FAULT_DETAIL, HDR_PAGE_FAULT_CODE]
def hdrFields : List Field := hdrFields0

/-! DEV registers: spec/17_register_map.md R498. -/

abbrev DEV_ID : Nat := 0x040
def DEV_ID_PART : Field := { off := 0x040, hi := 31, lo := 16, acc := .ro, rst := 0x0 }
def DEV_ID_MAP_LAYOUT : Field := { off := 0x040, hi := 15, lo := 8, acc := .ro, rst := 0x1 }
def DEV_ID_STEPPING : Field := { off := 0x040, hi := 7, lo := 0, acc := .ro, rst := 0x0 }
abbrev DEV_COUNTS : Nat := 0x044
def DEV_COUNTS_MIFS : Field := { off := 0x044, hi := 31, lo := 24, acc := .ro, rst := 0x0 }
def DEV_COUNTS_PAT_GROUPS : Field := { off := 0x044, hi := 23, lo := 16, acc := .ro, rst := 0x0 }
def DEV_COUNTS_CAPS : Field := { off := 0x044, hi := 15, lo := 8, acc := .ro, rst := 0x0 }
def DEV_COUNTS_GENS : Field := { off := 0x044, hi := 7, lo := 0, acc := .ro, rst := 0x0 }
abbrev DEV_MEMORY : Nat := 0x048
def DEV_MEMORY_SPAD_BANKS : Field := { off := 0x048, hi := 31, lo := 24, acc := .ro, rst := 0x0 }
def DEV_MEMORY_GRAVERS : Field := { off := 0x048, hi := 23, lo := 16, acc := .ro, rst := 0x0 }
def DEV_MEMORY_RT_PORTS : Field := { off := 0x048, hi := 15, lo := 8, acc := .ro, rst := 0x0 }
def DEV_MEMORY_DRAM_GIB : Field := { off := 0x048, hi := 7, lo := 0, acc := .ro, rst := 0x0 }
abbrev DEV_SERIAL : Nat := 0x050
def DEV_SERIAL_SERIAL_LO : Field := { off := 0x050, hi := 31, lo := 0, acc := .sho, rst := 0x0 }
def DEV_SERIAL_SERIAL_HI : Field := { off := 0x054, hi := 31, lo := 0, acc := .sho, rst := 0x0 }
abbrev DEV_FW_SIGNET : Nat := 0x058
def DEV_FW_SIGNET_MAJOR : Field := { off := 0x058, hi := 31, lo := 24, acc := .ro, rst := 0x0 }
def DEV_FW_SIGNET_MINOR : Field := { off := 0x058, hi := 23, lo := 8, acc := .ro, rst := 0x0 }
def DEV_FW_SIGNET_IMAGE : Field := { off := 0x058, hi := 0, lo := 0, acc := .ro, rst := 0x0 }
abbrev DEV_FW_ATELIER : Nat := 0x05C
def DEV_FW_ATELIER_MAJOR : Field := { off := 0x05C, hi := 31, lo := 24, acc := .ro, rst := 0x0 }
def DEV_FW_ATELIER_MINOR : Field := { off := 0x05C, hi := 23, lo := 8, acc := .ro, rst := 0x0 }
def DEV_FW_ATELIER_IMAGE : Field := { off := 0x05C, hi := 0, lo := 0, acc := .ro, rst := 0x0 }
abbrev DEV_FW_STATUS : Nat := 0x060
def DEV_FW_STATUS_SIGNET_READY : Field := { off := 0x060, hi := 1, lo := 1, acc := .ro, rst := 0x0 }
def DEV_FW_STATUS_ATELIER_READY : Field := { off := 0x060, hi := 0, lo := 0, acc := .ro, rst := 0x0 }
abbrev DEV_ATELIER_RESTARTS : Nat := 0x064
def DEV_ATELIER_RESTARTS_COUNT : Field := { off := 0x064, hi := 31, lo := 0, acc := .ro, rst := 0x0 }
abbrev DEV_SESSION_SELF : Nat := 0x068
def DEV_SESSION_SELF_VALUE : Field := { off := 0x068, hi := 31, lo := 0, acc := .ro, rst := 0x0 }
abbrev DEV_SCRATCH : Nat := 0x06C
def DEV_SCRATCH_VALUE : Field := { off := 0x06C, hi := 31, lo := 0, acc := .rw, rst := 0x0 }
abbrev DEV_RESET_INFO : Nat := 0x070
def DEV_RESET_INFO_CAUSE : Field := { off := 0x070, hi := 3, lo := 0, acc := .ro, rst := 0x0 }
abbrev DEV_RESET_CMD : Nat := 0x074
def DEV_RESET_CMD_KEY : Field := { off := 0x074, hi := 31, lo := 16, acc := .wo, rst := 0x0 }
def DEV_RESET_CMD_GO : Field := { off := 0x074, hi := 0, lo := 0, acc := .wo, rst := 0x0 }
def devFields0 : List Field :=
  [DEV_ID_PART, DEV_ID_MAP_LAYOUT, DEV_ID_STEPPING, DEV_COUNTS_MIFS,
   DEV_COUNTS_PAT_GROUPS, DEV_COUNTS_CAPS, DEV_COUNTS_GENS, DEV_MEMORY_SPAD_BANKS,
   DEV_MEMORY_GRAVERS, DEV_MEMORY_RT_PORTS, DEV_MEMORY_DRAM_GIB, DEV_SERIAL_SERIAL_LO,
   DEV_SERIAL_SERIAL_HI, DEV_FW_SIGNET_MAJOR, DEV_FW_SIGNET_MINOR, DEV_FW_SIGNET_IMAGE,
   DEV_FW_ATELIER_MAJOR, DEV_FW_ATELIER_MINOR, DEV_FW_ATELIER_IMAGE, DEV_FW_STATUS_SIGNET_READY,
   DEV_FW_STATUS_ATELIER_READY, DEV_ATELIER_RESTARTS_COUNT, DEV_SESSION_SELF_VALUE, DEV_SCRATCH_VALUE,
   DEV_RESET_INFO_CAUSE, DEV_RESET_CMD_KEY, DEV_RESET_CMD_GO]
def devFields : List Field := devFields0

/-! TRUST registers: spec/18_trust_lifecycle.md R526. -/

abbrev TRUST_LIFECYCLE : Nat := 0x040
def TRUST_LIFECYCLE_EPOCHS_LEFT : Field := { off := 0x040, hi := 25, lo := 16, acc := .ro, rst := 0x0 }
def TRUST_LIFECYCLE_ALARM : Field := { off := 0x040, hi := 8, lo := 8, acc := .ro, rst := 0x0 }
def TRUST_LIFECYCLE_STATE : Field := { off := 0x040, hi := 2, lo := 0, acc := .ro, rst := 0x0 }
abbrev TRUST_CMD : Nat := 0x044
def TRUST_CMD_OP : Field := { off := 0x044, hi := 31, lo := 28, acc := .wo, rst := 0x0 }
abbrev TRUST_SRC : Nat := 0x048
def TRUST_SRC_SRC_LO : Field := { off := 0x048, hi := 31, lo := 0, acc := .shw, rst := 0x0 }
def TRUST_SRC_SRC_HI : Field := { off := 0x04C, hi := 15, lo := 0, acc := .shw, rst := 0x0 }
abbrev TRUST_LENGTH : Nat := 0x050
def TRUST_LENGTH_BYTES : Field := { off := 0x050, hi := 31, lo := 0, acc := .rw, rst := 0x0 }
abbrev TRUST_CMD_STATUS : Nat := 0x054
def TRUST_CMD_STATUS_BUSY : Field := { off := 0x054, hi := 31, lo := 31, acc := .ro, rst := 0x0 }
def TRUST_CMD_STATUS_RESULT : Field := { off := 0x054, hi := 23, lo := 16, acc := .ro, rst := 0x0 }
def TRUST_CMD_STATUS_OP : Field := { off := 0x054, hi := 3, lo := 0, acc := .ro, rst := 0x0 }
abbrev TRUST_TAMPER : Nat := 0x058
def TRUST_TAMPER_LAST_CAUSE : Field := { off := 0x058, hi := 9, lo := 8, acc := .ro, rst := 0x0 }
def TRUST_TAMPER_LID_OPEN : Field := { off := 0x058, hi := 2, lo := 2, acc := .ro, rst := 0x0 }
def TRUST_TAMPER_LOOP_BROKEN : Field := { off := 0x058, hi := 1, lo := 1, acc := .ro, rst := 0x0 }
def TRUST_TAMPER_LOOP_EN : Field := { off := 0x058, hi := 0, lo := 0, acc := .ro, rst := 0x0 }
abbrev TRUST_FW : Nat := 0x05C
def TRUST_FW_SEC_MIN : Field := { off := 0x05C, hi := 31, lo := 24, acc := .ro, rst := 0x0 }
def TRUST_FW_ATELIER_STATE : Field := { off := 0x05C, hi := 7, lo := 6, acc := .ro, rst := 0x0 }
def TRUST_FW_TRIAL : Field := { off := 0x05C, hi := 5, lo := 5, acc := .ro, rst := 0x0 }
def TRUST_FW_PREFERRED : Field := { off := 0x05C, hi := 4, lo := 4, acc := .ro, rst := 0x0 }
def TRUST_FW_B_VALID : Field := { off := 0x05C, hi := 3, lo := 3, acc := .ro, rst := 0x0 }
def TRUST_FW_A_VALID : Field := { off := 0x05C, hi := 2, lo := 2, acc := .ro, rst := 0x0 }
abbrev TRUST_KEYS : Nat := 0x060
def TRUST_KEYS_VALUE : Field := { off := 0x060, hi := 31, lo := 0, acc := .ro, rst := 0x0 }
abbrev TRUST_BUNDLE_CTR : Nat := 0x064
def TRUST_BUNDLE_CTR_VALUE : Field := { off := 0x064, hi := 31, lo := 0, acc := .ro, rst := 0x0 }
abbrev TRUST_HOURS : Nat := 0x068
def TRUST_HOURS_VALUE : Field := { off := 0x068, hi := 31, lo := 0, acc := .ro, rst := 0x0 }
abbrev TRUST_FLASH : Nat := 0x06C
def TRUST_FLASH_REFRESHING : Field := { off := 0x06C, hi := 16, lo := 16, acc := .ro, rst := 0x0 }
def TRUST_FLASH_RECORDS_BAD : Field := { off := 0x06C, hi := 15, lo := 0, acc := .ro, rst := 0x0 }
abbrev TRUST_JOURNAL_HEAD : Nat := 0x070
def TRUST_JOURNAL_HEAD_INDEX : Field := { off := 0x070, hi := 11, lo := 0, acc := .ro, rst := 0x0 }
abbrev TRUST_JOURNAL_SEL : Nat := 0x074
def TRUST_JOURNAL_SEL_INDEX : Field := { off := 0x074, hi := 11, lo := 0, acc := .rw, rst := 0x0 }
abbrev TRUST_JOURNAL_ENTRY (i : Nat) : Nat := 0x080 + 4 * i
def TRUST_JOURNAL_ENTRY_WORD : Field := { off := 0x080, hi := 31, lo := 0, acc := .ro, rst := 0x0, stride := 4, count := 8 }
abbrev TRUST_SETTINGS (i : Nat) : Nat := 0x400 + 4 * i
def TRUST_SETTINGS_WORD : Field := { off := 0x400, hi := 31, lo := 0, acc := .ro, rst := 0x0, stride := 4, count := 64 }
def trustFields0 : List Field :=
  [TRUST_LIFECYCLE_EPOCHS_LEFT, TRUST_LIFECYCLE_ALARM, TRUST_LIFECYCLE_STATE, TRUST_CMD_OP,
   TRUST_SRC_SRC_LO, TRUST_SRC_SRC_HI, TRUST_LENGTH_BYTES, TRUST_CMD_STATUS_BUSY,
   TRUST_CMD_STATUS_RESULT, TRUST_CMD_STATUS_OP, TRUST_TAMPER_LAST_CAUSE, TRUST_TAMPER_LID_OPEN,
   TRUST_TAMPER_LOOP_BROKEN, TRUST_TAMPER_LOOP_EN, TRUST_FW_SEC_MIN, TRUST_FW_ATELIER_STATE,
   TRUST_FW_TRIAL, TRUST_FW_PREFERRED, TRUST_FW_B_VALID, TRUST_FW_A_VALID,
   TRUST_KEYS_VALUE, TRUST_BUNDLE_CTR_VALUE, TRUST_HOURS_VALUE, TRUST_FLASH_REFRESHING,
   TRUST_FLASH_RECORDS_BAD, TRUST_JOURNAL_HEAD_INDEX, TRUST_JOURNAL_SEL_INDEX, TRUST_JOURNAL_ENTRY_WORD,
   TRUST_SETTINGS_WORD]
def trustFields : List Field := trustFields0

/-! PWR registers: spec/19_power_thermal_faults.md R550. -/

abbrev PWR_FEED_STATUS : Nat := 0x040
def PWR_FEED_STATUS_ISOLATED : Field := { off := 0x040, hi := 9, lo := 8, acc := .ro, rst := 0x0 }
def PWR_FEED_STATUS_SUPPLYING : Field := { off := 0x040, hi := 5, lo := 4, acc := .ro, rst := 0x0 }
def PWR_FEED_STATUS_FEED1 : Field := { off := 0x040, hi := 3, lo := 2, acc := .ro, rst := 0x0 }
def PWR_FEED_STATUS_FEED0 : Field := { off := 0x040, hi := 1, lo := 0, acc := .ro, rst := 0x0 }
abbrev PWR_FEED0_MEAS : Nat := 0x044
def PWR_FEED0_MEAS_VOLTS : Field := { off := 0x044, hi := 31, lo := 16, acc := .ro, rst := 0x0 }
def PWR_FEED0_MEAS_MILLIAMPS : Field := { off := 0x044, hi := 15, lo := 0, acc := .ro, rst := 0x0 }
abbrev PWR_FEED1_MEAS : Nat := 0x048
def PWR_FEED1_MEAS_VOLTS : Field := { off := 0x048, hi := 31, lo := 16, acc := .ro, rst := 0x0 }
def PWR_FEED1_MEAS_MILLIAMPS : Field := { off := 0x048, hi := 15, lo := 0, acc := .ro, rst := 0x0 }
abbrev PWR_INPUT_POWER : Nat := 0x04C
def PWR_INPUT_POWER_POWER : Field := { off := 0x04C, hi := 15, lo := 0, acc := .ro, rst := 0x0 }
abbrev PWR_FEED_CTRL : Nat := 0x050
def PWR_FEED_CTRL_ISOLATE1 : Field := { off := 0x050, hi := 1, lo := 1, acc := .rw, rst := 0x0 }
def PWR_FEED_CTRL_ISOLATE0 : Field := { off := 0x050, hi := 0, lo := 0, acc := .rw, rst := 0x0 }
abbrev PWR_REST_CFG : Nat := 0x054
def PWR_REST_CFG_WAKE_SYNC : Field := { off := 0x054, hi := 9, lo := 8, acc := .rw, rst := 0x0 }
def PWR_REST_CFG_WAKE_TRIG : Field := { off := 0x054, hi := 7, lo := 4, acc := .rw, rst := 0x0 }
def PWR_REST_CFG_PORT : Field := { off := 0x054, hi := 0, lo := 0, acc := .rw, rst := 0x0 }
abbrev PWR_REST_CMD : Nat := 0x058
def PWR_REST_CMD_WAKE : Field := { off := 0x058, hi := 1, lo := 1, acc := .wo, rst := 0x0 }
def PWR_REST_CMD_ENTER : Field := { off := 0x058, hi := 0, lo := 0, acc := .wo, rst := 0x0 }
abbrev PWR_REST_STATUS : Nat := 0x05C
def PWR_REST_STATUS_LAST_WAKE : Field := { off := 0x05C, hi := 11, lo := 8, acc := .ro, rst := 0x0 }
def PWR_REST_STATUS_STATE : Field := { off := 0x05C, hi := 1, lo := 0, acc := .ro, rst := 0x0 }
abbrev PWR_LAST_WAKE_TIME : Nat := 0x060
def PWR_LAST_WAKE_TIME_TIME_LO : Field := { off := 0x060, hi := 31, lo := 0, acc := .sho, rst := 0x0 }
def PWR_LAST_WAKE_TIME_TIME_HI : Field := { off := 0x064, hi := 31, lo := 0, acc := .sho, rst := 0x0 }
abbrev PWR_LOOP_CMD : Nat := 0x068
def PWR_LOOP_CMD_GO : Field := { off := 0x068, hi := 8, lo := 8, acc := .wo, rst := 0x0 }
def PWR_LOOP_CMD_CHANNEL : Field := { off := 0x068, hi := 1, lo := 0, acc := .wo, rst := 0x0 }
abbrev PWR_LOOP_RESULT : Nat := 0x06C
def PWR_LOOP_RESULT_TIME_ERR : Field := { off := 0x06C, hi := 31, lo := 16, acc := .ro, rst := 0x0 }
def PWR_LOOP_RESULT_AMPL_ERR : Field := { off := 0x06C, hi := 15, lo := 0, acc := .ro, rst := 0x0 }
abbrev PWR_LOOP_STATUS : Nat := 0x070
def PWR_LOOP_STATUS_CHANNEL : Field := { off := 0x070, hi := 9, lo := 8, acc := .ro, rst := 0x0 }
def PWR_LOOP_STATUS_OUTCOME : Field := { off := 0x070, hi := 5, lo := 4, acc := .ro, rst := 0x0 }
def PWR_LOOP_STATUS_BUSY : Field := { off := 0x070, hi := 0, lo := 0, acc := .ro, rst := 0x0 }
abbrev PWR_FEED_CHANGE_COUNT : Nat := 0x080
def PWR_FEED_CHANGE_COUNT_COUNT : Field := { off := 0x080, hi := 31, lo := 0, acc := .ro, rst := 0x0 }
abbrev PWR_REST_COUNT : Nat := 0x084
def PWR_REST_COUNT_COUNT : Field := { off := 0x084, hi := 31, lo := 0, acc := .ro, rst := 0x0 }
abbrev PWR_CNT_CLEAR : Nat := 0x088
def PWR_CNT_CLEAR_CLEAR : Field := { off := 0x088, hi := 1, lo := 0, acc := .wo, rst := 0x0 }
def pwrFields0 : List Field :=
  [PWR_FEED_STATUS_ISOLATED, PWR_FEED_STATUS_SUPPLYING, PWR_FEED_STATUS_FEED1, PWR_FEED_STATUS_FEED0,
   PWR_FEED0_MEAS_VOLTS, PWR_FEED0_MEAS_MILLIAMPS, PWR_FEED1_MEAS_VOLTS, PWR_FEED1_MEAS_MILLIAMPS,
   PWR_INPUT_POWER_POWER, PWR_FEED_CTRL_ISOLATE1, PWR_FEED_CTRL_ISOLATE0, PWR_REST_CFG_WAKE_SYNC,
   PWR_REST_CFG_WAKE_TRIG, PWR_REST_CFG_PORT, PWR_REST_CMD_WAKE, PWR_REST_CMD_ENTER,
   PWR_REST_STATUS_LAST_WAKE, PWR_REST_STATUS_STATE, PWR_LAST_WAKE_TIME_TIME_LO, PWR_LAST_WAKE_TIME_TIME_HI,
   PWR_LOOP_CMD_GO, PWR_LOOP_CMD_CHANNEL, PWR_LOOP_RESULT_TIME_ERR, PWR_LOOP_RESULT_AMPL_ERR,
   PWR_LOOP_STATUS_CHANNEL, PWR_LOOP_STATUS_OUTCOME, PWR_LOOP_STATUS_BUSY, PWR_FEED_CHANGE_COUNT_COUNT,
   PWR_REST_COUNT_COUNT, PWR_CNT_CLEAR_CLEAR]
def pwrFields : List Field := pwrFields0

/-! THERM registers: spec/19_power_thermal_faults.md R551. -/

abbrev THERM_STATE : Nat := 0x040
def THERM_STATE_HOTTEST : Field := { off := 0x040, hi := 11, lo := 8, acc := .ro, rst := 0x0 }
def THERM_STATE_BASE_OUT : Field := { off := 0x040, hi := 4, lo := 4, acc := .ro, rst := 0x0 }
def THERM_STATE_STATE : Field := { off := 0x040, hi := 1, lo := 0, acc := .ro, rst := 0x0 }
abbrev THERM_JUNCTION : Nat := 0x044
def THERM_JUNCTION_TEMP : Field := { off := 0x044, hi := 15, lo := 0, acc := .ro, rst := 0x0 }
abbrev THERM_BASEPLATE : Nat := 0x048
def THERM_BASEPLATE_TEMP : Field := { off := 0x048, hi := 15, lo := 0, acc := .ro, rst := 0x0 }
abbrev THERM_PEAK : Nat := 0x04C
def THERM_PEAK_TEMP : Field := { off := 0x04C, hi := 15, lo := 0, acc := .ro, rst := 0x0 }
abbrev THERM_SENSOR (i : Nat) : Nat := 0x050 + 4 * i
def THERM_SENSOR_TEMP : Field := { off := 0x050, hi := 15, lo := 0, acc := .ro, rst := 0x0, stride := 4, count := 8 }
abbrev THERM_LIMITS : Nat := 0x070
def THERM_LIMITS_TRIP : Field := { off := 0x070, hi := 31, lo := 24, acc := .ro, rst := 0x7D }
def THERM_LIMITS_SHUTDOWN : Field := { off := 0x070, hi := 23, lo := 16, acc := .ro, rst := 0x78 }
def THERM_LIMITS_THROTTLE : Field := { off := 0x070, hi := 15, lo := 8, acc := .ro, rst := 0x6E }
def THERM_LIMITS_WARN : Field := { off := 0x070, hi := 7, lo := 0, acc := .ro, rst := 0x64 }
abbrev THERM_WARN_COUNT : Nat := 0x080
def THERM_WARN_COUNT_COUNT : Field := { off := 0x080, hi := 31, lo := 0, acc := .ro, rst := 0x0 }
abbrev THERM_THROTTLE_COUNT : Nat := 0x084
def THERM_THROTTLE_COUNT_COUNT : Field := { off := 0x084, hi := 31, lo := 0, acc := .ro, rst := 0x0 }
abbrev THERM_SHUTDOWN_COUNT : Nat := 0x088
def THERM_SHUTDOWN_COUNT_COUNT : Field := { off := 0x088, hi := 31, lo := 0, acc := .ro, rst := 0x0 }
abbrev THERM_CNT_CLEAR : Nat := 0x08C
def THERM_CNT_CLEAR_PEAK : Field := { off := 0x08C, hi := 3, lo := 3, acc := .wo, rst := 0x0 }
def THERM_CNT_CLEAR_CLEAR : Field := { off := 0x08C, hi := 2, lo := 0, acc := .wo, rst := 0x0 }
def thermFields0 : List Field :=
  [THERM_STATE_HOTTEST, THERM_STATE_BASE_OUT, THERM_STATE_STATE, THERM_JUNCTION_TEMP,
   THERM_BASEPLATE_TEMP, THERM_PEAK_TEMP, THERM_SENSOR_TEMP, THERM_LIMITS_TRIP,
   THERM_LIMITS_SHUTDOWN, THERM_LIMITS_THROTTLE, THERM_LIMITS_WARN, THERM_WARN_COUNT_COUNT,
   THERM_THROTTLE_COUNT_COUNT, THERM_SHUTDOWN_COUNT_COUNT, THERM_CNT_CLEAR_PEAK, THERM_CNT_CLEAR_CLEAR]
def thermFields : List Field := thermFields0


/-! ### Pages (R483) -/

/-- The kinds of register page. -/
inductive PageKind
  | dev | trust | pwr | therm | clk | time | sync | xh | gen | pat | cap | strm | sten | cal | memc | mif | spad | dma
  | datu | link | xport | note | scen | sched
deriving DecidableEq, Repr

abbrev pDEV : Nat := 0x000
abbrev pTRUST : Nat := 0x001
abbrev pPWR : Nat := 0x002
abbrev pTHERM : Nat := 0x003
abbrev pCLK : Nat := 0x010
abbrev pTIME : Nat := 0x011
abbrev pSYNC : Nat := 0x012
abbrev pXH (i : Nat) : Nat := 0x020 + i
abbrev pGEN (n : Nat) : Nat := 0x040 + n
abbrev pPAT (n : Nat) : Nat := 0x050 + n
abbrev pCAP (n : Nat) : Nat := 0x060 + n
abbrev pSTRM (n : Nat) : Nat := 0x064 + n
abbrev pSTEN (n : Nat) : Nat := 0x068 + n
abbrev pCAL : Nat := 0x070
abbrev pMEMC : Nat := 0x080
abbrev pMIF (i : Nat) : Nat := 0x081 + i
abbrev pSPAD : Nat := 0x088
abbrev pDMA : Nat := 0x090
abbrev pDATU : Nat := 0x091
abbrev pLINK (i : Nat) : Nat := 0x0A0 + i
abbrev pXPORT : Nat := 0x0A2
abbrev pNOTE : Nat := 0x0A3
abbrev pSCEN : Nat := 0x0B0
abbrev pSCHED : Nat := 0x0B1

/-- The page index of R483 on a variant: the kind of a present page and its instance number. -/
def pageOf (v : Variant) (p : Nat) : Option (PageKind × Nat) :=
  if p = 0x000 then some (.dev, 0)
  else if p = 0x001 then some (.trust, 0)
  else if p = 0x002 then some (.pwr, 0)
  else if p = 0x003 then some (.therm, 0)
  else if p = 0x010 then some (.clk, 0)
  else if p = 0x011 then some (.time, 0)
  else if p = 0x012 then some (.sync, 0)
  else if 0x020 ≤ p ∧ p < 0x024 then some (.xh, p - 0x020)
  else if 0x040 ≤ p ∧ p < 0x040 + v.gens then some (.gen, p - 0x040)
  else if 0x050 ≤ p ∧ p < 0x050 + v.pats then some (.pat, p - 0x050)
  else if 0x060 ≤ p ∧ p < 0x060 + v.caps then some (.cap, p - 0x060)
  else if 0x064 ≤ p ∧ p < 0x064 + v.caps then some (.strm, p - 0x064)
  else if 0x068 ≤ p ∧ p < 0x068 + v.caps then some (.sten, p - 0x068)
  else if p = 0x070 then some (.cal, 0)
  else if p = 0x080 then some (.memc, 0)
  else if 0x081 ≤ p ∧ p < 0x081 + v.mifs then some (.mif, p - 0x081)
  else if p = 0x088 then some (.spad, 0)
  else if p = 0x090 then some (.dma, 0)
  else if p = 0x091 then some (.datu, 0)
  else if 0x0A0 ≤ p ∧ p < 0x0A2 then some (.link, p - 0x0A0)
  else if p = 0x0A2 then some (.xport, 0)
  else if p = 0x0A3 then some (.note, 0)
  else if p = 0x0B0 then some (.scen, 0)
  else if p = 0x0B1 then some (.sched, 0)
  else none

/-- Ordinary pages (R483): owned by a session or by nobody. -/
def PageKind.ordinary : PageKind → Bool
  | .clk | .time | .sync | .gen | .pat | .cap | .strm | .sten => true
  | _ => false

/-- Pages with PARK_CAP (R484). -/
def PageKind.parkCap : PageKind → Bool
  | .gen | .pat | .cap => true
  | _ => false

/-- Pages with RESET_CAP (R484). -/
def PageKind.resetCap : PageKind → Bool
  | .gen | .pat | .cap | .strm | .sten => true
  | _ => false

/-- Device pages with registers marked per-session (R484): DEV, TRUST, SCEN, SCHED, XH0, CAL, DATU, XPORT, NOTE. -/
def PageKind.hasPerSession : PageKind → Bool
  | .dev | .trust | .cal | .datu | .xport | .note | .scen | .sched => true
  | _ => false

/-- The block type code of R483: the page number of the block's first instance. -/
def PageKind.typeCode : PageKind → Nat
  | .dev => 0x000 | .trust => 0x001 | .pwr => 0x002 | .therm => 0x003
  | .clk => 0x010 | .time => 0x011 | .sync => 0x012 | .xh => 0x020
  | .gen => 0x040 | .pat => 0x050 | .cap => 0x060 | .strm => 0x064 | .sten => 0x068
  | .cal => 0x070 | .memc => 0x080 | .mif => 0x081 | .spad => 0x088
  | .dma => 0x090 | .datu => 0x091 | .link => 0x0A0 | .xport => 0x0A2 | .note => 0x0A3
  | .scen => 0x0B0 | .sched => 0x0B1

/-- Instances of a block fitted on a variant (R2, R483). -/
def PageKind.instances (v : Variant) : PageKind → Nat
  | .xh => 4 | .gen => v.gens | .pat => v.pats | .cap => v.caps | .strm => v.caps | .sten => v.caps
  | .mif => v.mifs | .link => 2
  | _ => 1

/-- The fields of a page beyond the common header. -/
def PageKind.own (inst : Nat) : PageKind → List Field
  | .dev => devFields
  | .trust => trustFields
  | .pwr => pwrFields
  | .therm => thermFields
  | .clk => clkFields
  | .time => timeFields
  | .sync => syncFields
  | .xh => if inst = 0 then xhFields else xhFields.filter (fun f => decide (0x080 ≤ f.off))
  | .gen => genFields ++ grvFields
  | .pat => if inst = 0 then patFields ++ grvFields ++ trgFields else patFields ++ grvFields
  | .cap => capFields
  | .strm => strmFields
  | .sten => stenFields
  | .cal => calFields
  | .memc => memcFields
  | .mif => mifFields
  | .spad => spadFields
  | .dma => dmaFields
  | .datu => datuFields
  | .link => linkFields
  | .xport => xportFields
  | .note => noteFields
  | .scen => scenFields
  | .sched => schedFields

/-- Field `f` stands at offset `off`. -/
def Field.at (f : Field) (off : Nat) : Bool :=
  decide (f.off ≤ off ∧ off < f.off + f.stride * f.count ∧ (off - f.off) % f.stride = 0)

/-- The fields at an offset of a page; none where the offset is reserved. R107 and R396 place different registers at
0x200 to 0x22F of MEMC: the admission registers stand there (assumption log, entry 51). -/
def fieldsAt (k : PageKind) (inst off : Nat) : List Field :=
  (if k = .memc ∧ 0x200 ≤ off ∧ off < 0x230 then [MEMC_ADMIT_LIMIT_LIMIT_MBPS, MEMC_ADMIT_USED_USED_MBPS]
    else if off < 0x40 then hdrFields ++ (if k = .clk then clkFields else []) else k.own inst).filter (fun f => f.at off)

/-- The fields' Reset column at one offset, as a number. -/
def resetOf (fs : List Field) : Nat := fs.foldl (fun n f => n + f.rst % 2 ^ (f.hi + 1 - f.lo) * 2 ^ f.lo) 0

/-- The values marked HW that depend on the page, the instance or the variant, and the device pages' owner
(R483, R484, R498, R396, R420, R444). Zero where the table's own reset value says all. -/
def hwReset (v : Variant) (k : PageKind) (inst off : Nat) : Nat :=
  if off = 0x000 then k.typeCode * 2 ^ 16 + inst * 2 ^ 8
  else if off = 0x004 then k.instances v * 2 ^ 24 + b2n k.parkCap * 4 + b2n k.resetCap * 2 + b2n (k.hasPerSession || (k == .xh && inst == 0))
  else if off = 0x008 then (if k.ordinary then 0 else 0xFF)
  else if off = 0x00C then 0x100
  else match k with
    | .dev =>
      if off = 0x040 then v.part * 2 ^ 16 + 1
      else if off = 0x044 then v.mifs * 2 ^ 24 + v.pats * 2 ^ 16 + v.caps * 2 ^ 8 + v.gens
      else if off = 0x048 then v.banks * 2 ^ 24 + v.gravers * 2 ^ 16 + v.rtPorts * 2 ^ 8 + v.dramGib
      else if off = 0x070 then 1
      else 0
    | .trust =>
      if off = 0x040 then 1023 * 2 ^ 16
      else if off = 0x05C then 0x44
      else if off = 0x060 then 1
      else 0
    | .pwr => if off = 0x040 then 0x12 else if off = 0x044 then 4160 * 65536 else 0
    | .therm => if 0x060 + v.gens ≤ off ∧ off < 0x070 ∧ off % 4 = 0 then 0x8000 else 0
    | .memc =>
      if off = 0x044 then (2 ^ v.mifs - 1) * 2 ^ MEMC_STATUS_PRESENT.lo + 2
      else if off = 0x048 then (v.mifs * 15032385536) % 2 ^ 32
      else if off = 0x04C then (v.mifs * 15032385536) / 2 ^ 32
      else if ((0x100 ≤ off ∧ off < 0x200) ∨ (0x230 ≤ off ∧ off < 0x2C0) ∨ (0x900 ≤ off ∧ off < 0x930)) ∧ off % 16 = 0 then
        (let p := (if 0x900 ≤ off then off - 0x800 else off - 0x100) / 16
        if p < v.gens ∨ (16 ≤ p ∧ p < 16 + v.pats) ∨ (24 ≤ p ∧ p < 24 + v.caps) then 0x6400 else 0)
      else 0
    | .spad =>
      if off = 0x040 then v.banks * 2 ^ SPAD_STATUS_BANKS.lo + v.seqBanks * 2 ^ SPAD_STATUS_GEN_FIRST.lo
        + v.seqBanks * 2 ^ SPAD_STATUS_SEQ_BANKS.lo
      else 0
    | .xh =>
      if inst = 0 ∧ 0x100 ≤ off ∧ off < 0x180 ∧ off % 16 = 0 then (if off = 0x100 then 0 else 0x8000 + (off - 0x100) / 16)
      else if inst = 0 ∧ 0x100 ≤ off ∧ off < 0x180 ∧ off % 16 = 8 then 0xFF400000 + (if off = 0x168 then 2 ^ 21 else 0)
      else 0
    | .dma => if 0x100 ≤ off ∧ off < 0x200 ∧ off % 16 = 0 then ((off - 0x100) / 64) * 2 ^ DMA_Q_CTRL_CLASS.lo else 0
    | _ => 0

/-- The reset value of a register key: the page's device address (R480), plus 0x100_0000 times the session number
for a per-session copy. -/
def regReset (v : Variant) (key : Nat) : Word :=
  match pageOf v (key % 0x1000000 / 0x1000) with
  | none => 0#32
  | some (k, inst) =>
    BitVec.ofNat 32 (resetOf (fieldsAt k inst (key % 0x1000)) + hwReset v k inst (key % 0x1000))

end Sys2Proof.Machine
end

