-- ==== Sys2Proof/Machine/Store.lean ====
section
/-! DEFINITION. Sys2Proof/Machine/Store.lean: the one canonical form the register file and the memory are kept in:
a list of key and value pairs, keys strictly rising, no entry equal to what an unlisted key reads as. -/
namespace Sys2Proof.Machine

/-- What key `k` holds: the listed value, or what an unlisted key reads as. -/
def stGet {α : Type} (d : Nat → α) : List (Nat × α) → Nat → α
  | [], k => d k
  | (a, v) :: t, k => if a = k then v else stGet d t k

/-- The list with key `k` listed at value `v`. -/
def stIns {α : Type} : List (Nat × α) → Nat → α → List (Nat × α)
  | [], k, v => [(k, v)]
  | (a, x) :: t, k, v =>
    if k < a then (k, v) :: (a, x) :: t
    else if k = a then (k, v) :: t
    else (a, x) :: stIns t k v

/-- The list without the keys that `p` names. -/
def stDrop {α : Type} (p : Nat → Bool) (l : List (Nat × α)) : List (Nat × α) := l.filter (fun e => !p e.1)

/-- Key `k` set to `v`: listed unless `v` is what an unlisted key reads as. -/
def stSet {α : Type} [DecidableEq α] (d : Nat → α) (l : List (Nat × α)) (k : Nat) (v : α) : List (Nat × α) :=
  if v = d k then stDrop (fun a => a == k) l else stIns l k v

/-- Keys strictly rising. -/
def stSorted {α : Type} : List (Nat × α) → Bool
  | [] => true
  | (a, _) :: t => (match t with | [] => true | (b, _) :: _ => decide (a < b)) && stSorted t

/-- The canonical form. -/
def stWf {α : Type} [DecidableEq α] (d : Nat → α) (l : List (Nat × α)) : Bool :=
  stSorted l && l.all (fun e => decide (e.2 ≠ d e.1))

end Sys2Proof.Machine
end

