-- ==== Sys2Proof/Machine/State.lean ====
section
/-! DEFINITION. Sys2Proof/Machine/State.lean: everything the manual gives the module, as plain data. What the manual
shows as a register field has its one home in the register file `regs`; what it puts into a table window, into
scratchpad or into DRAM has its one home in `mem`; the rest stands in the structures below. -/
namespace Sys2Proof.Machine
open Sys2Proof

/-! ### Notices, messages and sessions (spec/16_host_link_transport.md) -/

/-- A notice as a block raises it (R467, R500): its source page, its bit, its time and its four argument words. -/
structure Notice where
  page : Nat
  code : Nat
  time : Nat
  w0 : Nat
  w1 : Nat
  w2 : Nat
  w3 : Nat
deriving DecidableEq, Repr

/-- A record of a session's notice queue (R467, R469), with the SEQ of the NOTICE message that carries it, if one
has been sent (R470), and the tick it was raised in (R468). -/
structure NoticeRec where
  nseq : Nat
  body : Notice
  inMsg : Option Nat
  at_ : Nat
deriving DecidableEq, Repr

/-- What the module sends (R453, R457, R460, R465, R466, R473) and the frames of its network layer (R448, R449). -/
inductive Msg
  | challenge (openId nonce serial : Nat)
  | openDone (openId : Nat) (status sess leaseMs mac : Nat)
  | closed
  | response (reqSeq status done failAddr : Nat) (data : List Word)
  | pullReq (tag buffer offset length : Nat)
  | stream (chan acq blk : Nat)
  | notice (nseqs : List Nat)
  | heartbeatEcho (time leaseUs : Nat)
  | ack
  | arpReply (toAddr toMac : Nat)
  | gratuitousArp (addr : Nat)
  | neighborAdvert (addr toAddr : Nat)
  | echoReply (toAddr len : Nat)
  | dhcpDiscover
  | dhcpRequest (addr server : Nat)
  | mldReport (addr : Nat)
  | dadProbe (addr : Nat)
deriving DecidableEq, Repr

/-- A reliable message of the module not yet acknowledged (R456): its SEQ, when it was first and last sent, and the
successive resends on the current port (R472). -/
structure Rel where
  seq : Nat
  msg : Msg
  firstAt : Nat
  sentAt : Nat
  resends : Nat
deriving DecidableEq, Repr

/-- One message or frame as it left a port: the header fields R452 gives the receiver; the address and UDP port it goes to (R451), the
address of the next hop (R449), and its VLAN tag, as VLAN_ID and PCP (R450). -/
structure Sent where
  port : Nat
  sess : Nat
  seq : Nat
  ack : Nat
  credits : Nat
  retry : Bool
  msg : Msg
  dest : Nat
  udp : Nat
  hop : Nat
  vlan : Option (Nat × Nat)
deriving DecidableEq, Repr

/-- The states of a session number (R459). -/
inductive SessState
  | free
  | opened
  | orphan
  | claimable
deriving DecidableEq, Repr

/-- The code of a session state in XPORT.SESSION_MAP (R478). -/
def SessState.code : SessState → Nat
  | .free => 0
  | .opened => 1
  | .orphan => 2
  | .claimable => 3

/-- A STREAM block sent and neither confirmed nor accounted (R466). -/
structure Flight where
  chan : Nat
  acq : Nat
  blk : Nat
  raw : Nat
  firstC : Nat
  time : Nat
  sentAt : Nat
deriving DecidableEq, Repr

/-- A run of delivery-gap blocks of one channel not yet reported (R466). -/
structure GapRun where
  chan : Nat
  acq : Nat
  firstBlk : Nat
  blocks : Nat
  raw : Nat
  firstC : Nat
  time : Nat
  begun : Nat
deriving DecidableEq, Repr

/-- One session number (R457 to R474). What the XPORT and NOTE registers show stands in those registers. `lapsed` says that
its reclaim secret has lapsed (R510, R512); `pulls` holds the first sending of each pull request not yet answered (R465); `turn` is the
channel whose block was sent last (R466). -/
structure Sess where
  st : SessState
  hostId : Nat
  token : Nat
  secret : Nat
  lapsed : Bool
  openAddr : Nat
  openUdp : Nat
  alt : Nat
  altUdp : Nat
  homePort : Nat
  rxNext : Nat
  held : List (Nat × HostMsg)
  txNext : Nat
  unacked : List Rel
  waiting : List Msg
  notices : List NoticeRec
  creditsOut : Nat
  lastMsgAt : Nat
  otherPortAt : Nat
  orphanAt : Nat
  readShadow : List (Nat × Word)
  writeShadow : List (Nat × Word)
  flights : List Flight
  gapRuns : List GapRun
  pulls : List (Nat × Nat)
  turn : Nat
deriving DecidableEq, Repr

/-- A session number that is FREE. -/
def Sess.fresh : Sess :=
  { st := .free, hostId := 0, token := 0, secret := 0, lapsed := false, openAddr := 0, openUdp := 0, alt := 0, altUdp := 0, homePort := 0, rxNext := 1,
    held := [], txNext := 1, unacked := [], waiting := [], notices := [], creditsOut := 0, lastMsgAt := 0,
    otherPortAt := 0, orphanAt := 0, readShadow := [], writeShadow := [], flights := [], gapRuns := [], pulls := [], turn := 3 }

/-- An open challenge (R457). -/
structure Challenge where
  openId : Nat
  nonce : Nat
  req : OpenReq
  sentAt : Nat
deriving DecidableEq, Repr

/-- A host whose opens Signet has refused with AUTH (R458): the times of the refusals in the last second, and until
when its OPEN_REQ messages are ignored. -/
structure AuthWatch where
  hostId : Nat
  times : List Nat
  ignoreUntil : Nat
deriving DecidableEq, Repr

/-- One host port beyond its page (R447 to R449): neighbours learned, the DHCP exchange, the tentative address, the default router and
the addresses of each family in force. -/
structure Port where
  neighbours : List (Nat × Nat)
  dhcpServer : Nat
  dhcpMask : Nat
  dhcpLeaseS : Nat
  dhcpAckAt : Nat
  tentative : Option Nat
  router : Nat
deriving DecidableEq, Repr

/-- A port right after reset. -/
def Port.fresh : Port :=
  { neighbours := [], dhcpServer := 0, dhcpMask := 0, dhcpLeaseS := 0, dhcpAckAt := 0, tentative := none, router := 0 }

/-- A command of XPORT.OWN_CMD that Signet has yet to carry out, and the tick it was written in (R475). -/
structure OwnReq where
  sess : Nat
  op : Nat
  page : Nat
  since : Nat
deriving DecidableEq, Repr

/-- The transport engine and the notice unit; the commands of page ownership that wait for Signet, oldest first, and the tick from which
it takes the next (R475). -/
structure Xport where
  sess : List Sess
  challenges : List Challenge
  openIds : Nat
  auth : List AuthWatch
  ports : List Port
  ownQ : List OwnReq
  ownFree : Nat
  sent : List Sent
deriving DecidableEq, Repr

/-- No session, no challenge, nothing sent. The list holds the numbers 1 to 16 at positions 0 to 15. -/
def Xport.fresh : Xport :=
  { sess := List.replicate 16 Sess.fresh, challenges := [], openIds := 0, auth := [], ports := [Port.fresh, Port.fresh],
    ownQ := [], ownFree := 0, sent := [] }

/-! ### The time translators (spec/01_architecture.md) -/

/-- The time translator of a clocked domain (R30): a cycle of the domain and the device time at which it begins, in 1/2^40
tick; and the least time it reports from there on, which a held value of device time gives (R339). -/
structure Grid where
  edge : Nat
  cyc : Nat
  least : Nat
deriving DecidableEq, Repr

/-! ### Segments and sketches (spec/03_segments_plates_stylus.md) -/

/-- The fields of a directory record (R78). -/
structure SegRec where
  kind : Nat
  format : Nat
  plate : Nat
  desc : Nat
  length : Nat
  offset : Nat
  shadowEn : Bool
  shadowPlate : Nat
  shadowOffset : Nat
  armRefs : Nat
  owner : Nat
deriving DecidableEq, Repr

/-- A tone generator of a sketch (R92): its frequency word, its peak amplitude and its phase. -/
structure Tone where
  ftw : Nat
  ampl : Nat
  phase : Nat
deriving DecidableEq, Repr

/-- The fields of a sketch descriptor that the Stylus renders (R92): the tones that are on, the chirp and the noise where
they are on, and the envelope. -/
structure Desc where
  coherent : Bool
  toneOn : Nat
  tones : List Tone
  chirpOn : Bool
  chirpF0 : Nat
  chirpAmpl : Nat
  chirpRate : Nat
  noiseOn : Bool
  seed : Nat
  noiseFc : Nat
  noiseAmpl : Nat
  reseedAtEntry : Bool
  bw : Nat
  uniform : Bool
  envMode : Nat
  envDelay : Nat
  envPeriod : Nat
  envRise : Nat
  envWidth : Nat
  envFall : Nat
  envTones : Bool
  envChirp : Bool
  envNoise : Bool
  envCount : Nat
deriving DecidableEq, Repr

/-- The descriptor whose bytes are all 0. -/
def Desc.none : Desc :=
  { coherent := false, toneOn := 0, tones := [], chirpOn := false, chirpF0 := 0, chirpAmpl := 0, chirpRate := 0, noiseOn := false, seed := 0,
    noiseFc := 0, noiseAmpl := 0, reseedAtEntry := false, bw := 0, uniform := false, envMode := 0, envDelay := 0, envPeriod := 0, envRise := 0,
    envWidth := 0, envFall := 0, envTones := false, envChirp := false, envNoise := false, envCount := 0 }

/-- The Stylus generators at a sample (R94 to R97): the samples since the noise reseed, the first complex noise sample since that the
shaping history holds (R96, R164), the noise state x, the noise phase,
the chirp's phase and frequency word, and the envelope pulses started in the pass. -/
structure Sty where
  since : Nat
  hist : Nat
  x : Nat
  psi : Nat
  theta : Nat
  freq : Nat
  pulses : Nat
deriving DecidableEq, Repr

/-- The generators of a channel that has rendered nothing. -/
def Sty.fresh : Sty := { since := 0, hist := 0, x := 0, psi := 0, theta := 0, freq := 0, pulses := 0 }

/-! ### Generate channels (spec/02_generate_signal_chain.md, spec/03_segments_plates_stylus.md) -/

/-- The NCO state and the amplitude scale of a channel (R47, R51): the accumulator of the next sample, the frequency
word of the stroke last issued, the phase offset, the chirp rate, the scale, and the strokes of the current step issued
so far (the k of R55). -/
structure Nco where
  acc : Nat
  freq : Nat
  phase : Nat
  rate : Nat
  ampl : Nat
  strokes : Nat
deriving DecidableEq, Repr

/-- The values FTW_NOW, PHASE_NOW and AMPL_NOW show before any scenario has played (R73). -/
def Nco.fresh : Nco := { acc := 0, freq := 0, phase := 0, rate := 0, ampl := 0x8000, strokes := 0 }

/-- What acts at the fill stage and the comparator of a channel from a GF cycle on (R64, R65, R69, R205, R209): whether the channel
is muted, the idle code, the fill selected, whether the comparator is active, and the model set in force. -/
structure ChainSet where
  cycle : Nat
  muted : Bool
  idle : Nat
  fill : Nat
  active : Bool
  model : Nat
deriving DecidableEq, Repr

/-- A generate timing burst (R364): the GF cycle of its first stroke, its gap, and whether a mute leaves its pattern on the internal
load. -/
structure Burst where
  from_ : Nat
  gap : BurstGap
  term : Bool
deriving DecidableEq, Repr

/-- A generate channel beyond its page: the NCO, the GF cycle at which its scenario's sample count S was 0 (R50), what
SAMPLE_COUNT shows while no scenario plays, whether the output stage is settling (R63), the Stylus generators, the Stylus
descriptor slots as descriptor and whether it has loaded (R99), the late sketch step that waits for its descriptor, with its
step index and the GF cycle of its first affected stroke, the runs of strokes that rendered 0 for lateness as first cycle and
count (R100), what has acted at the fill stage, newest first, and the timing bursts, newest first. -/
structure Gen where
  nco : Nco
  sBase : Nat
  count : Nat
  settling : Bool
  sty : Sty
  slots : List (Nat × Bool)
  late : Option (Nat × Nat × Nat)
  lates : List (Nat × Nat)
  ctrl : List ChainSet
  bursts : List Burst
deriving DecidableEq, Repr

/-- A channel right after reset: muted (R576), with the idle code 0 and FILL at MUTE (R72). -/
def Gen.fresh : Gen :=
  { nco := Nco.fresh, sBase := 0, count := 0, settling := false, sty := Sty.fresh, slots := [], late := none, lates := [],
    ctrl := [{ cycle := 0, muted := true, idle := 0, fill := 2, active := false, model := 3 }], bursts := [] }

/-- A charge admitted under R102 to R105: by which scenario (0 to 63) or enabled ring (64 + channel), for which
real-time port, on which DRAM interface (0 to 5) or scratchpad bank (8 + bank), in units of 1/23,040,000 byte per
second. -/
structure Charge where
  holder : Nat
  port : Nat
  place : Nat
  amount : Nat
deriving DecidableEq, Repr

/-- A plate command in progress (R86): the session that wrote it, the plate, the OP and its result. -/
structure PlateCmd where
  sess : Nat
  plate : Nat
  op : Nat
  result : Nat
deriving DecidableEq, Repr

/-- What the plate unit holds beyond the plate table: the command in progress, the page extents recorded by PIN as the
device addresses of the successive 64 KiB of each plate (R85, R87), the admitted charges, and the bytes rewritten under pinned
plates as GF cycle, device address and former value, newest first (R89). -/
structure Plates where
  cmd : Option PlateCmd
  extents : List (Nat × List Nat)
  charges : List Charge
  rewrites : List (Nat × Nat × Byte)
deriving DecidableEq, Repr

/-! ### Gravers (spec/04_graver_sequencer.md) -/

/-- What the records, plates, descriptors and event channels a scenario's reachable steps name are (R80, R88, R91,
R312). -/
structure Refs where
  recs : List Nat
  plates : List Nat
  descs : List Nat
  chans : List Nat
deriving DecidableEq, Repr

/-- No references. -/
def Refs.none : Refs := { recs := [], plates := [], descs := [], chans := [] }

/-- What awaits a Graver at its next pre-emption point (R159 to R162): from which device time on, whether the scenario
that holds it is stopped there rather than suspended, and the scenario that then takes it (64: none). -/
structure Hand where
  at_ : Nat
  stop : Bool
  next : Nat
deriving DecidableEq, Repr

/-- The strokes of one pass, as a Graver issued them: the first GF cycle, the strokes issued, the segment record, the
device addresses of the 64 KiB of its plate and of its shadow plate (R87) and the descriptor played, whether a start or a resume
cleared the interpolator's history before it (R46), where its first words come from (0 the reader, 1 the jump cache, 2 the
scratchpad shadow, R129 to R131), the GF cycles since which the reader (R383) and the cache slot fetched them, the NCO before its first stroke, the sample
count S there, the Stylus generators there, and the marker fields of its step as mode, start and width (R133). -/
structure Run where
  cycle : Nat
  strokes : Nat
  seg : SegRec
  ext : List Nat
  shExt : List Nat
  desc : Desc
  clean : Bool
  via : Nat
  since : Nat
  role : Nat
  nco : Nco
  count : Nat
  sty : Sty
  marks : List (Nat × Nat × Nat)
deriving DecidableEq, Repr

/-- An episode of filled strokes (R66, R67, R130): its first GF cycle, its strokes, and its cause (1 ECC, 2 UNDERRUN, 3 a late
jump). -/
structure FillRun where
  cycle : Nat
  strokes : Nat
  cause : Nat
deriving DecidableEq, Repr

/-- A Graver beyond its page: the scenario that holds it (64 where none does), the strokes of the current pass already
issued, the latched advance (R116), the resolved end of a TIME step (R117), whether a pending commit has passed its check (R139),
the GF cycle of the next stroke it issues, whether the last stroke
planned entered its step, the step it issued last, the NCO and the Stylus generators before the actions applied there,
whether a start or resume has cleared the interpolator's history, where the pass's first words come from (0 the reader, 1 the jump cache,
2 the shadow), the GF cycles since which the reader (R383) and the slot that served the last landing fetched, those at which the ACTIVE, NEXT and COMMIT sets began to fill (R129), the
start buffer that fills, as the scenario and the GF cycle (R383), what awaits it
at its next pre-emption point, the step whose cache set ACTIVE is, the passes issued, newest first, and the strokes filled. -/
structure Graver where
  scen : Nat
  pos : Nat
  latched : Bool
  until_ : Nat
  checked : Bool
  cycle : Nat
  entered : Bool
  shown : Nat
  before : Nco
  beforeSty : Sty
  clean : Bool
  via : Nat
  since : Nat
  served : Nat
  roles : Nat × Nat × Nat
  start : Option (Nat × Nat)
  hand : Option Hand
  cacheFor : Nat
  line : List Run
  fills : List FillRun
deriving DecidableEq, Repr

/-- A Graver right after reset. -/
def Graver.fresh : Graver :=
  { scen := 64, pos := 0, latched := false, until_ := 0, checked := false, cycle := 0, entered := false, shown := 0, before := Nco.fresh,
    beforeSty := Sty.fresh, clean := false, via := 0, since := 0, served := 0, roles := (0, 0, 0), start := none, hand := none, cacheFor := 65536, line := [], fills := [] }

/-! ### Scenarios and schedules (spec/05_scenarios_schedules.md) -/

/-- A member's saved position (R163), whether the scenario had begun on it, and the GF cycle at which its sample count S was 0. -/
structure Saved where
  g : Nat
  begun : Bool
  step : Nat
  passes : Nat
  entering : Bool
  ended : Bool
  until_ : Nat
  loops : Nat
  counts : List Nat
  version : Nat
  nco : Nco
  sty : Sty
  sBase : Nat
deriving DecidableEq, Repr

/-- Where a scenario action comes from: a command, a schedule entry, an orphan policy (R165) or a proof verdict (R217). -/
inductive ActSrc
  | command
  | entry (i : Nat)
  | orphan
  | proof
deriving DecidableEq, Repr

/-- A scenario action in progress: its code, its action time T (R156), the issuing session, where it comes from, whether
its entry fell due too late (R171), whether it waits for START_EVT, whether it was judged at the end of that wait (R158), whether its time
has come, whether its lateness is settled (R32), whether its Graver members
and its capture members have been acted on, and the earliest and the latest member start or stop so far. -/
structure ScenAct where
  op : Nat
  at_ : Nat
  sess : Nat
  src : ActSrc
  atOnce : Bool
  waits : Bool
  judged : Bool
  launched : Bool
  told : Bool
  gf : Bool
  cf : Bool
  first : Option Nat
  last : Nat
deriving DecidableEq, Repr

/-- A scenario beyond its record: its references, its save area (R163), the action in progress, the scenario that
pre-empts it (64: none), what an orphan policy still asks of it (0 nothing, 1 a park, 2 a disarm, R165), the number of its
arm among all arms (R139), and, in 1/2^40 tick, the time by which its members have gone down so far and that of the last stroke issued
for it there (R159 to R162, R217). -/
structure ScenX where
  refs : Refs
  saved : List Saved
  act : Option ScenAct
  by_ : Nat
  after : Nat
  armNo : Nat
  down : Nat
  last : Nat
deriving DecidableEq, Repr

/-- A scenario that holds nothing. -/
def ScenX.fresh : ScenX := { refs := Refs.none, saved := [], act := none, by_ := 64, after := 0, armNo := 0, down := 0, last := 0 }

/-- A command in the queue of the SCEN or the SCHED page (R153, R169): the session, the OP, the scenario or entry, and the tick in which it
came. -/
structure QCmd where
  sess : Nat
  op : Nat
  num : Nat
  since : Nat
deriving DecidableEq, Repr

/-- The scenario and schedule unit's queues of commands, oldest first, and the first tick in which it takes the next of each (R153, R169;
assumption log, entry 40). -/
structure CmdUnit where
  scenQ : List QCmd
  schedQ : List QCmd
  scenFree : Nat
  schedFree : Nat
deriving DecidableEq, Repr

/-- A PENDING schedule entry beyond its record: its number, its action time once it is fixed (R172, R173), and whether it
has fallen due (R171). -/
structure SchedX where
  i : Nat
  at_ : Option Nat
  fell : Bool
deriving DecidableEq, Repr

/-! ### Pattern lanes and trigger ports (spec/06_pattern_lanes_markers.md) -/

/-- A driver or termination off by a fault (R194 to R197, R219): whether overcurrent and whether contention or an open
check keeps it off, and the device time of the disable. -/
structure DriverOff where
  who : DriverPort
  ovr : Bool
  cont : Bool
  at_ : Nat
deriving DecidableEq, Repr

/-- A trigger output (R192): the level it drives before INVERT, whether a pulse occupies it, and the delivered events
whose edge has not yet reached the driver. -/
structure TrigOut where
  level : Bool
  busy : Bool
  due : Nat
deriving DecidableEq, Repr

/-- The lane drivers and the trigger ports beyond the PAT pages: the groups whose drivers settle after a FORMAT change
(R185), the drivers off, the trigger outputs, and each trigger input's last published edge in 1/65,536 tick (R191). -/
structure Lanes where
  settling : List Nat
  off : List DriverOff
  outs : List TrigOut
  lastEdge : List (Option Nat)
deriving DecidableEq, Repr

/-! ### The proof path (spec/07_proof_path.md) -/

/-- A stencil setting with the GF cycle from which windows are judged with it (R218): STEN_CFG, STEN_RMS and STEN_PEAK, and the
changes of each limit so far. -/
structure StenSet where
  from_ : Nat
  cfg : Word
  rms : Word
  peak : Word
  rmsNo : Nat
  peakNo : Nat
deriving DecidableEq, Repr

/-- A scenario's playing of a channel without a break (R214): the GF cycle of its first stroke, that of the first stroke after it once
it has ended, the GF cycle at which its sample count S was 0, and the scenario. -/
structure Tenure where
  from_ : Nat
  to_ : Option Nat
  sBase : Nat
  scen : Nat
deriving DecidableEq, Repr

/-- A model set as it stood before a change (R206): the stream sample from which the change acts, 8 to a GF cycle of issue, the set,
and its 52 words. -/
structure OldModel where
  until_ : Nat
  set_ : Nat
  words : List Nat
deriving DecidableEq, Repr

/-- A step of a trim of a generate channel (R211, R212): the stream sample whose connector instant first carries it, the trim's offset
in the channel's block, and the value before it. -/
structure TrimStep where
  at_ : Nat
  off : Nat
  old : Nat
deriving DecidableEq, Repr

/-- A self-test (R224): the GF cycle and the device time of its start, and the GF cycle of its end once it has ended. -/
structure SelfTest where
  from_ : Nat
  at_ : Nat
  to_ : Option Nat
deriving DecidableEq, Repr

/-- A channel's proof path beyond its page: the settings written, newest first; the changes of the limits that the window last judged
had seen; the runs of exceedances of each limit (R215, R218); the scenarios' playing of the channel, the model sets replaced, the trim
steps and the self-tests, newest first each; the measurements of the reflected-level detector below the threshold in a row (R222); and
the stream sample of the first residual that the snapshot recorded (R225). -/
structure Proof where
  sets : List StenSet
  rmsNo : Nat
  peakNo : Nat
  runRms : Nat
  runPeak : Nat
  tenures : List Tenure
  olds : List OldModel
  steps : List TrimStep
  selfTests : List SelfTest
  openRun : Nat
  snapFrom : Nat
deriving DecidableEq, Repr

/-- A proof path right after reset. -/
def Proof.fresh : Proof :=
  { sets := [], rmsNo := 0, peakNo := 0, runRms := 0, runPeak := 0, tenures := [], olds := [], steps := [], selfTests := [], openRun := 0,
    snapFrom := 0 }

/-! ### Capture channels (spec/08_capture_triggers.md, spec/09_streaming_stencils.md) -/

/-- A mark (R274). -/
structure Mark where
  type : Nat
  flags : Nat
  a : Nat
  arg32 : Nat
  sidx : Nat
  c : Nat
  time : Nat
  frac : Nat
  b : Nat
  arg32b : Nat
  arg64 : Nat
deriving DecidableEq, Repr

/-- A trigger taken whose record is not yet latched (R250, R252): the CF cycle of the acquisition in which it completed, its
position in 1/1,024 sample, its type, its duration and CLIPPED. -/
structure TrigRec where
  cyc : Nat
  pos : Nat
  type : Nat
  width : Nat
  clipped : Bool
deriving DecidableEq, Repr

/-- A block held in the ring (R267): its place in the ring, its acquisition, number and raw samples, its first raw sample
and that sample's time, and whether it has been sent. -/
structure RingBlock where
  place : Nat
  acq : Nat
  seq : Nat
  raw : Nat
  firstC : Nat
  time : Nat
  sent : Bool
deriving DecidableEq, Repr

/-- An episode of discarded intervals (R268): the first lost interval and its raw sample, the raw samples lost, the cause,
and the marks held meanwhile, with whether marks were lost. -/
structure GapEpisode where
  sidx : Nat
  c : Nat
  lost : Nat
  cause : Nat
  marks : List Mark
  marksLost : Bool
deriving DecidableEq, Repr

/-- A time-domain pass (R278, R280): its anchor, its bank, the CF cycle in which its trigger was taken, whether its first
violation has been judged, and whether its end has passed. -/
structure TdPass where
  anchor : Int
  bank : Nat
  taken : Nat
  told : Bool
  ended : Bool
deriving DecidableEq, Repr

/-- What the packer gathers (R263, R271, R273): consecutive intervals of one factor and one record, from the first not yet packed,
up to the end where it is fixed, with the CLOSE code of the block that ends there and the marks that wait. -/
structure Span where
  idx : Nat
  stop : Option Nat
  code : Nat
  marks : List Mark
deriving DecidableEq, Repr

/-- A measurement of a duration in progress (R247, R248): where it began in 1/1,024 sample, and whether the signal has crossed the
far threshold since. -/
structure Meas where
  start : Nat
  far : Bool
deriving DecidableEq, Repr

/-- The trigger unit's state (R245, R247, R248): the crossings armed (rising and falling of LEVEL, rising of LOW, falling of HIGH, and
the window's exits, rising of HIGH and falling of LOW), whether a LEVEL trigger is ready, and the positive and the negative measurement
in progress. -/
structure TrigUnit where
  levR : Bool
  levF : Bool
  lowR : Bool
  highF : Bool
  exitR : Bool
  exitF : Bool
  ready : Bool
  pos : Option Meas
  neg : Option Meas
deriving DecidableEq, Repr

/-- The unit at the start of an acquisition or after a change of its configuration (R247, R254). -/
def TrigUnit.fresh : TrigUnit :=
  { levR := false, levF := false, lowR := false, highF := false, exitR := false, exitF := false, ready := true, pos := none, neg := none }

/-- A capture channel beyond its CAP, STRM and STEN pages. Acquisition: when one is to begin, the scenario it serves (64:
none), its number and that of the next, the CF cycle of its first sample, the CF translator and the rate it has run under (newest
first), the raw samples taken in so far in order, the samples acquired by an acquisition that has ended, the end fixed and not yet
reached as the first raw sample not acquired and its cause (of an acquisition that is yet to begin, the tick of its STOP), the factors in force as first interval, first raw sample and k (newest
first), the factor requested and the raw sample of the request. Rate reduction: when the last raise was and the ring fill then, and
whether k has reached 16. Triggers: the CF cycles that the unit has judged, its state, the last position, and those not yet latched.
REARM: the first raw sample after the previous record, the rearm instant's raw sample, the record in progress as its first interval,
records so far, the CF cycle after which the last dead-time burst is counted (R365). Packer: what it gathers, oldest first, the next block number, the episode of discards. Ring: the next place
and the blocks held. Counts of R276 but ACQUIRED and PENDING. Stencils: the triggers that are to start a pass as raw sample and CF
cycle, the number of the next periodic pass, the pass last started, the next frame judged and the next group streamed, the settings of EN
and BANK of the spectral stencil with the raw sample from which they hold (newest first), and the run of violations. -/
structure Tracer where
  startAt : Option Nat
  scen : Nat
  acq : Nat
  nextAcq : Nat
  cBase : Nat
  grids : List (Grid × Nat)
  raw : List Int
  c : Nat
  endAt : Option (Nat × Nat)
  segs : List (Nat × Nat × Nat)
  kReq : Option (Nat × Nat)
  raised : Option (Nat × Nat)
  rateMax : Bool
  seen : Nat
  unit : TrigUnit
  lastTrig : Option Nat
  trigs : List TrigRec
  prevEnd : Nat
  armedC : Option Nat
  record : Option Nat
  records : Nat
  hush : Option Nat
  spans : List Span
  seq : Nat
  gap : Option GapEpisode
  place : Nat
  held : List RingBlock
  delivered : Nat
  dropped : Nat
  dead : Nat
  tail : Nat
  undelivered : Nat
  tdPend : List (Nat × Nat)
  tdNext : Nat
  pass : Option TdPass
  spNext : Nat
  spOut : Nat
  spSets : List (Nat × Bool × Nat)
  spRun : Nat
deriving DecidableEq, Repr

/-- A channel that has acquired nothing. -/
def Tracer.fresh : Tracer :=
  { startAt := none, scen := 64, acq := 0, nextAcq := 0, cBase := 0, grids := [], raw := [], c := 0, endAt := none,
    segs := [], kReq := none, raised := none, rateMax := false, seen := 0, unit := TrigUnit.fresh, lastTrig := none, trigs := [],
    prevEnd := 0, armedC := none, record := none, records := 0, hush := none, spans := [], seq := 0, gap := none, place := 0, held := [],
    delivered := 0, dropped := 0, dead := 0, tail := 0, undelivered := 0, tdPend := [], tdNext := 0, pass := none, spNext := 0, spOut := 0,
    spSets := [], spRun := 0 }

/-! ### The event fabric (spec/10_crosshatch_event_fabric.md) -/

/-- A route installed by a scenario (R300): the consumer's former subscription and gate are kept. -/
structure Route where
  scen : Nat
  consumer : Nat
  oldChan : Nat
  oldGate : Nat
deriving DecidableEq, Repr

/-- An event on its way to a consumer (R303, R304): the consumer, the channel, and the fabric tick, or the tick of publication on an
unclocked path. -/
structure Crossing where
  consumer : Nat
  chan : Nat
  at_ : Nat
deriving DecidableEq, Repr

/-- A change of a channel's level in TB, on its way or lately arrived (R296): the channel, its fabric tick, and the level from then on. -/
structure LevelMove where
  chan : Nat
  at_ : Nat
  level : Bool
deriving DecidableEq, Repr

/-- An enable or a disable of a group (R302): the group, its tick, whether the group was enabled before it, and which of the two it is. -/
structure GroupMove where
  grp : Nat
  at_ : Nat
  was : Bool
  enable : Bool
deriving DecidableEq, Repr

/-- The event fabric beyond the XH pages and the accounting records: the events published and not yet judged at their
fabric tick, by channel and tick of publication; the events judged and on their way; each channel's last fabric tick with an event;
the moves of levels and groups that a consumer has yet to see; the installed routes; and the
channels each Graver's step events are subscribed to (R298), one entry a field. -/
structure Xh where
  published : List (Nat × Nat)
  crossing : List Crossing
  hits : List (Nat × Nat)
  levels : List LevelMove
  groups : List GroupMove
  routes : List Route
  stepSubs : List (Nat × Nat)
deriving DecidableEq, Repr

/-- The fabric with nothing in flight. -/
def Xh.fresh : Xh := { published := [], crossing := [], hits := [], levels := [], groups := [], routes := [], stepSubs := [] }

/-! ### Clocks, device time and the sync bus (spec/11_clocks_time_sync.md) -/

/-- Why a synthesizer loop acquires (R330, R332, R539, R574): which notice ends the acquisition. -/
inductive AcqWhy
  | startUp
  | write
  | relock
  | wake
deriving DecidableEq, Repr

/-- A frame of the sync bus as the module sends it (R341). -/
inductive SyncFrame
  | trigger (a b : Option Nat)
  | time (ticks lead : Nat)
  | measures (count : Nat)
  | echo (seq at_ : Nat)
  | split (hop : Nat)
  | correct (at_ : Nat) (c : Int)
deriving DecidableEq, Repr

/-- A trigger symbol that waits for its slot (R345, R346): its line (0 A, 1 B), whether it travels upstream, t_pub, when
it came, and whether it is the module's own. -/
structure Symbol where
  line : Nat
  up : Bool
  tpub : Nat
  since : Nat
  own : Bool
deriving DecidableEq, Repr

/-- The sync bus beyond its page: the frames sent, newest first, with whether they went upstream; the symbols that wait;
the symbols due for publication as line and t_pub; the MEASURE frames answered or sent, the ECHO frames timed as their
number and the sum of their round trips in 1/1,024 tick (R343); whether a member below has measured its link; and the
correction announced, as its device time and c (R339); the last slot used downstream and upstream; the last symbol published of each line
(R345); the frames lately discarded on the upstream and the downstream link, as a count and the tick of the last (R341); and when a master's
next TIME frame is due. -/
structure SyncBus where
  sent : List (Bool × SyncFrame)
  waiting : List Symbol
  due : List (Nat × Nat)
  echoes : Nat
  roundTrips : Nat
  below : Bool
  correction : Option (Nat × Int)
  slots : List Nat
  outs : List (Nat × Nat)
  bad : List (Nat × Nat)
  timeAt : Nat
deriving DecidableEq, Repr

/-- The clock die beyond the CLK and TIME pages: the time translators of GF and CF, those that held for earlier cycles with their rates,
newest first, why each loop acquires, which loop glides, the consecutive monitor gates
beyond and within the warn limit and beyond the fault limit (R328), whether an SSC_CFG write waits for the triangle's
minimum and the setting in force (R335), whether a PPS edge has been captured and PPS_MISSING raised for the present gap
(R337), the capture time of the last PPS edge on the scale of device time in force, in 1/65,536 tick, the tick at which the reference
began to acquire (R318), the ticks for which the counter still holds its value and that value (R339), and the sync bus. -/
structure Clk where
  gf : Grid
  cf : Grid
  gfPast : List (Grid × Nat)
  cfPast : List (Grid × Nat)
  genWhy : AcqWhy
  capWhy : AcqWhy
  genGlide : Bool
  capGlide : Bool
  beyondWarn : Nat
  withinWarn : Nat
  beyondFault : Nat
  quiet : Bool
  ppsSeen : Bool
  ppsGap : Bool
  ppsAt : Nat
  acquireAt : Nat
  hold : Nat
  heldAt : Nat
  sync : SyncBus
deriving DecidableEq, Repr

/-- The clock die right after module reset: both loops acquire at the reset rates (R574). -/
def Clk.fresh : Clk :=
  { gf := ⟨0, 0, 0⟩, cf := ⟨0, 0, 0⟩, gfPast := [], cfPast := [], genWhy := .startUp, capWhy := .startUp, genGlide := false, capGlide := false, beyondWarn := 0, withinWarn := 0,
    beyondFault := 0, quiet := false, ppsSeen := false, ppsGap := false, ppsAt := 0, acquireAt := 0, hold := 0, heldAt := 0,
    sync := { sent := [], waiting := [], due := [], echoes := 0, roundTrips := 0, below := false, correction := none, slots := [0, 0], outs := [], bad := [(0, 0), (0, 0)], timeAt := 0 } }

/-! ### Calibration (spec/12_calibration_burnish.md) -/

/-- An estimator beyond its entry in the live view, by the entry's address (R361, R362): blocks discarded in a row, the
device time of the last accepted block, and that of the first block of the present count. -/
structure EstX where
  addr : Nat
  discards : Nat
  lastAt : Nat
  since : Nat
deriving DecidableEq, Repr

/-- A proof model set installed or restored and not yet in effect (R206): the channel, the set, and the 52 words of its
header, record, nominal effects and coefficients. -/
structure PendingModel where
  gen : Nat
  set_ : Nat
  words : List Nat
deriving DecidableEq, Repr

/-- The calibration engine beyond its page and the live view: the estimators' records, the model sets that wait, the
TAKE commands that wait for the burnish boundary (session, generate scope, capture scope), the channels with a timing
burst in progress, by page number, with the device time at which its last cycle ends, and the time of each channel's last burst by page number, the channels in an episode of starvation,
the device time of Atelier's latest unavailability, the device time since which bursts are missed where none has been made (R367), one more
than the tick of the last burnish boundary, and whether a correction of device time has skipped one (R357). -/
structure Cal where
  ests : List EstX
  models : List PendingModel
  takes : List (Nat × Nat × Nat)
  bursts : List (Nat × Nat)
  lastReq : List (Nat × Nat)
  lastBurst : List (Nat × Nat)
  starving : List Nat
  atelierGap : Option Nat
  began : Nat
  stepped : Nat
  skipped : Bool
deriving DecidableEq, Repr

/-! ### DRAM, DMA and translation (spec/13_dram_controller.md, spec/15_dma_translation.md) -/

/-- The DRAM controllers beyond their pages: the consecutive polls of each interface with both devices at or below 85 °C
(R389), and since when each real-time port has been in panic (R384). -/
structure Dram where
  cool : List Nat
  panicAt : List (Option Nat)
deriving DecidableEq, Repr

/-- A frame command in progress (R422): the session, the OP, the count and the result. -/
structure FrameCmd where
  sess : Nat
  op : Nat
  count : Nat
  result : Nat
deriving DecidableEq, Repr

/-- A commit of a translation root in progress (R428): the session, the new root and its version, and whether its check
has been passed. -/
structure RootCommit where
  sess : Nat
  root : Nat
  version : Nat
  accepted : Bool
deriving DecidableEq, Repr

/-- Where a DMA chunk takes its bytes from (R432, R434): the answer to a pull, device addresses with their lengths, or a
64-bit pattern. -/
inductive DmaSrc
  | pull (tag offset : Nat) (data : Option (List Byte))
  | copy (pieces : List (Nat × Nat))
  | fill (pattern : Nat)
deriving DecidableEq, Repr

/-- A DMA chunk in flight (R434 to R436): its queue and slot, the session, the session address of its first destination
byte, its length, its destination's device address, its source, the fault it has met, whether it has finished, and
whether a fault before it makes it count for nothing (R440). -/
structure Chunk where
  q : Nat
  slot : Nat
  sess : Nat
  to_ : Nat
  len : Nat
  dst : Nat
  src : DmaSrc
  fault : Option (Nat × Nat)
  fin : Bool
  dead : Bool
deriving DecidableEq, Repr

/-- The DMA engine and the DATU beyond their pages and slots: the chunks in flight, oldest first; the bytes of each
queue's head descriptor started so far; the queue last served in each class (R436); the next tag of a pull; the frame
command and the root commits in progress; and the queues whose started descriptor an orphan policy ends (R442). -/
structure Dma where
  chunks : List Chunk
  taken : List Nat
  turn : List Nat
  tags : Nat
  frame : Option FrameCmd
  commits : List RootCommit
  stopping : List Nat
deriving DecidableEq, Repr

/-! ### Trust (spec/18_trust_lifecycle.md) -/

/-- A host key (R505): its HOST_ID, its permissions, and the key. -/
structure HostKey where
  id : Nat
  perms : Nat
  key : Nat
deriving DecidableEq, Repr

/-- A firmware image (R514): the header's words that the manual gives a meaning, and its bytes as one number. -/
structure Image where
  version : Nat
  secVersion : Nat
  length : Nat
  keyIndex : Nat
  content : Nat
deriving DecidableEq, Repr

/-- An image slot (R514, R522): its image, whether that read back with a good signature when last verified, and the
powered hours at its writing. -/
structure Slot where
  image : Option Image
  good : Bool
  hours : Nat
deriving DecidableEq, Repr

/-- An entry of the fault journal (R523). -/
structure JEntry where
  time : Nat
  hours : Nat
  page : Nat
  code : Nat
  detail : Nat
  boots : Nat
deriving DecidableEq, Repr

/-- A flash record beyond its data (R519): its type, its SEQ and the powered hours at the write. -/
structure FlashRec where
  type : Nat
  seq : Nat
  hours : Nat
deriving DecidableEq, Repr

/-- Signet and the flash beyond the TRUST page: the keys in the secure region but key 0, those of the KEY_STORE record and
its epoch, the burnt epoch fuses, the image slots A and B, the SETTINGS record's 64 words, the records, the journal
(newest first), the entries held for Atelier and the count of those lost, the boots, the device times of Atelier's
restarts, the FW_FALLBACK cause of this boot and of the next (R515, R517), whether Signet stays in ROM recovery,
whether start-up has been completed (R576), the revoked root keys, the device time of the
last tamper, the cause of the Atelier restart in progress (none at boot), the record types found damaged and not yet rewritten (R520),
whether a tamper before Signet ran is still to be completed (R578), the cause and the device time of a module reset that is due (R499,
R510, R517), and the times at which Signet and Atelier came to run (R517). -/
structure Trust where
  keys : List HostKey
  flashKeys : List HostKey
  flashEpoch : Nat
  epoch : Nat
  slots : List Slot
  settings : Option (List Nat)
  records : List FlashRec
  journal : List JEntry
  held : List JEntry
  lost : Nat
  boots : Nat
  restarts : List Nat
  fallback : Option Nat
  nextFallback : Option Nat
  recovery : Bool
  started : Bool
  revoked : Nat
  tamperAt : Nat
  restarting : Option Nat
  damaged : List Nat
  tamperLeft : Bool
  resetDue : Option (Nat × Nat)
  signetAt : Nat
  readyAt : Nat
deriving DecidableEq, Repr

/-- Signet as delivered: BLANK, key 0 alone, image A, no SETTINGS record (assumption log, entry 52). -/
def Trust.fresh : Trust :=
  { keys := [], flashKeys := [], flashEpoch := 0, epoch := 0,
    slots := [{ image := some { version := 0, secVersion := 0, length := 256, keyIndex := 0, content := 0 }, good := true, hours := 0 }, { image := none, good := false, hours := 0 }],
    settings := none, records := [], journal := [], held := [], lost := 0, boots := 0, restarts := [], fallback := none,
    nextFallback := none, recovery := false, started := false, revoked := 0, tamperAt := 0, restarting := none, damaged := [], tamperLeft := false,
    resetDue := none, signetAt := 0, readyAt := 0 }

/-! ### Power (spec/19_power_thermal_faults.md) -/

/-- The supplies beyond the PWR page: the feeds isolated as HIGH and the time since which each feed has been OK (R530), and the session
whose loopback test runs or ran last, with the time the test began (R546). -/
structure Power where
  high : List Nat
  okAt : List Nat
  loopBy : Nat
  loopAt : Nat
deriving DecidableEq, Repr

/-! ### The state -/

/-- The state of the module. -/
structure State where
  /-- Which variant this module is (R2). No command changes it. -/
  variant : Variant
  /-- The register file, keyed by device address (R480), per-session copies by 0x100_0000 times the session number on top; canonical form. -/
  regs : List (Nat × Word)
  /-- Table windows, scratchpad and DRAM by device address (R480); an unlisted byte reads as memDefault says; canonical form. -/
  mem : List Host.Cell
  /-- Device time in ticks (R27, R30), 64 bits. -/
  now : Nat
  /-- The model's own counter of free values asked for (assumption log, entry 3). -/
  fresh : Nat
  /-- The transport engine and the notice unit. -/
  xport : Xport
  /-- The generate channels (R40 to R101), channel n at position n. -/
  gens : List Gen
  /-- The plate unit and the bandwidth admission (R84 to R106). -/
  plates : Plates
  /-- The Gravers (R108 to R145): 0 to 15 for the generate channels, 16 to 19 for the pattern groups. -/
  gravers : List Graver
  /-- The scenarios beyond their records (R147 to R166), scenario k at position k. -/
  scens : List ScenX
  /-- The PENDING schedule entries beyond their records (R167 to R173). -/
  scheds : List SchedX
  /-- The queues of SCEN.CMD and SCHED.CMD (R153, R169). -/
  unit : CmdUnit
  /-- The lane drivers and the trigger ports (R178 to R200). -/
  lanes : Lanes
  /-- The proof stencils (R214 to R218), channel n at position n. -/
  proofs : List Proof
  /-- The capture channels (R229 to R289), channel n at position n. -/
  tracers : List Tracer
  /-- The event fabric (R290 to R315). -/
  xh : Xh
  /-- The clock die, device time's corrections and the sync bus (R316 to R351). -/
  clk : Clk
  /-- The calibration engine (R352 to R371). -/
  cal : Cal
  /-- The DRAM controllers (R373 to R395). -/
  dram : Dram
  /-- The DMA engine and the DATU (R421 to R443). -/
  dma : Dma
  /-- Signet, Atelier and the flash (R503 to R527). -/
  trust : Trust
  /-- The 64-bit code words of scratchpad-held tables, general scratchpad and DRAM that read uncorrectable (R378, R379, R410, R580), by the device address of their first byte. -/
  badWords : List Nat
  /-- Owners of the 64 KiB frames, by frame number (address / 65,536); an unlisted frame is unowned (R421). -/
  frames : List (Nat × Nat)
  /-- The feeds and the capture loopback test (R528 to R546). -/
  power : Power
  /-- The commands that wait, first in, first out. -/
  pending : List Instr
deriving DecidableEq, Repr

/-- Why the machine stops. -/
inductive Fault
  /-- A happening at a pin, a port or an engine names an instance the variant does not fit (R2). Raised by the meanings
  of the commands that are no host access. Safe: the hardware has no such happening. -/
  | noSuchBlock
deriving DecidableEq, Repr

/-- Why a command is turned away. -/
inductive Refusal
  /-- The command has no meaning yet. Raised by `exec` alone. Safe. -/
  | notModelled (mnemonic : String)
deriving DecidableEq, Repr

/-- The module right after module reset, start-up not yet run (R13, R515, R549; assumption log, entry 1). -/
def State.reset : State :=
  { variant := .ea1640,
    regs := [],
    mem := [],
    now := 0,
    fresh := 0,
    xport := Xport.fresh,
    gens := List.replicate 16 Gen.fresh,
    plates := ⟨none, [], [], []⟩,
    gravers := List.replicate 20 Graver.fresh,
    scens := List.replicate 64 ScenX.fresh,
    scheds := [],
    unit := ⟨[], [], 0, 0⟩,
    lanes := ⟨[], [], List.replicate 4 ⟨false, false, 0⟩, List.replicate 4 none⟩,
    proofs := List.replicate 16 Proof.fresh,
    tracers := List.replicate 4 Tracer.fresh,
    xh := Xh.fresh,
    clk := Clk.fresh,
    cal := ⟨[], [], [], [], [], [], [], none, 0, 0, false⟩,
    dram := { cool := List.replicate 6 0, panicAt := List.replicate 28 none },
    dma := { chunks := [], taken := List.replicate 16 0, turn := [3, 7, 11, 15], tags := 0, frame := none, commits := [], stopping := [] },
    trust := Trust.fresh,
    badWords := [],
    frames := [],
    power := ⟨[], [0, 0], 0, 0⟩,
    pending := [] }

end Sys2Proof.Machine
end

