-- ==== Sys2Proof/Machine/Flags.lean ====
section
/-! DEFINITION. Sys2Proof/Machine/Flags.lean: the register file read and written by field, the flags among the fields,
and the counters, which saturate (R70, R478, R494). -/
namespace Sys2Proof.Machine
open Sys2Proof

/-! ### Fields and registers -/

/-- The bits of field `f` within a word. -/
def getF (w : Word) (f : Field) : Nat := w.toNat / 2 ^ f.lo % 2 ^ (f.hi + 1 - f.lo)

/-- The mask of field `f` within a word. -/
def maskF (f : Field) : Word := BitVec.ofNat 32 ((2 ^ (f.hi + 1 - f.lo) - 1) * 2 ^ f.lo)

/-- A word with field `f` set to the low bits of `v`. -/
def setF (w : Word) (f : Field) (v : Nat) : Word :=
  (w &&& ~~~ maskF f) ||| BitVec.ofNat 32 (v % 2 ^ (f.hi + 1 - f.lo) * 2 ^ f.lo)

/-- The register key of offset 0 of page `p` (R480). -/
def base (p : Nat) : Nat := p * 0x1000

/-- The register key of offset 0 of session `k`'s copies on page `p` (R489, R493). -/
def sbase (k p : Nat) : Nat := k * 0x1000000 + p * 0x1000

/-- The word a register key holds. -/
def State.rd (s : State) (key : Nat) : Word := stGet (regReset s.variant) s.regs key

/-- A register key set to a word. -/
def State.wr (s : State) (key : Nat) (w : Word) : State := { s with regs := stSet (regReset s.variant) s.regs key w }

/-- Field `f` of the page at key `b`; `i` is the register's index in its array. -/
def State.fg (s : State) (b : Nat) (f : Field) (i : Nat := 0) : Nat := getF (s.rd (b + f.off + f.stride * i)) f

/-- Field `f` set. -/
def State.fs (s : State) (b : Nat) (f : Field) (v : Nat) (i : Nat := 0) : State :=
  s.wr (b + f.off + f.stride * i) (setF (s.rd (b + f.off + f.stride * i)) f v)

/-- Field `f` as a flag. -/
def State.fb (s : State) (b : Nat) (f : Field) (i : Nat := 0) : Bool := s.fg b f i != 0

/-- A counter field raised by `n`, saturating at the field's greatest value (R70, R478). -/
def State.countBy (s : State) (b : Nat) (f : Field) (n : Nat) (i : Nat := 0) : State :=
  s.fs b f (satAdd (2 ^ (f.hi + 1 - f.lo) - 1) (s.fg b f i) n) i

/-- A counter field incremented, saturating at the field's greatest value. -/
def State.count (s : State) (b : Nat) (f : Field) (i : Nat := 0) : State := s.countBy b f 1 i

/-- The 64-bit value of the pair at key `key` (R494). -/
def State.rd64 (s : State) (key : Nat) : Nat := join64 (s.rd key).toNat (s.rd (key + 4)).toNat

/-- The pair at key `key` set. -/
def State.wr64 (s : State) (key v : Nat) : State :=
  (s.wr key (BitVec.ofNat 32 v)).wr (key + 4) (BitVec.ofNat 32 (v / 2 ^ 32))

/-- The 64-bit counter at key `key` incremented. -/
def State.inc64 (s : State) (key : Nat) : State := s.wr64 key ((s.rd64 key + 1) % 2 ^ 64)

/-- Every register key that `p` names back at its reset value. -/
def State.dropRegs (s : State) (p : Nat → Bool) : State := { s with regs := stDrop p s.regs }

end Sys2Proof.Machine
end

