-- ==== Sys2Proof/Machine/Ops.lean ====
section
/-! DEFINITION. Sys2Proof/Machine/Ops.lean: the named operations over the memory, the free values, the sessions and
the notice queues that every meaning is written with, sending, and the codes of refusals and results. -/
namespace Sys2Proof.Machine
open Sys2Proof

/-! ### Memory -/

/-- The live calibration view (R368), which is where the trims and estimators have their home. -/
abbrev calLive : Nat := 0x087C0000

/-- The nominal trim code of the word at offset `o` of the live view (R352); 0 where it is no trim word. A generate
block holds DAC gain and offset of 12 bits and further trims of 10, a capture block trims of 10 bits. -/
def trimNominal (o : Nat) : Nat :=
  if 0x1000 ≤ o ∧ o < 0x11000 then
    if o % 0x1000 < 8 then 2048
    else if (0x10 ≤ o % 0x1000 ∧ o % 0x1000 < 0x30) ∨ (0x40 ≤ o % 0x1000 ∧ o % 0x1000 < 0xA0) then 512
    else 0
  else if 0x11000 ≤ o ∧ o < 0x15000 ∧ o % 0x1000 < 0x180 then 512
  else 0

/-- What a byte of memory that nothing has written reads as: every table, scratchpad and DRAM byte 0, and each trim word
of the live calibration view its factory value in both halves (R354; assumption log, entries 7 and 24). -/
def memDefault (a : Nat) : Byte :=
  if calLive ≤ a ∧ a < calLive + 0x15000 then
    BitVec.ofNat 8 (trimNominal ((a - calLive) / 4 * 4) / 256 ^ (a % 2))
  else 0#8

/-- A byte of memory. -/
def State.mb (s : State) (a : Nat) : Byte := stGet memDefault s.mem a

/-- A byte of memory set. -/
def State.setMb (s : State) (a : Nat) (b : Byte) : State := { s with mem := stSet memDefault s.mem a b }

/-- The `n` bytes from address `a`, as a little-endian number. -/
def State.ld (s : State) (a : Nat) : Nat → Nat
  | 0 => 0
  | n + 1 => (s.mb a).toNat + 256 * State.ld s (a + 1) n

/-- The low `n` bytes of `v` stored little-endian from address `a`. -/
def State.st (s : State) (a v : Nat) : Nat → State
  | 0 => s
  | n + 1 => State.st (s.setMb a (BitVec.ofNat 8 v)) (a + 1) (v / 256) n

/-- A 32-bit word of memory. -/
def State.ldw (s : State) (a : Nat) : Nat := s.ld a 4

/-- A 32-bit word of memory set. -/
def State.stw (s : State) (a v : Nat) : State := s.st a v 4

/-- Bits [hi:lo] of the memory word at `a`. -/
def State.mbits (s : State) (a hi lo : Nat) : Nat := bits (s.ldw a) hi lo

/-- Bits [hi:lo] of the memory word at `a` set. -/
def State.setMbits (s : State) (a hi lo v : Nat) : State :=
  s.stw a (s.ldw a - s.mbits a hi lo * 2 ^ lo + v % 2 ^ (hi + 1 - lo) * 2 ^ lo)

/-- Bytes `a` to `a + n - 1` back at what they read unwritten. -/
def State.zero (s : State) (a n : Nat) : State := { s with mem := stDrop (fun x => decide (a ≤ x ∧ x < a + n)) s.mem }

/-- A list of bytes stored from address `a`. -/
def State.stBytes (s : State) (a : Nat) : List Byte → State
  | [] => s
  | b :: t => State.stBytes (s.setMb a b) (a + 1) t

/-- The memory is in its canonical form. -/
abbrev Memory.wf (m : List Host.Cell) : Prop := stWf memDefault m = true

/-! ### Free values -/

/-- The next free value, of the thing `what` (assumption log, entry 3). -/
def State.free (s : State) (what : Nat) : Nat := Config.freeValue s.fresh what

/-- The counter of free values advanced. -/
def State.bump (s : State) : State := { s with fresh := s.fresh + 1 }

/-! ### Sessions -/

/-- Session number `k`; there is no number 0. -/
def State.ses (s : State) (k : Nat) : Sess := if k = 0 then Sess.fresh else s.xport.sess.getD (k - 1) Sess.fresh

/-- Session number `k` changed. -/
def State.updSes (s : State) (k : Nat) (f : Sess → Sess) : State :=
  { s with xport := { s.xport with sess := if k = 0 then s.xport.sess else s.xport.sess.modify (k - 1) f } }

/-- Session number `k` is OPEN. -/
def State.isOpen (s : State) (k : Nat) : Bool := decide (1 ≤ k ∧ k ≤ 16) && decide ((s.ses k).st = .opened)

/-- The owner of page `p` (R484). -/
def State.owner (s : State) (p : Nat) : Nat := s.fg (base p) HDR_PAGE_OWNER_OWNER

/-- The owner of the CLK page (R492). -/
def State.clkOwner (s : State) : Nat := s.owner pCLK

/-- Session `k` owns page `p`. -/
def State.owns (s : State) (k p : Nat) : Bool := decide (k ≠ 0) && s.owner p == k

/-! ### Notices (R467 to R469) -/

/-- Reserved or not, the bit a notice sets in session `k`'s copy of PAGE_NOTICE_RAW. -/
def State.setRaw (s : State) (k page code : Nat) : State :=
  s.fs (sbase k page) HDR_PAGE_NOTICE_RAW_RAW (putBit (s.fg (sbase k page) HDR_PAGE_NOTICE_RAW_RAW) code true)

/-- The form in which a notice travels: short while Atelier, which composes it, is unavailable (R22). Which notices Atelier
composes is uninterpreted, and the first argument kept is the whole word at offset 0x10 (assumption log, entry 53). -/
def State.formOf (s : State) (n : Notice) : Notice :=
  if !s.fb (base pDEV) DEV_FW_STATUS_ATELIER_READY && Config.atelierComposes n.page n.code then
    { n with w1 := 0, w2 := 0, w3 := 0 } else n

/-- The records that follow a notice raised now: those raised in this tick, not yet sent, of a higher PAGE, then CODE (R468). -/
def Sess.later (q : Sess) (now : Nat) (n : Notice) : List NoticeRec :=
  (q.notices.reverse.takeWhile (fun r => r.inMsg.isNone && r.at_ == now && decide (n.page * 32 + n.code < r.body.page * 32 + r.body.code))).reverse

/-- The queue with a notice put in the place that R468 gives it; `next` is the NSEQ of the next record. -/
def Sess.withNotice (q : Sess) (now next : Nat) (n : Notice) : List NoticeRec :=
  let later := q.later now n
  q.notices.take (q.notices.length - later.length)
    ++ [{ nseq := (later.head?.map (·.nseq)).getD next, body := n, inMsg := none, at_ := now }]
    ++ later.map (fun r => { r with nseq := (r.nseq + 1) % 2 ^ 32 })

/-- A notice record put into session `k`'s queue, or counted in LOST_PENDING when the queue is full (R469); notices raised in one tick are
queued in order of PAGE, then CODE (R468). -/
def State.queueNotice (s : State) (k : Nat) (n : Notice) : State :=
  if (s.ses k).notices.length < 1024 then
    (s.updSes k (fun q => { q with notices := q.withNotice s.now (s.fg (sbase k pNOTE) NOTE_NEXT_NSEQ_VALUE) (s.formOf n) })).fs
      (sbase k pNOTE) NOTE_NEXT_NSEQ_VALUE (s.fg (sbase k pNOTE) NOTE_NEXT_NSEQ_VALUE + 1)
  else s.fs (sbase k pNOTE) NOTE_LOST_PENDING_VALUE (s.fg (sbase k pNOTE) NOTE_LOST_PENDING_VALUE + 1)

/-- A notice raised for session number `k` (R468): its bit in RAW is set, and it is queued if its mask bit is 1. A
number that has ended and holds an estate counts it in LOST_PENDING (R473); a FREE number receives none. -/
def State.notifyTo (s : State) (k : Nat) (n : Notice) : State :=
  match (s.ses k).st with
  | .opened =>
    if bit (s.fg (sbase k n.page) HDR_PAGE_NOTICE_MASK_MASK) n.code || (n.page == pNOTE && n.code == 0) then
      (s.setRaw k n.page n.code).queueNotice k n
    else (s.setRaw k n.page n.code).count (sbase k pNOTE) NOTE_MASKED_COUNT_VALUE
  | .free => s
  | _ => (s.setRaw k n.page n.code).fs (sbase k pNOTE) NOTE_LOST_PENDING_VALUE
      (s.fg (sbase k pNOTE) NOTE_LOST_PENDING_VALUE + 1)

/-- The session numbers that are OPEN. -/
def State.openList (s : State) : List Nat := ((List.range 16).map (· + 1)).filter (fun k => s.isOpen k)

/-- A notice raised for every open session. -/
def State.notifyAll (s : State) (n : Notice) : State := s.openList.foldl (fun t k => t.notifyTo k n) s

/-- A notice that goes to the owner of its source page, or to every open session where the device owns the page
(R468). An unowned page has no recipient. -/
def State.notify (s : State) (n : Notice) : State :=
  if s.owner n.page = 0xFF then s.notifyAll n
  else if s.owner n.page = 0 then s
  else s.notifyTo (s.owner n.page) n

/-- A notice with the arguments given, at the present device time. -/
def State.note (s : State) (page code : Nat) (w0 w1 w2 w3 : Nat := 0) : Notice :=
  { page := page, code := code, time := s.now, w0 := w0, w1 := w1, w2 := w2, w3 := w3 }

/-! ### Faults of a page (R488) -/

/-- A fault recorded: the first sets CODE and DETAIL, every later one increments MORE. -/
def State.pageFault (s : State) (p code detail : Nat) : State :=
  if s.fg (base p) HDR_PAGE_FAULT_CODE = 0 then
    ((s.fs (base p) HDR_PAGE_FAULT_CODE code).fs (base p) HDR_PAGE_FAULT_DETAIL detail)
  else s.fs (base p) HDR_PAGE_FAULT_MORE (satAdd 255 (s.fg (base p) HDR_PAGE_FAULT_MORE) 1)

/-! ### Sending (R452, R455, R456) -/

/-- The port session `k` sends on (R472). -/
def State.curPort (s : State) (k : Nat) : Nat := s.fg (sbase k pXPORT) XPORT_SESSION_CURRENT

/-- What a port has sent, newest first, and its count of sent frames (R477). -/
def State.wire (s : State) (m : Sent) : State :=
  ({ s with xport := { s.xport with sent := m :: s.xport.sent } }).inc64 (base (pLINK m.port) + LINK_TX_FRAMES)

/-- Host port `p` beyond its page. -/
def State.port (s : State) (p : Nat) : Port := s.xport.ports.getD (p % 2) Port.fresh

/-- The key of LINKp's page. -/
def linkBase (p : Nat) : Nat := base (pLINK (p % 2))

/-- The 128-bit number in four words from offset `off` of LINKp's page, the first word highest. -/
def State.quad (s : State) (p off : Nat) : Nat :=
  (List.range 4).foldl (fun n i => n * 2 ^ 32 + (s.rd (linkBase p + off + 4 * i)).toNat) 0

/-- Two addresses of `n` bits share their first `len` bits. -/
def samePrefix (n len a b : Nat) : Bool := a / 2 ^ (n - len) == b / 2 ^ (n - len)

/-- An IPv4 address, alone or as ::ffff:a.b.c.d (R457). -/
def isV4 (a : Nat) : Bool := decide (a / 2 ^ 32 = 0 ∨ a / 2 ^ 32 = 0xFFFF)

/-- The next hop from port `p` to an address (R449): the address itself where it is a broadcast, a multicast group, a link-local address or
one within the prefix, and otherwise the gateway. DHCPv4 gives a mask; SLAAC a prefix of 64 bits and the router. -/
def State.nextHop (s : State) (p a : Nat) : Nat :=
  let b := linkBase p
  let v := a % 2 ^ 32
  if isV4 a then
    let mine := s.fg b LINK_V4_ADDR_ADDR
    let near := if s.fg b LINK_ADDR_CFG_V4_MODE = 2 then v &&& (s.port p).dhcpMask == mine &&& (s.port p).dhcpMask
      else samePrefix 32 (s.fg b LINK_ADDR_CFG_V4_PREFIX) v mine
    if v = 0xFFFFFFFF ∨ near then v else s.fg b LINK_V4_GW_ADDR
  else
    let slaac : Bool := s.fg b LINK_ADDR_CFG_V6_MODE == 2
    let near := samePrefix 128 (if slaac then 64 else s.fg b LINK_ADDR_CFG_V6_PREFIX) a (s.quad p (LINK_V6_ADDR 0))
    if 0xFF ≤ a / 2 ^ 120 ∨ a / 2 ^ 118 = 0x3FA ∨ near then a else if slaac then (s.port p).router else s.quad p (LINK_V6_GW 0)

/-- The tag of every frame that port `p` sends (R450). -/
def State.vlanTag (s : State) (p : Nat) : Option (Nat × Nat) :=
  if s.fb (linkBase p) LINK_CTRL_VLAN_EN then some (s.fg (linkBase p) LINK_CTRL_VLAN_ID, s.fg (linkBase p) LINK_CTRL_PCP) else none

/-- A message or frame sent on port `p` to an address and UDP port (R449 to R452). -/
def State.sendTo (s : State) (p dest udp k seq ack credits : Nat) (retry : Bool) (m : Msg) : State :=
  s.wire { port := p, sess := k, seq := seq, ack := ack, credits := credits, retry := retry, msg := m, dest := dest, udp := udp, hop := s.nextHop p dest, vlan := s.vlanTag p }

/-- A message of session `k` put on the wire: on the port it opened from to the address and UDP port of its OPEN_REQ, and on the other to
those of ALT (R451). -/
def State.emit (s : State) (port k seq : Nat) (retry : Bool) (m : Msg) : State :=
  let q := s.ses k
  let home : Bool := port == q.homePort
  s.sendTo port (if home then q.openAddr else q.alt) (if home then q.openUdp else q.altUdp) k seq (q.rxNext - 1) (q.creditsOut % 65536) retry m

/-- An unreliable message to session `k`. -/
def State.sendPlain (s : State) (k : Nat) (m : Msg) : State := s.emit (s.curPort k) k 0 false m

/-- A RESPONSE. -/
def Msg.isResponse : Msg → Bool
  | .response .. => true
  | _ => false

/-- The tag of a pull request. -/
def Msg.pullTag : Msg → List Nat
  | .pullReq tag _ _ _ => [tag]
  | _ => []

/-- One command credit of session `k` returned (R463). -/
def State.returnCredit (s : State) (k : Nat) : State := s.updSes k (fun q => { q with creditsOut := q.creditsOut + 1 })

/-- A reliable message to session `k`: sent while fewer than 1,024 are unacknowledged, held back at its source
otherwise (R456). The credit of a command returns when its RESPONSE is first sent (R463). -/
def State.sendRel (s : State) (k : Nat) (m : Msg) : State :=
  if (s.ses k).unacked.length < 1024 then
    let s := if m.isResponse then s.returnCredit k else s
    (s.emit (s.curPort k) k (s.ses k).txNext false m).updSes k (fun q =>
      { q with txNext := q.txNext + 1, pulls := q.pulls ++ m.pullTag.map (fun t => (t, s.now)),
               unacked := q.unacked ++ [{ seq := q.txNext, msg := m, firstAt := s.now, sentAt := s.now, resends := 0 }] })
  else s.updSes k (fun q => { q with waiting := q.waiting ++ [m] })

/-! ### Refusal and result codes -/

/-- The codes of refusals and results, one series over R175, R310, R370, R409, R422, R460, R524. -/
inductive Code
  | ok | limit | bounds | budget | owner | unpinned | event | cancelled | locked | state | busy | priority | version
  | firmwareBusy | capture | empty | orphaned | late | secure | clocking | producer | rate | image | collision | ecc
  | pinned | table | align | address | format | auth | full | signature | rollback | bundle | flash | unmapped | pool
deriving DecidableEq, Repr

/-- The number of a code. -/
def Code.num : Code → Nat
  | .ok => 0x00 | .limit => 0x01 | .bounds => 0x02 | .budget => 0x03 | .owner => 0x04 | .unpinned => 0x05
  | .event => 0x06 | .cancelled => 0x07 | .locked => 0x08 | .state => 0x09 | .busy => 0x0A | .priority => 0x0B
  | .version => 0x0C | .firmwareBusy => 0x0D | .capture => 0x0E | .empty => 0x0F | .orphaned => 0x10 | .late => 0x11
  | .secure => 0x12 | .clocking => 0x13 | .producer => 0x14 | .rate => 0x15 | .image => 0x16 | .collision => 0x17
  | .ecc => 0x18 | .pinned => 0x19 | .table => 0x1A | .align => 0x1B | .address => 0x1C | .format => 0x1D
  | .auth => 0x1E | .full => 0x1F | .signature => 0x20 | .rollback => 0x21 | .bundle => 0x22 | .flash => 0x23
  | .unmapped => 0x24 | .pool => 0x25

/-- What an access does: the next state, or a refusal that changes nothing. -/
abbrev Act := Except Code State

end Sys2Proof.Machine
end

