-- ==== Sys2Proof/Machine/Operands.lean ====
section
/-! DEFINITION. Sys2Proof/Machine/Operands.lean: the address operand of a register access: the page it names, the copy a
session reaches where a register is marked per-session, and the words of a page that belong to absent hardware. -/
namespace Sys2Proof.Machine
open Sys2Proof

/-- The page number of a register address. -/
def pageNo (a : Nat) : Nat := a / 0x1000

/-- Registers marked per-session: their offsets on each kind of page (R478, R479, R498, R445, R526, and the command
status registers of R84, R153, R169, R310, R372; assumption log, entry 13). -/
def perSession (k : PageKind) (off : Nat) : Bool :=
  match k with
  | .dev => off == 0x068 || off == 0x06C
  | .trust => (0x048 ≤ off && off < 0x058) || off == 0x074
  | .xh => off == 0x044
  | .cal => off == 0x050
  | .datu => (0x040 ≤ off && off < 0x05C) || (0x060 ≤ off && off < 0x084 && off != 0x070)
  | .xport => off == 0x040 || off == 0x044 || off == 0x048 || off == 0x054 || (0x060 ≤ off && off < 0x0A0)
  | .note => 0x040 ≤ off && off < 0x054
  | .scen => off == 0x044
  | .sched => off == 0x044
  | _ => false

/-- The register key that session `k` reaches at address `a`. -/
def State.keyFor (s : State) (k a : Nat) : Nat :=
  match pageOf s.variant (pageNo a) with
  | none => a
  | some (kind, _) =>
    if a % 0x1000 = 0x014 ∨ a % 0x1000 = 0x018 ∨ perSession kind (a % 0x1000) then k * 0x1000000 + a else a

/-- A register word of page kind `kind` belongs to an absent Graver, channel, port or interface (R481). -/
def absentWord (v : Variant) (kind : PageKind) (off : Nat) : Bool :=
  match kind with
  | .cal => (0x100 ≤ off && off < 0x200 && decide (v.gens ≤ (off - 0x100) / 16))
      || (0x200 ≤ off && off < 0x240 && decide (v.caps ≤ (off - 0x200) / 16))
  | .memc =>
    if 0x210 ≤ off ∧ off < 0x228 then decide (v.mifs ≤ (off - 0x210) / 4)
    else if 0x100 ≤ off ∧ off < 0x2C0 ∧ (off < 0x200 ∨ 0x230 ≤ off) then
      let p := (off - 0x100) / 16
      if p < 16 then decide (v.gens ≤ p) else if p < 20 then decide (v.pats ≤ p - 16)
      else if p < 24 then decide (v.caps ≤ p - 20) else decide (v.caps ≤ p - 24)
    else false
  | .scen =>
    if 0x400 ≤ off ∧ off < 0x540 then
      let g := (off - 0x400) / 16
      if g < 16 then decide (v.gens ≤ g) else decide (v.pats ≤ g - 16)
    else false
  | _ => false

end Sys2Proof.Machine
end

