-- ==== Sys2Proof/Machine/Access.lean ====
section
/-! DEFINITION. Sys2Proof/Machine/Access.lean: how a host access to a register is judged (R490 to R493, R579), how its
outcome is reported (R461, R462), and the plain effect of a register write by the access codes of R14. -/
namespace Sys2Proof.Machine
open Sys2Proof

/-! ### Scenario records (R147, R148): the part the locks of R15 need -/

/-- The record of scenario `k` in the scenario table. -/
def scenAddr (k : Nat) : Nat := 0x08620000 + 256 * k

/-- The state of scenario `k`, as the code of R151. -/
def State.scenState (s : State) (k : Nat) : Nat := s.mbits (scenAddr k + 0xC0) 3 0

/-- The owner of scenario `k`. -/
def State.scenOwner (s : State) (k : Nat) : Nat := s.mbits (scenAddr k + 0xC0) 23 16

/-- The Graver mask of scenario `k`: bit g for Graver g. -/
def State.scenGravers (s : State) (k : Nat) : Nat := s.mbits (scenAddr k + 0x14) 19 0

/-- The capture mask of scenario `k`. -/
def State.scenCaps (s : State) (k : Nat) : Nat := s.mbits (scenAddr k + 0x14) 23 20

/-- The states in which a scenario counts as armed for the locks of R15: every state from the acceptance of its arm
to the end of its disarm (R154; assumption log, entry 12). -/
def scenArmed (st : Nat) : Bool := decide (2 ≤ st ∧ st ≤ 9)

/-- The page is a member of scenario `k`: GEN and PAT pages by GRAVER_MASK; CAP, STRM and STEN pages by CAP_MASK
(R150). -/
def State.scenNames (s : State) (k p : Nat) : Bool :=
  if 0x040 ≤ p ∧ p < 0x050 then bit (s.scenGravers k) (p - 0x040)
  else if 0x050 ≤ p ∧ p < 0x054 then bit (s.scenGravers k) (p - 0x050 + 16)
  else if 0x060 ≤ p ∧ p < 0x06C then bit (s.scenCaps k) ((p - 0x060) % 4)
  else false

/-- An armed scenario uses the block of page `p`. -/
def State.armedUses (s : State) (p : Nat) : Bool :=
  (List.range 64).any (fun k => scenArmed (s.scenState k) && s.scenNames k p)

/-- The RWA fields of page `p` are locked (R15): an armed scenario uses the block, or on a CAP, STRM or STEN page the
channel acquires outside any scenario (R232), or on a STRM or STEN page the ring is enabled (R288). -/
def State.rwaLocked (s : State) (p : Nat) : Bool :=
  let n := (p - 0x060) % 4
  s.armedUses p || (decide (0x060 ≤ p ∧ p < 0x06C) && s.fb (base (pCAP n)) CAP_CAP_STATUS_ACQUIRING
      && !s.fb (base (pCAP n)) CAP_CAP_STATUS_SCENARIO)
    || (decide (0x064 ≤ p ∧ p < 0x06C) && s.fb (base (pSTRM n)) STRM_RING_CTRL_EN)

/-! ### The order of judgement (R490) -/

/-- Order 3 of R490: the party a write is accepted from (R491, R492). Where the register's own operation judges the
party, as for event channels (R310), queues (R431) and commands, it is accepted here. -/
def State.mayWrite (s : State) (k p : Nat) (kind : PageKind) (off : Nat) : Bool :=
  if kind.ordinary then s.owns k p
  else if off = 0x00C then s.owns k pCLK
  else match kind with
    | .dev => if off = 0x074 then s.owns k pCLK else true
    | .cal =>
      if off = 0x040 ∨ off = 0x044 ∨ off = 0x048 ∨ off = 0x070 then s.owns k pCLK
      else if 0x100 ≤ off ∧ off < 0x200 ∧ off % 16 = 0 then s.owns k (pGEN ((off - 0x100) / 16))
      else if 0x200 ≤ off ∧ off < 0x240 ∧ off % 16 = 0 then s.owns k (pCAP ((off - 0x200) / 16))
      else true
    | .memc | .mif | .spad | .link => s.owns k pCLK
    | .pwr => if off = 0x058 ∨ off = 0x068 then true else s.owns k pCLK
    | .therm => s.owns k pCLK
    | .dma => if off = 0x04C then s.owns k pCLK else true
    | .xport => if off = 0x04C then s.owns k pCLK else true
    | .scen => if off = 0x050 then s.owns k pCLK else true
    | _ => true

/-- A write of `w` would change an RWA field among `fs` (R15). -/
def changesRwa (fs : List Field) (old w : Word) : Bool :=
  fs.any (fun f => (f.acc == .rwa || f.acc == .shwa) && getF w f != getF old f)

/-- A writable field of `fs` would leave its stated range (R579). -/
def outOfRange (fs : List Field) (w : Word) : Bool :=
  fs.any (fun f => f.acc != .ro && f.acc != .sho && (decide (getF w f < f.vmin) || decide (f.vmax < getF w f)))

/-- Combinations and codes a rule reserves beyond the range of one field (R233, R579). -/
def badCombo (k : PageKind) (off : Nat) (w : Word) : Bool :=
  match k with
  | .cap =>
    if off = 0x108 then decide (sext 12 (getF w CAP_TRIG_WINDOW_HIGH) < sext 12 (getF w CAP_TRIG_WINDOW_LOW))
    else if off = 0x100 then
      decide (1 ≤ getF w CAP_TRIG_CFG_TYPE ∧ getF w CAP_TRIG_CFG_TYPE ≤ 6 ∧ getF w CAP_TRIG_CFG_SLOPE = 0)
    else if off = 0x040 then
      decide (sext 12 (getF w CAP_IN_CFG_OFFSET) < -1024 ∨ 1024 < sext 12 (getF w CAP_IN_CFG_OFFSET))
    else false
  | .strm => if off = 0x054 then decide (getF w STRM_WATERMARK_HIGH ≤ getF w STRM_WATERMARK_LOW) else false
  | _ => false

/-- The module is RETIRED: every write but those of R489 and DEV.SCRATCH is refused with OWNER (R508). -/
def State.retired (s : State) : Bool := s.fg (base pTRUST) TRUST_LIFECYCLE_STATE == 4

/-- The state of Rest (R550): 0 ACTIVE, 1 ENTERING, 2 REST, 3 WAKING. -/
def State.restState (s : State) : Nat := s.fg (base pPWR) PWR_REST_STATUS_STATE

/-- Page `p` is served in Rest (R535). -/
def State.restServes (s : State) (kind : PageKind) (inst : Nat) : Bool :=
  match kind with
  | .dev | .trust | .pwr | .therm | .time | .xport | .note => true
  | .link => inst == s.fg (base pPWR) PWR_REST_CFG_PORT
  | _ => false

/-- A write that would break a condition of R536 while Rest is being entered. A submission is judged where it is checked. -/
def restBreaks (kind : PageKind) (off : Nat) (w : Word) : Bool :=
  match kind with
  | .scen => off == SCEN_CMD && [1, 2, 6, 7].contains (getF w SCEN_CMD_OP)
  | .strm => off == STRM_ACQ_CMD && getF w STRM_ACQ_CMD_START == 1
  | .gen => (off == GEN_TEST_CMD && getF w GEN_TEST_CMD_GO == 1) || (off == GRV_COMMIT_CMD && getF w GRV_COMMIT_CMD_GO == 1)
  | .pat => off == GRV_COMMIT_CMD && getF w GRV_COMMIT_CMD_GO == 1
  | .datu => (off == DATU_XLAT_CMD && getF w DATU_XLAT_CMD_COMMIT == 1) || off == DATU_FRAME_CMD
  | .dma => decide (0x100 ≤ off ∧ off < 0x200) && off % 16 == 8
  | .mif => off == MIF_CMD && getF w MIF_CMD_RETRAIN == 1
  | .memc => off == MEMC_CFG
  | .spad => off == SPAD_TEST_CMD && getF w SPAD_TEST_CMD_GO == 1
  | .pwr => off == PWR_LOOP_CMD && getF w PWR_LOOP_CMD_GO == 1
  | _ => false

/-- Orders 1 to 4 of R490 on a write at register address `a` by session `k`, with what Rest refuses (R535). -/
def State.judgeHead (s : State) (k a : Nat) : Except Code Unit :=
  match pageOf s.variant (pageNo a) with
  | none => .error .address
  | some (kind, inst) =>
    if absentWord s.variant kind (a % 0x1000) then .error .address
    else if 2 ≤ s.restState ∧ !s.restServes kind inst then .error .state
    else if a % 0x1000 = 0x014 ∨ a % 0x1000 = 0x018 then .ok ()
    else if s.retired && a != base pDEV + 0x06C then .error .owner
    else if !s.mayWrite k (pageNo a) kind (a % 0x1000) then .error .owner
    else if s.fb (base (pageNo a)) HDR_PAGE_CTRL_BUSY then .error .busy
    else .ok ()

/-- Orders 5 and 6 of R490 on a write of `w`, with what the entry into Rest refuses (R536). -/
def State.judgeRest (s : State) (k a : Nat) (w : Word) : Except Code Unit :=
  match pageOf s.variant (pageNo a) with
  | none => .error .address
  | some (kind, inst) =>
    if a % 0x1000 = 0x014 ∨ a % 0x1000 = 0x018 then .ok ()
    else if s.rwaLocked (pageNo a) && changesRwa (fieldsAt kind inst (a % 0x1000)) (s.rd (s.keyFor k a)) w then
      .error .locked
    else if s.restState = 1 ∧ restBreaks kind (a % 0x1000) w then .error .state
    else if outOfRange (fieldsAt kind inst (a % 0x1000)) w || badCombo kind (a % 0x1000) w then .error .format
    else .ok ()

/-- The checks of R490 on a write of `w` at register address `a` by session `k`, before the field's own rules, with what Rest
refuses (R535, R536). -/
def State.judge (s : State) (k a : Nat) (w : Word) : Except Code Unit := do
  s.judgeHead k a
  s.judgeRest k a w

/-- The plain effect of a write by the access codes of R14: RW and RWA fields take the value, W1C bits are cleared,
W1S bits are set, everything else is ignored (R12). -/
def plainWrite (fs : List Field) (old w : Word) : Word :=
  fs.foldl (fun r f =>
    match f.acc with
    | .rw | .rwa | .shw | .shwa => setF r f (getF w f)
    | .w1c => r &&& ~~~ (w &&& maskF f)
    | .w1s => r ||| (w &&& maskF f)
    | _ => r) old

/-- The plain effect at register address `a`. -/
def State.plain (s : State) (k a : Nat) (w : Word) : State :=
  match pageOf s.variant (pageNo a) with
  | none => s
  | some (kind, inst) =>
    s.wr (s.keyFor k a) (plainWrite (fieldsAt kind inst (a % 0x1000)) (s.rd (s.keyFor k a)) w)

/-! ### Reporting (R461, R462) -/

/-- The RESPONSE to command `seq` of session `k` (R460). -/
def State.respond (s : State) (k seq : Nat) (c : Code) (done failAddr : Nat) (data : List Word) : State :=
  s.sendRel k (.response seq c.num done failAddr data)

/-- The report of a posted write that stopped short (R462); its credit returns (R463). -/
def State.postedFail (s : State) (k seq : Nat) (c : Code) (done failAddr : Nat) : State :=
  ((s.returnCredit k).count (sbase k pXPORT) XPORT_POSTED_FAIL_COUNT_COUNT).notifyTo k
    (s.note pNOTE 1 seq (c.num * 2 ^ 24 + done % 65536) (failAddr % 2 ^ 32) (failAddr / 2 ^ 32))

/-- The report of one word's outcome: a RESPONSE, or for a posted write nothing or WRITE_FAILED. -/
def State.report (s : State) (o : Org) (a : Nat) (r : Act) : State :=
  match r with
  | .ok t => if o.posted then t.returnCredit o.sess else t.respond o.sess o.seq .ok 1 0 []
  | .error c => if o.posted then s.postedFail o.sess o.seq c 0 a else s.respond o.sess o.seq c 0 a []

/-- One host write to a register whose effect is `eff`: the message of a session that is not open is discarded and
counted (R454); otherwise it is judged, takes effect or is refused, and is reported. -/
def State.hostReg (s : State) (o : Org) (a : Nat) (w : Word) (eff : State → Act) : State :=
  if s.isOpen o.sess then s.report o a (do s.judge o.sess a w; eff s)
  else s.count (base pXPORT) XPORT_DISCARD_COUNT_COUNT

/-- One host write to a table window whose effect is `eff`. -/
def State.hostMem (s : State) (o : Org) (a : Nat) (eff : State → Act) : State :=
  if s.isOpen o.sess then s.report o a (if 2 ≤ s.restState then .error .state else if s.retired then .error .owner else eff s) else s.count (base pXPORT) XPORT_DISCARD_COUNT_COUNT

end Sys2Proof.Machine
end

