-- ==== Sys2Proof/Machine/Journal.lean ====
section
/-! DEFINITION. Sys2Proof/Machine/Journal.lean: the fault journal (R523), the epochs and the wipe of the secure region
(R415, R512), and the completion of start-up (R576), which many families use. -/
namespace Sys2Proof.Machine
open Sys2Proof

/-- The trust state changed. -/
def State.updTrust (s : State) (f : Trust → Trust) : State := { s with trust := f s.trust }

/-- Atelier runs (R22). -/
def State.atelier (s : State) : Bool := s.fb (base pDEV) DEV_FW_STATUS_ATELIER_READY

/-- Powered hours (R522). -/
def State.hours (s : State) : Nat := s.fg (base pTRUST) TRUST_HOURS_VALUE

/-- An entry written to the journal, in a circle of 4,096; entries lost before it are counted in its DETAIL (R523). -/
def State.jWrite (s : State) (e : JEntry) : State :=
  let e := if s.trust.lost = 0 then e else { e with detail := min 255 s.trust.lost }
  (s.updTrust (fun t => { t with journal := (e :: t.journal).take 4096, lost := 0 })).fs (base pTRUST)
    TRUST_JOURNAL_HEAD_INDEX (s.fg (base pTRUST) TRUST_JOURNAL_HEAD_INDEX + 1)

/-- A fault put into the journal: Signet writes the trust faults at once, and holds up to 64 others while Atelier is
unavailable (R523). -/
def State.journal (s : State) (page code detail : Nat) : State :=
  let e : JEntry := { time := s.now, hours := s.hours, page := page, code := code, detail := detail, boots := s.trust.boots }
  if code / 256 = 0x0A ∨ s.atelier then s.jWrite e
  else if s.trust.held.length < 64 then s.updTrust (fun t => { t with held := t.held ++ [e] })
  else s.updTrust (fun t => { t with lost := t.lost + 1 })

/-- Atelier has returned: the entries held are written. -/
def State.jFlush (s : State) : State :=
  (s.trust.held.foldl (fun t e => t.jWrite e) s).updTrust (fun t => { t with held := [] })

/-- Word `w` of the entry at index `i` of the journal; 0 where it holds none. -/
def State.jWord (s : State) (i w : Nat) : Nat :=
  match s.trust.journal[(s.fg (base pTRUST) TRUST_JOURNAL_HEAD_INDEX + 4096 - i) % 4096]? with
  | none => 0
  | some e =>
    match w with
    | 0 => e.time % 2 ^ 32
    | 1 => e.time / 2 ^ 32
    | 2 => e.hours
    | 3 => e.page * 65536 + e.code
    | 4 => e.boots % 65536 * 65536 + e.detail % 256
    | _ => 0

/-- Start-up is complete from the first instant at which all the conditions of R576 hold. -/
def State.checkStarted (s : State) : State :=
  if s.fb (base pDEV) DEV_FW_STATUS_SIGNET_READY && s.atelier && !s.fb (base pMEMC) MEMC_STATUS_REINIT
      && s.fg (base pSPAD) SPAD_STATUS_MODE == 0 && s.fb (base pCLK) CLK_PAGE_STATUS_GF_VALID
      && s.fb (base pCLK) CLK_PAGE_STATUS_CF_VALID then s.updTrust (fun t => { t with started := true })
  else s

/-- The secure region is wiped, with its cause: 1 TAMPER, 2 LIFECYCLE (R415): every key but those written back after it
is gone, and the reclaim secrets lapse (R510, R512). -/
def State.wipe (s : State) (cause : Nat) : State :=
  let t := (s.count (base pSPAD) SPAD_WIPE_COUNT_COUNT).fs (base pSPAD) SPAD_SECURE_LAST_CAUSE cause
  let t := t.updTrust (fun q => { q with keys := [] })
  { t with xport := { t.xport with sess := t.xport.sess.map (fun q => { q with lapsed := true }) } }

end Sys2Proof.Machine
end

