-- ==== Sys2Proof/Machine/Events.lean ====
section
/-! DEFINITION. Sys2Proof/Machine/Events.lean: the Crosshatch event fabric (spec/10_crosshatch_event_fabric.md):
channels, producers, subscriptions, judgement at the fabric tick and accounting. -/
namespace Sys2Proof.Machine
open Sys2Proof

/-! ### Channel records (R290, R291, R315) -/

/-- The XH page that holds channel `c`. -/
def chPage (c : Nat) : Nat := base (pXH (c / 64))

/-- A field of channel `c`. -/
def State.chF (s : State) (c : Nat) (f : Field) : Nat := s.fg (chPage c) f (c % 64)

/-- A field of channel `c` set. -/
def State.setCh (s : State) (c : Nat) (f : Field) (v : Nat) : State := s.fs (chPage c) f v (c % 64)

/-- A field of group `g`. -/
def State.grpF (s : State) (g : Nat) (f : Field) : Nat := s.fg (base (pXH (g / 4))) f (g % 4)

/-- A field of group `g` set. -/
def State.setGrp (s : State) (g : Nat) (f : Field) (v : Nat) : State := s.fs (base (pXH (g / 4))) f v (g % 4)

/-- The owner of channel `c`. -/
def State.chOwner (s : State) (c : Nat) : Nat := s.chF c XH_CH_STAT_OWNER

/-- The level of channel `c` in TB at tick `t` (R296): that of the last move up to then, or else the one the record holds. -/
def State.levelAt (s : State) (c t : Nat) : Bool :=
  match s.xh.levels.reverse.find? (fun m => m.chan == c && decide (m.at_ ≤ t)) with
  | some m => m.level
  | none => s.chF c XH_CH_STAT_LEVEL == 1

/-- How many ticks the fabric remembers the moves of levels: the longest crossing into CF (R303), of 3 ticks and 2 CF cycles. -/
def crossSpan : Nat := 15

/-- Channel `c` has level `v` from tick `t` on: moves that every consumer has seen go into the record, and moves that were to come
later are dropped. -/
def State.setLevel (s : State) (c t : Nat) (v : Bool) : State :=
  let mine := s.xh.levels.filter (fun m => m.chan == c)
  let old := mine.filter (fun m => decide (m.at_ + crossSpan ≤ s.now))
  let keep := s.xh.levels.filter (fun m => m.chan != c || (decide (s.now < m.at_ + crossSpan) && decide (m.at_ < t)))
  let u := match old.getLast? with
    | some m => s.setCh c XH_CH_STAT_LEVEL (b2n m.level)
    | none => s
  { u with xh := { u.xh with levels := keep ++ [(⟨c, t, v⟩ : LevelMove)] } }

/-- The level of channel `c` becomes `v` as its source says: at its consumers from the fabric tick on (R296, R303), on an unclocked path at
once. -/
def State.sourceTo (s : State) (c : Nat) (v : Bool) : State :=
  s.setLevel c (if s.chF c XH_CH_CFG_CLOCKING = 1 then s.now else s.now + 3) v

/-- Group `g` is enabled for fabric tick `t` (R302). -/
def State.grpAt (s : State) (g t : Nat) : Bool :=
  match s.xh.groups.find? (fun m => m.grp == g && decide (t < m.at_)) with
  | some m => m.was
  | none => s.grpF g XH_GRP_CTRL_STATE == 1

/-- Group `g` enabled or disabled at the present tick; a disable at this tick prevails (R302). -/
def State.groupSet (s : State) (g : Nat) (enable : Bool) : State :=
  let off := s.xh.groups.any (fun m => m.grp == g && m.at_ == s.now && !m.enable)
  let keep := s.xh.groups.filter (fun m => decide (s.now < m.at_ + crossSpan))
  ({ s with xh := { s.xh with groups := keep ++ [(⟨g, s.now, s.grpF g XH_GRP_CTRL_STATE == 1, enable⟩ : GroupMove)] } }).setGrp g
    XH_GRP_CTRL_STATE (b2n (enable && !off))

/-- The attribute of channel `c`: 0 PRIVATE, 1 SHARED, 2 SECURE (R309). -/
def State.chAttr (s : State) (c : Nat) : Nat := s.chF c XH_CH_STAT_ATTR

/-- The channel is unclocked. -/
def State.unclocked (s : State) (c : Nat) : Bool := s.chF c XH_CH_CFG_CLOCKING == 1

/-- The channel on which producer `prod` is registered, if any: the fixed producers on their own (R291), every other
where a channel record names it (R295). -/
def State.chanOf (s : State) (prod : Nat) : Option Nat :=
  if prod = 0 then none
  else if 0x8001 ≤ prod ∧ prod ≤ 0x8007 then some (prod - 0x8000)
  else
    match s.regs.find? (fun e => decide (0x20100 ≤ e.1 ∧ e.1 < 0x24000 ∧ 0x100 ≤ e.1 % 0x1000 ∧ e.1 % 0x1000 < 0x500
        ∧ e.1 % 16 = 0) && getF e.2 XH_CH_CFG_PRODUCER == prod) with
    | some e => some (64 * (e.1 / 0x1000 - 0x20) + (e.1 % 0x1000 - 0x100) / 16)
    | none => none

/-! ### Consumers (R297, R298) -/

/-- A consumer of the fabric exists on this variant, and its code is not reserved (R298). -/
def State.consumerOk (s : State) (code : Nat) : Bool :=
  let m := code % 256
  match code / 256 with
  | 1 | 2 => decide (m < s.variant.gens) || (decide (16 ≤ m) && decide (m < 16 + s.variant.pats))
  | 3 => decide (m < s.variant.caps)
  | 4 => decide (m < 4)
  | 5 | 6 => decide (m < 16)
  | 7 => decide (m < 64)
  | 8 => decide (m < 2)
  | _ => false

/-- A consumer marked routable (R298). -/
def routable (code : Nat) : Bool := let k := code / 256; k != 0 && k != 2 && k != 7 && decide (k ≤ 8)

/-- The page of Graver `g`. -/
def gPage (g : Nat) : Nat := if g < 16 then pGEN g else pPAT (g - 16)

/-- The owner of a consumer (R297). -/
def State.consumerOwner (s : State) (code : Nat) : Nat :=
  let m := code % 256
  match code / 256 with
  | 1 | 2 => s.owner (gPage m)
  | 3 => s.owner (pCAP m)
  | 4 => s.owner (pPAT 0)
  | 5 | 6 => s.grpF m XH_GRP_CTRL_OWNER
  | 7 => s.scenOwner m
  | 8 => s.owner pSYNC
  | _ => 0

/-- The register that holds a consumer's subscription, as its key. -/
def subKey (code : Nat) : Nat :=
  let m := code % 256
  match code / 256 with
  | 1 => base (gPage m) + GRV_JUMP_CTRL
  | 3 => base (pCAP m) + CAP_TRIG_CFG
  | 4 => base (pPAT 0) + TRG_TRIG_OUT_SUB m
  | 5 => base (pXH (m / 4)) + XH_GRP_EN_SUB (m % 4)
  | 6 => base (pXH (m / 4)) + XH_GRP_DIS_SUB (m % 4)
  | 8 => base pSYNC + (if m = 0 then SYNC_TX_A_SUB else SYNC_TX_B_SUB)
  | _ => 0

/-- The field of that register that names the channel. -/
def subField (code : Nat) : Field :=
  match code / 256 with
  | 1 => GRV_JUMP_CTRL_CANCEL_EVT
  | 3 => CAP_TRIG_CFG_EVT
  | _ => TRG_TRIG_OUT_SUB_CHANNEL

/-- The field of that register that names the gate; a Graver's jump cancel has none. -/
def gateField (code : Nat) : Option Field :=
  match code / 256 with
  | 1 => none
  | 3 => some CAP_TRIG_CFG_GATE
  | _ => some TRG_TRIG_OUT_SUB_GATE

/-- The gate a consumer's register word names; 0 where it has none. -/
def gateOf (code : Nat) (w : Word) : Nat :=
  match gateField code with
  | some f => getF w f
  | none => 0

/-- The subscriptions of a consumer, as pairs of channel and gate, one a field (R298). -/
def State.subsOf (s : State) (code : Nat) : List (Nat × Nat) :=
  match code / 256 with
  | 2 => (s.xh.stepSubs.filter (fun e => e.1 == code % 256)).map (fun e => (e.2, 0))
  | 7 => if scenArmed (s.scenState (code % 256)) then [(s.mbits (scenAddr (code % 256) + 0x10) 15 8, 0)] else []
  | _ =>
    let w := s.rd (subKey code)
    [(getF w (subField code), gateOf code w)]

/-- Every consumer of the variant. -/
def State.consumers (s : State) : List Nat :=
  let gs := List.range s.variant.gens ++ (List.range s.variant.pats).map (16 + ·)
  gs.map (0x100 + ·) ++ gs.map (0x200 + ·) ++ (List.range s.variant.caps).map (0x300 + ·)
    ++ (List.range 4).map (0x400 + ·) ++ (List.range 16).map (0x500 + ·) ++ (List.range 16).map (0x600 + ·)
    ++ (List.range 64).map (0x700 + ·) ++ [0x800, 0x801]

/-- SUBS of channel `c`: the subscription and gate fields that name it. -/
def State.subCount (s : State) (c : Nat) : Nat :=
  s.consumers.foldl (fun n k => n + (s.subsOf k).foldl (fun m e => m + b2n (e.1 == c) + b2n (e.2 == c)) 0) 0

/-- A producer of the GF domain (classes 0x01 to 0x05). -/
def gfProducer (prod : Nat) : Bool := decide (0x100 ≤ prod ∧ prod < 0x600)

/-- A trigger input (class 0x09). -/
def trigInProducer (prod : Nat) : Bool := decide (0x900 ≤ prod ∧ prod < 0xA00)

/-- An unclocked channel may join producer `prod` (0 for none yet) with a consumer (R304). -/
def State.pairs (s : State) (prod code : Nat) : Bool :=
  match code / 256 with
  | 1 | 2 => prod == 0 || gfProducer prod
  | 4 => (prod == 0 || trigInProducer prod) && s.fg (base (pPAT 0)) TRG_TRIG_OUT_CFG_MODE (code % 256) == 3
  | _ => false

/-- The rules of R297 on channel `c` for a consumer owned by `own`. -/
def State.chanCheck (s : State) (code own c : Nat) : Except Code Unit :=
  if c = 0 then .ok ()
  else if s.chOwner c = 0 then .error .owner
  else if s.chAttr c = 0 ∧ s.chOwner c ≠ own then .error .owner
  else if s.chAttr c = 2 then .error .secure
  else if s.unclocked c && !s.pairs (s.chF c XH_CH_CFG_PRODUCER) code then .error .clocking
  else .ok ()

/-- The rules of R301 on a gate beside a subscription. -/
def State.gateCheck (s : State) (code own c g : Nat) : Except Code Unit := do
  s.chanCheck code own g
  if g = 0 ∨ c = 0 then .ok ()
  else if s.unclocked c != s.unclocked g then .error .clocking
  else if s.unclocked c && (gfProducer (s.chF c XH_CH_CFG_PRODUCER) != gfProducer (s.chF g XH_CH_CFG_PRODUCER)) then
    .error .clocking
  else .ok ()

/-- A subscription and its gate, checked as R297 and R301 say, the installed route last (R300). -/
def State.subCheck (s : State) (code c g : Nat) : Except Code Unit := do
  s.chanCheck code (s.consumerOwner code) c
  s.gateCheck code (s.consumerOwner code) c g
  if s.xh.routes.any (fun r => r.consumer == code) then .error .locked
  else if code = 0x600 ∧ c ≠ 0 then .error .state
  else .ok ()

/-! ### Accounting (R306 to R308) -/

/-- The accounting record of a consumer. -/
def acctAddr (code : Nat) : Nat := 0x08680000 + 64 * (64 * (code / 256) + code % 256)

/-- A 64-bit count of a consumer's accounting record incremented. -/
def State.acct (s : State) (code off : Nat) : State :=
  s.st (acctAddr code + off) (s.ld (acctAddr code + off) 8 + 1) 8

/-- A suppression counted, with FLAGS.SUPPRESSED. -/
def State.suppress (s : State) (code off : Nat) : State := (s.acct code off).setMbits (acctAddr code + 0x30) 1 1 1

/-- An overrun counted, with FLAGS.OVERRUN. -/
def State.overrun (s : State) (code : Nat) : State := (s.acct code 0x08).setMbits (acctAddr code + 0x30) 0 0 1

/-- `n` merged events counted. -/
def State.mergeCount (s : State) (code : Nat) : Nat → State
  | 0 => s
  | n + 1 => State.mergeCount (s.suppress code 0x20) code n

/-! ### Publication and levels (R295, R296) -/

/-- One event published on channel `c`: PUBLISHED counts it, and it is on its way to its fabric tick, or on an unclocked path
straight to its consumers (R303, R304), at tick `p`. Channel 0 is never published. -/
def State.publishAt (s : State) (c p : Nat) : State :=
  if c = 0 ∨ 256 ≤ c then s
  else
    let t := s.setCh c XH_CH_PUB_PUBLISHED (s.chF c XH_CH_PUB_PUBLISHED + 1)
    if t.unclocked c then
      { t with xh := { t.xh with crossing := t.xh.crossing ++ (t.consumers.filter (fun k => (t.subsOf k).any (fun e => e.1 == c))).map (fun k => (⟨k, c, p⟩ : Crossing)) } }
    else { t with xh := { t.xh with published := t.xh.published ++ [(c, p)] } }

/-- One event published on channel `c` at the present tick. -/
def State.publish (s : State) (c : Nat) : State := s.publishAt c s.now

/-- A producer publishes on the one channel on which it is registered; registered on none, it publishes nothing (R293). -/
def State.publishBy (s : State) (prod : Nat) : State :=
  match s.chanOf prod with
  | some c => s.publish c
  | none => s

/-- The level of a producer's channel under LEVEL_MODE SOURCE follows the producer (R294, R296). -/
def State.sourceLevel (s : State) (prod : Nat) (level : Bool) : State :=
  match s.chanOf prod with
  | some c => if s.chF c XH_CH_CFG_LEVEL_MODE = 0 then s.sourceTo c level else s
  | none => s

/-! ### The fabric tick (R303) -/

/-- The level of channel `g` at fabric tick `t`, with the pulse that each event is under SOURCE (R291, R313): an event judged at that tick,
or one published to be judged at it. -/
def State.pulseAt (s : State) (g t : Nat) : Bool :=
  s.levelAt g t || (s.chF g XH_CH_CFG_LEVEL_MODE == 0
    && (s.xh.hits.contains (g, t) || s.xh.published.any (fun e => e.1 == g && e.2 + 3 == t)))

/-- The level a gate is judged on for an event on channel `c` at tick `t`: a gate that is that channel itself is
read at the level the event gives it, a pulse being 1 (R291, R296, R314). -/
def State.gateLevel (s : State) (c g : Nat) : Bool :=
  s.pulseAt g s.now || (g == c && s.chF g XH_CH_CFG_LEVEL_MODE == 0)

/-- The ownership rule of R311 for a subscriber. -/
def State.ownRule (s : State) (c code : Nat) : Bool :=
  s.chAttr c != 0 || s.chOwner c == s.consumerOwner code

/-- One consumer judged for an event on channel `c` at its fabric tick. -/
def State.judgeFor (s : State) (c merged code : Nat) : State :=
  let mine := (s.subsOf code).filter (fun e => e.1 == c)
  if mine.isEmpty then s
  else if s.grpF (c / 16) XH_GRP_CTRL_STATE = 0 then s.suppress code 0x10
  else if !s.ownRule c code then s.suppress code 0x28
  else if mine.all (fun e => e.2 != 0 && !s.gateLevel c e.2) then s.suppress code 0x18
  else
    let t := s.mergeCount code merged
    { t with xh := { t.xh with crossing := t.xh.crossing ++ [(⟨code, c, s.now⟩ : Crossing)] } }

/-- The level of channel `c` at an event's fabric tick under TOGGLE and HOLD (R296): each event starts the hold again, and a hold of 0 is a
pulse. -/
def State.eventLevel (s : State) (c : Nat) : State :=
  let hold := s.chF c XH_CH_HOLD_HOLD_TICKS
  match s.chF c XH_CH_CFG_LEVEL_MODE with
  | 1 => s.setLevel c s.now (!s.levelAt c s.now)
  | 2 => if hold = 0 then (s.setLevel c s.now true).setLevel c (s.now + 1) false
    else (s.setLevel c s.now true).setLevel c (s.now + hold) false
  | _ => s

/-- The events published on channel `c` that wait for their fabric tick, by their ticks. -/
def State.waitingOn (s : State) (c : Nat) : List Nat := (s.xh.published.filter (fun e => e.1 == c)).map (·.2)

/-- The first `n` events published on channel `c` taken away. -/
def takeEvents (c : Nat) : Nat → List (Nat × Nat) → List (Nat × Nat)
  | 0, l => l
  | _, [] => []
  | n + 1, e :: l => if e.1 = c then takeEvents c n l else e :: takeEvents c (n + 1) l

/-- The oldest event published on channel `c` reaches its fabric tick, which is now; `merged` more events of the channel, as far as so many
wait, fall into the same tick and are absorbed (R305). -/
def State.fabricTick (s : State) (c merged : Nat) : State :=
  let merged := min merged ((s.waitingOn c).length - 1)
  if (s.waitingOn c).length ≠ 0 then
    let t := ({ s with xh := { s.xh with published := takeEvents c (merged + 1) s.xh.published, hits := (s.xh.hits.filter (fun (e : Nat × Nat) => e.1 != c)) ++ [(c, s.now)] } }).eventLevel c
    let t := s.consumers.foldl (fun u k => u.judgeFor c merged k) t
    if s.grpF (c / 16) XH_GRP_CTRL_STATE = 0 then
      t.setGrp (c / 16) XH_GRP_SUPP_COUNT (satInc (t.grpF (c / 16) XH_GRP_SUPP_COUNT))
    else t
  else s

/-! ### Channel commands (R310) -/

/-- Channel `c` back at its reset values. -/
def State.resetCh (s : State) (c : Nat) : State :=
  ({ s with xh := { s.xh with levels := s.xh.levels.filter (fun m => m.chan != c) } }).dropRegs (fun k => decide (chPage c + 0x100 + 16 * (c % 64) ≤ k ∧ k < chPage c + 0x110 + 16 * (c % 64)))

/-- A subscription or gate of another session than `k` names channel `c`. -/
def State.foreignSub (s : State) (k c : Nat) : Bool :=
  s.consumers.any (fun m => s.consumerOwner m != k && (s.subsOf m).any (fun e => e.1 == c || e.2 == c))

/-- The result of a command on the fabric's ownership by session `k`, and its effect where it is OK. -/
def State.chanOp (s : State) (k op x : Nat) : Code × State :=
  match op with
  | 1 =>
    if x < 8 ∨ s.chOwner x ≠ 0 ∨ (s.grpF (x / 16) XH_GRP_CTRL_OWNER ≠ 0 ∧ s.grpF (x / 16) XH_GRP_CTRL_OWNER ≠ k) then
      (.owner, s)
    else (.ok, (s.setCh x XH_CH_STAT_OWNER k).setCh x XH_CH_STAT_ATTR 0)
  | 2 =>
    if s.chOwner x ≠ k then (.owner, s)
    else if s.chF x XH_CH_CFG_PRODUCER ≠ 0 ∨ s.subCount x ≠ 0 ∨ s.chF x XH_CH_STAT_ARM_REFS ≠ 0 then (.locked, s)
    else (.ok, s.resetCh x)
  | 3 =>
    if s.chOwner x ≠ k then (.owner, s)
    else if s.chAttr x = 2 then (.secure, s)
    else if s.chF x XH_CH_STAT_ARM_REFS ≠ 0 ∧ s.chAttr x ≠ 1 then (.locked, s)
    else (.ok, s.setCh x XH_CH_STAT_ATTR 1)
  | 4 =>
    if s.chOwner x ≠ k then (.owner, s)
    else if s.chAttr x = 2 then (.secure, s)
    else if s.foreignSub k x ∨ (s.chF x XH_CH_STAT_ARM_REFS ≠ 0 ∧ s.chAttr x ≠ 0) then (.locked, s)
    else (.ok, s.setCh x XH_CH_STAT_ATTR 0)
  | 5 =>
    if x = 0 ∨ 16 ≤ x ∨ s.grpF x XH_GRP_CTRL_OWNER ≠ 0 then (.state, s)
    else if (List.range 16).any (fun i => s.chOwner (16 * x + i) != 0 && s.chOwner (16 * x + i) != k) then (.owner, s)
    else (.ok, s.setGrp x XH_GRP_CTRL_OWNER k)
  | _ =>
    if 16 ≤ x ∨ s.grpF x XH_GRP_CTRL_OWNER ≠ k then (.owner, s)
    else if s.xh.routes.any (fun r => r.consumer == 0x500 + x || r.consumer == 0x600 + x) then (.locked, s)
    else (.ok, ((((s.setGrp x XH_GRP_EN_SUB_CHANNEL 0).setGrp x XH_GRP_EN_SUB_GATE 0).setGrp x
      XH_GRP_DIS_SUB_CHANNEL 0).setGrp x XH_GRP_DIS_SUB_GATE 0 |>.setGrp x XH_GRP_CTRL_STATE 1).setGrp x
      XH_GRP_CTRL_OWNER 0)

/-- XH0.CHAN_CMD written: Signet carries the command out, writes the writer's view of CHAN_CMD_STATUS and raises
XH_DONE or XH_REFUSED (R310). -/
def State.chanCmd (s : State) (k op x : Nat) : Act :=
  if s.fb (sbase k (pXH 0)) XH_CHAN_CMD_STATUS_BUSY then .error .busy
  else if op = 0 ∨ 6 < op then .error .format
  else
    let r := s.chanOp k op x
    .ok ((((r.2.fs (sbase k (pXH 0)) XH_CHAN_CMD_STATUS_RESULT r.1.num).fs (sbase k (pXH 0)) XH_CHAN_CMD_STATUS_OP op).fs
      (sbase k (pXH 0)) XH_CHAN_CMD_STATUS_TARGET x).notifyTo k
        (s.note (pXH 0) (if r.1 = .ok then 0 else 1) (op + 256 * x + 65536 * r.1.num)))

/-! ### Producers, groups and injection (R293, R302, R313) -/

/-- The page that a producer belongs to, where the code is one a session may register on this variant (R294). -/
def State.producerPage (s : State) (prod : Nat) : Option Nat :=
  let m := prod % 256
  match prod / 256 with
  | 1 => if m < s.variant.gens ∨ (16 ≤ m ∧ m < 16 + s.variant.pats) then some (gPage m) else none
  | 2 | 3 | 4 | 5 => if m < s.variant.gens then some (pGEN m) else none
  | 6 => if m < s.variant.caps then some (pCAP m) else none
  | 7 | 8 => if m < s.variant.caps then some (pSTEN m) else none
  | 9 => if m < 4 then some (pPAT 0) else none
  | _ => none

/-- CHn_CFG of channel `c` written by session `k`: the producer, the clocking and the level mode, each judged as R293,
R296, R304 and R312 say. -/
def State.chCfg (s : State) (k c : Nat) (w : Word) : Act :=
  let prod := getF w XH_CH_CFG_PRODUCER
  let clk := getF w XH_CH_CFG_CLOCKING
  let mode := getF w XH_CH_CFG_LEVEL_MODE
  let newProd := decide (prod ≠ s.chF c XH_CH_CFG_PRODUCER)
  let newClk := decide (clk ≠ s.chF c XH_CH_CFG_CLOCKING)
  let newMode := decide (mode ≠ s.chF c XH_CH_CFG_LEVEL_MODE)
  if c < 8 ∨ s.chOwner c ≠ k then .error .owner
  else if newProd && prod != 0 && (s.producerPage prod).any (fun p => s.owner p != s.chOwner c) then .error .owner
  else if s.chAttr c = 2 then .error .secure
  else if newProd && prod != 0 && (s.producerPage prod).isNone then .error .producer
  else if newProd && prod / 256 != 1 && (s.chanOf prod).isSome then .error .producer
  else if clk = 1 ∧ prod ≠ 0 ∧ !(gfProducer prod || trigInProducer prod) then .error .clocking
  else if clk = 1 ∧ newProd ∧ (s.consumers.any (fun m => (s.subsOf m).any (fun e => e.1 == c) && !s.pairs prod m)) then
    .error .clocking
  else if newClk && (s.subCount c != 0 || s.chF c XH_CH_STAT_ARM_REFS != 0) then .error .locked
  else if (newProd || newClk || newMode) && s.chF c XH_CH_STAT_ARM_REFS != 0 then .error .locked
  else
    let t := ((s.setCh c XH_CH_CFG_PRODUCER prod).setCh c XH_CH_CFG_CLOCKING clk).setCh c XH_CH_CFG_LEVEL_MODE mode
    .ok (if newProd || newMode then t.setLevel c t.now false else t)

/-- A group set enabled or disabled by session `k`'s write (R292, R302): a disable of group 0, which no session can own, is refused with STATE
(assumption log, entry 131). -/
def State.groupWrite (s : State) (k g : Nat) (enable disable : Bool) : Act :=
  if g = 0 ∧ disable then .error .state
  else if s.grpF g XH_GRP_CTRL_OWNER ≠ k then .error .owner
  else if disable then .ok (s.groupSet g false)
  else if enable then .ok (s.groupSet g true)
  else .ok s

/-- XH0.INJECT written (R313): the event is published in the next tick. -/
def State.injectOp (s : State) (k c : Nat) : Act :=
  if s.chOwner c ≠ k then .error .owner
  else if s.chAttr c = 2 then .error .secure
  else if s.unclocked c then .error .clocking
  else .ok ((s.publishAt c (s.now + 1)).count (base (pXH 0)) XH_INJECT_COUNT_COUNT)

/-- The consumer whose subscription register lies at a register address, if one does. -/
def State.consumerAt (s : State) (a : Nat) : Option Nat :=
  (s.consumers.filter (fun k => k / 256 != 2 && k / 256 != 7)).find? (fun k => subKey k == a)

/-- A subscription register written (R297): a group's by the group's owner, every other by the page's owner, whom the
access checks have judged. -/
def State.subWrite (s : State) (k a : Nat) (w : Word) : Act :=
  match s.consumerAt a with
  | none => .ok (s.plain k a w)
  | some code =>
    if code = 0x600 ∧ getF w (subField code) ≠ 0 then .error .state
    else if (code / 256 = 5 ∨ code / 256 = 6) ∧ s.consumerOwner code ≠ k then .error .owner
    else
      let c := getF w (subField code)
      let g := gateOf code w
      if c = getF (s.rd a) (subField code) ∧ g = gateOf code (s.rd a) then
        .ok (s.plain k a w)
      else
        match s.subCheck code c g with
        | .error e => .error e
        | .ok _ => .ok (s.plain k a w)

/-- What CHn_STAT shows: SUBS is counted, and a SECURE record reads 0 but for its attribute (R309). -/
def State.chStatLive (s : State) (c : Nat) : Word :=
  let w := s.rd (chPage c + XH_CH_STAT (c % 64))
  if s.chAttr c = 2 then setF 0#32 XH_CH_STAT_ATTR 2
  else setF (setF w XH_CH_STAT_SUBS (s.subCount c)) XH_CH_STAT_LEVEL (b2n (s.pulseAt c s.now))

/-! ### The commands -/

/-- EVENT_PUBLISH (R295): `prod` publishes on channel `c` where it is registered there, or is a Graver that the channel
names; a publication no registration backs is none. -/
def execEventPublish (c prod : Nat) (s : State) : Host.Outcome State Fault Refusal :=
  .next (if c < 256 ∧ s.chF c XH_CH_CFG_PRODUCER = prod ∧ prod ≠ 0 then s.publish c else s)

/-- A command written to XH0.CHAN_CMD. -/
def State.chanCmdBy (s : State) (o : Org) (op x : Nat) : State :=
  s.hostReg o (base (pXH 0) + XH_CHAN_CMD) (BitVec.ofNat 32 (op * 2 ^ 24 + x)) (fun t => t.chanCmd o.sess op x)

/-- CLAIM (R310). -/
def execClaim (o : Org) (c : Nat) (s : State) : Host.Outcome State Fault Refusal := .next (s.chanCmdBy o 1 c)

/-- RELEASE (R310). -/
def execRelease (o : Org) (c : Nat) (s : State) : Host.Outcome State Fault Refusal := .next (s.chanCmdBy o 2 c)

/-- SET_SHARED (R310). -/
def execSetShared (o : Org) (c : Nat) (s : State) : Host.Outcome State Fault Refusal := .next (s.chanCmdBy o 3 c)

/-- SET_PRIVATE (R310). -/
def execSetPrivate (o : Org) (c : Nat) (s : State) : Host.Outcome State Fault Refusal := .next (s.chanCmdBy o 4 c)

/-- CLAIM_GROUP (R310). -/
def execClaimGroup (o : Org) (grp : Nat) (s : State) : Host.Outcome State Fault Refusal := .next (s.chanCmdBy o 5 grp)

/-- RELEASE_GROUP (R310). -/
def execReleaseGroup (o : Org) (grp : Nat) (s : State) : Host.Outcome State Fault Refusal := .next (s.chanCmdBy o 6 grp)

/-- INJECT (R313). -/
def execInject (o : Org) (c : Nat) (s : State) : Host.Outcome State Fault Refusal :=
  .next (s.hostReg o (base (pXH 0) + XH_INJECT) (BitVec.ofNat 32 c) (fun t => t.injectOp o.sess c))

/-- PRODUCER_REGISTER (R293): CHn_CFG written with a new producer, its other fields at their present values. -/
def execProducerRegister (o : Org) (c prod : Nat) (s : State) : Host.Outcome State Fault Refusal :=
  let w := setF (s.rd (chPage c + XH_CH_CFG (c % 64))) XH_CH_CFG_PRODUCER prod
  .next (s.hostReg o (chPage c + XH_CH_CFG (c % 64)) w (fun t => t.chCfg o.sess c w))

/-- SUBSCRIPTION_WRITE (R297, R300, R301). -/
def execSubscriptionWrite (o : Org) (addr : Nat) (w : Word) (s : State) : Host.Outcome State Fault Refusal :=
  .next (s.hostReg o addr w (fun t => t.subWrite o.sess addr w))

end Sys2Proof.Machine
end

