-- ==== Sys2Proof/Machine/Chain.lean ====
section
/-! DEFINITION. Sys2Proof/Machine/Chain.lean: the generate channel signal chain (spec/02_generate_signal_chain.md):
sources, the NCO and its step actions, scale and saturation, fill and mute. -/
namespace Sys2Proof.Machine
open Sys2Proof

/-! ### The CRC-32 of R272 and R368 -/

/-- One bit of the CRC-32 of IEEE 802.3. -/
def crcBit (c : Nat) : Nat := if c % 2 = 1 then (c / 2) ^^^ 0xEDB88320 else c / 2

/-- One byte of the CRC-32. -/
def crcByte (c b : Nat) : Nat := crcBit (crcBit (crcBit (crcBit (crcBit (crcBit (crcBit (crcBit (c ^^^ b))))))))

/-! ### Rates and the time translators (R27, R30, R31) -/

/-- The DAC rate in force, in mHz. -/
def State.genRate (s : State) : Nat := s.rd64 (base pCLK + CLK_GEN_RATE) % 2 ^ 48

/-- The ADC rate in force, in mHz. -/
def State.capRate (s : State) : Nat := s.rd64 (base pCLK + CLK_CAP_RATE) % 2 ^ 48

/-- Device time in 1/2^40 tick times the rate in mHz that one cycle of a domain lasts: eight samples (R27). -/
def gridUnit : Nat := 24000000000000 * 2 ^ 40

/-- The device time at which cycle `c` of a domain begins, in 1/2^40 tick (R30), on the translator's line. -/
def Grid.line (d : Grid) (rate c : Nat) : Nat :=
  if d.cyc ≤ c then d.edge + (c - d.cyc) * gridUnit / rate else d.edge - (d.cyc - c) * gridUnit / rate

/-- The device time that a translator reports for cycle `c` of its domain: never before the least of its times (R339). -/
def Grid.time (d : Grid) (rate c : Nat) : Nat := max d.least (d.line rate c)

/-- The first cycle of a domain that begins at or after a device time in 1/2^40 tick (R31). -/
def Grid.first (d : Grid) (rate t : Nat) : Nat :=
  if t ≤ d.least then d.cyc
  else if d.edge ≤ t then d.cyc + cdiv ((t - d.edge) * rate) gridUnit else d.cyc - (d.edge - t) * rate / gridUnit

/-- The time of cycle `c` of a domain by the translators that have held, newest first. -/
def timeOf (l : List (Grid × Nat)) (c : Nat) : Nat :=
  match l.find? (fun g => decide (g.1.cyc ≤ c)) with
  | some g => g.1.time g.2 c
  | none => (l.getLastD (⟨0, 0, 0⟩, 1)).1.time (l.getLastD (⟨0, 0, 0⟩, 1)).2 c

/-- The first cycle of a domain at or after a device time, by the translators that have held, newest first: an earlier one answers where the
cycle it gives comes before those of the later. -/
def firstOf : List (Grid × Nat) → Nat → Nat
  | [], _ => 0
  | g :: rest, t =>
    let p := firstOf rest t
    if !rest.isEmpty && decide (p < g.1.cyc) then p else if rest.isEmpty then g.1.first g.2 t else max g.1.cyc (g.1.first g.2 t)

/-- The time of GF cycle `c` in 1/2^40 tick. -/
def State.gfTime (s : State) (c : Nat) : Nat := timeOf ((s.clk.gf, s.genRate) :: s.clk.gfPast) c

/-- The first GF cycle that begins at or after tick `t` (R31). -/
def State.gfFirst (s : State) (t : Nat) : Nat := firstOf ((s.clk.gf, s.genRate) :: s.clk.gfPast) (t * 2 ^ 40)

/-- The first GF cycle still to begin: those of the present tick have begun; none begins while the translator is invalid (R32). -/
def State.gfNow (s : State) : Nat :=
  if s.fb (base pCLK) CLK_PAGE_STATUS_GF_VALID then s.gfFirst (s.now + 1) else s.clk.gf.cyc

/-- The first GF cycle at or after tick `t`; none begins before the translator is valid (R31, R32). -/
def State.gfFrom (s : State) (t : Nat) : Nat :=
  if s.fb (base pCLK) CLK_PAGE_STATUS_GF_VALID then s.gfFirst t else max (s.gfFirst t) s.clk.gf.cyc

/-- The same grid of cycles, anchored at cycle `c`. -/
def Grid.anchored (d : Grid) (rate c : Nat) : Grid := { d with edge := d.line rate c, cyc := c }

/-- Device time comes to the start of GF cycle `c`. -/
def State.toGf (s : State) (c : Nat) : State := { s with now := max s.now (cdiv (s.gfTime c) (2 ^ 40)) }

/-- The first CF cycle that begins at or after a device time in 1/2^40 tick. -/
def State.cfFirst40 (s : State) (t : Nat) : Nat := firstOf ((s.clk.cf, s.capRate) :: s.clk.cfPast) t

/-- The first CF cycle that begins at or after tick `t`. -/
def State.cfFirst (s : State) (t : Nat) : Nat := s.cfFirst40 (t * 2 ^ 40)

/-- The first CF cycle still to begin. -/
def State.cfNow (s : State) : Nat :=
  if s.fb (base pCLK) CLK_PAGE_STATUS_CF_VALID then s.cfFirst (s.now + 1) else s.clk.cf.cyc

/-- The time of CF cycle `c` in 1/2^40 tick. -/
def State.cfTime (s : State) (c : Nat) : Nat := timeOf ((s.clk.cf, s.capRate) :: s.clk.cfPast) c

/-- A time in 1/2^40 tick as the manual reports it: whole ticks, and a fraction of 16 bits, truncated (R30). -/
def reported (t : Nat) : Nat × Nat := (t / 2 ^ 40, t % 2 ^ 40 / 2 ^ 24)

/-! ### Filters (R45, R60, R585) -/

/-- Rounding of `a / b` to nearest, ties away from zero (R93). -/
def roundDiv (a : Int) (b : Nat) : Int :=
  if 0 ≤ a then (2 * a + b) / (2 * b) else -((2 * -a + b) / (2 * b))

/-- A value limited to a range. -/
def clampI (lo hi v : Int) : Int := if v < lo then lo else if hi < v then hi else v

/-- What the coefficient window reads at an offset (R585): a coefficient is a signed 18-bit value, sign-extended. -/
def filterRead (off : Nat) : Word :=
  if off < 0x800 then Config.filterWord off
  else if off < 0x6000 then BitVec.ofInt 32 (sext 18 (Config.filterWord off).toNat)
  else 0#32

/-- The coefficient at an offset of the window. -/
def coefAt (off : Nat) : Int := sext 18 (Config.filterWord off).toNat

/-- An interpolation stage (R585): its ratio and its taps, tap 0 applied to the earliest sample. -/
structure Stage where
  ratio : Nat
  taps : List Int
deriving DecidableEq, Repr

/-- Stage set `i` of the window. -/
def stageSet (i : Nat) : Stage :=
  let w := (Config.filterWord (4 + 4 * i)).toNat
  { ratio := if bits w 1 0 = 2 then 3 else 2, taps := (List.range (bits w 15 8)).map (fun t => coefAt (bits w 31 16 + 4 * t)) }

/-- The set indices of a list word, 4 bits each, up to 0xF. -/
def stageIdxs (w : Nat) : Nat → List Nat
  | 0 => []
  | n + 1 => if w % 16 = 15 then [] else w % 16 :: stageIdxs (w / 16) n

/-- The stages for the RATIO encoding `r`, in order of application. -/
def stagesFor (r : Nat) : List Stage := (stageIdxs (Config.filterWord (0x400 + 4 * r)).toNat 8).map stageSet

/-- A sum of products divided by 2^17, rounded to nearest with ties away from zero and limited to `w` bits (R585). -/
def firOut (w : Nat) (sum : Int) : Int := clampI (-2 ^ (w - 1)) (2 ^ (w - 1) - 1) (roundDiv sum (2 ^ 17))

/-- One interpolation stage over a stream: the input's samples stand `ratio` apart, and the taps are centred on the output
sample (assumption log, entry 134). -/
def Stage.out (g : Stage) (x : Int → Int) (n : Int) : Int :=
  let k0 := n - ((g.taps.length - 1) / 2 : Nat)
  firOut 18 ((g.taps.zip (List.range g.taps.length)).foldl (fun a e =>
    a + e.1 * (if (k0 + e.2) % (g.ratio : Int) = 0 then x ((k0 + e.2) / g.ratio) else 0)) 0)

/-- The cascade of stages over a stream of inputs (R45): sample `n` of the output. -/
def cascade (x : Int → Int) : List Stage → Int → Int
  | [] => x
  | g :: l => cascade (g.out x) l

/-- The fine-delay filter for FINE over a stream, at sample `n` (R60): 16 taps, the eighth sample before and the seventh
after it at the ends (assumption log, entry 134). -/
def fineOut (fine : Nat) (x : Int → Int) (n : Int) : Int :=
  firOut 16 ((List.range 16).foldl (fun (a : Int) (t : Nat) => a + coefAt (0x2000 + 64 * fine + 4 * t) * x (n - 8 + t)) 0)

/-! ### The mixer (R49) -/

/-- I·cos - Q·sin at a phase of `p` parts in 2^20 of a cycle: exact at the quarter turns (assumption log, entry 132). -/
def rotated (i q : Int) (p : Nat) : Int :=
  if p % 2 ^ 20 = 0 then i
  else if p % 2 ^ 20 = 2 ^ 18 then -q
  else if p % 2 ^ 20 = 2 ^ 19 then -i
  else if p % 2 ^ 20 = 2 ^ 18 + 2 ^ 19 then q
  else Config.rotate i q (p % 2 ^ 20)

/-! ### Sources (R42 to R46) -/

/-- Sample `j` of a raw stroke word (R42). -/
def rawSample (stroke j : Nat) : Int := sext 16 (bits stroke (16 * j + 15) (16 * j))

/-- Sample `j` of a packed stroke word, at the chain's 16-bit scale (R42). -/
def packedSample (stroke j : Nat) : Int := 16 * sext 12 (bits stroke (12 * j + 11) (12 * j))

/-- The I and Q of a complex baseband word (R42). -/
def iqSample (w : Nat) : Int × Int := (sext 16 (bits w 15 0), sext 16 (bits w 31 16))

/-- The interpolation ratio K that SRC_CTRL.RATIO selects (R44). -/
def ratioOf (code : Nat) : Nat :=
  match code with
  | 0 => 8 | 1 => 12 | 2 => 16 | 3 => 24 | 4 => 32 | 5 => 48 | 6 => 64 | 7 => 96 | 8 => 128
  | _ => 8

/-- The GF cycle, in eighths, at which sample `j` of a stroke issued in cycle `c` enters the DAC (R41), FINE aside:
COARSE is whole samples. -/
def dacEighths (c j coarse : Nat) : Nat := 8 * (c + 112) + j + coarse

/-! ### The NCO (R47 to R58, R61) -/

/-- The NCO at the first sample of a scenario on a channel (R51). -/
def ncoStart (ftw phase scale : Nat) : Nco :=
  { acc := 0, freq := ftw % 2 ^ 48, phase := phase % 2 ^ 32, rate := 0, ampl := scale % 2 ^ 16, strokes := 0 }

/-- The actions of a step (R53). -/
structure StepActs where
  freqAct : Nat
  phaseAct : Nat
  amplAct : Nat
  freq : Nat
  rate : Nat
  phase : Nat
  ampl : Nat
deriving DecidableEq, Repr

/-- The frequency action at the first sample of a step, `samples` being S there (R53, R54). -/
def Nco.freqAction (m : Nco) (a : StepActs) (samples : Nat) : Nco :=
  match a.freqAct with
  | 1 => { m with freq := a.freq % 2 ^ 48, rate := 0 }
  | 2 => { m with freq := a.freq % 2 ^ 48, rate := 0, acc := (a.freq * samples) % 2 ^ 48 }
  | 3 => { m with freq := a.freq % 2 ^ 48, rate := a.rate % 2 ^ 48 }
  | 4 => { m with freq := (m.freq + a.rate) % 2 ^ 48, rate := a.rate % 2 ^ 48 }
  | _ => { m with rate := 0 }

/-- The phase action (R53). -/
def Nco.phaseAction (m : Nco) (a : StepActs) : Nco :=
  match a.phaseAct with
  | 1 => { m with phase := a.phase % 2 ^ 32 }
  | 2 => { m with phase := (m.phase + a.phase) % 2 ^ 32 }
  | _ => m

/-- The amplitude action (R53). -/
def Nco.amplAction (m : Nco) (a : StepActs) : Nco :=
  if a.amplAct = 1 then { m with ampl := a.ampl % 2 ^ 16 } else m

/-- A step entered: its actions take effect once, at its first sample (R56, R57). -/
def Nco.enter (m : Nco) (a : StepActs) (samples : Nat) : Nco :=
  { ((m.freqAction a samples).phaseAction a).amplAction a with strokes := 0 }

/-- The frequency word of the next stroke to issue: the step's own at its first stroke, raised by the chirp rate at
every later one (R55). -/
def Nco.nextFreq (m : Nco) : Nat := if m.strokes = 0 then m.freq else (m.freq + m.rate) % 2 ^ 48

/-- One stroke issued: the frequency word is constant over its 8 samples (R47, R55). -/
def Nco.stroke (m : Nco) : Nco :=
  { m with acc := (m.acc + 8 * m.nextFreq) % 2 ^ 48, freq := m.nextFreq, strokes := m.strokes + 1 }

/-- `n` strokes issued, in closed form: the frequency words are an arithmetic progression (R55). -/
def Nco.play (m : Nco) (n : Nat) : Nco :=
  if n = 0 then m
  else { m with
    acc := (m.acc + 8 * (n * m.nextFreq + m.rate * (n * (n - 1) / 2))) % 2 ^ 48,
    freq := (m.nextFreq + (n - 1) * m.rate) % 2 ^ 48,
    strokes := m.strokes + n }

/-- The phase the mixer uses at the next sample, in 1/2^48 cycle, with the compensation of R61 where `mixcomp` holds. -/
def Nco.mixPhase (m : Nco) (mixcomp : Bool) (fine : Nat) : Nat :=
  (m.acc + (m.phase + (if mixcomp then fine * 2 ^ 24 else 0)) % 2 ^ 32 * 2 ^ 16) % 2 ^ 48

/-- The upper 20 bits of the fractional phase, which the phase-to-amplitude conversion uses (R49). -/
def phase20 (phi : Nat) : Nat := phi / 2 ^ 28

/-- The digital frequency word as a signed number: above 2^47 it is negative (R48). -/
def ncoSigned (f : Nat) : Int := sext 48 f

/-! ### Amplitude scale (R59) -/

/-- The product of the 18-bit sum and the scale, rounded to nearest with ties away from zero, before the limit. -/
def scaleRound (sum : Int) (ampl : Nat) : Int :=
  if 0 ≤ sum then (sum * ampl + 16384) / 32768 else -((-sum * ampl + 16384) / 32768)

/-- A sample after the amplitude scale: the code, and whether it was limited. -/
def scaleSample (sum : Int) (ampl : Nat) : Int × Bool :=
  if 32767 < scaleRound sum ampl then (32767, true)
  else if scaleRound sum ampl < -32768 then (-32768, true)
  else (scaleRound sum ampl, false)

/-! ### Fill and mute (R64 to R70) -/

/-- The code a filled stroke carries at every sample (R65); `last` is the last sample before the episode, if one has
been played since the scenario started. -/
def fillCode (fillSel idle : Nat) (last : Option Nat) : Nat :=
  match fillSel with
  | 0 => last.getD idle
  | 1 => idle
  | _ => 0

/-- Generate channel `n`. -/
def State.gen (s : State) (n : Nat) : Gen := s.gens.getD n Gen.fresh

/-- Generate channel `n` changed. -/
def State.updGen (s : State) (n : Nat) (f : Gen → Gen) : State := { s with gens := s.gens.modify n f }

/-- The mute causes of R68 as bits of MUTE_CTRL.CAUSE. -/
inductive MuteCause
  | host | proof | clock | thermal
deriving DecidableEq, Repr

/-- The bit of a cause. -/
def MuteCause.idx : MuteCause → Nat
  | .host => 0 | .proof => 1 | .clock => 2 | .thermal => 3

/-- The mute causes of channel `n`. -/
def State.causes (s : State) (n : Nat) : Nat := s.fg (base (pGEN n)) GEN_MUTE_CTRL_CAUSE

/-- Generate channel `n`'s block of the live view (R368). -/
def genCal (n : Nat) : Nat := calLive + 0x1000 + 0x1000 * n

/-- The words of model set `m` of generate channel `n` in the live view. -/
def modelAddr (n m : Nat) : Nat := genCal n + 0x100 + 0xE0 * m

/-- The set in force on channel `n` (R205). -/
def State.modelSet (s : State) (n : Nat) : Nat :=
  s.fg (base (pGEN n)) GEN_CHAIN_CTRL_DAC_MODE * 4 + s.fg (base (pGEN n)) GEN_CHAIN_CTRL_RANGE

/-- The valid flag of set `m`. -/
def State.modelValid (s : State) (n m : Nat) : Bool := s.mbits (modelAddr n m) 31 31 == 1

/-- The comparator is active (R209). -/
def State.proofActive (s : State) (n : Nat) : Bool :=
  let b := base (pGEN n)
  s.fb b GEN_PROOF_CTRL_EN && s.fb b GEN_CHAIN_CTRL_OUT_EN && !s.fb b GEN_MUTE_CTRL_MUTED
    && s.fb b GEN_PROOF_STATUS_ALIGNED && s.modelValid n (s.modelSet n)

/-- What acts at the fill stage and the comparator of channel `n` from GF cycle `c` on, noted where it may have changed (R64, R65, R69,
R72, R209). -/
def State.logChainAt (s : State) (n c : Nat) : State :=
  s.updGen n (fun g => { g with ctrl :=
    { cycle := c, muted := s.fb (base (pGEN n)) GEN_MUTE_CTRL_MUTED, idle := s.fg (base (pGEN n)) GEN_IDLE_CODE_CODE,
      fill := s.fg (base (pGEN n)) GEN_CHAIN_CTRL_FILL, active := s.proofActive n, model := s.modelSet n } :: g.ctrl })

/-- From the GF cycle after the present one on. -/
def State.logChain (s : State) (n : Nat) : State := s.logChainAt n s.gfNow

/-- A register of channel `n` written that acts at the fill stage or the comparator: IDLE_CODE or PROOF_CTRL. -/
def State.chainPlain (s : State) (k n off : Nat) (w : Word) : State := (s.plain k (base (pGEN n) + off) w).logChain n

/-- Channel `n`'s proof path. -/
def State.proof (s : State) (n : Nat) : Proof := s.proofs.getD n Proof.fresh

/-- Channel `n`'s proof path changed. -/
def State.updProof (s : State) (n : Nat) (f : Proof → Proof) : State := { s with proofs := s.proofs.modify n f }

/-- The mute causes of channel `n` set to `c`, CLOCK among them while the synthesizer acquires lock: MUTED follows, and a
change of MUTED raises MUTE_CHANGE with the new cause bits (R68). -/
def State.setCauses (s : State) (n c0 : Nat) : State :=
  let c := if s.fb (base pCLK) CLK_PAGE_STATUS_GEN_ACQ then putBit c0 2 true else c0
  let t := ((s.fs (base (pGEN n)) GEN_MUTE_CTRL_CAUSE c).fs (base (pGEN n)) GEN_MUTE_CTRL_MUTED (b2n (c != 0))).logChain n
  if s.fb (base (pGEN n)) GEN_MUTE_CTRL_MUTED = (c != 0) then t
  else t.notify (s.note (pGEN n) 2 (c + 256 * b2n (c != 0)))

/-- One mute cause set. -/
def State.mute (s : State) (n : Nat) (c : MuteCause) : State := s.setCauses n (putBit (s.causes n) c.idx true)

/-- One mute cause cleared. -/
def State.unmute (s : State) (n : Nat) (c : MuteCause) : State := s.setCauses n (putBit (s.causes n) c.idx false)

/-- MUTE_CTRL written: CLEAR clears HOST and PROOF, and SET sets HOST, HOST staying set where both are written; a proof
stencil that sets PROOF in the same cycle, or an overload that holds the connector isolated, leaves PROOF set (R68, R70,
R220). -/
def State.muteWrite (s : State) (n : Nat) (set clear proofToo : Bool) : State :=
  let c := s.causes n
  let proof := proofToo || (bit c 1 && s.fb (base (pGEN n)) GEN_PROOF_FAULT_ISOLATED)
  let c1 := if clear then putBit (putBit c 0 false) 1 proof else c
  s.setCauses n (if set then putBit c1 0 true else c1)

/-- CHAIN_CTRL written: a change of RANGE, DAC_MODE or OUT_EN holds the channel muted for CLOCK until the output stage
has settled (R63). -/
def State.chainWrite (s : State) (k n : Nat) (w : Word) : State :=
  let old := s.rd (base (pGEN n) + GEN_CHAIN_CTRL)
  let t := (s.plain k (base (pGEN n) + GEN_CHAIN_CTRL) w).logChain n
  if getF old GEN_CHAIN_CTRL_RANGE = getF w GEN_CHAIN_CTRL_RANGE
      ∧ getF old GEN_CHAIN_CTRL_DAC_MODE = getF w GEN_CHAIN_CTRL_DAC_MODE
      ∧ getF old GEN_CHAIN_CTRL_OUT_EN = getF w GEN_CHAIN_CTRL_OUT_EN then t
  else (t.updGen n (fun g => { g with settling := true })).mute n .clock

/-! ### The commands -/

/-- MUTE_SET (R68). -/
def execMuteSet (o : Org) (n : Nat) (s : State) : Host.Outcome State Fault Refusal :=
  .next (s.hostReg o (base (pGEN n) + GEN_MUTE_CTRL) 2#32 (fun t => .ok (t.muteWrite n true false false)))

/-- MUTE_CLEAR (R68, R70); `proofToo` says that a proof stencil sets PROOF in the same cycle. -/
def execMuteClear (o : Org) (n : Nat) (proofToo : Bool) (s : State) : Host.Outcome State Fault Refusal :=
  .next (s.hostReg o (base (pGEN n) + GEN_MUTE_CTRL) 4#32 (fun t => .ok (t.muteWrite n false true proofToo)))

/-- OUTPUT_SETTLED (R63): the CLOCK cause is lifted, unless the synthesizer still acquires lock (R68). -/
def execOutputSettled (n : Nat) (s : State) : Host.Outcome State Fault Refusal :=
  if s.variant.gens ≤ n then .fault .noSuchBlock
  else
    let t := s.updGen n (fun g => { g with settling := false })
    .next (if (s.gen n).settling && !s.fb (base pCLK) CLK_PAGE_STATUS_GEN_ACQ then t.unmute n .clock else t)

end Sys2Proof.Machine
end

