-- ==== Sys2Proof/Machine/Xlat.lean ====
section
/-! DEFINITION. Sys2Proof/Machine/Xlat.lean: the layout of device memory (R375 to R377, R398 to R400), frames and
their owners (R421), and the walk of a session's translation tables (R424 to R427). -/
namespace Sys2Proof.Machine
open Sys2Proof

/-! ### DRAM -/

/-- Where device DRAM begins. -/
abbrev dramBase : Nat := 0x001000000000

/-- Where scratchpad begins. -/
abbrev spadBase : Nat := 0x000100000000

/-- Usable bytes U of one interface (R373). -/
def State.usable (s : State) : Nat :=
  if s.fb (base pMEMC) MEMC_CFG_ECC_EN then 14 * 2 ^ 30 else 16 * 2 ^ 30 - 2 * 2 ^ 20

/-- Interface `i` is FAILED (R388). -/
def State.ifFailed (s : State) (i : Nat) : Bool := bit (s.fg (base pMEMC) MEMC_STATUS_FAILED) i

/-- The working interfaces, in order; n is their number (spec/13_dram_controller.md, Address decoding). -/
def State.working (s : State) : List Nat := (List.range s.variant.mifs).filter (fun i => !s.ifFailed i)

/-- Interleave mode AFFINE is in force. -/
def State.affine (s : State) : Bool := s.fb (base pMEMC) MEMC_CFG_ILV_MODE

/-- The interface and the local address of a device DRAM address, where R375 or R376 assigns one. -/
def State.dramDecode (s : State) (a : Nat) : Option (Nat × Nat) :=
  if a < dramBase then none
  else if s.affine then
    let i := (a - dramBase) / 0x400000000
    let o := (a - dramBase) % 0x400000000
    if i < s.variant.mifs && !s.ifFailed i && decide (o < s.usable) then some (i, o) else none
  else
    let n := s.working.length
    let o := a - dramBase
    if o < n * s.usable then
      some (s.working.getD (o / 4096 % n) 0, o / 4096 / n * 4096 + o % 4096)
    else none

/-! ### Scratchpad -/

/-- The bank of a scratchpad address (R398). -/
def bankOf (a : Nat) : Nat := (a - spadBase) / 0x400000

/-- The address lies in the implemented scratchpad of the variant (R2, R4). -/
def State.inSpad (s : State) (a : Nat) : Bool := decide (spadBase ≤ a ∧ a < spadBase + s.variant.banks * 0x400000)

/-- The address lies in the general area (R399). -/
def State.inGeneral (s : State) (a : Nat) : Bool :=
  s.inSpad a && decide (s.variant.seqBanks ≤ bankOf a ∧ bankOf a < s.variant.seqBanks + s.variant.genBanks)

/-- Bank `b` is marked failing (R417, R418). -/
def State.bankFailed (s : State) (b : Nat) : Bool := bit (s.fg (base pSPAD) SPAD_BANK_FAIL_BANKS) b

/-! ### Frames (R421) -/

/-- Frame `f` (device address / 65,536) is available; none of DRAM is during a re-initialisation (R575). -/
def State.frameAvail (s : State) (f : Nat) : Bool :=
  (s.dramDecode (f * 65536)).isSome && (s.dramDecode (f * 65536 + 65535)).isSome && !s.fb (base pMEMC) MEMC_STATUS_REINIT
    || (s.inGeneral (f * 65536) && !s.bankFailed (bankOf (f * 65536)))

/-- The owner of frame `f`; 0 when unowned. -/
def State.frameOwner (s : State) (f : Nat) : Nat := stGet (fun _ => 0) s.frames f

/-- The owner of frame `f` set. -/
def State.setFrame (s : State) (f k : Nat) : State := { s with frames := stSet (fun _ => 0) s.frames f k }

/-- The byte of the frame owner map for frame `f` (R423). -/
def State.frameByte (s : State) (f : Nat) : Nat := if s.frameAvail f then s.frameOwner f else 0xFF

/-! ### Translation (R424 to R427) -/

/-- A page as an entry maps it: its device address, its size, and what it permits. -/
structure PageMap where
  addr : Nat
  size : Nat
  read : Bool
  write : Bool
deriving DecidableEq, Repr

/-- The valid page entry that covers session address `a` under the root at `root`, if there is one. -/
def State.walk (s : State) (root a : Nat) : Option PageMap :=
  if root = 0 then none
  else
    let re := s.ld (root + 8 * (a / 2 ^ 30 % 2 ^ 18)) 8
    if !bit re 0 then none
    else
      let tab := bits re 47 12 * 4096
      if bit re 1 then
        let pe := s.ld (tab + 8 * (a / 2 ^ 21 % 512)) 8
        if bit pe 0 then
          some { addr := bits pe 47 21 * 2 ^ 21, size := 2 ^ 21, read := bit pe 1, write := bit pe 2 } else none
      else
        let pe := s.ld (tab + 8 * (a / 2 ^ 16 % 16384)) 8
        if bit pe 0 then
          some { addr := bits pe 47 16 * 2 ^ 16, size := 2 ^ 16, read := bit pe 1, write := bit pe 2 } else none

/-- Every frame of a page is available (R426). -/
def State.pageAvail (s : State) (p : PageMap) : Bool :=
  (List.range (p.size / 65536)).all (fun i => s.frameAvail (p.addr / 65536 + i))

/-- The committed root of session `k` (R424). -/
def State.rootOf (s : State) (k : Nat) : Nat := s.rd64 (sbase k pDATU + DATU_ROOT) % 2 ^ 48

/-- The device address of session address `a` and its page, where a valid entry maps it in available frames. -/
def State.translate (s : State) (root a : Nat) : Option (Nat × PageMap) :=
  match s.walk root a with
  | none => none
  | some p => if s.pageAvail p then some (p.addr + a % p.size, p) else none

end Sys2Proof.Machine
end

