-- ==== Sys2Proof/Machine/Ecc.lean ====
section
/-! DEFINITION. Sys2Proof/Machine/Ecc.lean: uncorrectable blocks of DRAM and lines of scratchpad: where a line lies, what its discovery
counts and reports, and the requester codes (spec/13_dram_controller.md, R379; spec/14_scratchpad.md, R401, R410; R501). -/
namespace Sys2Proof.Machine
open Sys2Proof

/-- The 64-bit code word at address `a` marked uncorrectable. -/
def State.markBad (s : State) (a : Nat) : State :=
  if s.badWords.contains (a / 8 * 8) then s else { s with badWords := (a / 8 * 8) :: s.badWords }

/-- An uncorrectable block at device address `a` read by a requester (R379, R501). -/
def State.memUe (s : State) (a req inst : Nat) : State :=
  match s.dramDecode a with
  | none => s
  | some (i, _) =>
    if s.fb (base pMEMC) MEMC_CFG_ECC_EN then
      let b := base (pMIF i)
      let at_ := a / 64 * 64
      let t := ((s.count b MIF_ECC_UNCORR_COUNT_COUNT).wr64 (b + MIF_LAST_UE) at_).pageFault (pMIF i) 0x0501 0
      t.notify (t.note (pMIF i) 0 (req + 256 * inst) 0 (at_ % 2 ^ 32) (at_ / 2 ^ 32))
    else s

/-- The device address of line `k` of the sequencer area (R398, R401). -/
def State.seqLine (s : State) (k : Nat) : Nat := spadBase + 0x400000 * (k % s.variant.seqBanks) + 64 * (k / s.variant.seqBanks)

/-- Lines of the table pool (R109). -/
def State.poolLines (s : State) : Nat := 2048 * s.variant.poolUnits

/-- The first line of the sketch descriptors, after the pool and the jump caches of 576 KiB a Graver, in the order of R399 (assumption log,
entry 149). -/
def State.descLine (s : State) : Nat := s.poolLines + 9216 * s.variant.seqBanks

/-- The device address of the scratchpad line behind address `a`: itself in the general area; of a striped structure of the sequencer area
through R401; where the manual does not place a structure, at a free line of its area (R399; assumption log, entry 149). -/
def State.spadLine (s : State) (a : Nat) : Nat :=
  if spadBase ≤ a ∧ a < dramBase then a / 64 * 64
  else if 0x08200000 ≤ a ∧ a < 0x08600000 then s.seqLine (s.descLine + (a - 0x08200000) / 64)
  else if 0x0E000000 ≤ a ∧ a < 0x0E400000 then s.seqLine (s.descLine + 65536 + (a - 0x0E000000) / 64)
  else if (0x01000000 ≤ a ∧ a < 0x06000000) ∨ (0x09000000 ≤ a ∧ a < 0x0E000000) then
    s.seqLine ((Config.freeValue (a / 0x400000) 0x401 + a % 0x400000 / 64) % s.poolLines)
  else spadBase + 0x400000 * (s.variant.seqBanks + s.variant.genBanks) + 64 * (Config.freeValue (a / 64) 0x402 % 114688)

/-- An uncorrectable line read by a requester (R410, R501); `dev` is its scratchpad device address. -/
def State.spadUe (s : State) (dev req inst : Nat) : State :=
  let b := base pSPAD
  let at_ := dev / 64 * 64
  let t := ((s.count b SPAD_ECC_UNCORR_COUNT_COUNT).wr64 (b + SPAD_LAST_UE) at_).pageFault pSPAD 0x0601 (bankOf at_)
  t.notify (t.note pSPAD 0 (req + 256 * inst) 0 (at_ % 2 ^ 32) (at_ / 2 ^ 32))

/-- The line behind address `a` reads uncorrectable to a requester (R401, R410). -/
def State.lineUe (s : State) (a req inst : Nat) : State := (s.markBad a).spadUe (s.spadLine a) req inst

/-- A requester's read meets the uncorrectable line or block behind address `a` (R379, R410). -/
def State.eccRead (s : State) (a req inst : Nat) : State :=
  if dramBase ≤ a ∧ a < 2 ^ 48 then s.memUe a req inst else s.spadUe (s.spadLine a) req inst

/-- A host access that ends with `c` at address `a`: where that is ECC, the line is reported (R411, R580). -/
def State.hostEcc (s : State) (c : Code) (a : Nat) : State := if c = .ecc then s.eccRead a 6 0 else s

end Sys2Proof.Machine
end

