-- ==== Sys2Proof/Machine/Segments.lean ====
section
/-! DEFINITION. Sys2Proof/Machine/Segments.lean: the segment directory, plates, sketch descriptors, the Stylus and the
bandwidth admission (spec/03_segments_plates_stylus.md). -/
namespace Sys2Proof.Machine
open Sys2Proof

/-! ### Segments (R74 to R81) -/

/-- The directory record of segment `r` (R78). -/
def dirAddr (r : Nat) : Nat := 0x08000000 + 32 * r

/-- Directory record `r` as it stands (R78). -/
def State.segRec (s : State) (r : Nat) : SegRec :=
  let a := dirAddr r
  { kind := s.mbits a 1 0, format := s.mbits a 3 2, plate := s.mbits a 15 8, desc := s.mbits a 29 16,
    length := s.ldw (a + 4), offset := s.ldw (a + 8) + s.mbits (a + 0xC) 15 0 * 2 ^ 32,
    shadowEn := s.mbits (a + 0xC) 24 24 == 1, shadowPlate := s.mbits (a + 0xC) 23 16,
    shadowOffset := s.ldw (a + 0x10) + s.mbits (a + 0x14) 15 0 * 2 ^ 32,
    armRefs := s.mbits (a + 0x18) 23 8, owner := s.mbits (a + 0x18) 7 0 }

/-- The segment has stored words (R74). -/
def SegRec.stored (r : SegRec) : Bool := r.kind == 1 || r.kind == 3

/-- The segment is rendered by the Stylus (R74). -/
def SegRec.sketch (r : SegRec) : Bool := r.kind == 2 || r.kind == 3

/-- Samples of the segment (R24, R78): LENGTH counts units of 64. -/
def SegRec.samples (r : SegRec) : Nat := 64 * r.length

/-- Strokes of the segment (R23). -/
def SegRec.strokes (r : SegRec) : Nat := 8 * r.length

/-- Bytes a stored segment of `n` samples occupies in a format, at interpolation ratio `k` (R75). -/
def storedBytes (format n k : Nat) : Nat :=
  match format with
  | 0 => 2 * n
  | 1 => 3 * n / 2
  | 2 => 4 * n / k
  | _ => 0

/-- The least length in samples of a segment of a generate channel (R76); `dram` says that its plate is in DRAM. -/
def minSamples (r : SegRec) (dram : Bool) : Nat :=
  if r.stored && dram && (r.format == 0 || r.format == 1) then 512 else 64

/-! ### Writes to the directory and to the descriptors (R79, R80, R91) -/

/-- A word with the bits that a mask names taken from `w` and the others kept. -/
def maskIn (old w mask : Nat) : Nat := (old &&& (0xFFFFFFFF ^^^ mask)) ||| (w &&& mask)

/-- The writable bits of each word of a directory record (R78). -/
def dirMask (off : Nat) : Nat :=
  match off with
  | 0x00 => 0x3FFFFF0F
  | 0x0C => 0x01FFFFFF
  | 0x14 => 0x0000FFFF
  | 0x18 => 0
  | _ => 0xFFFFFFFF

/-- The writable bits of each word of a sketch descriptor (R92). -/
def descMask (off : Nat) : Nat :=
  if off = 0x00 then 0x1FFF
  else if off = 0x04 then 0xFF
  else if off = 0x08 ∨ off = 0x0C then 0
  else if off < 0x90 then (if off % 16 = 0xC then 0 else 0xFFFFFFFF)
  else if off = 0x9C then 0xFFFF
  else if off = 0xB0 then 0x3F
  else if 0xB4 ≤ off ∧ off < 0xC0 then 0
  else if off = 0xC4 then 0xFF
  else if off = 0xCC ∨ off = 0xD0 ∨ off = 0xD8 then 0xFFFFFF
  else if off = 0xDC then 0x7FFFF
  else if 0xE0 ≤ off ∧ off < 0xF8 then 0
  else 0xFFFFFFFF

/-- A write by session `k` to a record that the first write claims (R79): `own` is the address of the word whose bits
[7:0] hold OWNER and bits [23:8] the references, `releases` says that the word written releases the record. -/
def State.recordWrite (s : State) (k a own : Nat) (v : Nat) (releases : Bool) : Act :=
  if s.mbits own 7 0 ≠ 0 ∧ s.mbits own 7 0 ≠ k then .error .owner
  else if s.mbits own 23 8 ≠ 0 then .error .locked
  else if releases then .ok ((s.stw a v).setMbits own 7 0 0)
  else .ok ((s.stw a v).setMbits own 7 0 k)

/-- A word written to the directory (R79, R80). -/
def State.dirWrite (s : State) (k a : Nat) (w : Word) : Act :=
  let rec_ := (a - 0x08000000) / 32
  let off := (a - 0x08000000) % 32
  let v := maskIn (s.ldw a) w.toNat (dirMask off)
  if off = 0x18 then
    match s.recordWrite k a (dirAddr rec_ + 0x18) v false with
    | .ok _ => .ok (s.setMbits a 7 0 k)
    | .error c => .error c
  else s.recordWrite k a (dirAddr rec_ + 0x18) v (off == 0 && w.toNat % 4 == 0)

/-- The sketch descriptor `d` (R92). -/
def descAddr (d : Nat) : Nat := 0x08200000 + 256 * d

/-- A word written to a sketch descriptor (R91). -/
def State.descWrite (s : State) (k a : Nat) (w : Word) : Act :=
  let d := (a - 0x08200000) / 256
  let off := (a - 0x08200000) % 256
  let v := maskIn (s.ldw a) w.toNat (descMask off)
  if off = 0x0C then
    match s.recordWrite k a (descAddr d + 0x0C) v false with
    | .ok _ => .ok (s.setMbits a 7 0 k)
    | .error c => .error c
  else s.recordWrite k a (descAddr d + 0x0C) v (off == 4 && w.toNat % 256 == 0)

/-! ### Plates (R83 to R89) -/

/-- The record of plate `p` (R83). -/
def plateAddr (p : Nat) : Nat := 0x08600000 + 64 * p

/-- The owner of plate `p`. -/
def State.plateOwner (s : State) (p : Nat) : Nat := s.mbits (plateAddr p + 0x28) 15 8

/-- The state of plate `p`: 0 FREE, 1 DEFINED, 2 PINNED. -/
def State.plateState (s : State) (p : Nat) : Nat := s.mbits (plateAddr p + 0x28) 1 0

/-- The references of armed scenarios to plate `p`. -/
def State.plateRefs (s : State) (p : Nat) : Nat := s.mbits (plateAddr p + 0x28) 31 16

/-- BASE of plate `p`. -/
def State.plateBase (s : State) (p : Nat) : Nat := s.ldw (plateAddr p + 0x18) + s.mbits (plateAddr p + 0x1C) 15 0 * 2 ^ 32

/-- SIZE of plate `p`. -/
def State.plateSize (s : State) (p : Nat) : Nat := s.ldw (plateAddr p + 0x20) + s.mbits (plateAddr p + 0x24) 15 0 * 2 ^ 32

/-- MEM of plate `p`: scratchpad. -/
def State.plateSpad (s : State) (p : Nat) : Bool := s.mbits (plateAddr p + 0x10) 0 0 == 1

/-- SHARED of plate `p`. -/
def State.plateShared (s : State) (p : Nat) : Bool := s.mbits (plateAddr p + 0x10) 1 1 == 1

/-- WRLOCK of plate `p`. -/
def State.plateWrlock (s : State) (p : Nat) : Bool := s.mbits (plateAddr p + 0x10) 2 2 == 1

/-- The device addresses of the successive 64 KiB of plate `p`, as PIN recorded them. -/
def State.extents (s : State) (p : Nat) : List Nat :=
  match s.plates.extents.find? (fun e => e.1 == p) with
  | some e => e.2
  | none => []

/-- The device address of byte `o` of plate `p`, through its extents (R87). -/
def State.plateByte (s : State) (p o : Nat) : Nat := (s.extents p).getD (o / 65536) 0 + o % 65536

/-- The writable bits of each word of a plate record (R83). -/
def plateMask (off : Nat) : Nat :=
  if off < 0x10 then 0xFFFFFFFF
  else if off = 0x10 then 0x7
  else if off = 0x18 ∨ off = 0x20 then 0xFFFFFFFF
  else if off = 0x1C ∨ off = 0x24 then 0xFFFF
  else 0

/-- A plate command on plate `p` is in progress (R83). -/
def State.plateBusyOn (s : State) (p : Nat) : Bool :=
  match s.plates.cmd with
  | some c => c.plate == p
  | none => false

/-- A word written to a plate record: only by the owner, only while DEFINED and no command on it is in progress. -/
def State.plateWrite (s : State) (k a : Nat) (w : Word) : Act :=
  let p := (a - 0x08600000) / 64
  if s.plateOwner p ≠ k then .error .owner
  else if s.plateState p ≠ 1 ∨ s.plateBusyOn p then .error .state
  else .ok (s.stw a (maskIn (s.ldw a) w.toNat (plateMask ((a - 0x08600000) % 64))))

/-- The device addresses of `n` successive 64 KiB of session space from `a`, where every page is mapped with read
permission in memory of the kind asked for (R85). Addresses wrap at 2^48 (assumption log, entry 152). -/
def State.pinWalk (s : State) (root a : Nat) (spad : Bool) : Nat → Option (List Nat)
  | 0 => some []
  | n + 1 =>
    match s.translate root a with
    | some (d, p) =>
      if p.read && (decide (dramBase ≤ d) != spad) then
        match State.pinWalk s root (a + 65536) spad n with
        | some l => some (d :: l)
        | none => none
      else none
    | none => none

/-- The interfaces that the 64 KiB at device address `d` lies on, as a mask: every working interface under STRIPE, the
one under AFFINE (R375, R376). -/
def State.ifaceMask (s : State) (d : Nat) : Nat :=
  if s.affine then 2 ^ ((d - dramBase) / 0x400000000)
  else s.working.foldl (fun m i => m + 2 ^ i) 0

/-- The result of a plate command by session `k` and, where it is OK, its effect (R84, R85). Ownership is judged before the state, so a FREE
plate answers OWNER (assumption log, entry 151), and a SIZE of 0 answers ALIGN (entry 152). -/
def State.plateOp (s : State) (k p op : Nat) : Code × State :=
  if op = 1 then
    if s.plateState p ≠ 0 then (.state, s)
    else (.ok, ((s.zero (plateAddr p) 64).stw (plateAddr p + 0x10) 4).stw (plateAddr p + 0x28) (k * 256 + 1))
  else if s.plateOwner p ≠ k then (.owner, s)
  else if op = 2 then
    if s.plateState p ≠ 1 then (.state, s)
    else if s.plateBase p % 65536 ≠ 0 ∨ s.plateSize p % 65536 ≠ 0 ∨ s.plateSize p = 0 then (.align, s)
    else
      if !s.plateSpad p && s.fb (base pMEMC) MEMC_STATUS_REINIT then (.state, s)
      else
      match s.pinWalk (s.rootOf k) (s.plateBase p) (s.plateSpad p) (s.plateSize p / 65536) with
      | none => (.unmapped, s)
      | some l =>
        if s.plateSpad p && s.fb (base pSPAD) SPAD_TEST_STATUS_BUSY
            && l.any (fun d => bankOf d == s.fg (base pSPAD) SPAD_TEST_STATUS_BANK) then (.state, s)
        else
        let t := { s with plates := { s.plates with extents := (p, l) :: s.plates.extents.filter (fun e => e.1 != p) } }
        let t := t.setMbits (plateAddr p + 0x28) 1 0 2
        if s.plateSpad p then
          (.ok, t.stw (plateAddr p + 0x30) (l.foldl (fun m d => m ||| 2 ^ bankOf d) 0))
        else (.ok, t.setMbits (plateAddr p + 0x2C) 5 0 (l.foldl (fun m d => m ||| s.ifaceMask d) 0))
  else if op = 3 then
    if s.plateState p ≠ 2 then (.state, s)
    else if s.plateRefs p ≠ 0 then (.pinned, s)
    else
      let t := { s with plates := { s.plates with extents := s.plates.extents.filter (fun e => e.1 != p) } }
      (.ok, ((t.setMbits (plateAddr p + 0x28) 1 0 1).stw (plateAddr p + 0x2C) 0).stw (plateAddr p + 0x30) 0)
  else
    if s.plateState p ≠ 1 then (.state, s) else (.ok, s.zero (plateAddr p) 64)

/-- DATU.PLATE_CMD written (R84 to R86): BUSY refuses it, a reserved OP is refused with FORMAT; otherwise the command
is carried out, and PLATE_DONE will report its result. -/
def State.plateCmd (s : State) (k p op : Nat) : Act :=
  if s.fb (base pDATU) DATU_PLATE_STATUS_BUSY then .error .busy
  else if op = 0 ∨ 4 < op then .error .format
  else
    let r := s.plateOp k p op
    .ok ({ r.2 with plates := { r.2.plates with
      cmd := some { sess := k, plate := p, op := op, result := r.1.num } } }.fs (base pDATU) DATU_PLATE_STATUS_BUSY 1)

/-- The plate command in progress finishes (R86). -/
def State.plateFinish (s : State) : State :=
  match s.plates.cmd with
  | none => s
  | some c =>
    ((((({ s with plates := { s.plates with cmd := none } }.fs (base pDATU) DATU_PLATE_STATUS_PLATE c.plate).fs
      (base pDATU) DATU_PLATE_STATUS_RESULT c.result).fs (base pDATU) DATU_PLATE_STATUS_BUSY 0)).notifyTo c.sess
        (s.note pDATU 3 (c.plate + c.op * 256 + c.result * 65536)))

/-- The frame at device address `a` lies under a plate that is locked against writes (R89). -/
def State.writeLocked (s : State) (a : Nat) : Bool :=
  s.plates.extents.any (fun e => s.plateWrlock e.1 && decide (s.plateRefs e.1 ≠ 0)
    && e.2.any (fun d => decide (d ≤ a ∧ a < d + 65536)))

/-- Before `n` bytes are written at device address `a`: where an armed scenario plays from a plate there, the bytes that stood are kept with
the first GF cycle that finds the new ones (R89). -/
def State.noteRewrite (s : State) (a n : Nat) : State :=
  if s.plates.extents.any (fun e => decide (s.plateRefs e.1 ≠ 0) && e.2.any (fun d => d / 65536 == a / 65536)) then
    { s with plates := { s.plates with rewrites := (List.range n).map (fun i => (s.gfNow, a + i, s.mb (a + i))) ++ s.plates.rewrites } }
  else s

/-- References of a word's count field at [hi:lo] raised or lowered by one. -/
def State.refBy (s : State) (a hi lo : Nat) (up : Bool) : State :=
  s.setMbits a hi lo (if up then s.mbits a hi lo + 1 else s.mbits a hi lo - 1)

/-! ### The Stylus (R93 to R98) -/

/-- The phase of tone generator at sample `q`, in 1/2^48 cycle (R93). -/
def tonePhase (ftw ofs q : Nat) : Nat := (ftw * q + ofs * 2 ^ 16) % 2 ^ 48

/-- The chirp generator's phase and frequency words after one sample (R94). -/
def chirpNext (rate : Nat) (st : Nat × Nat) : Nat × Nat := ((st.1 + st.2) % 2 ^ 48, (st.2 + rate) % 2 ^ 48)

/-- One draw of the noise generator: the new state and the value drawn (R95). -/
def noiseDraw (x : Nat) : Nat × Int :=
  let y := (x * 0x5851F42D4C957F2D + 0x14057B7EF767814F) % 2 ^ 64
  (y, sext 16 (y / 2 ^ 48))

/-- `n` draws as one multiplication and one addition, by `k` halvings of `n`, from those of one draw (R95). -/
def drawsBy : Nat → Nat → Nat × Nat → Nat × Nat
  | 0, _, _ => (1, 0)
  | k + 1, n, e =>
    let r := drawsBy k (n / 2) (e.1 * e.1 % 2 ^ 64, (e.1 * e.2 + e.2) % 2 ^ 64)
    if n % 2 = 1 then (r.1 * e.1 % 2 ^ 64, (r.1 * e.2 + r.2) % 2 ^ 64) else r

/-- The noise state after `n` draws (R95). -/
def noiseSkip (x n : Nat) : Nat :=
  let r := drawsBy 80 n (0x5851F42D4C957F2D, 0x14057B7EF767814F)
  (r.1 * x + r.2) % 2 ^ 64

/-- The sum of `n` draws, with the state after them. -/
def noiseSum (x : Nat) : Nat → Nat × Int
  | 0 => (x, 0)
  | n + 1 => let d := noiseDraw x; let r := noiseSum d.1 n; (r.1, d.2 + r.2)

/-- One Gaussian component: 12 draws (R95). -/
def noiseGauss (ampl x : Nat) : Nat × Int := let r := noiseSum x 12; (r.1, roundDiv (ampl * r.2) 65536)

/-- One uniform component: one draw (R95). -/
def noiseUniform (ampl x : Nat) : Nat × Int := let d := noiseDraw x; (d.1, roundDiv (d.2 * ampl * 56756) (2 ^ 30))

/-- Where pulse `p` starts within the pass: the period in 1/65,536 sample (R97). -/
def pulseStart (delay period p : Nat) : Nat := delay + (p * period + 32768) / 65536

/-- The linear envelope at offset `t` of a pulse, held with 16 fractional bits (R97), truncated (assumption log, entry 133). -/
def envLinear (rise width fall t : Nat) : Nat :=
  if t < rise then t * 65536 / rise
  else if t < rise + width then 65536
  else if t < rise + width + fall then 65536 - (t - rise - width) * 65536 / fall
  else 0

/-- The raised-cosine edge at `t` of `r` samples: 0 at its beginning (R97). -/
def cosEdge (t r : Nat) : Nat := if t = 0 then 0 else Config.raisedCosine t r

/-- The raised-cosine envelope at offset `t` of a pulse (R97). -/
def envCosine (rise width fall t : Nat) : Nat :=
  if t < rise then cosEdge t rise
  else if t < rise + width then 65536
  else if t < rise + width + fall then 65536 - cosEdge (t - rise - width) fall
  else 0

/-- The envelope pulses that have started by sample `m` of the pass (R97): no more than ENV_COUNT, unless it is 0. -/
def Desc.started (d : Desc) (m : Nat) : Nat :=
  let n := if m < d.envDelay then 0 else if d.envPeriod = 0 then 1 else ((m - d.envDelay + 1) * 65536 - 32769) / d.envPeriod + 1
  if d.envCount = 0 then n else min n d.envCount

/-- The envelope at sample `m` of the pass, `pulses` having started, with 16 fractional bits (R97, R98). -/
def Desc.envelope (d : Desc) (pulses m : Nat) : Nat :=
  if d.envMode = 0 then 65536
  else if pulses = 0 then 0
  else
    let t := m - pulseStart d.envDelay d.envPeriod (pulses - 1)
    if d.envMode = 1 then envLinear d.envRise d.envWidth d.envFall t else envCosine d.envRise d.envWidth d.envFall t

/-- The Stylus output limited before the Stylus sum, and whether it was (R98). -/
def stylusClamp (v : Int) : Int × Bool :=
  if 65535 < v then (65535, true) else if v < -65535 then (-65535, true) else (v, false)

/-- The sketch descriptor `d` as it stands (R92). -/
def State.desc (s : State) (d : Nat) : Desc :=
  let a := descAddr d
  { coherent := s.mbits a 12 12 == 1, toneOn := s.mbits a 7 0,
    tones := (List.range 8).map (fun i =>
      { ftw := s.ldw (a + 0x10 + 16 * i) + s.mbits (a + 0x14 + 16 * i) 15 0 * 2 ^ 32, ampl := s.mbits (a + 0x14 + 16 * i) 31 16,
        phase := s.ldw (a + 0x18 + 16 * i) }),
    chirpOn := s.mbits a 8 8 == 1, chirpF0 := s.ldw (a + 0x90) + s.mbits (a + 0x94) 15 0 * 2 ^ 32, chirpAmpl := s.mbits (a + 0x94) 31 16,
    chirpRate := s.ldw (a + 0x98) + s.mbits (a + 0x9C) 15 0 * 2 ^ 32,
    noiseOn := s.mbits a 9 9 == 1, seed := s.ldw (a + 0xA0) + s.ldw (a + 0xA4) * 2 ^ 32,
    noiseFc := s.ldw (a + 0xA8) + s.mbits (a + 0xAC) 15 0 * 2 ^ 32, noiseAmpl := s.mbits (a + 0xAC) 31 16,
    reseedAtEntry := s.mbits (a + 0xB0) 5 5 == 1, bw := s.mbits (a + 0xB0) 4 2, uniform := s.mbits (a + 0xB0) 1 0 == 1,
    envMode := s.mbits a 11 10, envDelay := s.ldw (a + 0xC0) + s.mbits (a + 0xC4) 7 0 * 2 ^ 32,
    envPeriod := s.ldw (a + 0xC8) + s.mbits (a + 0xCC) 23 0 * 2 ^ 32,
    envRise := s.mbits (a + 0xD0) 23 0, envWidth := s.ldw (a + 0xD4), envFall := s.mbits (a + 0xD8) 23 0,
    envTones := s.mbits (a + 0xDC) 16 16 == 1, envChirp := s.mbits (a + 0xDC) 17 17 == 1, envNoise := s.mbits (a + 0xDC) 18 18 == 1,
    envCount := s.mbits (a + 0xDC) 15 0 }

/-- The draws of one noise component (R95). -/
def Desc.perComp (d : Desc) : Nat := if d.uniform then 1 else 12

/-- One noise component from the state `x` (R95). -/
def Desc.comp (d : Desc) (x : Nat) : Int := if d.uniform then (noiseUniform d.noiseAmpl x).2 else (noiseGauss d.noiseAmpl x).2

/-- The interpolation ratio of the shaped noise (R92, R96). -/
def Desc.noiseRatio (d : Desc) : Nat := 4 * 2 ^ d.bw

/-- The draws consumed by the first `n` samples after a reseed: a component a sample, or two a complex sample (R96). -/
def Desc.draws (d : Desc) (n : Nat) : Nat :=
  if d.bw = 0 then n * d.perComp else cdiv n d.noiseRatio * 2 * d.perComp

/-- Component `i` after a reseed. -/
def Desc.compAt (d : Desc) (i : Nat) : Int := d.comp (noiseSkip d.seed (i * d.perComp))

/-- The noise contribution of a sample (R96): the component itself, or the complex noise through the shaping interpolator,
whose history the reseed cleared, turned by the noise phase. -/
def Desc.noise (d : Desc) (y : Sty) : Int :=
  if d.bw = 0 then d.comp y.x
  else
    let u := y.since / d.noiseRatio
    let x (q : Nat) (k : Int) : Int := if (u : Int) + k < y.hist then 0 else d.compAt (2 * ((u : Int) + k).toNat + q)
    let st := stagesFor (2 * (d.bw - 1))
    let n : Int := (y.since % d.noiseRatio : Nat)
    rotated (cascade (x 0) st n) (cascade (x 1) st n) (phase20 y.psi)

/-- The tones' contribution at sample `m` of the pass and sample count `q` (R93). -/
def Desc.tone (d : Desc) (m q : Nat) : Int :=
  (d.tones.zip (List.range 8)).foldl (fun a e =>
    if bit d.toneOn e.2 then a + rotated e.1.ampl 0 (phase20 (tonePhase e.1.ftw e.1.phase (if d.coherent then q else m))) else a) 0

/-- The Stylus output at sample `m` of a pass, with the generators and the sample count there, and whether it was limited
(R98). -/
def Desc.render (d : Desc) (y : Sty) (m q : Nat) : Int × Bool :=
  let t := d.tone m q
  let c := if d.chirpOn then rotated d.chirpAmpl 0 (phase20 y.theta) else 0
  let n := if d.noiseOn then d.noise y else 0
  let within := (if d.envTones then t else 0) + (if d.envChirp then c else 0) + (if d.envNoise then n else 0)
  let apart := (if d.envTones then 0 else t) + (if d.envChirp then 0 else c) + (if d.envNoise then 0 else n)
  stylusClamp (roundDiv ((d.envelope y.pulses m : Int) * within) 65536 + apart)

/-- The generators at the first sample of a pass (R94, R96, R97): the chirp and the envelope begin anew, and the noise is
reseeded at every pass, or at the step's entry only. -/
def Sty.pass (y : Sty) (d : Desc) (entry : Bool) : Sty :=
  let z := { y with theta := 0, freq := d.chirpF0, pulses := d.started 0 }
  if entry || !d.reseedAtEntry then { z with since := 0, hist := 0, x := d.seed, psi := 0 } else z

/-- The generators after `n` samples of a pass, `m` samples of which had gone before. -/
def Sty.play (y : Sty) (d : Desc) (m n : Nat) : Sty :=
  { since := y.since + n, hist := y.hist, x := noiseSkip y.x (d.draws (y.since + n) - d.draws y.since), psi := (y.psi + n * d.noiseFc) % 2 ^ 48,
    theta := (y.theta + n * y.freq + d.chirpRate * (n * (n - 1) / 2)) % 2 ^ 48, freq := (y.freq + n * d.chirpRate) % 2 ^ 48,
    pulses := d.started (m + n) }

/-- The generators at a resume: the shaping history is zero (R164). -/
def Sty.cut (y : Sty) (d : Desc) : Sty := { y with hist := cdiv y.since d.noiseRatio }

/-- The descriptor that a segment renders (R74). -/
def State.descOf (s : State) (r : SegRec) : Desc := if r.sketch then s.desc r.desc else Desc.none

/-- The lateness of channel `n`'s sketch step ends after `strokes` strokes that rendered 0 (R100): they are counted, and
SKETCH_LATE names the first of them by the time it was issued. -/
def State.lateEnds (s : State) (n strokes : Nat) : State :=
  match (s.gen n).late with
  | some (_, step, c) =>
    let t := s.updGen n (fun g => { g with late := none, lates := if strokes = 0 then g.lates else (c, strokes) :: g.lates })
    if strokes = 0 then t
    else
      let u := (t.countBy (base (pGEN n)) GEN_STYLUS_LATE_COUNT_COUNT strokes).fs (base (pGEN n)) GEN_STYLUS_STATUS_LATE 1
      if s.fb (base (pGEN n)) GEN_STYLUS_CTRL_NOTICE_EN then
        u.notifyTo (s.owner (pGEN n)) { page := pSCEN, code := 6, time := s.gfTime c / 2 ^ 40, w0 := n, w1 := step, w2 := strokes, w3 := 0 }
      else u
  | none => s

/-! ### Demands and admission (R102 to R105), in units of 1/23,040,000 byte per second; rates in mHz -/

/-- The demand of a Graver reader for a format at ratio `k` (R102). -/
def readDemand (rate format k : Nat) : Nat :=
  match format with
  | 0 => 46080 * rate
  | 1 => 34560 * rate
  | 2 => 92160 / k * rate
  | _ => 0

/-- The demand of a pattern reader (R102). -/
def patDemand (rate : Nat) : Nat := 2880 * rate

/-- Megabytes per second of an amount, rounded up. -/
def mbUp (c : Nat) : Nat := cdiv c 23040000000000

/-- The charges of one port's demand on DRAM (R103); `mask` is the union of the IFACE_MASKs it reads. -/
def State.dramCharges (s : State) (holder port demand mask : Nat) : List Charge :=
  if demand = 0 then []
  else if s.affine then
    ((List.range s.variant.mifs).filter (fun i => bit mask i)).map
      (fun i => { holder := holder, port := port, place := i, amount := demand })
  else s.working.map (fun i => { holder := holder, port := port, place := i, amount := demand / s.working.length })

/-- The charges of one port's demand on scratchpad (R103). -/
def State.spadCharges (s : State) (holder port demand mask : Nat) : List Charge :=
  if demand = 0 then []
  else ((List.range s.variant.banks).filter (fun b => bit mask b)).map
    (fun b => { holder := holder, port := port, place := 8 + b, amount := demand })

/-- The largest charge of `port` on `place` among the holders. -/
def portCharge (cs : List Charge) (place port : Nat) : Nat :=
  (cs.filter (fun c => c.place == place && c.port == port)).foldl (fun m c => max m c.amount) 0

/-- The sum of the charges on a place: each port counts once, at the largest charge among its scenarios (R103). -/
def placeSum (cs : List Charge) (place : Nat) : Nat :=
  (List.range 40).foldl (fun m p => m + portCharge cs place p) 0

/-- The limit of a place in MB/s (R104, R373). -/
def State.placeLimit (s : State) (place : Nat) : Nat :=
  if place < 8 then (if s.fb (base pMEMC) MEMC_CFG_DATA_RATE then 40960 else 54613) else 76800

/-- The exact limit of a place: 80 % of an interface's transfer rate times 8 bytes, or of a bank's 96 GB/s. -/
def State.placeCap (s : State) (place : Nat) : Nat :=
  if place < 8 then
    (if s.fb (base pMEMC) MEMC_CFG_DATA_RATE then 40960 * 23040000000000 else 8533333333 * 8 * 8 / 10 * 23040000)
  else 76800 * 23040000000000

/-- The first place, interfaces before banks, whose sum would pass its limit. -/
def State.overPlace (s : State) (cs : List Charge) : Option Nat :=
  ((List.range s.variant.mifs) ++ (List.range s.variant.banks).map (8 + ·)).find?
    (fun p => decide (s.placeCap p < placeSum cs p))

/-- Charges that would lie on an interface that is RETRAINING (R394). -/
def State.heldBack (s : State) (cs : List Charge) : Bool :=
  cs.any (fun c => decide (c.place < 8) && s.fg (base (pMIF c.place)) MIF_STATUS_STATE == 3)

/-- What MEMC.ADMIT_LIMIT and ADMIT_USEDi show (R107). -/
def State.admitLive (s : State) (off : Nat) : Option Word :=
  if off = 0x200 then some (BitVec.ofNat 32 (s.placeLimit 0))
  else if 0x210 ≤ off ∧ off < 0x228 then some (BitVec.ofNat 32 (mbUp (placeSum s.plates.charges ((off - 0x210) / 4))))
  else none

/-! ### The commands -/

/-- DIRECTORY_WRITE (R79, R80). -/
def execDirectoryWrite (o : Org) (addr : Nat) (w : Word) (s : State) : Host.Outcome State Fault Refusal :=
  .next (s.hostMem o addr (fun t =>
    if 0x08000000 ≤ addr ∧ addr < 0x08200000 ∧ addr % 4 = 0 then t.dirWrite o.sess addr w else .error .address))

/-- DESCRIPTOR_WRITE (R91). -/
def execDescriptorWrite (o : Org) (addr : Nat) (w : Word) (s : State) : Host.Outcome State Fault Refusal :=
  .next (s.hostMem o addr (fun t =>
    if 0x08200000 ≤ addr ∧ addr < 0x08600000 ∧ addr % 4 = 0 then t.descWrite o.sess addr w else .error .address))

/-- PLATE_RECORD_WRITE (R83). -/
def execPlateRecordWrite (o : Org) (addr : Nat) (w : Word) (s : State) : Host.Outcome State Fault Refusal :=
  .next (s.hostMem o addr (fun t =>
    if 0x08600000 ≤ addr ∧ addr < 0x08604000 ∧ addr % 4 = 0 then t.plateWrite o.sess addr w else .error .address))

/-- A plate command written to DATU.PLATE_CMD. -/
def State.plateCmdBy (s : State) (o : Org) (plate op : Nat) : State :=
  s.hostReg o (base pDATU + DATU_PLATE_CMD) (BitVec.ofNat 32 (op * 2 ^ 28 + plate)) (fun t => t.plateCmd o.sess plate op)

/-- PLATE_CLAIM (R85). -/
def execPlateClaim (o : Org) (plate : Nat) (s : State) : Host.Outcome State Fault Refusal := .next (s.plateCmdBy o plate 1)

/-- PLATE_PIN (R85). -/
def execPlatePin (o : Org) (plate : Nat) (s : State) : Host.Outcome State Fault Refusal := .next (s.plateCmdBy o plate 2)

/-- PLATE_UNPIN (R85). -/
def execPlateUnpin (o : Org) (plate : Nat) (s : State) : Host.Outcome State Fault Refusal := .next (s.plateCmdBy o plate 3)

/-- PLATE_RELEASE (R85). -/
def execPlateRelease (o : Org) (plate : Nat) (s : State) : Host.Outcome State Fault Refusal := .next (s.plateCmdBy o plate 4)

/-- PLATE_DONE (R86). -/
def execPlateDone (s : State) : Host.Outcome State Fault Refusal := .next s.plateFinish

/-- STYLUS_SLOT_LOAD (R99, R100): the slot holds its descriptor; where the current step was entered before, the strokes
that rendered 0 meanwhile are accounted. -/
def execStylusSlotLoad (n desc late : Nat) (s : State) : Host.Outcome State Fault Refusal :=
  if s.variant.gens ≤ n then .fault .noSuchBlock
  else
    let t := s.updGen n (fun g => { g with slots := g.slots.map (fun e => if e.1 = desc then (desc, true) else e) })
    .next (match (s.gen n).late with
      | some (d, _, _) => if d = desc then t.lateEnds n late else t
      | none => t)

end Sys2Proof.Machine
end

