-- ==== Sys2Proof/Machine/Graver.lean ====
section
/-! DEFINITION. Sys2Proof/Machine/Graver.lean: the Graver sequencer (spec/04_graver_sequencer.md): step entries, the
check of a table, the references it raises, the stroke plan, loops, jumps, the jump cache and table commits. -/
namespace Sys2Proof.Machine
open Sys2Proof

/-! ### Tables and step entries (R108 to R113) -/

/-- Graver `g` exists on the variant. -/
def State.hasGraver (s : State) (g : Nat) : Bool :=
  decide (g < s.variant.gens) || (decide (16 ≤ g) && decide (g < 16 + s.variant.pats))

/-- The register key of Graver `g`'s page. -/
def gBase (g : Nat) : Nat := base (gPage g)

/-- The shadow window of Graver `g` (R111). -/
def shadowWin (g : Nat) : Nat := 0x01000000 + 0x400000 * g

/-- The committed window of Graver `g` (R111). -/
def commWin (g : Nat) : Nat := 0x09000000 + 0x400000 * g

/-- Steps of Graver `g`'s table (R110). -/
def State.steps (s : State) (g : Nat) : Nat := 1024 * s.fg (gBase g) GRV_TABLE_CFG_CAPACITY

/-- A jump slot of a step. -/
structure JumpSlot where
  target : Nat
  clr : Bool
  evt : Nat
deriving DecidableEq, Repr

/-- A step entry (R113). -/
structure Step where
  segment : Nat
  advance : Nat
  quiet : Bool
  flow : Nat
  acts : StepActs
  repeat_ : Nat
  wait : Nat
  doneEvt : Nat
  advEvt : Nat
  goto_ : Nat
  loopTarget : Nat
  loopLevel : Nat
  loopEnd : Bool
  loopCount : Nat
  m0Mode : Nat
  m1Mode : Nat
  m0 : Nat × Nat
  m1 : Nat × Nat
  jumps : List JumpSlot
deriving DecidableEq, Repr

/-- The jump slot in the word at address `a` (R113). -/
def State.jumpSlotAt (s : State) (a : Nat) : JumpSlot :=
  { target := s.mbits a 31 16, clr := s.mbits a 8 8 == 1, evt := s.mbits a 7 0 }

/-- The step entry at address `a` (R113). -/
def State.stepAt (s : State) (a : Nat) : Step :=
  { segment := s.mbits a 15 0, advance := s.mbits a 17 16, quiet := s.mbits a 18 18 == 1, flow := s.mbits a 21 20,
    acts := { freqAct := s.mbits a 24 22, phaseAct := s.mbits a 26 25, amplAct := s.mbits a 27 27,
              freq := s.ldw (a + 0x24) + s.mbits (a + 0x28) 15 0 * 2 ^ 32,
              rate := s.ldw (a + 0x2C) + s.mbits (a + 0x30) 15 0 * 2 ^ 32,
              phase := s.ldw (a + 0x34), ampl := s.mbits (a + 0x28) 31 16 },
    repeat_ := s.ldw (a + 4), wait := s.ldw (a + 4) + s.mbits (a + 0x30) 31 16 * 2 ^ 32,
    doneEvt := s.mbits (a + 8) 31 24, advEvt := s.mbits (a + 8) 23 16, goto_ := s.mbits (a + 8) 15 0,
    loopTarget := s.mbits (a + 0xC) 31 16, loopLevel := s.mbits (a + 0xC) 3 1, loopEnd := s.mbits (a + 0xC) 0 0 == 1,
    loopCount := s.ldw (a + 0x10),
    m0Mode := s.mbits (a + 0xC) 5 4, m1Mode := s.mbits (a + 0xC) 7 6,
    m0 := (s.mbits (a + 0x38) 15 0, s.mbits (a + 0x38) 31 16), m1 := (s.mbits (a + 0x3C) 15 0, s.mbits (a + 0x3C) 31 16),
    jumps := (List.range 4).map (fun j => s.jumpSlotAt (a + 0x14 + 4 * j)) }

/-- Committed step `i` of Graver `g`; an entry at or beyond the capacity reads 0 (R112). -/
def State.step (s : State) (g i : Nat) : Step := s.stepAt (commWin g + 64 * i)

/-- The step never completes (R586). -/
def Step.endless (e : Step) : Bool := e.advance == 0 && e.repeat_ == 0

/-- The steps that step `i` can enter, within the table (R586). -/
def Step.succs (e : Step) (i cap : Nat) : List Nat :=
  let js := (e.jumps.filter (fun j => j.evt != 0)).map (·.target)
  let ls := if e.endless then []
    else (if e.loopEnd then [e.loopTarget] else [])
      ++ (if e.flow = 0 then [i + 1] else if e.flow = 1 then [e.goto_] else [])
  (js ++ ls).filter (fun t => decide (t < cap))

/-- The steps reachable from a worklist in the table at window `win` (R586), by at most `fuel` visits. -/
def State.reach (s : State) (win cap : Nat) : Nat → List Nat → List Nat → List Nat
  | 0, _, seen => seen
  | _ + 1, [], seen => seen
  | n + 1, i :: t, seen =>
    if seen.contains i then State.reach s win cap n t seen
    else State.reach s win cap n ((s.stepAt (win + 64 * i)).succs i cap ++ t) (i :: seen)

/-- The reachable steps of Graver `g`'s table at window `win`, in increasing index. -/
def State.reachable (s : State) (g win : Nat) (entries : List Nat) : List Nat :=
  let seen := s.reach win (s.steps g) (8 * s.steps g + 8) (entries.filter (fun e => decide (e < s.steps g))) []
  (List.range (s.steps g)).filter (fun i => seen.contains i)

/-! ### The check of a table (R26, R43, R77, R81, R88, R91, R113, R114, R121, R136, R139, R179) -/

/-- What a refused arm or commit names (R582). -/
structure Refused where
  code : Code
  kind : Nat
  num : Nat
  step : Nat
  detail : Nat
deriving DecidableEq, Repr

/-- The 24-bit object field of R582. -/
def Refused.object (r : Refused) : Nat := r.kind * 2 ^ 20 + r.num % 2 ^ 20

/-- The 64-byte line at address `a` holds a code word that reads uncorrectable (R410, R411). -/
def State.badLine (s : State) (a : Nat) : Bool := s.badWords.any (fun w => w / 64 == a / 64)

/-- Interpolation ratio of Graver `g`'s channel. -/
def State.ratio (s : State) (g : Nat) : Nat := ratioOf (s.fg (base (pGEN g)) GEN_SRC_CTRL_RATIO)

/-- Bytes that the stored words of a segment occupy when Graver `g` plays it (R75, R179). -/
def State.segBytes (s : State) (g : Nat) (r : SegRec) : Nat :=
  if 16 ≤ g then r.samples / 8 else storedBytes r.format r.samples (s.ratio g)

/-- A plate may serve session `k` (R81, R88): its failure, if any. -/
def State.plateFails (s : State) (k p : Nat) : Option Code :=
  if s.plateState p ≠ 2 then some .unpinned
  else if s.plateOwner p ≠ k && !s.plateShared p then some .owner
  else none

/-- An envelope that breaks R97, or a reserved encoding of a descriptor (R92). -/
def State.descBad (s : State) (d : Nat) : Bool :=
  let a := descAddr d
  s.mbits (a + 4) 7 0 != 1 || s.mbits a 11 10 == 3 || decide (5 < s.mbits (a + 0xB0) 4 2) || decide (1 < s.mbits (a + 0xB0) 1 0)
    || (s.mbits a 11 10 != 0 && s.mbits (a + 0xDC) 15 0 != 1
        && decide (s.mbits (a + 0xC8) 31 16 + s.mbits (a + 0xCC) 23 0 * 2 ^ 16
          < s.mbits (a + 0xD0) 23 0 + s.ldw (a + 0xD4) + s.mbits (a + 0xD8) 23 0))

/-- A reference of step `i` to a step beyond the table (R26), by a field that the step uses (R586). -/
def State.beyond (s : State) (g i : Nat) (e : Step) : Bool :=
  let cap := s.steps g
  (e.flow == 1 && !e.endless && decide (cap ≤ e.goto_)) || (e.loopEnd && !e.endless && decide (cap ≤ e.loopTarget))
    || e.jumps.any (fun j => j.evt != 0 && decide (cap ≤ j.target)) || (e.flow == 0 && !e.endless && decide (cap ≤ i + 1))

/-- The rules on step `i` and its segment (R26, R43, R53, R77, R81, R88, R91, R92), for session `k`, in the order of R154 and
R139. A plate that only a record of another session names is refused with OWNER naming the plate (assumption log, entry 135). -/
def State.segFails (s : State) (k g i : Nat) (e : Step) : Option Refused :=
  let r := s.segRec e.segment
  let lvl (c : Code) : Option Refused := some { code := c, kind := 1, num := 2, step := i, detail := 0 }
  let stp : Option Refused := some { code := .limit, kind := 1, num := 3, step := i, detail := 0 }
  let seg (c : Code) : Option Refused :=
    some { code := c, kind := 2, num := e.segment, step := i, detail := if g < 16 ∧ r.format = 2 then g else 0 }
  let plate (c : Code) (p : Nat) : Option Refused := some { code := c, kind := 4, num := p, step := i, detail := 0 }
  let desc (c : Code) : Option Refused := some { code := c, kind := 3, num := r.desc, step := i, detail := 0 }
  let bytes := s.segBytes g r
  if s.badLine (dirAddr e.segment) then seg .ecc
  else if r.kind ≠ 0 ∧ (r.length = 0 ∨ 0x40000000 < r.length ∨ r.samples < minSamples r (!s.plateSpad r.plate)) then lvl .limit
  else if s.beyond g i e then stp
  else if g < 16 ∧ r.stored ∧ r.format = 2 ∧ r.samples % s.ratio g ≠ 0 then seg .limit
  else if 4 < e.acts.freqAct ∨ e.acts.phaseAct = 3 then stp
  else if r.stored ∧ (r.offset % 64 ≠ 0 ∨ s.plateSize r.plate < r.offset + bytes) then seg .bounds
  else if r.stored ∧ r.shadowEn ∧ (!s.plateSpad r.shadowPlate ∨ r.shadowOffset % 64 ≠ 0
      ∨ s.plateSize r.shadowPlate < r.shadowOffset + min 32768 bytes) then seg .bounds
  else if r.stored ∧ s.badLine (plateAddr r.plate) then plate .ecc r.plate
  else if r.stored ∧ (s.plateFails k r.plate).isSome then plate ((s.plateFails k r.plate).getD .ok) r.plate
  else if r.stored ∧ r.owner ≠ k then plate .owner r.plate
  else if r.stored ∧ r.shadowEn ∧ (s.plateFails k r.shadowPlate).isSome then
    plate ((s.plateFails k r.shadowPlate).getD .ok) r.shadowPlate
  else if r.sketch ∧ s.badLine (descAddr r.desc) then desc .ecc
  else if r.sketch ∧ s.mbits (descAddr r.desc + 0xC) 7 0 ≠ r.owner then desc .owner
  else if r.sketch ∧ s.descBad r.desc then desc .limit
  else if r.kind ≠ 0 ∧ r.stored ∧ r.format = 3 then seg .limit
  else none

/-- Fields that must be 0 in a pattern group's table (R114). -/
def Step.patternBad (e : Step) : Bool :=
  e.acts.freqAct != 0 || e.acts.phaseAct != 0 || e.acts.amplAct != 0 || e.quiet || e.m0Mode != 0 || e.m1Mode != 0
    || e.m0 != (0, 0) || e.m1 != (0, 0) || e.acts.freq != 0 || e.acts.rate != 0 || e.acts.phase != 0 || e.acts.ampl != 0

/-- The rules of R113, R114 and R179 on step `i`. A WAIT_HI that is not 0 in a step without ADVANCE TIME is an unused field, not
checked (R586; assumption log, entry 136). -/
def State.entryFails (s : State) (g i : Nat) (e : Step) : Option Refused :=
  let stp : Option Refused := some { code := .limit, kind := 1, num := 3, step := i, detail := 0 }
  let r := s.segRec e.segment
  if e.flow = 3 then stp
  else if r.kind = 0 then some { code := .limit, kind := 2, num := e.segment, step := i, detail := 0 }
  else if (e.advance = 1 ∨ e.advance = 2) ∧ e.advEvt = 0 then stp
  else if 16 ≤ g ∧ (e.patternBad ∨ r.kind ≠ 1 ∨ r.format ≠ 0) then stp
  else none

/-- The loop ranges of a table's reachable steps: the level, the target and the loop-end step (R121); a step that never completes
uses no LOOP_END (R586). -/
def State.loopRanges (s : State) (win : Nat) (steps : List Nat) : List (Nat × Nat × Nat) :=
  (steps.filter (fun i => (s.stepAt (win + 64 * i)).loopEnd && !(s.stepAt (win + 64 * i)).endless)).map (fun i =>
    ((s.stepAt (win + 64 * i)).loopLevel, (s.stepAt (win + 64 * i)).loopTarget, i))

/-- Two loop ranges may stand together (R121): apart, or one within the other with the higher level inside. -/
def loopsAgree (a b : Nat × Nat × Nat) : Bool :=
  decide (a.2.2 < b.2.1) || decide (b.2.2 < a.2.1)
    || (decide (b.2.1 ≤ a.2.1) && decide (a.2.2 < b.2.2) && decide (b.1 < a.1))
    || (decide (b.2.1 < a.2.1) && decide (a.2.2 ≤ b.2.2) && decide (b.1 < a.1))
    || (decide (a.2.1 ≤ b.2.1) && decide (b.2.2 < a.2.2) && decide (a.1 < b.1))
    || (decide (a.2.1 < b.2.1) && decide (b.2.2 ≤ a.2.2) && decide (a.1 < b.1))

/-- The rule of R121 on step `i`: a loop-end step whose range breaks it. -/
def loopFails (ranges : List (Nat × Nat × Nat)) (i : Nat) : Option Refused :=
  match ranges.find? (fun r => r.2.2 == i) with
  | none => none
  | some r =>
    if i < r.2.1 ∨ ranges.any (fun q => decide (q.2.2 ≠ i) && !loopsAgree r q) then
      some { code := .limit, kind := 1, num := 3, step := i, detail := 0 }
    else none

/-- The rule of R136 on step `i`: events the arming session may use. -/
def State.eventFails (s : State) (g i : Nat) (e : Step) : Option Refused :=
  let bad (c : Nat) : Option Refused := some { code := .event, kind := 7, num := c, step := i, detail := 0 }
  let adv := if e.advance = 1 ∨ e.advance = 2 then [e.advEvt] else []
  let ins := adv ++ (e.jumps.filter (fun j => j.evt != 0)).map (·.evt)
  match ins.find? (fun c => match s.chanCheck (0x200 + g) (s.owner (gPage g)) c with | .ok _ => false | .error _ => true) with
  | some c => bad c
  | none => if e.doneEvt ≠ 0 ∧ s.chF e.doneEvt XH_CH_CFG_PRODUCER ≠ 0x100 + g then bad e.doneEvt else none

/-- The check of one reachable step, each rule in the order of R139. -/
def State.stepFails (s : State) (k g win : Nat) (ranges : List (Nat × Nat × Nat)) (i : Nat) : Option Refused :=
  let e := s.stepAt (win + 64 * i)
  if s.badLine (win + 64 * i) then some { code := .ecc, kind := 1, num := 3, step := i, detail := 0 }
  else (s.segFails k g i e).or ((s.entryFails g i e).or ((loopFails ranges i).or (s.eventFails g i e)))

/-- The address of what an arm or commit check names by its kind and number, a step by its place in the table's window `win`. -/
def objectAddr (win kind num step : Nat) : Nat :=
  match kind with
  | 1 => win + 64 * step
  | 2 => dirAddr num
  | 3 => descAddr num
  | 4 => plateAddr num
  | _ => scenAddr num

/-- What a check that refuses with ECC has met is reported, for a table agent (R410, R411). -/
def State.checkEcc (s : State) (c : Code) (win kind num step : Nat) : State :=
  if c = .ecc then s.eccRead (objectAddr win kind num step) 8 0 else s

/-- The check of a table from the entry steps given: the lowest failing step decides (R139); an entry step beyond the
table fails first (R26). -/
def State.tableFails (s : State) (k g win : Nat) (entries : List Nat) : Option Refused :=
  if entries.any (fun e => decide (s.steps g ≤ e)) then
    some { code := .limit, kind := 1, num := 3, step := (entries.filter (fun e => decide (s.steps g ≤ e))).headD 0, detail := 0 }
  else
    let steps := s.reachable g win entries
    (steps.filterMap (s.stepFails k g win (s.loopRanges win steps))).head?

/-! ### References and charges (R80, R88, R91, R102, R312) -/

/-- The list without repeats, in increasing order. -/
def distinct (l : List Nat) : List Nat := l.foldl (fun a x => if a.contains x then a else a ++ [x]) []

/-- The union of two sets of references. -/
def Refs.union (a b : Refs) : Refs :=
  { recs := distinct (a.recs ++ b.recs), plates := distinct (a.plates ++ b.plates),
    descs := distinct (a.descs ++ b.descs), chans := distinct (a.chans ++ b.chans) }

/-- The channels a step names (R312). -/
def Step.channels (e : Step) : List Nat :=
  ((if e.advance = 1 ∨ e.advance = 2 then [e.advEvt] else []) ++ (e.jumps.map (·.evt)) ++ [e.doneEvt]).filter (· != 0)

/-- What the reachable steps of a table name. -/
def State.tableRefs (s : State) (g win : Nat) (entries : List Nat) : Refs :=
  (s.reachable g win entries).foldl (fun acc i =>
    let e := s.stepAt (win + 64 * i)
    let r := s.segRec e.segment
    acc.union { recs := [e.segment],
                plates := (if r.stored then [r.plate] else []) ++ (if r.stored && r.shadowEn then [r.shadowPlate] else []),
                descs := if r.sketch then [r.desc] else [], chans := e.channels }) Refs.none

/-- Every reference of a set raised or lowered by one. -/
def State.countRefs (s : State) (r : Refs) (up : Bool) : State :=
  let t := r.recs.foldl (fun u x => u.refBy (dirAddr x + 0x18) 23 8 up) s
  let t := r.plates.foldl (fun u x => u.refBy (plateAddr x + 0x28) 31 16 up) t
  let t := r.descs.foldl (fun u x => u.refBy (descAddr x + 0x0C) 23 8 up) t
  r.chans.foldl (fun u x => u.setCh x XH_CH_STAT_ARM_REFS
    (if up then u.chF x XH_CH_STAT_ARM_REFS + 1 else u.chF x XH_CH_STAT_ARM_REFS - 1)) t

/-- The references of `a` that `b` lacks. -/
def Refs.minus (a b : Refs) : Refs :=
  { recs := a.recs.filter (fun x => !b.recs.contains x), plates := a.plates.filter (fun x => !b.plates.contains x),
    descs := a.descs.filter (fun x => !b.descs.contains x), chans := a.chans.filter (fun x => !b.chans.contains x) }

/-- Scenario `k` beyond its record. -/
def State.scn (s : State) (k : Nat) : ScenX := s.scens.getD k ScenX.fresh

/-- Scenario `k` beyond its record changed. -/
def State.updScn (s : State) (k : Nat) (f : ScenX → ScenX) : State := { s with scens := s.scens.modify k f }

/-- Scenario `k` holds the references `r` and no others: those added are raised, those dropped are lowered. -/
def State.setRefs (s : State) (k : Nat) (r : Refs) : State :=
  ((s.countRefs (r.minus (s.scn k).refs) true).countRefs ((s.scn k).refs.minus r) false).updScn k
    (fun x => { x with refs := r })

/-- The greatest demand of Graver `g`'s port on DRAM and on scratchpad over the reachable steps of a table, with the
masks of the plates it reads (R102, R103). -/
def State.tableDemand (s : State) (g win : Nat) (entries : List Nat) : (Nat × Nat) × (Nat × Nat) :=
  let rate := s.genRate
  (s.reachable g win entries).foldl (fun acc i =>
    let r := s.segRec (s.stepAt (win + 64 * i)).segment
    let d := if 16 ≤ g then patDemand rate else readDemand rate r.format (s.ratio g)
    if !r.stored then acc
    else
      let acc := if s.plateSpad r.plate then
          (acc.1, (max acc.2.1 d, acc.2.2 ||| s.ldw (plateAddr r.plate + 0x30)))
        else ((max acc.1.1 d, acc.1.2 ||| s.mbits (plateAddr r.plate + 0x2C) 5 0), acc.2)
      if r.shadowEn then (acc.1, (max acc.2.1 d, acc.2.2 ||| s.ldw (plateAddr r.shadowPlate + 0x30))) else acc)
    ((0, 0), (0, 0))

/-- The charges of Graver `g`'s port for scenario `k` with a table (R103). -/
def State.tableCharges (s : State) (k g win : Nat) (entries : List Nat) : List Charge :=
  let d := s.tableDemand g win entries
  s.dramCharges k g d.1.1 d.1.2 ++ s.spadCharges k g d.2.1 d.2.2

/-! ### The stroke plan -/

/-- Graver `g`. -/
def State.grv (s : State) (g : Nat) : Graver := s.gravers.getD g Graver.fresh

/-- Graver `g` changed. -/
def State.updGrv (s : State) (g : Nat) (f : Graver → Graver) : State := { s with gravers := s.gravers.modify g f }

/-- Graver `g` issues strokes of a started scenario's sequence (STEP_NOW.PLAYING). -/
def State.playing (s : State) (g : Nat) : Bool := s.fb (gBase g) GRV_STEP_NOW_PLAYING

/-- The step that Graver `g` plays. -/
def State.stepNow (s : State) (g : Nat) : Nat := s.fg (gBase g) GRV_STEP_NOW_INDEX

/-- The entry of that step. -/
def State.entryNow (s : State) (g : Nat) : Step := s.step g (s.stepNow g)

/-- The time of the stroke that Graver `g` plans next, in whole ticks: that of its GF cycle (R30, R31). -/
def State.strokeAt (s : State) (g : Nat) : Nat := s.gfTime (s.grv g).cycle / 2 ^ 40

/-- The time of the stroke that Graver `g` issued last. -/
def State.lastStrokeAt (s : State) (g : Nat) : Nat := s.gfTime ((s.grv g).cycle - 1) / 2 ^ 40

/-- The sample count S at Graver `g`'s next stroke (R50). -/
def State.countAt (s : State) (g : Nat) : Nat := 8 * ((s.grv g).cycle - (s.gen g).sBase) % 2 ^ 64

/-- `n` strokes of the current pass of Graver `g`, from its next one on, as a run. -/
def State.runOf (s : State) (g n : Nat) : Run :=
  let e := s.entryNow g
  let r := s.segRec e.segment
  let v := s.grv g
  { cycle := v.cycle, strokes := n, seg := r, ext := if r.stored then s.extents r.plate else [],
    shExt := if r.stored && r.shadowEn then s.extents r.shadowPlate else [], desc := if g < 16 then s.descOf r else Desc.none,
    clean := v.clean, via := v.via, since := v.since, role := v.served, nco := (s.gen g).nco, count := s.countAt g, sty := (s.gen g).sty,
    marks := [(e.m0Mode, e.m0.1, e.m0.2), (e.m1Mode, e.m1.1, e.m1.2)] }

/-- A run put before the passes issued; the later strokes of a pass continue its run. -/
def pushRun (pos : Nat) (r : Run) (l : List Run) : List Run :=
  match l with
  | p :: t => if pos ≠ 0 ∧ p.cycle + p.strokes = r.cycle then { p with strokes := p.strokes + r.strokes } :: t else r :: p :: t
  | [] => [r]

/-- A pre-emption point of Graver `g` at its next stroke would be taken (R161): something awaits it, and that stroke's
time has reached the action time. -/
def State.handDue (s : State) (g : Nat) : Bool :=
  match (s.grv g).hand with
  | some h => decide (h.at_ * 2 ^ 40 ≤ s.gfTime (s.grv g).cycle)
  | none => false

/-- `n` strokes issued by Graver `g`: they join its line, and device time, the NCO and the Stylus generators advance with
them (R31, R47, R50). -/
def State.playStrokes (s : State) (g n : Nat) : State :=
  let r := s.runOf g n
  let t := s.updGrv g (fun v =>
    { v with pos := v.pos + n, cycle := v.cycle + n, shown := if n = 0 then v.shown else s.stepNow g, clean := v.clean && n == 0,
             line := if n = 0 then v.line else pushRun v.pos r v.line })
  let t := t.updGen g (fun c => { c with nco := c.nco.play n, sty := c.sty.play r.desc (8 * (s.grv g).pos) (8 * n) })
  { t with now := max t.now (t.strokeAt g) }

/-- Strokes of one pass of a step. -/
def State.passStrokes (s : State) (e : Step) : Nat := (s.segRec e.segment).strokes

/-- The strokes that remain of the pass. -/
def State.restOfPass (s : State) (g : Nat) : Nat := s.passStrokes (s.entryNow g) - (s.grv g).pos

/-- The device time T that a TIME step's WAIT names, from the time of its first stroke (R117). -/
def waitTime (wait first : Nat) : Nat :=
  let d := (wait % 2 ^ 48 + 2 ^ 48 - first % 2 ^ 48) % 2 ^ 48
  if d < 2 ^ 47 then first + d else first + d - 2 ^ 48

/-- A slot of the jump cache is needed for segment `seg` (R128): stored words in a DRAM plate. -/
def State.slotNeeded (s : State) (seg : Nat) : Bool :=
  let r := s.segRec seg
  r.stored && !s.plateSpad r.plate

/-- The successor that a completion of step `i` enters if its loop falls through, for the cache (R128). -/
def Step.flowTarget (e : Step) (i : Nat) : Option Nat := if e.flow = 0 then some (i + 1) else if e.flow = 1 then some e.goto_ else none

/-- The successor that step `i` would enter by completion now (R118, R120), without changing the loop state; a step that never
completes has none (R586). -/
def State.nextStep (s : State) (g i : Nat) (e : Step) : Option Nat :=
  if e.loopEnd && (e.loopCount == 0 || (if bit (s.fg (gBase g) GRV_LOOP_ACTIVE_ACTIVE) e.loopLevel then
      s.fg (gBase g) GRV_LOOP_COUNT_COUNT e.loopLevel != 0 else decide (1 < e.loopCount))) then some e.loopTarget
  else e.flowTarget i

/-- The successor of step `i` by its first completion, every loop being inactive (R118, R120). -/
def Step.firstNext (e : Step) (i : Nat) : Option Nat := if e.loopEnd && e.loopCount != 1 then some e.loopTarget else e.flowTarget i

/-- The bits of a cache set for step `i`, whose successor is `next`, at its role change: 1 for a slot not needed (R128). -/
def State.freshSet (s : State) (g win i : Nat) (next : Option Nat) : Nat :=
  let e := s.stepAt (win + 64 * i)
  let seg (t : Nat) : Nat := (s.stepAt (win + 64 * t)).segment
  let bitOf (j : Nat) (need : Bool) : Nat := if need then 0 else 2 ^ j
  let js := (List.range 4).foldl (fun m j =>
    let q := e.jumps.getD j { target := 0, clr := false, evt := 0 }
    m + bitOf j (q.evt != 0 && decide (q.target < s.steps g) && s.slotNeeded (seg q.target))) 0
  js + bitOf 4 (e.advance != 0 && match next with | some t => s.slotNeeded (seg t) | none => false)

/-- The slot of a set that fills next: the first in the order given that is not filled (R583). -/
def nextSlot (set : Nat) (order : List Nat) : Option Nat := order.find? (fun j => !bit set j)

/-- The ACTIVE set of Graver `g` filled anew from now on for step `i`, whose successor is `next` (R129, R132). -/
def State.refillFor (s : State) (g i : Nat) (next : Option Nat) : State :=
  (s.fs (gBase g) GRV_JCACHE_STATUS_ACTIVE (s.freshSet g (commWin g) i next)).updGrv g (fun v => { v with cacheFor := i, roles := (s.gfNow, v.roles.2) })

/-- The ACTIVE set filled anew for step `i` of the scenario that plays. -/
def State.refill (s : State) (g i : Nat) : State := s.refillFor g i (s.nextStep g i (s.step g i))

/-- The ACTIVE set filled anew for the entry step `i` of a scenario that is to start, every loop being inactive. -/
def State.refillEntry (s : State) (g i : Nat) : State := s.refillFor g i ((s.step g i).firstNext i)

/-- The NEXT set set up for the step that the present step's completion will enter (R128, R129). -/
def State.fillNext (s : State) (g : Nat) : State :=
  (match (if (s.entryNow g).endless then none else s.nextStep g (s.stepNow g) (s.entryNow g)) with
  | some t => s.fs (gBase g) GRV_JCACHE_STATUS_NEXT (s.freshSet g (commWin g) t (s.nextStep g t (s.step g t)))
  | none => s.fs (gBase g) GRV_JCACHE_STATUS_NEXT 0x1F).updGrv g (fun v => { v with roles := (v.roles.1, s.gfNow, v.roles.2.2) })

/-- The Stylus slots when a step becomes current: the descriptors of the step, of its successor and of its jump
targets, those already held being kept (R99). -/
def State.loadSlots (s : State) (g : Nat) : State :=
  if 16 ≤ g then s
  else
    let e := s.entryNow g
    let near := s.stepNow g :: (((s.nextStep g (s.stepNow g) e).map (fun t => [t])).getD []
      ++ (e.jumps.filter (fun j => j.evt != 0)).map (·.target))
    let want := distinct ((near.map (fun i => s.segRec (s.step g i).segment)).filter (fun r => r.sketch) |>.map (·.desc))
    s.updGen g (fun c => { c with slots := want.map (fun d => (d, c.slots.contains (d, true))) })

/-- The strokes that a late sketch step has issued so far (R100). -/
def State.lateStrokes (s : State) (g : Nat) : Nat :=
  match (s.gen g).late with
  | some (_, _, c) => (s.grv g).cycle - c
  | none => 0

/-- The sketch of the step just entered has not loaded: it renders 0 until it has. A late step that is left before its
descriptor has loaded is accounted then (R100). -/
def State.markLate (s : State) (g : Nat) : State :=
  let t := if g < 16 then s.lateEnds g (s.lateStrokes g) else s
  let r := s.segRec (s.entryNow g).segment
  if g < 16 ∧ r.sketch ∧ !(s.gen g).slots.contains (r.desc, true) then
    t.updGen g (fun c => { c with late := some (r.desc, s.stepNow g, (s.grv g).cycle) })
  else t

/-- What GENn.STYLUS_STATUS shows of the current step (R101). -/
def State.showStylus (s : State) (g : Nat) : State :=
  if 16 ≤ g then s
  else
    let r := s.segRec (s.entryNow g).segment
    let t := s.fs (gBase g) GEN_STYLUS_STATUS_RENDERING (b2n r.sketch)
    if r.sketch then t.fs (gBase g) GEN_STYLUS_STATUS_DESC r.desc else t

/-- Step `i` entered by Graver `g` with pass 0: its actions take effect (R57, R119), a TIME step resolves its end
(R117), and the Stylus slots follow. -/
def State.enterStep (s : State) (g i : Nat) : State :=
  let e := s.step g i
  let t := (s.fs (gBase g) GRV_STEP_NOW_INDEX i).fs (gBase g) GRV_PASS_NOW_PASS 0
  let t := t.updGrv g (fun v => { v with pos := 0, latched := false, until_ := waitTime e.wait (s.strokeAt g), entered := true, before := (s.gen g).nco, beforeSty := (s.gen g).sty, via := 0, cacheFor := i })
  let t := if g < 16 then t.updGen g (fun c =>
    { c with nco := c.nco.enter e.acts (s.countAt g), sty := c.sty.pass (s.descOf (s.segRec e.segment)) true }) else t
  let t := t.markLate g
  (t.showStylus g).loadSlots g

/-- The end of the playing step: its DONE_EVT is published, but not at the last stroke before a pre-emption (R135). -/
def State.publishDone (s : State) (g : Nat) : State :=
  if (s.entryNow g).doneEvt ≠ 0 ∧ !s.handDue g ∧ s.chF (s.entryNow g).doneEvt XH_CH_CFG_PRODUCER = 0x100 + g then
    s.publish (s.entryNow g).doneEvt
  else s

/-- Every loop level made inactive (R122, R140). -/
def State.clearLoops (s : State) (g : Nat) : State := s.fs (gBase g) GRV_LOOP_ACTIVE_ACTIVE 0

/-- LOOP_END evaluated at the completion of step `e` (R120): whether the loop returns. -/
def State.loopStep (s : State) (g : Nat) (e : Step) : Bool × State :=
  let act := s.fg (gBase g) GRV_LOOP_ACTIVE_ACTIVE
  let t := if bit act e.loopLevel then s
    else (s.fs (gBase g) GRV_LOOP_ACTIVE_ACTIVE (putBit act e.loopLevel true)).fs (gBase g) GRV_LOOP_COUNT_COUNT
      (if e.loopCount = 0 then 0xFFFFFFFF else e.loopCount - 1) e.loopLevel
  if e.loopCount = 0 then (true, t)
  else if t.fg (gBase g) GRV_LOOP_COUNT_COUNT e.loopLevel ≠ 0 then
    (true, t.fs (gBase g) GRV_LOOP_COUNT_COUNT (t.fg (gBase g) GRV_LOOP_COUNT_COUNT e.loopLevel - 1) e.loopLevel)
  else (false, t.fs (gBase g) GRV_LOOP_ACTIVE_ACTIVE (putBit (t.fg (gBase g) GRV_LOOP_ACTIVE_ACTIVE) e.loopLevel false))

/-- The sequence of Graver `g` ends (R118, R144): no further strokes, SEQ_END raised with the time of the last stroke issued. There
is no current step of the sequence any more, and RENDERING stays as it is until the scenario lets the channel go (assumption
log, entry 137). -/
def State.endSequence (s : State) (g step : Nat) (ecc : Bool) : State :=
  ((s.fs (gBase g) GRV_STEP_NOW_PLAYING 0).updGrv g (fun v =>
    { v with entered := false, before := (s.gen g).nco, beforeSty := (s.gen g).sty })).notify { s.note (gPage g) 12 (step + 2 ^ 24 * b2n ecc) with time := s.lastStrokeAt g }

/-- A Graver's reader as a requester (R501). -/
def readerCode (g : Nat) : Nat := if g < 16 then 1 else 2

/-- The Graver finds the entry of step `step` uncorrectable when it reads it ahead of its use: the line is reported, the sequence ends at the
stroke that would have entered it, and the fault is recorded (R144, R410). -/
def State.tableEnd (s : State) (g step : Nat) : State :=
  ((s.eccRead (commWin g + 64 * step) (readerCode g) g).pageFault (gPage g) 0x0101 0).endSequence g step true

/-- Step `i` entered by Graver `g`, unless its committed line reads uncorrectable (R144). -/
def State.goTo (s : State) (g i : Nat) : State :=
  if s.badLine (commWin g + 64 * i) then s.tableEnd g i else s.enterStep g i

/-- `n` events of a consumer counted in OVERRUN (R307). -/
def State.overrunN (s : State) (code : Nat) : Nat → State
  | 0 => s
  | n + 1 => State.overrunN (s.overrun code) code n

/-- Events on the channels given counted in EVT_OVERRUN_COUNT and in the consumer's OVERRUN (R307), the first since the owner's
bit was cleared raising EVENT_OVERRUN with its channel (R125). -/
def State.overrunBy (s : State) (g : Nat) (chans : List Nat) : State :=
  match chans with
  | [] => s
  | c :: _ =>
    let t := (s.countBy (gBase g) GRV_EVT_OVERRUN_COUNT_COUNT chans.length).overrunN (0x200 + g) chans.length
    if bit (s.fg (sbase (s.owner (gPage g)) (gPage g)) HDR_PAGE_NOTICE_RAW_RAW) 11 then t
    else t.notify (s.note (gPage g) 11 c)

/-- The filled strokes of Graver `g`'s channel or group counted (R66, R181). -/
def State.countFill (s : State) (g n : Nat) : State :=
  if g < 16 then s.countBy (gBase g) GEN_FILL_COUNT_COUNT n else s.countBy (gBase g) PAT_FILL_COUNT_COUNT n

/-- A landing on `target` served by cache slot `slot` (R130): where the ACTIVE slot is not filled, it is late, played
from the shadow, or with strokes filled, counted and reported: `filled` says how many play from the partial slot first, and how many
are filled. -/
def State.landing (s : State) (g slot target : Nat) (filled : Nat × Nat) : State :=
  if bit (s.fg (gBase g) GRV_JCACHE_STATUS_ACTIVE) slot || s.handDue g || s.badLine (commWin g + 64 * target) then s
  else
    let shadow := (s.segRec (s.step g target).segment).shadowEn
    let n := if shadow then 0 else filled.2
    let t := s.count (gBase g) GRV_JUMP_LATE_COUNT_COUNT
    let t := if shadow then t.count (gBase g) GRV_JUMP_SHADOW_COUNT_COUNT
      else (t.countFill g n).updGrv g (fun v => { v with fills := if n = 0 then v.fills else { cycle := v.cycle + filled.1, strokes := n, cause := 3 } :: v.fills })
    t.notify { s.note (gPage g) 10 (target + slot * 2 ^ 16 + 2 ^ 24 * b2n shadow) n with time := s.strokeAt g }

/-- Where the first words of a landing on `target` through cache slot `slot` come from: the slot, or the segment's shadow where
the slot is late (R81, R130). -/
def State.viaOf (s : State) (g slot target : Nat) : Nat :=
  if !(bit (s.fg (gBase g) GRV_JCACHE_STATUS_ACTIVE) slot || s.handDue g) && (s.segRec (s.step g target).segment).shadowEn then 2 else 1

/-- The landing of a jump, a cut advance or a commit entry: its first words come `via` a cache slot whose set began to fill at `role`,
or the shadow, and the reader has discarded what it had fetched beyond the stroke before it (R129, R383). -/
def State.landed (s : State) (g via role : Nat) : State := s.updGrv g (fun v => { v with via := via, since := s.gfNow, served := role })

/-- The sets change roles at a sequential successor: NEXT becomes ACTIVE, and a new NEXT begins to fill (R129). -/
def State.rollSets (s : State) (g : Nat) : State :=
  ((s.fs (gBase g) GRV_JCACHE_STATUS_ACTIVE (s.fg (gBase g) GRV_JCACHE_STATUS_NEXT)).updGrv g (fun v =>
    { v with roles := (v.roles.2.1, v.roles.2) })).fillNext g

/-- The sets change roles at a jump or cut advance: the target's slots are filled into the set that becomes ACTIVE
(R129). -/
def State.jumpSets (s : State) (g target : Nat) : State :=
  (s.refill g target).fillNext g

/-- A step completes (R115, R118): LOOP_END, then FLOW; the step actions of the successor take effect. `roll` says how
the cache sets change. -/
def State.completeStep (s : State) (g : Nat) (cut : Bool) : State :=
  let e := s.entryNow g
  let i := s.stepNow g
  let s := s.publishDone g
  let r := if e.loopEnd then s.loopStep g e else (false, s)
  let next := if r.1 then some e.loopTarget else e.flowTarget i
  match next with
  | some t =>
    let u := r.2.goTo g t
    if cut then u.jumpSets g t else u.rollSets g
  | none => r.2.endSequence g i false

/-! ### Table commits (R137 to R142) -/

/-- The cells of `l` between `lo` and `lo + n`, moved to `to`. -/
def moveCells (l : List Host.Cell) (lo n dst : Nat) : List Host.Cell :=
  (l.filter (fun e => decide (lo ≤ e.1 ∧ e.1 < lo + n))).map (fun e => (e.1 - lo + dst, e.2))

/-- The memory with `n` bytes from `to` replaced by a copy of those from `lo`. -/
def State.copyMem (s : State) (lo n dst : Nat) : State :=
  let rest := stDrop (fun x => decide (dst ≤ x ∧ x < dst + n)) s.mem
  { s with mem := (moveCells s.mem lo n dst).foldl (fun m e => stSet memDefault m e.1 e.2) rest }

/-- The two copies of Graver `g`'s table exchange roles (R138), each with its uncorrectable lines. -/
def State.swapTables (s : State) (g : Nat) : State :=
  let n := 0x400000
  let rest := stDrop (fun x => decide (shadowWin g ≤ x ∧ x < shadowWin g + n) || decide (commWin g ≤ x ∧ x < commWin g + n)) s.mem
  let moved := moveCells s.mem (shadowWin g) n (commWin g) ++ moveCells s.mem (commWin g) n (shadowWin g)
  let bad := s.badWords.map (fun a =>
    if shadowWin g ≤ a ∧ a < shadowWin g + n then a - shadowWin g + commWin g
    else if commWin g ≤ a ∧ a < commWin g + n then a - commWin g + shadowWin g else a)
  { s with mem := moved.foldl (fun m e => stSet memDefault m e.1 e.2) rest, badWords := bad }

/-- The armed scenarios that use Graver `g`. -/
def State.armedOn (s : State) (g : Nat) : List Nat :=
  (List.range 64).filter (fun k => scenArmed (s.scenState k) && bit (s.scenGravers k) g)

/-- The entry step of scenario `k` on Graver `g` (R148). -/
def State.entryOf (s : State) (k g : Nat) : Nat :=
  if s.mbits (scenAddr k + 0x18) g g = 1 then s.mbits (scenAddr k + 0x20 + 4 * g) 15 0
  else s.fg (gBase g) GRV_STEP_PTR_INDEX

/-- The Gravers of scenario `k`. -/
def State.membersOf (s : State) (k : Nat) : List Nat := (List.range 20).filter (fun g => bit (s.scenGravers k) g)

/-- What the routes and the start event of scenario `k` name (R312). -/
def State.routeChans (s : State) (k : Nat) : List Nat :=
  ((List.range 16).foldl (fun l r =>
    if s.mbits (scenAddr k + 0x80 + 4 * r) 31 16 = 0 then l
    else l ++ [s.mbits (scenAddr k + 0x80 + 4 * r) 7 0, s.mbits (scenAddr k + 0x80 + 4 * r) 15 8])
    [s.mbits (scenAddr k + 0x10) 15 8]).filter (· != 0)

/-- The references of scenario `k`, its Graver `sh`'s table being read from the window given by `win` with the further
entry steps `more`. -/
def State.scenRefs (s : State) (k : Nat) (win : Nat → Nat) (more : Nat → List Nat) : Refs :=
  (s.membersOf k).foldl (fun acc g => acc.union (s.tableRefs g (win g) (s.entryOf k g :: more g)))
    { Refs.none with chans := distinct (s.routeChans k) }

/-- The step-event subscriptions of Graver `g`: one entry for each ADV_EVT and JUMPj_EVT field of the reachable steps of
its committed table (R298). -/
def State.takeSubs (s : State) (g : Nat) (entries : List Nat) : State :=
  let fields := (s.reachable g (commWin g) entries).foldl (fun l i =>
    let e := s.step g i
    l ++ ((if e.advance = 1 ∨ e.advance = 2 then [e.advEvt] else []) ++ e.jumps.map (·.evt)).filter (· != 0)) []
  { s with xh := { s.xh with stepSubs := s.xh.stepSubs.filter (fun q => q.1 != g) ++ fields.map (fun c => (g, c)) } }

/-- COMMIT_DONE raised and the new version in force, with the time of the exchange or COMMIT_TIME (R138, R140); the copy into the shadow begins
(R141). -/
def State.commitDone (s : State) (g time : Nat) : State :=
  let old := s.fg (gBase g) GRV_TABLE_VERSION_VERSION
  let new := s.fg (gBase g) GRV_COMMIT_VERSION_VERSION
  let t := ((((s.fs (gBase g) GRV_TABLE_VERSION_VERSION new).fs (gBase g) GRV_TABLE_STATUS_PENDING 0).fs
    (gBase g) GRV_TABLE_STATUS_READY 0).fs (gBase g) GRV_TABLE_STATUS_LAST_RESULT 0).fs (gBase g) GRV_TABLE_STATUS_SYNCING 1
  (t.updGrv g (fun v => { v with checked := false })).notify { s.note (gPage g) 8 old new with time := time }

/-- The scenario of a list that was armed last (R139). -/
def State.lastArmed (s : State) (ks : List Nat) : Option Nat :=
  ks.foldl (fun a k => match a with
    | some j => if (s.scn j).armNo ≤ (s.scn k).armNo then some k else some j
    | none => some k) none

/-- The copies exchange roles on a Graver that plays nothing (R138, R139): the references and the step-event
subscriptions of its armed scenarios follow the new table, and the ACTIVE set is refilled. -/
def State.exchange (s : State) (g : Nat) : State :=
  let t := s.swapTables g
  let ks := s.armedOn g
  let t := ks.foldl (fun u k => u.setRefs k (u.scenRefs k commWin (fun _ => []))) t
  let t := if ks.isEmpty then t else t.takeSubs g (ks.map (fun k => t.entryOf k g))
  let t := match s.lastArmed ks with
    | some k => t.refillEntry g (t.entryOf k g)
    | none => t
  t.commitDone g s.now

/-- A READY commit takes effect at a stroke that begins a pass or lands a jump (R140): ENTRY is entered from the new
table, COMMIT becomes ACTIVE, dropped references are lowered. COMMIT_ENTRY and COMMIT_VERSION are read as they then stand (assumption
log, entry 153). -/
def State.commitEnter (s : State) (g : Nat) : State :=
  let s := s.publishDone g
  let entry := s.fg (gBase g) GRV_COMMIT_ENTRY_ENTRY
  let t := s.swapTables g
  let t := (t.goTo g entry).clearLoops g
  let ks := s.armedOn g
  let more (h : Nat) : List Nat := if h = g then [entry] else []
  let t := ks.foldl (fun u k => u.setRefs k (u.scenRefs k commWin more)) t
  let t := t.takeSubs g (entry :: ks.map (fun k => t.entryOf k g))
  let t := ((t.fs (gBase g) GRV_JCACHE_STATUS_ACTIVE (s.fg (gBase g) GRV_JCACHE_STATUS_COMMIT)).fillNext g).wr64
    (gBase g + GRV_COMMIT_TIME) (s.strokeAt g)
  ((t.landed g 1 (s.grv g).roles.2.2).updGrv g (fun v => { v with roles := (v.roles.2.2, v.roles.2) })).commitDone g (s.strokeAt g)

/-- The pending commit withdrawn (R142): its references are lowered and COMMIT_REFUSED with CANCELLED is raised. LAST_STEP and the
filled bits of the COMMIT set stay as they are (assumption log, entry 154). -/
def State.commitWithdraw (s : State) (g : Nat) : State :=
  if s.fb (gBase g) GRV_TABLE_STATUS_PENDING then
    let t := ((s.fs (gBase g) GRV_TABLE_STATUS_PENDING 0).fs (gBase g) GRV_TABLE_STATUS_READY 0).fs
      (gBase g) GRV_TABLE_STATUS_LAST_RESULT Code.cancelled.num
    let t := (s.armedOn g).foldl (fun u k => u.setRefs k (u.scenRefs k commWin (fun _ => []))) t
    (t.updGrv g (fun v => { v with checked := false })).notify
      (s.note (gPage g) 9 (s.fg (gBase g) GRV_COMMIT_VERSION_VERSION) Code.cancelled.num)
  else s

/-- COMMIT_CMD.GO (R137, R138). -/
def State.commitGo (s : State) (g : Nat) : Act :=
  if s.fb (gBase g) GRV_TABLE_STATUS_PENDING || s.fb (gBase g) GRV_TABLE_STATUS_SYNCING then .error .busy
  else if (s.armedOn g).isEmpty then .ok (s.exchange g)
  else .ok ((s.fs (gBase g) GRV_TABLE_STATUS_PENDING 1).updGrv g (fun v => { v with checked := false }))

/-- COMMIT_CMD written: CANCEL before GO (R142). -/
def State.commitCmd (s : State) (g : Nat) (cancel go : Bool) : Act :=
  let t := if cancel then s.commitWithdraw g else s
  if go then t.commitGo g else .ok t

/-- A refused commit (R139): PENDING clears, the outcome is recorded, COMMIT_REFUSED is raised. -/
def State.commitRefuse (s : State) (g : Nat) (r : Refused) (w2 w3 : Nat) : State :=
  let t := ((s.fs (gBase g) GRV_TABLE_STATUS_PENDING 0).fs (gBase g) GRV_TABLE_STATUS_LAST_RESULT r.code.num).fs
    (gBase g) GRV_TABLE_STATUS_LAST_STEP r.step
  t.notify (s.note (gPage g) 9 (s.fg (gBase g) GRV_COMMIT_VERSION_VERSION) (r.code.num + 256 * r.object) w2 w3)

/-- The charges after Graver `g`'s new table is added for its armed scenarios: a charge rises, and falls only when its
scenario is disarmed (R105). -/
def State.commitCharges (s : State) (g : Nat) : List Charge :=
  (s.armedOn g).foldl (fun l k =>
    l ++ (s.tableCharges k g (shadowWin g) [s.fg (gBase g) GRV_COMMIT_ENTRY_ENTRY, s.entryOf k g]).filter
      (fun c => !l.contains c)) s.plates.charges

/-- The commit check finishes (R139). -/
def State.commitCheck (s : State) (g : Nat) : State :=
  if !s.fb (gBase g) GRV_TABLE_STATUS_PENDING || (s.grv g).checked then s
  else
    let entry := s.fg (gBase g) GRV_COMMIT_ENTRY_ENTRY
    let entries := entry :: (s.armedOn g).map (fun k => s.entryOf k g)
    match s.tableFails (s.owner (gPage g)) g (shadowWin g) entries with
    | some r => (s.checkEcc r.code (shadowWin g) r.kind r.num r.step).commitRefuse g r r.step r.detail
    | none =>
      if s.heldBack ((s.commitCharges g).drop s.plates.charges.length) then
        s.commitRefuse g { code := .busy, kind := 0, num := 0, step := 0, detail := 0 } 0 0
      else
      match s.overPlace (s.commitCharges g) with
      | some p =>
        s.commitRefuse g { code := .budget, kind := if p < 8 then 5 else 6, num := if p < 8 then p else p - 8, step := 0, detail := 0 }
          (s.placeLimit p) (mbUp (placeSum (s.commitCharges g) p))
      | none =>
        let win (h : Nat) : Nat := if h = g then shadowWin g else commWin h
        let more (h : Nat) : List Nat := if h = g then [entry] else []
        let t := (s.armedOn g).foldl (fun u k =>
          u.setRefs k ((u.scenRefs k commWin (fun _ => [])).union (u.scenRefs k win more))) s
        let own := s.slotNeeded (s.stepAt (shadowWin g + 64 * entry)).segment
        let t := t.fs (gBase g) GRV_JCACHE_STATUS_COMMIT (s.freshSet g (shadowWin g) entry ((s.stepAt (shadowWin g + 64 * entry)).firstNext entry) + (if own then 0 else 32))
        ({ t with plates := { t.plates with charges := s.commitCharges g } }).updGrv g (fun v =>
          { v with checked := true, roles := (v.roles.1, v.roles.2.1, s.gfNow) })

/-- The COMMIT set of an accepted commit is filled (R139): READY is set, and on a channel that plays nothing the
commit takes effect at once. -/
def State.commitReady (s : State) (g : Nat) : State :=
  if s.fb (gBase g) GRV_TABLE_STATUS_PENDING && (s.grv g).checked && !s.fb (gBase g) GRV_TABLE_STATUS_READY then
    let t := (s.fs (gBase g) GRV_TABLE_STATUS_READY 1).fs (gBase g) GRV_JCACHE_STATUS_COMMIT 0x3F
    if s.playing g then t else t.exchange g
  else s

/-- A channel that stops playing while a commit is READY exchanges its tables at once (R142). -/
def State.stopExchange (s : State) (g : Nat) : State :=
  if s.fb (gBase g) GRV_TABLE_STATUS_READY then s.exchange g else s

/-! ### Jumps, advances and pass ends -/

/-- A stroke at time `at_`, in 1/2^40 tick, that carries out what was due at tick `due`: the whole ticks by which it is late, 0
within one stroke (R32, R117). -/
def State.lateBy (s : State) (due at_ : Nat) : Nat :=
  if due * 2 ^ 40 + gridUnit / s.genRate < at_ then (at_ - due * 2 ^ 40) / 2 ^ 40 else 0

/-- A jump on `slot` of the plan step (R124 rules 1 and 2, R125, R127, R145), `strokes` of the pass having been issued
since the last happening; `others` are the channels of the further events that would have acted in the cycle. -/
def State.jump (s : State) (g slot strokes : Nat) (others : List Nat) (filled : Nat × Nat) : State :=
  let e := s.entryNow g
  let j := e.jumps.getD slot { target := 0, clr := false, evt := 0 }
  let lost := others ++ (if e.advance == 1 && (s.grv g).latched then [e.advEvt] else [])
  if !s.playing g || j.evt == 0 || bit (s.fg (gBase g) GRV_JUMP_CTRL_SLOT_MASK) slot || decide (4 ≤ slot) then s
  else if s.fb (gBase g) GRV_TABLE_STATUS_READY && !(s.playStrokes g (min strokes (s.restOfPass g))).handDue g then
    ((((s.playStrokes g (min strokes (s.restOfPass g))).overrunBy g others).count (gBase g) GRV_JUMP_SUPERSEDED_COUNT_COUNT).overrun (0x200 + g)).commitEnter g
  else
    let s := (s.playStrokes g (min strokes (s.restOfPass g))).overrunBy g lost
    let t := (s.landing g slot j.target filled).publishDone g
    let t := if j.clr then t.clearLoops g else t
    let t := ((t.goTo g j.target).jumpSets g j.target).landed g (s.viaOf g slot j.target) (s.grv g).roles.1
    let t := (t.count (gBase g) GRV_JUMP_COUNT_COUNT).wr64 (gBase g + GRV_LAST_JUMP_TIME) (s.strokeAt g)
    if t.playing g then t else t.stopExchange g

/-- A vetoed jump (R126). -/
def State.jumpCancel (s : State) (g slot : Nat) (byMask : Bool) : State :=
  let t := if s.playing g && (((s.entryNow g).jumps.getD slot { target := 0, clr := false, evt := 0 }).evt != 0)
      && !bit (s.fg (gBase g) GRV_JUMP_CTRL_SLOT_MASK) slot then (s.count (gBase g) GRV_JUMP_CANCEL_COUNT_COUNT).overrun (0x200 + g) else s
  if byMask then t.fs (gBase g) GRV_JUMP_CTRL_SLOT_MASK (putBit (s.fg (gBase g) GRV_JUMP_CTRL_SLOT_MASK) slot true) else t

/-- The plan step completes into a successor served by cache slot 4 (R128): a cut advance, a time advance, or an EVENT
completion after a latched advance. `cut` says that the sets change roles as at a jump (R129). -/
def State.servedBy4 (s : State) (g : Nat) (filled : Nat × Nat) (cut : Bool) : State :=
  match s.nextStep g (s.stepNow g) (s.entryNow g) with
  | some n => ((s.landing g 4 n filled).completeStep g cut).landed g (s.viaOf g 4 n) (s.grv g).roles.1
  | none => s.completeStep g cut

/-- An advance that leaves the step part-way, `strokes` later: EVENT_CUT under rule 3 of R124, TIME under rule 4. A READY commit
takes the stroke, which begins the successor's pass; `event` is the channel of an advance event, which then has not acted. -/
def State.advanceStep (s : State) (g strokes : Nat) (others event : List Nat) (filled : Nat × Nat) (cut : Bool) : State :=
  let t := (s.playStrokes g (min strokes (s.restOfPass g))).overrunBy g others
  if s.fb (gBase g) GRV_TABLE_STATUS_READY && !t.handDue g && (s.nextStep g (s.stepNow g) (s.entryNow g)).isSome then
    (t.overrunBy g event).commitEnter g
  else
    let u := t.servedBy4 g filled cut
    if u.playing g then u else u.stopExchange g

/-- The strokes of the pass that a TIME step issues up to the stroke that ends it, if that stroke comes within the pass or at
its end: the first after the step's own first at or after T (R117). -/
def State.timeDue (s : State) (g : Nat) : Option Nat :=
  let v := s.grv g
  let c := max (s.gfFirst v.until_) (if v.entered && v.pos == 0 then v.cycle + 1 else v.cycle)
  if (s.entryNow g).advance = 3 ∧ c - v.cycle ≤ s.restOfPass g then some (c - v.cycle) else none

/-- A TIME step ends (R117); it is reported late where its successor's stroke is more than one stroke behind T. -/
def State.timeStep (s : State) (g : Nat) (filled : Nat × Nat) : State :=
  match (if s.playing g then s.timeDue g else none) with
  | some n =>
    let due := (s.grv g).until_
    let late := s.lateBy due (s.gfTime ((s.grv g).cycle + n))
    let t := if late = 0 then s
      else s.notifyTo (s.owner (gPage g)) { s.note pSCEN 5 (2 + 256 * g) (s.stepNow g) late (late / 2 ^ 32) with time := due }
    t.advanceStep g n [] [] filled false
  | none => s

/-- An event on ADV_EVT of an EVENT step (R116, R125). -/
def State.latch (s : State) (g : Nat) : State :=
  if s.playing g && (s.entryNow g).advance == 1 then
    if (s.grv g).latched then s.overrunBy g [(s.entryNow g).advEvt] else s.updGrv g (fun v => { v with latched := true })
  else s

/-- The end of a pass (R115, R124 rules 1, 4 and 5): a TIME step whose T is due ends; otherwise a READY commit takes the stroke, or
the step completes, or its next pass begins. A READY commit that takes the stroke at the last pass of an EVENT step raises no
WAIT_CAPPED, since the step does not complete (assumption log, entry 138). -/
def State.passEnd (s : State) (g : Nat) (filled : Nat × Nat) : State :=
  if !s.playing g then s
  else if (s.timeDue g).isSome then s.timeStep g filled
  else
    let e := s.entryNow g
    let s := s.playStrokes g (s.restOfPass g)
    let passes := satInc (s.fg (gBase g) GRV_PASS_NOW_PASS)
    let s := (s.fs (gBase g) GRV_PASS_NOW_PASS passes).updGrv g (fun v =>
      { v with pos := 0, entered := false, before := (s.gen g).nco, beforeSty := (s.gen g).sty, via := 0 })
    let byLatch := e.advance == 1 && (s.grv g).latched
    let byCount := e.advance != 3 && e.repeat_ != 0 && decide (e.repeat_ ≤ passes)
    let completes := byLatch || byCount
    let ends := completes && (s.nextStep g (s.stepNow g) e).isNone
    if s.fb (gBase g) GRV_TABLE_STATUS_READY && !ends && !s.handDue g then s.commitEnter g
    else if completes then
      let t := if byCount && !byLatch && e.advance != 0 then
          (s.count (gBase g) GRV_WAIT_CAP_COUNT_COUNT).notify { s.note (gPage g) 13 (s.stepNow g) with time := s.lastStrokeAt g } else s
      let t := if byLatch then t.servedBy4 g filled false else t.completeStep g false
      if t.playing g then t else t.stopExchange g
    else if g < 16 then s.updGen g (fun c => { c with sty := c.sty.pass (s.descOf (s.segRec e.segment)) false })
    else s

/-- The Graver finds an uncorrectable entry ahead: the sequence ends at the stroke that would have entered it, at the end of the
step it plays (R135, R144). -/
def State.tableEcc (s : State) (g step strokes : Nat) : State :=
  if !s.playing g then s
  else (((s.playStrokes g (min strokes (s.restOfPass g))).publishDone g).tableEnd g step).stopExchange g

/-! ### Writes to a Graver's window and page -/

/-- A word written to a shadow window (R112). -/
def State.shadowWrite (s : State) (k a : Nat) (w : Word) : Act :=
  let g := (a - 0x01000000) / 0x400000
  let off := (a - 0x01000000) % 0x400000
  let mask : Nat := match off % 64 with
    | 0x00 => 0x0FF7FFFF
    | 0x0C => 0xFFFF00FF
    | 0x14 | 0x18 | 0x1C | 0x20 => 0xFFFF01FF
    | _ => 0xFFFFFFFF
  if !s.hasGraver g then .error .address
  else if !s.owns k (gPage g) then .error .owner
  else if s.fb (gBase g) GRV_TABLE_STATUS_PENDING then .error .locked
  else if s.fb (gBase g) GRV_TABLE_STATUS_SYNCING then .error .busy
  else if s.steps g * 64 ≤ off then .error .limit
  else .ok (s.stw a (w.toNat &&& mask))

/-- TABLE_CFG.CAPACITY written (R110). -/
def State.capacityWrite (s : State) (g c : Nat) : Act :=
  let old := s.fg (gBase g) GRV_TABLE_CFG_CAPACITY
  let gs := (List.range 20).filter (fun h => s.hasGraver h)
  let sum := gs.foldl (fun n h => n + s.fg (gBase h) GRV_TABLE_CFG_CAPACITY) 0
  if c = old then .ok s
  else if s.variant.poolUnits < sum - old + c then .error .pool
  else
    let t := (((s.zero (shadowWin g) 0x400000).zero (commWin g) 0x400000).fs (gBase g) GRV_TABLE_CFG_CAPACITY c).fs
      (gBase g) GRV_TABLE_VERSION_VERSION 0
    .ok { t with badWords := t.badWords.filter (fun a =>
      !decide (shadowWin g ≤ a ∧ a < shadowWin g + 0x400000) && !decide (commWin g ≤ a ∧ a < commWin g + 0x400000)) }

/-! ### The commands -/

/-- A meaning of a happening on Graver `g`. -/
def State.onGraver (s : State) (g : Nat) (t : State) : Host.Outcome State Fault Refusal :=
  if s.hasGraver g then .next t else .fault .noSuchBlock

/-- JUMP_CANCEL_EVENT (R126). -/
def execJumpCancelEvent (g slot : Nat) (byMask : Bool) (s : State) : Host.Outcome State Fault Refusal :=
  s.onGraver g (s.jumpCancel g slot byMask)

/-- ADVANCE_LATCH (R116). -/
def execAdvanceLatch (g : Nat) (s : State) : Host.Outcome State Fault Refusal := s.onGraver g (s.latch g)

/-- The fill that Graver `g` makes next (R583): ACTIVE first, then COMMIT while a commit waits for it, then NEXT; slots 0 to 4 in order,
slot 5 first in COMMIT. -/
def State.nextFill (s : State) (g : Nat) : Option (CacheSet × Nat) :=
  let commit := s.fb (gBase g) GRV_TABLE_STATUS_PENDING && (s.grv g).checked
  ((nextSlot (s.fg (gBase g) GRV_JCACHE_STATUS_ACTIVE) [0, 1, 2, 3, 4]).map (fun j => (CacheSet.active, j))).or
    ((if commit then (nextSlot (s.fg (gBase g) GRV_JCACHE_STATUS_COMMIT) [5, 0, 1, 2, 3, 4]).map (fun j => (CacheSet.commit, j)) else none).or
      ((nextSlot (s.fg (gBase g) GRV_JCACHE_STATUS_NEXT) [0, 1, 2, 3, 4]).map (fun j => (CacheSet.next, j))))

/-- The field of a cache set. -/
def cacheField (set : CacheSet) : Field :=
  match set with
  | .active => GRV_JCACHE_STATUS_ACTIVE
  | .next => GRV_JCACHE_STATUS_NEXT
  | .commit => GRV_JCACHE_STATUS_COMMIT

/-- JCACHE_FILL_DONE (R128, R583): the fill that was being made completes. -/
def execJcacheFillDone (g : Nat) (set : CacheSet) (slot : Nat) (s : State) : Host.Outcome State Fault Refusal :=
  s.onGraver g (if s.nextFill g = some (set, slot) then s.fs (gBase g) (cacheField set) (putBit (s.fg (gBase g) (cacheField set)) slot true) else s)

/-- COMMIT_GO (R137). -/
def execCommitGo (o : Org) (g : Nat) (s : State) : Host.Outcome State Fault Refusal :=
  .next (s.hostReg o (gBase g + GRV_COMMIT_CMD) 1#32 (fun t => t.commitCmd g false true))

/-- COMMIT_CANCEL (R142). -/
def execCommitCancel (o : Org) (g : Nat) (s : State) : Host.Outcome State Fault Refusal :=
  .next (s.hostReg o (gBase g + GRV_COMMIT_CMD) 2#32 (fun t => t.commitCmd g true false))

/-- COMMIT_CHECK_DONE (R139). -/
def execCommitCheckDone (g : Nat) (s : State) : Host.Outcome State Fault Refusal := s.onGraver g (s.commitCheck g)

/-- COMMIT_READY (R139). -/
def execCommitReady (g : Nat) (s : State) : Host.Outcome State Fault Refusal := s.onGraver g (s.commitReady g)

/-- SHADOW_RESYNC_DONE (R141): the shadow holds the committed table, its uncorrectable lines included. -/
def execShadowResyncDone (g : Nat) (s : State) : Host.Outcome State Fault Refusal :=
  s.onGraver g (if s.fb (gBase g) GRV_TABLE_STATUS_SYNCING then
    let t := (s.copyMem (commWin g) 0x400000 (shadowWin g)).fs (gBase g) GRV_TABLE_STATUS_SYNCING 0
    { t with badWords := t.badWords.filter (fun a => !decide (shadowWin g ≤ a ∧ a < shadowWin g + 0x400000))
        ++ (t.badWords.filter (fun a => decide (commWin g ≤ a ∧ a < commWin g + 0x400000))).map (fun a => a - commWin g + shadowWin g) }
    else s)

/-- SHADOW_WINDOW_WRITE (R112). -/
def execShadowWindowWrite (o : Org) (addr : Nat) (w : Word) (s : State) : Host.Outcome State Fault Refusal :=
  .next (s.hostMem o addr (fun t =>
    if 0x01000000 ≤ addr ∧ addr < 0x06000000 ∧ addr % 4 = 0 then t.shadowWrite o.sess addr w else .error .address))

/-- TABLE_CAPACITY_WRITE (R110). -/
def execTableCapacityWrite (o : Org) (g capacity : Nat) (s : State) : Host.Outcome State Fault Refusal :=
  .next (s.hostReg o (gBase g + GRV_TABLE_CFG) (BitVec.ofNat 32 capacity) (fun t => t.capacityWrite g capacity))

/-- The span of strokes that a fault fills (R66): those whose words are missing or erroneous, and for an I/Q source the K before
and the K after them that belong to the scenario, of which there are `before` and `after`. -/
def State.fillSpan (s : State) (g first missing before after : Nat) : Nat × Nat :=
  let r := s.segRec (s.entryNow g).segment
  if g < 16 ∧ r.stored ∧ r.format = 2 then
    (first - min (s.ratio g) before, missing + min (s.ratio g) before + min (s.ratio g) after)
  else (first, missing)

/-- FILL (R66, R67, R181): an episode of one cause, whose missing words are those of `missing` strokes from GF cycle `first` on. Strokes
that follow at once on an episode of the same cause continue it. -/
def execFill (g : Nat) (cause : FillCause) (first missing before after : Nat) (s : State) : Host.Outcome State Fault Refusal :=
  let n := s.fillSpan g first missing before after
  let c := match cause with | .ecc => 1 | .underrun => 2
  let goesOn := (s.grv g).fills.any (fun f => f.cause == c && f.cycle + f.strokes == n.1)
  let t := (s.countFill g n.2).updGrv g (fun v => { v with fills := { cycle := n.1, strokes := n.2, cause := c } :: v.fills })
  let t := match cause with
    | .ecc => t
    | .underrun => if g < 16 then t.countBy (gBase g) GEN_UNDERRUN_COUNT_COUNT missing
        else t.countBy (gBase g) PAT_UNDERRUN_COUNT_COUNT missing
  s.onGraver g (if goesOn then t else t.notify { s.note (gPage g) 0 c n.2 with time := s.gfTime n.1 / 2 ^ 40 })

end Sys2Proof.Machine
end

