-- ==== Sys2Proof/Machine/Line.lean ====
section
/-! DEFINITION. Sys2Proof/Machine/Line.lean: what the strokes that a Graver has issued carry (R40 to R101): the stored words and
their fetch, the interpolator, the mixer, the Stylus, the amplitude scale, the fault fill, the mute and the delays, and the marker
bits (R133). -/
namespace Sys2Proof.Machine
open Sys2Proof

/-! ### The strokes of a Graver (R23, R31) -/

/-- The strokes that the pass in progress will issue if nothing cuts it. -/
def State.passLeft (s : State) (g : Nat) : Nat :=
  if s.playing g then min (s.restOfPass g) ((s.timeDue g).getD (s.restOfPass g)) else 0

/-- The passes of Graver `g`, newest first, with the one in progress as planned. -/
def State.lineNow (s : State) (g : Nat) : List Run :=
  let v := s.grv g
  if s.passLeft g = 0 then v.line else pushRun v.pos (s.runOf g (s.passLeft g)) v.line

/-- The pass that holds the stroke of GF cycle `c`, with the passes before it, newest first, and those after it, oldest first. -/
def runSplit (c : Nat) : List Run → List Run → Option (Run × List Run × List Run)
  | [], _ => none
  | r :: t, later =>
    if r.cycle ≤ c then (if c < r.cycle + r.strokes then some (r, t, later) else none) else runSplit c t (r :: later)

/-- The pass of Graver `g` that holds the stroke issued in GF cycle `c`, if one was. -/
def State.runAt (s : State) (g c : Nat) : Option Run :=
  if s.gfNow ≤ c then none else (runSplit c (s.lineNow g) []).map (·.1)

/-! ### Stored words (R42, R81, R87, R89, R383) -/

/-- Bytes of stored data that one stroke of a pass takes: sixteenths for I/Q (R75, R179). -/
def Run.strokeBytes (r : Run) (g k : Nat) : Nat :=
  if 16 ≤ g then 1 else match r.seg.format with | 0 => 16 | 1 => 12 | _ => 32 / k

/-- The strokes by which a reader runs ahead of issue at most (R89, R382, R406). -/
def Run.lead (r : Run) (spad : Bool) (g k : Nat) : Nat :=
  (if spad then 8192 else if 16 ≤ g then 12288 else 98304) / max 1 (r.strokeBytes g k)

/-- The byte that stood at a device address at the start of GF cycle `c`: the former value of the first rewrite that a later cycle found, if
one was made (R89). -/
def State.byteAsOf (s : State) (a c : Nat) : Byte :=
  match (s.plates.rewrites.filter (fun e => e.2.1 == a && decide (c < e.1))).getLast? with
  | some e => e.2.2
  | none => s.mb a

/-- The GF cycle in which byte `b` of a pass, played in cycle `c`, was fetched: the manual leaves the instant open within the
reader's lead, or since the fill of the slot that serves it began (R89; assumption log, entry 139). -/
def State.fetchCycle (s : State) (g c b : Nat) (r : Run) : Nat :=
  let k := s.ratio g
  let spad := r.ext.any (fun d => decide (d < dramBase))
  let from_ := if r.via = 1 ∧ b < 32768 ∧ !spad then r.role else max r.since (c - r.lead spad g k)
  from_ + Config.freeValue c (1000 + b) % (c + 1 - from_)

/-- Byte `b` of the stored words of a pass, played in GF cycle `c`: from the plate, or from the scratchpad shadow where a late
landing plays from it (R81, R87). -/
def State.storedByte (s : State) (g c b : Nat) (r : Run) : Nat :=
  if r.via = 2 ∧ b < 32768 then
    (s.byteAsOf (r.shExt.getD ((r.seg.shadowOffset + b) / 65536) 0 + (r.seg.shadowOffset + b) % 65536) r.role).toNat
  else (s.byteAsOf (r.ext.getD ((r.seg.offset + b) / 65536) 0 + (r.seg.offset + b) % 65536) (s.fetchCycle g c b r)).toNat

/-- The little-endian number of the `n` bytes of a pass from byte `b` (R42). -/
def State.storedNum (s : State) (g c b : Nat) (r : Run) : Nat → Nat
  | 0 => 0
  | n + 1 => s.storedByte g c b r + 256 * State.storedNum s g c (b + 1) r n

/-! ### The interpolator (R44 to R46) -/

/-- The pass plays an I/Q segment. -/
def Run.iq (r : Run) : Bool := r.seg.stored && r.seg.format == 2

/-- The complex samples that the strokes of a pass take in (R43). -/
def Run.inputs (r : Run) (k : Nat) : Nat := cdiv (8 * r.strokes) k

/-- Complex sample `u` of a pass, played in GF cycle `c`, as I or as Q. -/
def State.input (s : State) (g c u : Nat) (q : Bool) (r : Run) : Int :=
  let w := iqSample (s.storedNum g c (4 * u) r 4)
  if q then w.2 else w.1

/-- The input `k` samples before a pass that begins in GF cycle `c0`, in the passes before it: the history is continuous over I/Q
passes that follow at once, and zero elsewhere (R46). -/
def State.inputBack (s : State) (g : Nat) (q : Bool) (c0 : Nat) (clean : Bool) (k : Nat) : List Run → Int
  | [] => 0
  | p :: t =>
    if clean || !p.iq || p.cycle + p.strokes != c0 then 0
    else if k ≤ p.inputs (s.ratio g) then s.input g (p.cycle + p.strokes - 1) (p.inputs (s.ratio g) - k) q p
    else State.inputBack s g q p.cycle p.clean (k - p.inputs (s.ratio g)) t

/-- The input `k` samples after the last of a pass that ends before GF cycle `c1`, in the passes after it. -/
def State.inputOn (s : State) (g : Nat) (q : Bool) (c1 : Nat) (k : Nat) : List Run → Int
  | [] => 0
  | p :: t =>
    if p.clean || !p.iq || p.cycle != c1 then 0
    else if k < p.inputs (s.ratio g) then s.input g p.cycle k q p
    else State.inputOn s g q (p.cycle + p.strokes) (k - p.inputs (s.ratio g)) t

/-- The interpolator's output for sample `m` of a pass, as I or as Q: the cascade of the ratio's stages over the inputs around it. -/
def State.interpolated (s : State) (g c m : Nat) (q : Bool) (r : Run) (older later : List Run) : Int :=
  let k := s.ratio g
  let u := m / k
  let x (d : Int) : Int :=
    if (u : Int) + d < 0 then s.inputBack g q r.cycle r.clean (-((u : Int) + d)).toNat older
    else if ((u : Int) + d).toNat < r.inputs k then s.input g c ((u : Int) + d).toNat q r
    else s.inputOn g q (r.cycle + r.strokes) (((u : Int) + d).toNat - r.inputs k) later
  cascade x (stagesFor (s.fg (base (pGEN g)) GEN_SRC_CTRL_RATIO)) (m % k : Nat)

/-! ### The stages from the mixer to the amplitude scale (R47 to R61, R93 to R100) -/

/-- The NCO at stroke `i` of a pass, with the frequency word of that stroke. -/
def Run.ncoAt (r : Run) (i : Nat) : Nco := { r.nco.play i with freq := (r.nco.play i).nextFreq }

/-- The stored path at sample `j` of the stroke of GF cycle `c` of a pass (R40, R42, R49, R61). -/
def State.storedPath (s : State) (g c j : Nat) (r : Run) (older later : List Run) : Int :=
  let i := c - r.cycle
  if !r.seg.stored then 0
  else match r.seg.format with
    | 0 => rawSample (s.storedNum g c (16 * i) r 16) j
    | 1 => packedSample (s.storedNum g c (12 * i) r 12) j
    | _ =>
      let b := base (pGEN g)
      let m := r.ncoAt i
      let comp := s.fb b GEN_CHAIN_CTRL_DAC_MODE && s.fb b GEN_CHAIN_CTRL_MIXCOMP
      let phi := ({ m with acc := (m.acc + j * m.freq) % 2 ^ 48 }).mixPhase comp (s.fg b GEN_DELAY_FINE)
      let y := s.interpolated g c (8 * i + j) true r older later
      rotated (s.interpolated g c (8 * i + j) false r older later) (if s.fb b GEN_CHAIN_CTRL_MIX_INV then -y else y) (phase20 phi)

/-- The stroke of GF cycle `c` renders 0 because its descriptor had not loaded (R100). -/
def State.lateAt (s : State) (g c : Nat) : Bool :=
  (s.gen g).lates.any (fun e => decide (e.1 ≤ c ∧ c < e.1 + e.2)) || (match (s.gen g).late with | some (_, _, c0) => decide (c0 ≤ c) | none => false)

/-- The Stylus output at sample `j` of the stroke of GF cycle `c` of a pass, and whether it was limited (R98, R100). -/
def State.stylusAt (s : State) (g c j : Nat) (r : Run) : Int × Bool :=
  if !r.seg.sketch || s.lateAt g c then (0, false)
  else
    let m := 8 * (c - r.cycle) + j
    r.desc.render (r.sty.play r.desc 0 m) m (r.count + m)

/-- A sample of a stroke at the fill stage's input: the code, and whether the amplitude scale limited it (R59). -/
def State.scaled (s : State) (g c j : Nat) (r : Run) (older later : List Run) : Int × Bool :=
  scaleSample (clampI (-131072) 131071 (s.storedPath g c j r older later + (s.stylusAt g c j r).1)) (r.ncoAt (c - r.cycle)).ampl

/-! ### Fill, mute and delays (R60, R64 to R69) -/

/-- What is set at the fill stage for the stroke of GF cycle `c`, which passes it 62 cycles later (R40, R65, R72). -/
def State.setAt (s : State) (n c : Nat) : ChainSet :=
  ((s.gen n).ctrl.find? (fun e => decide (e.cycle ≤ c + 62))).getD { cycle := 0, muted := true, idle := 0, fill := 2, active := false, model := 3 }

/-- The stroke of GF cycle `c` is muted (R69): the output stage reconnects at some instant within 2 µs of the last cause's end
(assumption log, entry 140). -/
def State.mutedAt (s : State) (n c : Nat) : Bool :=
  let past := (s.gen n).ctrl.filter (fun e => decide (e.cycle ≤ c + 62))
  match (past.takeWhile (fun e => !e.muted)).getLast? with
  | none => true
  | some e => decide (c + 62 < e.cycle + Config.freeValue e.cycle 132 % (6000 * s.genRate / 24000000000000 + 1))

/-- The episode of filled strokes that holds GF cycle `c`, by its first stroke: strokes of one cause that follow at once (R67). -/
def fillStart (fills : List FillRun) : Nat → Nat → Option Nat
  | 0, _ => none
  | n + 1, c =>
    match fills.find? (fun f => decide (f.cycle ≤ c ∧ c < f.cycle + f.strokes)) with
    | some f =>
      if 0 < f.cycle ∧ fills.any (fun e => e.cause == f.cause && decide (e.cycle ≤ f.cycle - 1 ∧ f.cycle - 1 < e.cycle + e.strokes)) then
        (fillStart fills n (f.cycle - 1)).or (some f.cycle)
      else some f.cycle
    | none => none

/-- A sample at the output of the fill stage but for the mute (R64, R65): `fuel` bounds the episodes that a HOLD looks back over. -/
def State.filled (s : State) (n : Nat) : Nat → Nat → Nat → Int
  | 0, c, _ => sext 16 (s.setAt n c).idle
  | fuel + 1, c, j =>
    let e := s.setAt n c
    if s.gfNow ≤ c then sext 16 e.idle
    else match runSplit c (s.lineNow n) [] with
      | none => sext 16 e.idle
      | some (r, older, later) =>
        match fillStart (s.grv n).fills (s.grv n).fills.length c with
        | none => (s.scaled n c j r older later).1
        | some c0 =>
          let played := decide (0 < c0) && (s.lineNow n).any (fun q => decide (q.cycle ≤ c0 - 1 ∧ c0 - 1 < q.cycle + q.strokes))
            && decide ((s.gen n).sBase ≤ c0 - 1)
          sext 16 (fillCode e.fill e.idle (if played then some (BitVec.ofInt 16 (State.filled s n fuel (c0 - 1) 7)).toNat else none))

/-- A Graver has issued the stroke of GF cycle `c` of channel `n`, or will as planned. -/
def State.issued (s : State) (n c : Nat) : Option Run := (runSplit c (s.lineNow n) []).map (·.1)

/-- The pattern of timing burst `b` replaces the stroke of GF cycle `c`, the mute aside (R364): up to the end of its QUIET step, or while
no scenario plays. -/
def State.burstCovers (s : State) (n c : Nat) (b : Burst) : Bool :=
  decide (b.from_ ≤ c ∧ c < b.from_ + 4096) &&
    (match b.gap, s.issued n c with
      | .quiet, some r => decide (c - b.from_ ≤ r.nco.strokes + (c - r.cycle))
      | .quiet, none => false
      | _, r => r.isNone)

/-- Sample `j` of a stroke of the calibration pattern, `i` strokes into the burst: 32 samples low, 32 high (R364). -/
def burstSample (i j : Nat) : Int := if (8 * i + j) % 64 < 32 then -8192 else 8192

/-- A sample at the output of the fault fill and mute stage of channel `n`: sample `j` of the stroke of GF cycle `c`. -/
def State.fillStage (s : State) (n c j : Nat) : Int :=
  match (s.gen n).bursts.find? (fun b => s.burstCovers n c b && (b.term || !s.mutedAt n c)) with
  | some b => burstSample (c - b.from_) j
  | none => if s.mutedAt n c then 0 else s.filled n ((s.grv n).fills.length + 1) c j

/-- The fill stage's output as a stream of samples, 8 a GF cycle. -/
def State.stageAt (s : State) (n : Nat) (a : Int) : Int := if a < 0 then 0 else s.fillStage n (a.toNat / 8) (a.toNat % 8)

/-- The output of channel `n` after the coarse and fine delays (R60): sample `a` is converted 112 GF cycles after its place among
the samples issued (R41). -/
def State.streamAt (s : State) (n : Nat) (a : Int) : Int :=
  let b := base (pGEN n)
  fineOut (s.fg b GEN_DELAY_FINE) (fun i => s.stageAt n (i - s.fg b GEN_DELAY_COARSE)) a

/-! ### Marker bits (R133, R134, R187) -/

/-- Whether sample `m` counts as within a pulse of a marker. -/
def inPulse (start width m : Nat) : Bool := decide (start ≤ m ∧ m < start + width)

/-- Marker `k` of sample `j` of the stroke that Graver `n` issued in GF cycle `c` (R133). -/
def State.markerBit (s : State) (n k c j : Nat) : Bool :=
  match s.runAt n c with
  | none => false
  | some r =>
    let i := c - r.cycle
    match r.marks.getD k (0, 0, 0) with
    | (1, _, _) => true
    | (2, a, w) => inPulse a w (8 * (r.nco.strokes + i) + j)
    | (3, a, w) => inPulse a w (8 * i + j)
    | _ => false

/-- Marker `k` of channel `n` as a stream of samples, after the coarse delay (R60). -/
def State.markerAt (s : State) (n k : Nat) (a : Int) : Bool :=
  let b := a - s.fg (base (pGEN n)) GEN_DELAY_COARSE
  if b < 0 then false else s.markerBit n k (b.toNat / 8) (b.toNat % 8)

/-! ### What the page shows (R50, R73) -/

/-- The stroke of a scenario that most recently passed a stage entered `stage` GF cycles after its issue (R73). -/
def State.ncoShown (s : State) (n stage : Nat) : Nco :=
  match (s.lineNow n).find? (fun r => decide (r.cycle + stage < s.gfNow)) with
  | some r => r.ncoAt (min (s.gfNow - 1 - stage) (r.cycle + r.strokes - 1) - r.cycle)
  | none => Nco.fresh

/-- A scenario's sample count S advances on channel `n`: a scenario holds it, or the one that held it last is suspended (R50). -/
def State.counting (s : State) (n : Nat) : Bool :=
  decide ((s.grv n).scen < 64) || s.scens.any (fun x => x.saved.any (fun v => v.g == n && v.begun && v.sBase == (s.gen n).sBase))

/-- SAMPLE_COUNT of channel `n` (R50). -/
def State.sampleCount (s : State) (n : Nat) : Nat :=
  if s.counting n then 8 * (s.gfNow - 1 - (s.gen n).sBase) % 2 ^ 64 else (s.gen n).count

/-- FTW_NOW, PHASE_NOW, AMPL_NOW and SAMPLE_COUNT (R73). -/
def State.genLive (s : State) (n off : Nat) : Option Word :=
  if off = 0x070 then some (BitVec.ofNat 32 (s.ncoShown n 48).freq)
  else if off = 0x074 then some (BitVec.ofNat 32 ((s.ncoShown n 48).freq / 2 ^ 32))
  else if off = 0x078 then some (BitVec.ofNat 32 (s.ncoShown n 48).phase)
  else if off = 0x07C then some (BitVec.ofNat 32 (s.ncoShown n 58).ampl)
  else if off = 0x080 then some (BitVec.ofNat 32 (s.sampleCount n))
  else if off = 0x084 then some (BitVec.ofNat 32 (s.sampleCount n / 2 ^ 32))
  else none

/-! ### The commands -/

/-- The stroke of GF cycle `c` of channel `n` holds a sample that satisfies `p` of its pass and its neighbours. -/
def State.strokeHas (s : State) (n c : Nat) (p : Nat → Run → List Run → List Run → Bool) : Bool :=
  if s.gfNow ≤ c then false
  else match runSplit c (s.lineNow n) [] with
    | some (r, older, later) => (List.range 8).any (fun j => p j r older later)
    | none => false

/-- STROKE_CLIP (R59): a stroke of which the amplitude scale has limited a sample is counted, and the notice is raised for the
first since the owner's CLIP bit was cleared. -/
def execStrokeClip (n cycle : Nat) (s : State) : Host.Outcome State Fault Refusal :=
  if s.variant.gens ≤ n then .fault .noSuchBlock
  else if !s.strokeHas n cycle (fun j r older later => (s.scaled n cycle j r older later).2) then .next s
  else
    let t := s.count (base (pGEN n)) GEN_CLIP_COUNT_COUNT
    .next (if bit (s.fg (sbase (s.owner (pGEN n)) (pGEN n)) HDR_PAGE_NOTICE_RAW_RAW) 1 then t
      else t.notify { s.note (pGEN n) 1 with time := s.gfTime cycle / 2 ^ 40 })

/-- STYLUS_LIMIT (R98): a stroke of which the Stylus output has been limited is counted. -/
def execStylusLimit (n cycle : Nat) (s : State) : Host.Outcome State Fault Refusal :=
  if s.variant.gens ≤ n then .fault .noSuchBlock
  else if !s.strokeHas n cycle (fun j r _ _ => (s.stylusAt n cycle j r).2) then .next s
  else .next ((s.count (base (pGEN n)) GEN_STYLUS_LIMIT_COUNT_COUNT).fs (base (pGEN n)) GEN_STYLUS_STATUS_LIMIT 1)

end Sys2Proof.Machine
end

