-- ==== Sys2Proof/Machine/Pattern.lean ====
section
/-! DEFINITION. Sys2Proof/Machine/Pattern.lean: pattern lanes, markers and the trigger ports
(spec/06_pattern_lanes_markers.md). -/
namespace Sys2Proof.Machine
open Sys2Proof

/-! ### Drivers off by a fault (R194 to R197) -/

/-- The 1 ms of R195 in ticks. -/
abbrev holdTicks : Nat := 3000000

/-- The record of a driver that is off. -/
def State.offOf (s : State) (p : DriverPort) : Option DriverOff := s.lanes.off.find? (fun d => d.who == p)

/-- The driver's DISABLED bit as the register shows it. -/
def State.showOff (s : State) (p : DriverPort) (b : Bool) : State :=
  match p with
  | .lane g i => s.fs (base (pPAT g)) PAT_LANE_FAULT_DISABLED (putBit (s.fg (base (pPAT g)) PAT_LANE_FAULT_DISABLED) i b)
  | .trigOut k => s.fs (base (pPAT 0)) TRG_TRIG_STATUS_OUT_DISABLED
      (putBit (s.fg (base (pPAT 0)) TRG_TRIG_STATUS_OUT_DISABLED) k b)
  | _ => s

/-- The records of the drivers that are off, replaced. -/
def State.setOff (s : State) (l : List DriverOff) : State := { s with lanes := { s.lanes with off := l } }

/-- A driver disabled now, for overcurrent or for contention. -/
def State.driverOff (s : State) (p : DriverPort) (ovr : Bool) : State :=
  let old := (s.offOf p).getD { who := p, ovr := false, cont := false, at_ := s.now }
  let d : DriverOff := { who := p, ovr := old.ovr || ovr, cont := old.cont || !ovr, at_ := s.now }
  (s.setOff (s.lanes.off.filter (fun e => e.who != p) ++ [d])).showOff p true

/-- A driver re-enabled once no fault keeps it off and 1 ms has passed since the disable (R195). -/
def State.tryEnable (s : State) (p : DriverPort) : State :=
  match s.offOf p with
  | none => s
  | some d =>
    if d.ovr || d.cont || decide (s.now < d.at_ + holdTicks) then s
    else (s.setOff (s.lanes.off.filter (fun e => e.who != p))).showOff p false

/-- The host lifts one cause of a driver's disable. -/
def State.liftOff (s : State) (p : DriverPort) (ovr : Bool) : State :=
  (s.setOff (s.lanes.off.map (fun d => if d.who = p then
    (if ovr then { d with ovr := false } else { d with cont := false }) else d))).tryEnable p

/-- The bit of the port's fault in its register, set or cleared. -/
def State.faultBit (s : State) (p : DriverPort) (ovr b : Bool) : State :=
  let put (pg : Nat) (f : Field) (i : Nat) : State := s.fs (base pg) f (putBit (s.fg (base pg) f) i b)
  match p with
  | .lane g i => if ovr then put (pPAT g) PAT_LANE_FAULT_OVERCURRENT i else put (pPAT g) PAT_LANE_FAULT_CONTENTION i
  | .trigIn k => if ovr then put (pPAT 0) TRG_TRIG_STATUS_IN_OVERCURRENT k else s
  | .trigOut k => if ovr then put (pPAT 0) TRG_TRIG_STATUS_OUT_OVERCURRENT k else put (pPAT 0) TRG_TRIG_STATUS_OUT_CONTENTION k
  | .output _ => s

/-- The port's contention bit. -/
def State.contBit (s : State) (p : DriverPort) : Bool :=
  match p with
  | .lane g i => bit (s.fg (base (pPAT g)) PAT_LANE_FAULT_CONTENTION) i
  | .trigOut k => bit (s.fg (base (pPAT 0)) TRG_TRIG_STATUS_OUT_CONTENTION) k
  | _ => false

/-- The page, the fault code, the detail, the port kind and the port number of a fault (R488, R500). -/
def portFaultAt (p : DriverPort) (ovr : Bool) : Nat × Nat × Nat × Nat × Nat :=
  match p with
  | .lane g i => (pPAT g, if ovr then 0x0301 else 0x0302, i, 0, i)
  | .trigIn k => (pPAT 0, 0x0303, k, 1, k)
  | .trigOut k => (pPAT 0, if ovr then 0x0303 else 0x0304, 4 + k, 2, k)
  | .output n => (pGEN n, 0, 0, 0, 0)

/-- The fault counted on its port's counter. -/
def State.countFault (s : State) (p : DriverPort) (ovr : Bool) : State :=
  match p with
  | .lane g _ => if ovr then s.count (base (pPAT g)) PAT_OVERCURRENT_COUNT_COUNT else s.count (base (pPAT g)) PAT_CONTENTION_COUNT_COUNT
  | .output _ => s
  | _ => if ovr then s.count (base (pPAT 0)) TRG_TRIG_CNT_OVERCURRENT else s.count (base (pPAT 0)) TRG_TRIG_CNT_CONTENTION

/-- A fault of a port recorded (R194, R196): its bit, its count, the page's first fault and the notice. -/
def State.portFault (s : State) (p : DriverPort) (ovr : Bool) : State :=
  let f := portFaultAt p ovr
  let t := ((s.faultBit p ovr true).countFault p ovr).pageFault f.1 f.2.1 f.2.2.1
  let code := (if ovr then 1 else 2) + (if f.2.2.2.1 = 0 then 0 else 15)
  t.notify (s.note f.1 code (f.2.2.2.1 + 256 * f.2.2.2.2))

/-- The port exists on the variant. -/
def State.hasPort (s : State) (p : DriverPort) : Bool :=
  match p with
  | .lane g i => decide (g < s.variant.pats ∧ i < 8)
  | .trigIn k => decide (k < 4)
  | .trigOut k => decide (k < 4)
  | .output n => decide (n < s.variant.gens)

/-- Overcurrent on a port (R194). -/
def State.overcurrent (s : State) (p : DriverPort) : State := (s.portFault p true).driverOff p true

/-- The contention policy of a port: DISABLE (R197). -/
def State.disables (s : State) (p : DriverPort) : Bool :=
  match p with
  | .lane g _ => s.fb (base (pPAT g)) PAT_GROUP_CFG_POLICY
  | _ => s.fb (base (pPAT 0)) TRG_TRIG_POLICY_POLICY

/-- Contention declared on a port (R196, R197); none is declared anew while the bit stands (assumption log, entry 20). -/
def State.contention (s : State) (p : DriverPort) : State :=
  if s.contBit p then s
  else
    let t := s.portFault p false
    if s.disables p then t.driverOff p false else t

/-- The port that bit `i` of a fault mask names: a lane of group `g`, or a trigger input (0 to 3) or output (4 to 7). -/
def maskPort (trig : Bool) (g i : Nat) : DriverPort :=
  if trig then (if i < 4 then .trigIn i else .trigOut (i - 4)) else .lane g i

/-- Fault bits written with 1 (R195, R197): each named bit clears and its driver is re-enabled; a fault detected in the
same cycle leaves its bit set and the driver disabled (R16, R198). -/
def State.faultClear (s : State) (trig : Bool) (g mask again : Nat) (ovr : Bool) : State :=
  (List.range 8).foldl (fun t i =>
    let p := maskPort trig g i
    let t := if bit mask i then (t.faultBit p ovr false).liftOff p ovr else t
    if bit again i then (if ovr then t.overcurrent p else t.contention p) else t) s

/-! ### Lane drivers (R182 to R187, R584) -/

/-- Every lane and trigger driver is at high impedance: in Rest and until the end of a wake (R534, R539), and in SHUTDOWN
(R542). -/
def State.driversOff (s : State) : Bool :=
  decide (2 ≤ s.fg (base pPWR) PWR_REST_STATUS_STATE) || s.fg (base pTHERM) THERM_STATE_STATE == 3

/-- The lane drives its pin (R185). -/
def State.laneDriven (s : State) (g i : Nat) : Bool :=
  s.fg (base (pPAT g)) PAT_GROUP_CFG_FORMAT != 0 && !s.lanes.settling.contains g
    && bit (s.fg (base (pPAT g)) PAT_LANE_ENABLE_ENABLE) i && (s.offOf (.lane g i)).isNone
    && s.fb (base (pPAT g)) HDR_PAGE_CTRL_EN && !s.driversOff

/-- GROUP_CFG written: a change of FORMAT settles the group's drivers, and loads every SLEW where the new format is not
OFF (R184, R185). -/
def State.groupCfgWrite (s : State) (k g : Nat) (w : Word) : State :=
  let new := getF w PAT_GROUP_CFG_FORMAT
  let t := s.plain k (base (pPAT g) + PAT_GROUP_CFG) w
  if new = s.fg (base (pPAT g)) PAT_GROUP_CFG_FORMAT then t
  else
    let t := { t with lanes := { t.lanes with settling := g :: t.lanes.settling.filter (· != g) } }
    if new = 0 then t
    else (List.range 8).foldl (fun u i => u.fs (base (pPAT g)) PAT_LANE_CFG_SLEW (if new ≤ 3 then 0 else 3) i) t

/-- LANEi_CFG written: a MARKER source names a channel that is present (R5, R186). -/
def State.laneCfgWrite (s : State) (k g i : Nat) (w : Word) : Act :=
  if getF w PAT_LANE_CFG_SRC = 1 ∧ s.variant.gens ≤ getF w PAT_LANE_CFG_MK_CHAN then .error .address
  else .ok (s.plain k (base (pPAT g) + PAT_LANE_CFG i) w)

/-- The byte that group `g` plays in the stroke issued in GF cycle `c` (R179, R181): byte k from OFFSET is stroke k; a filled stroke repeats
the byte of the stroke before its episode, or carries IDLE_LEVEL, as an idle one does. `fuel` bounds the episodes that a HOLD looks back
over. -/
def State.patternByte (s : State) (g : Nat) : Nat → Nat → Nat
  | 0, _ => s.fg (base (pPAT g)) PAT_IDLE_LEVEL_LEVEL
  | fuel + 1, c =>
    let idle := s.fg (base (pPAT g)) PAT_IDLE_LEVEL_LEVEL
    match s.issued (16 + g) c with
    | none => idle
    | some r =>
      match fillStart (s.grv (16 + g)).fills (s.grv (16 + g)).fills.length c with
      | none => s.storedByte (16 + g) c (c - r.cycle) r
      | some c0 =>
        if s.fg (base (pPAT g)) PAT_GROUP_CFG_FILL = 0 ∧ 0 < c0 ∧ (s.issued (16 + g) (c0 - 1)).isSome then State.patternByte s g fuel (c0 - 1)
        else idle

/-- The sample that slot 0 of GF cycle `q` of the serialiser of lane `i` of group `g` shows, 8 to a cycle of issue: 112 cycles and the
lane's own delays before it (R180, R186, R187). -/
def State.laneSample (s : State) (g i q : Nat) : Int :=
  let b := base (pPAT g)
  8 * ((q : Int) - 112) - s.fg b PAT_LANE_DELAY_COARSE i - (if s.fg b PAT_LANE_DELAY_FINE i = 0 then 0 else 1)

/-- The level of lane `i` of group `g` after its source, at slot 0 of GF cycle `q` of its serialiser (R181, R186, R187, R330, R584). -/
def State.laneSrc (s : State) (g i q : Nat) : Bool :=
  let b := base (pPAT g)
  let a := s.laneSample g i q
  match s.fg b PAT_LANE_CFG_SRC i with
  | 0 => bit (if s.fb (base pCLK) CLK_PAGE_STATUS_GF_VALID && decide (0 ≤ a) then s.patternByte g ((s.grv (16 + g)).fills.length + 1) (a.toNat / 8)
      else s.fg b PAT_IDLE_LEVEL_LEVEL) i
  | 1 => s.fb (base pCLK) CLK_PAGE_STATUS_GF_VALID && s.markerAt (s.fg b PAT_LANE_CFG_MK_CHAN i) (s.fg b PAT_LANE_CFG_MK_BIT i) a
  | 2 => false
  | _ => true

/-- The level that lane `i` of group `g` drives now: slot 0 of the GF cycle begun last (assumption log, entry 21). -/
def State.laneLevel (s : State) (g i : Nat) : Bool :=
  s.laneSrc g i (s.gfNow - 1) != (s.fg (base (pPAT g)) PAT_LANE_CFG_INVERT i == 1)

/-- What PIN_LEVEL shows (R199, R564): an undriven pin with nothing connected reads 0. -/
def State.pinLevel (s : State) (g : Nat) : Word :=
  BitVec.ofNat 32 ((List.range 8).foldl (fun n i => n + 2 ^ i * b2n (s.laneDriven g i && s.laneLevel g i)) 0)

/-! ### Trigger ports (R190 to R192) -/

/-- Trigger output `k`. -/
def State.trigOut (s : State) (k : Nat) : TrigOut := s.lanes.outs.getD k ⟨false, false, 0⟩

/-- Trigger output `k` changed. -/
def State.updOut (s : State) (k : Nat) (f : TrigOut → TrigOut) : State :=
  { s with lanes := { s.lanes with outs := s.lanes.outs.modify k f } }

/-- MODE of trigger output `k`. -/
def State.outMode (s : State) (k : Nat) : Nat := s.fg (base (pPAT 0)) TRG_TRIG_OUT_CFG_MODE k

/-- An event arrives at trigger output `k`: whether the output acts on it, and the state after. -/
def State.trigArrive (s : State) (k : Nat) : Bool × State :=
  match s.outMode k with
  | 1 => if (s.trigOut k).busy then (false, s) else (true, s.updOut k (fun o => { o with busy := true, due := o.due + 1 }))
  | 2 => (true, s.updOut k (fun o => { o with due := o.due + 1 }))
  | _ => (true, s)

/-- The level read back on trigger output `k` (R192), which sees the fabric as it stood 3 ticks before, and a channel without a clock at once
(R296, R304): 0 at high impedance (R542); under LEVEL the output is inactive before INVERT while its
channel's group is disabled (R304). -/
def State.outLevel (s : State) (k : Nat) : Bool :=
  let inv := s.fg (base (pPAT 0)) TRG_TRIG_OUT_CFG_INVERT k == 1
  if (s.offOf (.trigOut k)).isSome || s.driversOff then false
  else match s.outMode k with
    | 0 => false
    | 3 =>
      let c := s.fg (base (pPAT 0)) TRG_TRIG_OUT_SUB_CHANNEL k
      (c != 0 && s.grpAt (c / 16) (s.now - 3) && (if s.unclocked c then s.levelAt c s.now else s.pulseAt c (s.now - 3))) != inv
    | _ => (s.trigOut k).level != inv

/-- What TRIG_STATUS shows: the level of each output is read back. -/
def State.trigStatusLive (s : State) : Word :=
  setF (s.rd (base (pPAT 0) + TRG_TRIG_STATUS)) TRG_TRIG_STATUS_OUT_LEVEL
    ((List.range 4).foldl (fun n k => n + 2 ^ k * b2n (s.outLevel k)) 0)

/-- TRIG_OUT_CFGk written: WIDTH 0 under PULSE is refused (R192). -/
def State.trigOutCfg (s : State) (k i : Nat) (w : Word) : Act :=
  if getF w TRG_TRIG_OUT_CFG_MODE = 1 ∧ getF w TRG_TRIG_OUT_CFG_WIDTH = 0 then .error .format
  else if getF w TRG_TRIG_OUT_CFG_MODE ≠ 3 ∧ s.fg (base (pPAT 0)) TRG_TRIG_OUT_SUB_CHANNEL i ≠ 0
      ∧ s.unclocked (s.fg (base (pPAT 0)) TRG_TRIG_OUT_SUB_CHANNEL i) then .error .clocking
  else .ok (s.plain k (base (pPAT 0) + TRG_TRIG_OUT_CFG i) w)

/-- EDGE of trigger input `k` selects an edge of this kind. -/
def State.edgeSelected (s : State) (k : Nat) (rising : Bool) : Bool :=
  bit (s.fg (base (pPAT 0)) TRG_TRIG_IN_CFG_EDGE k) (if rising then 0 else 1)

/-- An accepted edge on trigger input `k`, crossing the threshold at `ticks` and `frac` (R191): the filtered level
follows; a selected edge is timestamped and published, or merged into one less than a tick before it. -/
def State.trigEdge (s : State) (k : Nat) (rising : Bool) (ticks frac : Nat) : State :=
  let b := base (pPAT 0)
  let at_ := ticks * 65536 + frac % 65536
  let t := (s.fs b TRG_TRIG_STATUS_IN_LEVEL (putBit (s.fg b TRG_TRIG_STATUS_IN_LEVEL) k rising)).sourceLevel (0x900 + k) rising
  if !s.edgeSelected k rising then t
  else if ((s.lanes.lastEdge.getD k none).map (fun p => decide (at_ < p + 65536))).getD false then
    let w := t.fg b TRG_TRIG_IN_MERGED_MERGED
    t.fs b TRG_TRIG_IN_MERGED_MERGED (w - bits w (8 * k + 7) (8 * k) * 256 ^ k + satAdd 255 (bits w (8 * k + 7) (8 * k)) 1 * 256 ^ k)
  else
    let t := (t.wr64 (b + TRG_TRIG_IN_TIME k) ticks).fs b TRG_TRIG_IN_TIME_FRAC frac k
    ({ t with lanes := { t.lanes with lastEdge := t.lanes.lastEdge.set k (some at_) } }).publishBy (0x900 + k)

/-! ### The commands -/

/-- A meaning on pattern group `g`. -/
def State.onGroup (s : State) (g : Nat) (t : State) : Host.Outcome State Fault Refusal :=
  if g < s.variant.pats then .next t else .fault .noSuchBlock

/-- A meaning on a driver port. -/
def State.onPort (s : State) (p : DriverPort) (t : State) : Host.Outcome State Fault Refusal :=
  if s.hasPort p then .next t else .fault .noSuchBlock

/-- A meaning on trigger port `k`. -/
def onTrig (k : Nat) (t : State) : Host.Outcome State Fault Refusal :=
  if k < 4 then .next t else .fault .noSuchBlock

/-- The rising edges of marker `k` of channel `n` that fall in publishing cycle `q`: samples after the coarse delay whose marker is 1 where
that of the sample before is 0 (R188). -/
def State.markerEdges (s : State) (n k q : Nat) : Nat :=
  ((List.range 8).filter (fun (i : Nat) =>
    s.markerAt n k (8 * ((q : Int) - 112) + i) && !s.markerAt n k (8 * ((q : Int) - 112) + i - 1))).length

/-- Publishing cycle `q` of marker `k` of channel `n` (R188, R189, R294): the level under SOURCE is that of sample 7 of the stroke that the
cycle belongs to; the first rising edge publishes, and each further one is counted in MARKER_MERGE. -/
def State.markerCycle (s : State) (n k q : Nat) : State :=
  let prod := (if k = 0 then 0x200 else 0x300) + n
  let e := s.markerEdges n k q
  let late := 112 + (7 + s.fg (base (pGEN n)) GEN_DELAY_COARSE) / 8
  let t := s.sourceLevel prod (decide (late ≤ q) && s.markerBit n k (q - late) 7)
  if e = 0 then t
  else (t.publishBy prod).countBy (base (pGEN n)) (if k = 0 then GEN_MARKER_MERGE_M0_MERGED else GEN_MARKER_MERGE_M1_MERGED) (e - 1)

/-- MARKER_EDGE (R188, R189): publishing cycle `cycle` of a marker, a GF cycle. -/
def execMarkerEdge (n k cycle : Nat) (s : State) : Host.Outcome State Fault Refusal :=
  if s.variant.gens ≤ n ∨ 2 ≤ k then .fault .noSuchBlock
  else .next ((s.toGf cycle).markerCycle n k cycle)

/-- LANE_FORMAT_SETTLED (R185). -/
def execLaneFormatSettled (g : Nat) (s : State) : Host.Outcome State Fault Refusal :=
  s.onGroup g { s with lanes := { s.lanes with settling := s.lanes.settling.filter (· != g) } }

/-- LANE_OVERCURRENT (R194). -/
def execLaneOvercurrent (p : DriverPort) (s : State) : Host.Outcome State Fault Refusal :=
  s.onPort p (match p with | .output _ => s | _ => s.overcurrent p)

/-- LANE_CONTENTION (R196, R197). -/
def execLaneContention (p : DriverPort) (s : State) : Host.Outcome State Fault Refusal :=
  s.onPort p (match p with | .output _ => s | .trigIn _ => s | _ => s.contention p)

/-- The register that holds the fault bits, and the word that writes 1 to those of `mask`. -/
def faultReg (trig ovr : Bool) (g mask : Nat) : Nat × Word :=
  if trig then (base (pPAT 0) + TRG_TRIG_STATUS,
    BitVec.ofNat 32 (if ovr then mask % 256 * 2 ^ 12 else mask % 256 / 16 * 2 ^ 20))
  else (base (pPAT g) + PAT_LANE_FAULT, BitVec.ofNat 32 (if ovr then mask % 256 else mask % 256 * 2 ^ 8))

/-- OVERCURRENT_CLEAR (R195, R198). -/
def execOvercurrentClear (o : Org) (trig : Bool) (g mask again : Nat) (s : State) : Host.Outcome State Fault Refusal :=
  let r := faultReg trig true g mask
  .next (s.hostReg o r.1 r.2 (fun t => .ok (t.faultClear trig g mask again true)))

/-- CONTENTION_CLEAR (R197, R198). -/
def execContentionClear (o : Org) (trig : Bool) (g mask again : Nat) (s : State) : Host.Outcome State Fault Refusal :=
  let r := faultReg trig false g mask
  .next (s.hostReg o r.1 r.2 (fun t => .ok (t.faultClear trig g mask again false)))

/-- TRIG_OUT_EVENT (R192): the edge of the oldest delivered event reaches the driver. -/
def execTrigOutEvent (k : Nat) (s : State) : Host.Outcome State Fault Refusal :=
  onTrig k (if (s.trigOut k).due = 0 then s
    else s.updOut k (fun o => { o with due := o.due - 1, level := if o.busy then true else !o.level }))

/-- TRIG_OUT_PULSE_END (R192). -/
def execTrigOutPulseEnd (k : Nat) (s : State) : Host.Outcome State Fault Refusal :=
  onTrig k (if (s.trigOut k).busy then s.updOut k (fun o => { o with busy := false, level := false }) else s)

end Sys2Proof.Machine
end

