-- ==== Sys2Proof/Machine/Tracer.lean ====
section
/-! DEFINITION. Sys2Proof/Machine/Tracer.lean: what a capture channel's acquisition is made of: sample numbering and
times, the raw samples, the down-converter and averaging, intervals, blocks and marks, the ring, accounting, the trigger unit and the
ends of an acquisition (spec/08_capture_triggers.md, spec/09_streaming_stencils.md). -/
namespace Sys2Proof.Machine
open Sys2Proof

/-! ### The channel -/

/-- Capture channel `n`. -/
def State.trc (s : State) (n : Nat) : Tracer := s.tracers.getD n Tracer.fresh

/-- Capture channel `n` changed. -/
def State.updTrc (s : State) (n : Nat) (f : Tracer → Tracer) : State := { s with tracers := s.tracers.modify n f }

/-- The channel acquires. -/
def State.acquiring (s : State) (n : Nat) : Bool := s.fb (base (pSTRM n)) STRM_ACQ_STATUS_ACQUIRING

/-- A capture loopback test of channel `n` runs (R546). -/
def State.loopOn (s : State) (n : Nat) : Bool :=
  s.fb (base pPWR) PWR_LOOP_STATUS_BUSY && s.fg (base pPWR) PWR_LOOP_STATUS_CHANNEL == n

/-- The acquisition mode: 0 STREAM, 1 SINGLE, 2 REARM (R261 to R263). -/
def State.acqMode (s : State) (n : Nat) : Nat := s.fg (base (pSTRM n)) STRM_ACQ_CFG_MODE

/-- The DDC is on. -/
def State.ddcOn (s : State) (n : Nat) : Bool := s.fb (base (pCAP n)) CAP_PATH_CTRL_DDC_EN

/-- D, or 1 with the DDC off (R243). -/
def State.decim (s : State) (n : Nat) : Nat := if s.ddcOn n then s.fg (base (pCAP n)) CAP_DDC_DEC_DEC else 1

/-- The floor of the averaging factor (R242). -/
def State.floorK (s : State) (n : Nat) : Nat := s.fg (base (pCAP n)) CAP_AVG_K

/-! ### Times (R30, R236 to R238) -/

/-- The CF translator that held when CF cycle `q` of the acquisition began, with the rate. -/
def State.capGrid (s : State) (n q : Nat) : Grid × Nat :=
  let v := s.trc n
  (v.grids.find? (fun g => decide (g.1.cyc ≤ v.cBase + q))).getD (v.grids.getLastD (s.clk.cf, s.capRate))

/-- The connector instant of position `pos` (in 1/1,024 sample), in 1/2^40 tick (R238). -/
def State.posTime40 (s : State) (n pos : Nat) : Nat :=
  let q := pos / 8192
  let g := s.capGrid n q
  g.1.time g.2 ((s.trc n).cBase + q) + pos % 8192 * gridUnit / (8192 * g.2)

/-- The connector instant of position `pos`, in 1/65,536 tick, truncated (R30). -/
def State.posTime (s : State) (n pos : Nat) : Nat := s.posTime40 n pos / 2 ^ 24

/-- The connector instant of raw sample `c`. -/
def State.cTime (s : State) (n c : Nat) : Nat := s.posTime n (1024 * c)

/-- The first whole tick at or after the start of CF cycle `q` of the acquisition. -/
def State.cycTick (s : State) (n q : Nat) : Nat := cdiv (s.posTime40 n (8192 * q)) (2 ^ 40)

/-- The CF cycles of the acquisition in progress that have begun. -/
def State.capBegun (s : State) (n : Nat) : Nat :=
  let v := s.trc n
  let g := v.grids.headD (s.clk.cf, s.capRate)
  g.1.first g.2 ((s.now + 1) * 2 ^ 40) - v.cBase

/-- Raw samples that the acquisition holds at the present device time (R236, R276). -/
def State.acquired (s : State) (n : Nat) : Nat :=
  let v := s.trc n
  if s.acquiring n then (match v.endAt with | some e => min e.1 (8 * s.capBegun n) | none => 8 * s.capBegun n) else v.c

/-- The sample count C (R237): that of the CF cycle in progress, and the samples acquired once the acquisition has ended. -/
def State.cNow (s : State) (n : Nat) : Nat :=
  if s.acquiring n then 8 * ((s.acquired n - 1) / 8) else (s.trc n).c

/-- The device time moved on to the start of CF cycle `q` of channel `n`'s acquisition, where a happening of that cycle is told. -/
def State.toCycle (s : State) (n q : Nat) : State := { s with now := max s.now (s.cycTick n q) }

/-! ### Intervals (R243, R257) -/

/-- The factor in force. -/
def State.kNow (s : State) (n : Nat) : Nat := (((s.trc n).segs.head?).map (fun g => g.2.2)).getD (s.floorK n)

/-- The interval that holds raw sample `c`. -/
def State.ivOf (s : State) (n c : Nat) : Nat :=
  match (s.trc n).segs.find? (fun g => decide (g.2.1 ≤ c)) with
  | some g => g.1 + (c - g.2.1) / (s.decim n * 2 ^ g.2.2)
  | none => 0

/-- The first raw sample of interval `i`. -/
def State.cOfIv (s : State) (n i : Nat) : Nat :=
  match (s.trc n).segs.find? (fun g => decide (g.1 ≤ i)) with
  | some g => g.2.1 + (i - g.1) * (s.decim n * 2 ^ g.2.2)
  | none => 0

/-- The factor of interval `i`. -/
def State.kOfIv (s : State) (n i : Nat) : Nat :=
  match (s.trc n).segs.find? (fun g => decide (g.1 ≤ i)) with
  | some g => g.2.2
  | none => s.floorK n

/-- The first interval boundary at or after raw sample `c`. -/
def State.boundary (s : State) (n c : Nat) : Nat :=
  let i := s.ivOf n c
  if s.cOfIv n i = c then c else s.cOfIv n (i + 1)

/-! ### The streamed values (R229, R239 to R243) -/

/-- Raw sample `c` of the acquisition: as the commands have brought it; one that has been acquired and that no command brought is a
free value (assumption log, entry 144). -/
def State.rawAt (s : State) (n c : Nat) : Int :=
  match (s.trc n).raw[c]? with
  | some x => x
  | none => sext 12 (Config.freeValue (2 ^ 64 * (s.trc n).acq + c) (150 + n))

/-- Raw sample `c` as the trigger unit and the stencils receive it: within a dead-time burst, which covers the CF cycles 2 to 13 after a
record's end, the last sample before the burst (R365). -/
def State.heardAt (s : State) (n c : Nat) : Int :=
  match (s.trc n).hush with
  | some e => if e + 2 ≤ c / 8 ∧ c / 8 ≤ e + 13 then s.rawAt n (8 * (e + 2) - 1) else s.rawAt n c
  | none => s.rawAt n c

/-- CF cycle `q` lies within a dead-time burst or the 2 cycles after it, where no candidate completes (R365). -/
def State.hushed (s : State) (n q : Nat) : Bool :=
  match (s.trc n).hush with
  | some e => decide (e + 2 ≤ q ∧ q ≤ e + 15)
  | none => false

/-- The raw samples that the down-converter sees at position `c`: zero before the acquisition and after its end (R240, R260). -/
def State.rawOrZero (s : State) (n : Nat) (c : Int) : Int :=
  if c < 0 ∨ (!s.acquiring n ∧ ((s.trc n).c : Int) ≤ c) then 0 else s.rawAt n c.toNat

/-- The phase of the down-converter's NCO at raw sample `c`, its upper 20 bits (R239). -/
def State.ddcPhase (s : State) (n c : Nat) : Nat :=
  let b := base (pCAP n)
  (s.rd64 (b + CAP_DDC_FTW) % 2 ^ 48 * c + s.fg b CAP_DDC_PHASE_PHASE * 2 ^ 16) % 2 ^ 48 / 2 ^ 28

/-- The complex value z at raw sample `c` with 30 fractional bits (R239). -/
def State.ddcMixed (s : State) (n : Nat) (c : Int) : Int × Int :=
  let x := s.rawOrZero n c * 2 ^ 30
  let p := s.ddcPhase n c.toNat
  (rotated x 0 p, rotated 0 x p)

/-- DDC output `q` in 1/256 LSB (R240, R241): the filter spans 8 D samples on each side of raw sample qD. -/
def State.ddcOut (s : State) (n q : Nat) : Int × Int :=
  let d := s.decim n
  let sum := (List.range (16 * d + 1)).foldl (fun (a : Int × Int) (i : Nat) =>
    let z := s.ddcMixed n ((q * d + i : Nat) - (8 * d : Nat) : Int)
    let t := Config.decimTap d ((i : Int) - (8 * d : Nat)).natAbs
    (a.1 + t * z.1, a.2 + t * z.2)) (0, 0)
  (clampI (-2 ^ 19) (2 ^ 19 - 1) (roundDiv sum.1 (2 ^ 52)), clampI (-2 ^ 19) (2 ^ 19 - 1) (roundDiv sum.2 (2 ^ 52)))

/-- Input `q` of the averaging and of the spectral stencil's sources, in 1/256 LSB: a DDC output, or a raw sample. -/
def State.inputAt (s : State) (n : Nat) (ddc : Bool) (q : Nat) : Int × Int :=
  if ddc then s.ddcOut n q else (256 * s.rawAt n q, 0)

/-- A sum divided by `m`, rounded to nearest with ties away from zero. -/
def roundAway (a : Int) (m : Nat) : Int := if 0 ≤ a then (2 * a + m) / (2 * m) else -((2 * -a + m) / (2 * m))

/-- The mean of a list of inputs in 1/256 LSB (R242). -/
def meanOf (xs : List Int) : Int := roundAway (xs.foldl (· + ·) 0) xs.length

/-- The values of the streamed sample of interval `i` (R242, R258): one, or I then Q. -/
def State.streamed (s : State) (n i : Nat) : List Int :=
  let ins := (List.range (2 ^ s.kOfIv n i)).map (fun j => s.inputAt n (s.ddcOn n) (s.cOfIv n i / s.decim n + j))
  if s.ddcOn n then [meanOf (ins.map (·.1)), meanOf (ins.map (·.2))] else [meanOf (ins.map (·.1))]

/-- The DDC outputs that are formed from the raw samples brought so far; all of them once the acquisition has ended. -/
def State.ddcReady (s : State) (n : Nat) : Nat :=
  let d := max 1 (s.decim n)
  let r := (s.trc n).raw.length
  if s.acquiring n then (if 8 * d < r then (r - 1 - 8 * d) / d + 1 else 0) else cdiv (s.trc n).c d

/-- The number of intervals from 0 whose streamed samples are formed. -/
def State.formed (s : State) (n : Nat) : Nat :=
  if !s.acquiring n then s.ivOf n (s.trc n).c
  else if s.ddcOn n then s.ivOf n (s.ddcReady n * s.decim n)
  else s.ivOf n (s.trc n).raw.length

/-! ### Packing (R258) -/

/-- The width of a format in bits (R258). -/
def formatBits (f : Nat) : Nat := if f = 0 then 12 else if f = 1 then 16 else 20

/-- The value a format carries for the 20-bit result `v` (R258). -/
def carried (f : Nat) (v : Int) : Nat :=
  if f = 0 then ofSigned 12 (roundAway v 256) else if f = 1 then ofSigned 16 (roundAway v 16) else ofSigned 20 v

/-- One group of up to 8 values as a number (R258). -/
def groupWord (f : Nat) : List Int → Nat
  | [] => 0
  | v :: t => carried f v + 2 ^ formatBits f * groupWord f t

/-- The bytes of a list of values, by `fuel` groups of 8. -/
def packValues (f : Nat) : Nat → List Int → List Byte
  | 0, _ => []
  | n + 1, vs =>
    if vs.isEmpty then []
    else (List.range (formatBits f)).map (fun i => BitVec.ofNat 8 (groupWord f (vs.take 8) / 256 ^ i)) ++ packValues f n (vs.drop 8)

/-! ### Blocks and marks (R272 to R275) -/

/-- A number as `n` little-endian bytes. -/
def leBytes (v : Nat) : Nat → List Byte
  | 0 => []
  | n + 1 => BitVec.ofNat 8 v :: leBytes (v / 256) n

/-- The 64 bytes of a mark (R274). -/
def Mark.bytes (m : Mark) : List Byte :=
  leBytes (m.type * 2 ^ 24 + m.flags % 256 * 2 ^ 16 + m.a % 65536) 4 ++ leBytes m.arg32 4 ++ leBytes m.sidx 8 ++ leBytes m.c 8
    ++ leBytes m.time 8 ++ leBytes (m.frac % 65536 * 65536 + m.b % 65536) 4 ++ leBytes m.arg32b 4 ++ leBytes m.arg64 8
    ++ leBytes 0 16

/-- A mark of type `ty` that refers to raw sample `c` (R275). -/
def State.markAt (s : State) (n ty c : Nat) : Mark :=
  let t := s.cTime n c
  { type := ty, flags := 0, a := 0, arg32 := 0, sidx := s.ivOf n c, c := c, time := t / 65536, frac := t % 65536, b := 0, arg32b := 0, arg64 := 0 }

/-- The last of the packer's spans changed; a channel that has none has an empty one at the start. -/
def lastSpan (f : Span → Span) : List Span → List Span
  | [] => [f { idx := 0, stop := some 0, code := 5, marks := [] }]
  | [p] => [f p]
  | p :: t => p :: lastSpan f t

/-- A mark produced: it goes into the open block (R273). -/
def State.pushMark (s : State) (n : Nat) (m : Mark) : State :=
  s.updTrc n (fun t => { t with spans := lastSpan (fun p => { p with marks := p.marks ++ [m] }) t.spans })

/-- The packer's last span ends before interval `i`, with the CLOSE code given. -/
def State.endSpan (s : State) (n i code : Nat) : State :=
  s.updTrc n (fun t => { t with spans := lastSpan (fun p => { p with stop := some (p.stop.getD i), code := code }) t.spans })

/-- A new span begins with interval `i`; marks that wait in a span that is packed already go over to it. -/
def State.newSpan (s : State) (n i : Nat) : State :=
  s.updTrc n (fun t =>
    match t.spans with
    | [p] => if p.stop = some p.idx then { t with spans := [{ idx := i, stop := none, code := 1, marks := p.marks }] }
      else { t with spans := [p, { idx := i, stop := none, code := 1, marks := [] }] }
    | l => { t with spans := l ++ [{ idx := i, stop := none, code := 1, marks := [] }] })

/-- Blocks that the ring holds when full (R266). -/
def State.ringCap (s : State) (n : Nat) : Nat := s.rd64 (base (pSTRM n) + STRM_RING_SIZE) % 2 ^ 48 / 4096

/-- The ring is enabled. -/
def State.ringOn (s : State) (n : Nat) : Bool := s.fb (base (pSTRM n)) STRM_RING_CTRL_EN

/-- A block as `bytes` stored at the next place of the ring, its CRC in word 0x30 (R266, R272), and held. -/
def State.storeBlock (s : State) (n : Nat) (bytes : List Byte) (raw firstC time : Nat) : State :=
  let t := s.trc n
  let body := bytes ++ List.replicate (4096 - bytes.length) 0#8
  let crc := body.foldl (fun c b => crcByte c b.toNat) 0xFFFFFFFF ^^^ 0xFFFFFFFF
  let a := s.plateByte (s.fg (base (pSTRM n)) STRM_RING_PLATE_PLATE) (4096 * t.place)
  (((s.noteRewrite a 4096).stBytes a body).stw (a + 0x30) crc).updTrc n (fun v =>
    { v with held := v.held ++ [{ place := t.place, acq := t.acq, seq := t.seq, raw := raw, firstC := firstC, time := time, sent := false }], place := (t.place + 1) % max 1 (s.ringCap n), seq := t.seq + 1 })

/-- The header of a block (R272). -/
def blockHeader (kind ch format cplx factor marks shape count seq index c time frac acq firstBin close : Nat) : List Byte :=
  leBytes (kind * 2 ^ 28 + ch * 2 ^ 24 + format * 2 ^ 22 + cplx * 2 ^ 21 + factor * 2 ^ 16 + marks * 256 + 1) 4
    ++ leBytes (shape * 65536 + count) 4 ++ leBytes seq 8 ++ leBytes index 8 ++ leBytes c 8 ++ leBytes time 8
    ++ leBytes (frac * 65536 + acq) 4 ++ leBytes (firstBin * 65536 + close) 4 ++ leBytes 0 16

/-- Streamed samples that fit into a block beside `m` marks (R258, R272): whole groups of 8 values. -/
def blockRoom (f per m : Nat) : Nat := (4032 - 64 * m) / formatBits f * 8 / per

/-- The first interval that the packer has not packed. -/
def State.nextIdx (s : State) (n : Nat) : Nat := (((s.trc n).spans.head?).map (·.idx)).getD 0

/-- The raw samples of `count` intervals from the packer's next one. -/
def State.rawOf (s : State) (n count : Nat) : Nat := count * (s.decim n * 2 ^ s.kOfIv n (s.nextIdx n))

/-- The bytes of the SAMPLES block that `count` intervals of the packer's first span make with `marks` (R258, R272). -/
def State.samplesBlock (s : State) (n close count : Nat) (marks : List Mark) : List Byte :=
  let t := s.trc n
  let f := s.fg (base (pSTRM n)) STRM_ACQ_CFG_FORMAT
  let i := s.nextIdx n
  let c := s.cOfIv n i
  let time := s.cTime n c
  let values := (List.range count).flatMap (fun j => s.streamed n (i + j))
  let body := packValues f (values.length + 1) values
  blockHeader 1 n f (b2n (s.ddcOn n)) (s.kOfIv n i) marks.length (s.decim n) count t.seq i c (time / 65536) (time % 65536) t.acq 0 close
    ++ body ++ List.replicate ((64 - body.length % 64) % 64) 0#8 ++ (marks.map Mark.bytes).flatten

/-- An episode of discards ends (R268): it is counted and reported. -/
def State.gapReport (s : State) (n : Nat) (g : GapEpisode) : State :=
  let t := s.count (base (pSTRM n)) STRM_GAP_COUNT_COUNT
  let note := t.note (pSTRM n) 1 g.cause (b2n g.marksLost) (g.lost % 2 ^ 32) (g.lost / 2 ^ 32)
  t.notify { note with time := t.cTime n g.c / 65536 }

/-- The GAP mark of an episode (R275). -/
def State.gapMark (s : State) (n : Nat) (g : GapEpisode) : Mark :=
  { s.markAt n 4 g.c with a := g.cause, flags := b2n g.marksLost, arg64 := g.lost }

/-- Marks of a discarded block held in the queue of 1,024; those beyond it are counted (R268). -/
def State.holdMarks (s : State) (n : Nat) (g : GapEpisode) (ms : List Mark) : State :=
  let all := g.marks ++ ms
  let t := s.countBy (base (pSTRM n)) STRM_MARK_LOST_COUNT_COUNT (all.length - 1024)
  t.updTrc n (fun v => { v with gap := some { g with marks := all.take 1024, marksLost := g.marksLost || decide (1024 < all.length) } })

/-- The packer's first span after `count` of its intervals and its first `m` marks have been packed or discarded: a span that is through
gives way to the next one, if there is one. -/
def packed (count m : Nat) : List Span → List Span
  | [] => []
  | p :: t =>
    let q := { p with idx := p.idx + count, marks := p.marks.drop m }
    if q.stop = some q.idx ∧ q.marks = [] ∧ t ≠ [] then t else q :: t

/-- The ring has no free block, or is off (R268). -/
def State.ringFull (s : State) (n : Nat) : Bool := !s.ringOn n || decide (s.ringCap n ≤ (s.trc n).held.length)

/-- `count` intervals and the first `m` marks of the packer's first span discarded (R268): they begin or extend an episode. -/
def State.discard (s : State) (n count m cause : Nat) : State :=
  let t := s.trc n
  let g := t.gap.getD { sidx := s.nextIdx n, c := s.cOfIv n (s.nextIdx n), lost := 0, cause := cause, marks := [], marksLost := false }
  let g := { g with lost := g.lost + s.rawOf n count }
  let ms := (((t.spans.head?).map (·.marks)).getD []).take m
  (s.updTrc n (fun v => { v with dropped := v.dropped + s.rawOf n count, spans := packed count m v.spans })).holdMarks n g ms

/-- An episode of discards ends: it is reported, and its GAP mark and the marks held lead the next block (R268). -/
def State.gapOver (s : State) (n : Nat) : State :=
  match (s.trc n).gap with
  | none => s
  | some g =>
    (s.gapReport n g).updTrc n (fun v =>
      { v with gap := none, spans := (match v.spans with | p :: t => { p with marks := s.gapMark n g :: g.marks ++ p.marks } :: t | [] => []) })

/-- A block of `count` intervals and the first `m` marks of the packer's first span, with CLOSE code `close` (R268, R273): written to
the ring, or discarded when the ring has no free block or the FIFO refuses it. The end of the acquisition ends an episode. -/
def State.emitBlock (s : State) (n close count m : Nat) (fifo : Bool) : State :=
  let t := s.trc n
  if fifo || s.ringFull n then
    let u := s.discard n count m (if fifo then 2 else 1)
    match close, (u.trc n).gap with
    | 4, some g => (u.gapReport n g).updTrc n (fun v => { v with gap := none })
    | _, _ => u
  else
    let c := s.cOfIv n (s.nextIdx n)
    let ms := (((t.spans.head?).map (·.marks)).getD []).take m
    (s.updTrc n (fun v => { v with spans := packed count m t.spans })).storeBlock n (s.samplesBlock n close count ms) (s.rawOf n count) c
      (s.cTime n c / 65536)

/-- When the open block has been open for FLUSH_US (R273): its first sample is formed with the last raw sample of its interval, or of the
DDC filter's span. -/
def State.flushAt (s : State) (n : Nat) : Nat :=
  let c := s.cOfIv n (s.nextIdx n + 1) - 1 + (if s.ddcOn n then 8 * s.decim n else 0)
  s.cycTick n (c / 8) + 3000 * s.fg (base (pSTRM n)) STRM_FLUSH_FLUSH_US

/-- The packer closes its open block (R273): full, at the end of a span, or where FLUSH_US has passed (`flush`). Of more marks than
a block holds the rest wait for the next. -/
def State.closeBlock (s : State) (n : Nat) (flush fifo : Bool) : State :=
  let s := if fifo || s.ringFull n then s else s.gapOver n
  match (s.trc n).spans.head? with
  | none => s
  | some p =>
    let m := min p.marks.length 63
    let room := blockRoom (s.fg (base (pSTRM n)) STRM_ACQ_CFG_FORMAT) (if s.ddcOn n then 2 else 1) m
    let avail := (match p.stop with | some e => min e (s.formed n) | none => s.formed n) - p.idx
    if room < avail ∨ (room = avail ∧ p.stop ≠ some (p.idx + avail)) ∨ m < p.marks.length then s.emitBlock n 1 (min room avail) m fifo
    else if p.stop = some (p.idx + avail) then
      (if avail = 0 ∧ p.marks = [] then s else s.emitBlock n p.code avail m fifo)
    else if flush ∧ 0 < avail then { s with now := max s.now (s.flushAt n) }.emitBlock n 2 avail m fifo
    else s

/-- The intervals of the packer's first span that have passed are discarded, with its marks where a later span follows (R268). -/
def State.dropPassed (s : State) (n : Nat) : State :=
  match (s.trc n).spans with
  | [] => s
  | p :: t =>
    let now := s.ivOf n (s.acquired n)
    let e := match p.stop with | some e => min e now | none => now
    s.discard n (e - p.idx) (if t = [] then 0 else p.marks.length) 1

/-- A block of the ring has become free (R268): the intervals that have passed in an episode of discards are lost, that in progress is not,
and the episode ends. -/
def State.ringFreed (s : State) (n : Nat) : State :=
  match (s.trc n).gap with
  | none => s
  | some _ => ((List.range (s.trc n).spans.length).foldl (fun t _ => t.dropPassed n) s).gapOver n

/-! ### The seven counts (R276) -/

/-- Raw samples outside every record that can be in none any more (R263). -/
def State.deadNow (s : State) (n : Nat) : Nat :=
  let t := s.trc n
  if s.acquiring n && s.acqMode n == 2 && t.record.isNone then
    t.dead + (s.acquired n - t.prevEnd - s.fg (base (pSTRM n)) STRM_REC_PRE_PRE * (s.decim n * 2 ^ s.kNow n))
  else t.dead

/-- PENDING: what is acquired and in none of the other five counts. -/
def State.pendingRaw (s : State) (n : Nat) : Nat :=
  s.acquired n - ((s.trc n).delivered + (s.trc n).dropped + s.deadNow n + (s.trc n).tail + (s.trc n).undelivered)

/-- The seven counts latched at one instant. -/
def State.acctLatch (s : State) (n : Nat) : State :=
  let b := base (pSTRM n)
  let t := s.trc n
  ((((((s.wr64 (b + STRM_ACQUIRED) (s.acquired n)).wr64 (b + STRM_DELIVERED) t.delivered).wr64 (b + STRM_PENDING)
    (s.pendingRaw n)).wr64 (b + STRM_DROPPED) t.dropped).wr64 (b + STRM_DEAD) (s.deadNow n)).wr64 (b + STRM_TAIL)
    t.tail).wr64 (b + STRM_UNDELIVERED) t.undelivered

/-! ### Stencil masks (R277, R279, R283) -/

/-- Vertex `v` of bank `b` of the time-domain mask of channel `n`. -/
def tdVertex (n b v : Nat) : Nat := 0x08700000 + 0x10000 * n + 0x8000 * b + 8 * v

/-- Vertex `v` of bank `b` of the spectral mask of channel `n`. -/
def spVertex (n b v : Nat) : Nat := 0x08740000 + 0x4000 * n + 0x2000 * b + 8 * v

/-- A vertex: where it stands, its upper and its lower limit. -/
structure Vertex where
  at_ : Nat
  upper : Option Int
  lower : Option Int
deriving DecidableEq, Repr

/-- The vertex in the two words at `a`. -/
def State.vertexAt (s : State) (a : Nat) (spec : Bool) : Vertex :=
  let u := s.mbits (a + 4) 31 16
  let l := s.mbits (a + 4) 15 0
  { at_ := if spec then s.mbits a 15 0 else s.ldw a, upper := if u = 0x7FFF then none else some (sext 16 u), lower := if l = 0x8000 then none else some (sext 16 l) }

/-- The vertices of a bank. -/
def State.mask (s : State) (n b : Nat) (spec : Bool) : List Vertex :=
  let p := base (pSTEN n)
  if spec then (List.range (s.fg p (if b = 0 then STEN_SP_VERT_COUNT0 else STEN_SP_VERT_COUNT1) + 1)).map (fun v => s.vertexAt (spVertex n b v) true)
  else (List.range (s.fg p (if b = 0 then STEN_TD_VERT_COUNT0 else STEN_TD_VERT_COUNT1) + 1)).map (fun v => s.vertexAt (tdVertex n b v) false)

/-- The segments of a mask: consecutive vertices with the index of the first. -/
def segments : Nat → List Vertex → List (Nat × Vertex × Vertex)
  | i, a :: b :: t => (i, a, b) :: segments (i + 1) (b :: t)
  | _, _ => []

/-- By how much `x` at offset `t` passes the upper limit of a segment, times its length (R279). -/
def overUpper (a b : Vertex) (x : Int) (t : Int) : Option Int :=
  match a.upper, b.upper with
  | some u, some v => some ((x - u) * ((b.at_ : Int) - a.at_) - (v - u) * (t - a.at_))
  | _, _ => none

/-- By how much `x` at offset `t` passes the lower limit of a segment, times its length (R279). -/
def underLower (a b : Vertex) (x : Int) (t : Int) : Option Int :=
  match a.lower, b.lower with
  | some u, some v => some ((v - u) * (t - a.at_) - (x - u) * ((b.at_ : Int) - a.at_))
  | _, _ => none

/-- A limit passed at one offset: the vertex that opens the segment, whether it is the upper limit, the excess times the
segment's length, and that length. -/
structure Excess where
  vertex : Nat
  upper : Bool
  amount : Int
  len : Nat
deriving DecidableEq, Repr

/-- Every limit that `x` at offset `t` passes (R279); a single vertex judges one offset. -/
def excesses (l : List Vertex) (x : Int) (t : Int) : List Excess :=
  match l with
  | [v] =>
    if t ≠ v.at_ then []
    else ((v.upper.map (fun u => ({ vertex := 0, upper := true, amount := x - u, len := 1 } : Excess))).toList
      ++ (v.lower.map (fun u => ({ vertex := 0, upper := false, amount := u - x, len := 1 } : Excess))).toList).filter (fun e => decide (0 < e.amount))
  | _ =>
    ((segments 0 l).filter (fun g => decide ((g.2.1.at_ : Int) ≤ t ∧ t ≤ g.2.2.at_))).flatMap (fun g =>
      let len := g.2.2.at_ - g.2.1.at_
      (((overUpper g.2.1 g.2.2 x t).map (fun d => ({ vertex := g.1, upper := true, amount := d, len := len } : Excess))).toList
        ++ ((underLower g.2.1 g.2.2 x t).map (fun d => ({ vertex := g.1, upper := false, amount := d, len := len } : Excess))).toList).filter
          (fun e => decide (0 < e.amount)))

/-! ### Time-domain passes (R278 to R280) -/

/-- The last raw sample that a pass judges: its anchor plus the last vertex's offset. -/
def State.passEndAt (s : State) (n : Nat) (p : TdPass) : Int :=
  p.anchor + (((s.mask n p.bank false).getLast?).map (fun v => (v.at_ : Int))).getD 0

/-- The violating samples of a pass among the raw samples acquired, in order, with the limits they pass (R278, R279). -/
def State.passViols (s : State) (n : Nat) (p : TdPass) : List (Nat × List Excess) :=
  let l := s.mask n p.bank false
  let from_ := (p.anchor + (((l.head?).map (fun v => (v.at_ : Int))).getD 0)).toNat
  let to_ := min (s.trc n).raw.length (s.passEndAt n p + 1).toNat
  ((List.range (to_ - from_)).map (fun i => (from_ + i, excesses l (s.rawAt n (from_ + i)) (((from_ + i : Nat) : Int) - p.anchor)))).filter
    (fun e => !e.2.isEmpty)

/-- The flags of a TD_VIOL or SP_VIOL mark (R275): upper, lower. -/
def excessFlags (l : List Excess) : Nat := b2n (l.any (·.upper)) + 2 * b2n (l.any (fun e => !e.upper))

/-- A time-domain pass ends: under ACT_MARK the mark of its first violation is written (R275, R280). -/
def State.passMark (s : State) (n : Nat) : State :=
  match (s.trc n).pass with
  | none => s
  | some p =>
    if p.ended then s
    else
      let t := s.updTrc n (fun v => { v with pass := some { p with ended := true } })
      match s.passViols n p with
      | [] => t
      | e :: l =>
        if s.fb (base (pSTEN n)) STEN_TD_CFG_ACT_MARK then
          t.pushMark n { s.markAt n 7 e.1 with a := ((e.2.head?).map (·.vertex)).getD 0, flags := excessFlags e.2, arg32 := min 0xFFFFFFFF (l.length + 1), arg64 := ofSigned 64 p.anchor }
        else t

/-- The pass in progress ends where the raw samples have passed its last one (R280). -/
def State.passDone (s : State) (n : Nat) : State :=
  match (s.trc n).pass with
  | some p => if s.passEndAt n p < ((s.trc n).raw.length : Int) then s.passMark n else s
  | none => s

/-! ### The end of an acquisition (R260, R262, R284, R287) -/

/-- The acquisition of channel `n` ends with `e` its first raw sample not acquired (R260): the interval cut short is
counted in TAIL, the END mark is written and ACQ_ENDED raised. -/
def State.acqEnd (s : State) (n cause e : Nat) : State :=
  if !s.acquiring n then s
  else
    let iv := s.ivOf n e
    let c0 := s.cOfIv n iv
    let tail := e - c0
    let dead := if s.acqMode n = 2 ∧ (s.trc n).record.isNone then c0 - (s.trc n).prevEnd else 0
    let m := { s.markAt n 0xA e with sidx := iv + b2n (tail != 0), a := cause, arg32 := tail }
    let t := (s.passMark n).updTrc n (fun v =>
      { v with c := e, raw := v.raw.take e, endAt := none, scen := 64, tail := v.tail + tail, dead := v.dead + dead, armedC := none, record := none, kReq := none })
    let t := (t.endSpan n iv 4).pushMark n m
    let t := ((t.fs (base (pSTRM n)) STRM_ACQ_STATUS_ACQUIRING 0).fs (base (pSTRM n)) STRM_ACQ_STATUS_END_CAUSE cause).fs
      (base (pSTRM n)) STRM_ACQ_STATUS_REC_ARMED 0
    let t := (t.fs (base (pCAP n)) CAP_CAP_STATUS_ACQUIRING 0).fs (base (pCAP n)) CAP_CAP_STATUS_SCENARIO 0
    t.notify (t.note (pSTRM n) 0 cause 0 (e % 2 ^ 32) (e / 2 ^ 32))

/-- The acquisition ends now, in the CF cycle in which the domain's clock stops (R260). -/
def State.acqCut (s : State) (n : Nat) : State := s.acqEnd n 5 (s.acquired n)

/-- An end fixed at first raw sample `e` not acquired (R284, R287): of stop points the first stands; of a STOP (cause 1) and a stop point
the earlier, and a STOP where both fall in one cycle. -/
def laterEnd (e cause : Nat) : Option (Nat × Nat) → Nat × Nat
  | none => (e, cause)
  | some (e0, c0) =>
    if (cause = 1) = (c0 = 1) then (if cause = 1 then (min e e0, 1) else (e0, c0))
    else if (e - 1) / 8 = (e0 - 1) / 8 then (min e e0, 1)
    else if e < e0 then (e, cause) else (e0, c0)

/-- The end that a stop point at raw sample `p` gives (R262, R284): the end of the interval that holds it, or of the
interval in progress where that is later. -/
def State.stopEnd (s : State) (n p : Nat) : Nat := s.cOfIv n (s.ivOf n (max p (s.cNow n)) + 1)

/-- A fixed end is carried out once its CF cycle has begun. -/
def State.endDue (s : State) (n : Nat) : State :=
  match (s.trc n).endAt with
  | some e => if s.acquiring n && decide (e.1 ≤ 8 * s.capBegun n) then s.acqEnd n e.2 e.1 else s
  | none => s

/-- A stop point is fixed at raw sample `p` (R262, R284). -/
def State.stopAt (s : State) (n p cause : Nat) : State :=
  if s.acquiring n then s.updTrc n (fun v => { v with endAt := some (laterEnd (s.stopEnd n p) cause v.endAt) }) else s

/-- A STOP takes effect at the first CF cycle at or after tick `t` (R259, R260). -/
def State.stopFrom (s : State) (n t : Nat) : State :=
  if s.acquiring n then
    let e := 8 * (max (s.cfFirst t) ((s.trc n).cBase + (s.acquired n) / 8) - (s.trc n).cBase)
    (s.updTrc n (fun v => { v with endAt := some (laterEnd e 1 v.endAt) })).endDue n
  else s

/-! ### The start of an acquisition (R237, R242, R245, R259, R274) -/

/-- What the packer still gathers of an acquisition that has ended is packed. -/
def State.packRest (s : State) (n : Nat) : State :=
  (List.range ((s.formed n - s.nextIdx n) + (s.trc n).spans.length + ((s.trc n).spans.flatMap (·.marks)).length)).foldl
    (fun t _ => t.closeBlock n false false) s

/-- The acquisition of channel `n` begins with CF cycle `q`, for scenario `k` (64 outside any). -/
def State.acqBegin (s : State) (n q k : Nat) : State :=
  let s := s.packRest n
  let k0 := s.floorK n
  let t := s.updTrc n (fun v =>
    { Tracer.fresh with scen := k, acq := v.nextAcq, nextAcq := (v.nextAcq + 1) % 65536, cBase := q, grids := [(s.clk.cf, s.capRate)], segs := [(0, 0, k0)], spans := [{ idx := 0, stop := if s.acqMode n = 2 then some 0 else none, code := 1, marks := [] }], spSets := [(0, s.fb (base (pSTEN n)) STEN_SP_CFG_EN, s.fg (base (pSTEN n)) STEN_SP_CFG_BANK)], held := v.held, place := v.place })
  let t := (t.fs (base (pCAP n)) CAP_AVG_NOW_K_NOW k0).fs (base (pSTRM n)) STRM_ACQ_STATUS_ACQUIRING 1
  let t := (t.fs (base (pCAP n)) CAP_CAP_STATUS_ACQUIRING 1).fs (base (pCAP n)) CAP_CAP_STATUS_SCENARIO (b2n (k != 64))
  let cfg := t.fg (base (pSTRM n)) STRM_ACQ_CFG_FORMAT * 4096 + t.acqMode n * 256 + k0
  t.pushMark n { t.markAt n 1 0 with a := t.decim n, b := cfg, arg32 := if k = 64 then 0xFFFFFFFF else k }

/-- The first CF cycle at or after tick `t`; none begins before the translator is valid (R32, R259). -/
def State.cfFrom (s : State) (t : Nat) : Nat :=
  if s.fb (base pCLK) CLK_PAGE_STATUS_CF_VALID then s.cfFirst t else max (s.cfFirst t) s.clk.cf.cyc

/-- A waiting acquisition begins once its first CF cycle has begun; a STOP that came before it acts from its own time on (R259). -/
def State.beginDue (s : State) (n : Nat) : State :=
  match (s.trc n).startAt with
  | some t =>
    if s.fb (base pCLK) CLK_PAGE_STATUS_CF_VALID && decide (s.cfTime (s.cfFrom t) < (s.now + 1) * 2 ^ 40) then
      let u := s.acqBegin n (s.cfFrom t) 64
      match (s.trc n).endAt with | some e => u.stopFrom n e.1 | none => u
    else s
  | none => s

/-- What is due on channel `n` at the present device time: a start, an end. -/
def State.capDue (s : State) (n : Nat) : State := (s.beginDue n).endDue n

/-- What is due on every capture channel. -/
def State.capsDue (s : State) : State := (List.range s.variant.caps).foldl (fun t n => t.capDue n) s

/-- A shared member passes to scenario `k` at the first CF cycle at or after tick `t` (R161, R275). -/
def State.acqPass (s : State) (n t k : Nat) : State :=
  let c := 8 * (s.cfFrom t - (s.trc n).cBase)
  (s.updTrc n (fun v => { v with scen := k })).pushMark n { s.markAt n 9 c with arg32 := k }

/-- Why an acquisition may not start (R251, R259, R266), the parts that an arm shares: SETTLED, the ring, the trigger. -/
def State.captureFails (s : State) (n : Nat) : Bool :=
  !s.fb (base (pCAP n)) CAP_CAP_STATUS_SETTLED || !s.ringOn n
    || (s.fg (base (pCAP n)) CAP_TRIG_CFG_TYPE == 7 && s.fg (base (pCAP n)) CAP_TRIG_CFG_EVT == 0)
    || (s.fg (base (pCAP n)) CAP_TRIG_CFG_TYPE == 8 && !s.fb (base (pSTEN n)) STEN_SP_CFG_EN)

/-! ### The ring's demand (R266) -/

/-- Values a block carries in each format (R266). -/
def formatValues (f : Nat) : Nat := if f = 0 then 2688 else if f = 1 then 2016 else 1608

/-- Bins of the spectral stencil (R282). -/
def State.bins (s : State) (n : Nat) : Nat :=
  let m := 2 ^ (10 + s.fg (base (pSTEN n)) STEN_SP_CFG_NSIZE)
  if s.fb (base (pSTEN n)) STEN_SP_CFG_SRC then m else m / 2

/-- The advance H of the frames (R281). -/
def State.hop (s : State) (n : Nat) : Nat :=
  2 ^ (10 + s.fg (base (pSTEN n)) STEN_SP_CFG_NSIZE) / (if s.fb (base (pSTEN n)) STEN_SP_CFG_OVERLAP then 4 else 2)

/-- The ring's demand in 1/23,040,000 byte per second, at ADC rate `rate` in mHz. -/
def State.ringDemand (s : State) (n rate : Nat) : Nat :=
  let v := formatValues (s.fg (base (pSTRM n)) STRM_ACQ_CFG_FORMAT)
  let c := if s.ddcOn n then 2 else 1
  let d' := if s.fb (base (pSTEN n)) STEN_SP_CFG_SRC then s.decim n else 1
  cdiv (23040 * rate * c * 4096) (s.decim n * 2 ^ s.floorK n * v)
    + (if s.fb (base (pSTEN n)) STEN_SP_CFG_STREAM_EN then
        cdiv (23040 * rate * cdiv (s.bins n) 2016 * 4096) (d' * s.hop n * 2 ^ s.fg (base (pSTEN n)) STEN_SP_AVG_A) else 0)

/-- The charges of channel `n`'s ring writer and ring reader (R103, R266): ports 20 + n and 24 + n. -/
def State.ringCharges (s : State) (n rate : Nat) : List Charge :=
  let d := s.ringDemand n rate
  let p := s.fg (base (pSTRM n)) STRM_RING_PLATE_PLATE
  let mask := s.mbits (plateAddr p + 0x2C) 5 0
  s.dramCharges (64 + n) (20 + n) d mask ++ s.dramCharges (64 + n) (24 + n) d mask

/-- The charges with those of channel `n`'s ring replaced. -/
def State.chargesWithRing (s : State) (n rate : Nat) : List Charge :=
  s.plates.charges.filter (fun c => c.holder != 64 + n) ++ s.ringCharges n rate

/-- The charges replaced. -/
def State.setCharges (s : State) (l : List Charge) : State := { s with plates := { s.plates with charges := l } }

/-- A write `t` that may change the demand of channel `n`'s ring (R266): while the ring is enabled, one that would raise
it is admitted only within the limits. -/
def State.ringRecheck (s t : State) (n : Nat) : Act :=
  if !s.ringOn n then .ok t
  else if s.ringDemand n s.capRate < t.ringDemand n t.capRate ∧ (t.overPlace (t.chargesWithRing n t.capRate)).isSome then .error .budget
  else .ok (t.setCharges (t.chargesWithRing n t.capRate))

/-- What DEMAND shows (R266). -/
def State.demandLive (s : State) (n : Nat) : Nat := mbUp (s.ringDemand n s.capRate)

/-- Percent of the ring filled, rounded down (R267). -/
def State.fillPct (s : State) (n : Nat) : Nat := (s.trc n).held.length * 100 / max 1 (s.ringCap n)

/-- The fill exceeds `p` percent. -/
def State.fillAbove (s : State) (n p : Nat) : Bool := decide (p * s.ringCap n < (s.trc n).held.length * 100)

/-- The fill is below `p` percent. -/
def State.fillBelow (s : State) (n p : Nat) : Bool := decide ((s.trc n).held.length * 100 < p * s.ringCap n)

end Sys2Proof.Machine
end

