-- ==== Sys2Proof/Machine/Capture.lean ====
section
/-! DEFINITION. Sys2Proof/Machine/Capture.lean: capture channels, their triggers, acquisitions, ring, rate reduction and
stencils as commands (spec/08_capture_triggers.md, spec/09_streaming_stencils.md). -/
namespace Sys2Proof.Machine
open Sys2Proof

/-! ### Front end (R230 to R235) -/

/-- IN_CFG written: the front end settles anew (R232). -/
def State.inCfgWrite (s : State) (k n : Nat) (w : Word) : State :=
  (s.plain k (base (pCAP n) + CAP_IN_CFG) w).fs (base (pCAP n)) CAP_CAP_STATUS_SETTLED 0

/-- The first raw sample of the CF cycle that holds raw sample `c`, or of the present one where that is later. -/
def State.markCycle (s : State) (n c : Nat) : Nat := max (c / 8 * 8) (s.cNow n)

/-- The protected state entered (R234, R275), in the CF cycle that holds raw sample `c` while the channel acquires. -/
def State.protectEnter (s : State) (n c : Nat) : State :=
  let b := base (pCAP n)
  let q := s.markCycle n c
  let s := if s.acquiring n then s.toCycle n (q / 8) else s
  let t := ((s.fs b CAP_CAP_STATUS_PROTECTED 1).fs b CAP_CAP_FAULT_OVERVOLT 1).count b CAP_PROTECT_COUNT_COUNT
  let t := (t.pageFault (pCAP n) 0x0401 0).notify (s.note (pCAP n) 1)
  if s.acquiring n then t.pushMark n { t.markAt n 6 q with flags := 1 } else t

/-- The protected state left (R234). -/
def State.protectLeave (s : State) (n c : Nat) : State :=
  if !s.fb (base (pCAP n)) CAP_CAP_STATUS_PROTECTED then s
  else
    let q := s.markCycle n c
    let t := s.fs (base (pCAP n)) CAP_CAP_STATUS_PROTECTED 0
    if s.acquiring n then (t.toCycle n (q / 8)).pushMark n (t.markAt n 6 q) else t

/-! ### Triggers (R245 to R255) -/

/-- LEVEL, HYST, LOW and HIGH as numbers. -/
def State.trigLevels (s : State) (n : Nat) : Int × Int × Int × Int :=
  let b := base (pCAP n)
  (sext 12 (s.fg b CAP_TRIG_LEVEL_LEVEL), s.fg b CAP_TRIG_LEVEL_HYST, sext 12 (s.fg b CAP_TRIG_WINDOW_LOW),
    sext 12 (s.fg b CAP_TRIG_WINDOW_HIGH))

/-- A rising crossing of `v` lies between samples `x0` and `x1` (R245). -/
def risingAt (v x0 x1 : Int) : Bool := decide (x0 < v ∧ v ≤ x1)

/-- A falling crossing of `v` lies between samples `x0` and `x1` (R245). -/
def fallingAt (v x0 x1 : Int) : Bool := decide (v < x0 ∧ x1 ≤ v)

/-- The 16 samples about a crossing between `n` and `n + 1`, those that the acquisition has (R246). -/
def State.around (s : State) (n c : Nat) : List Int := ((s.trc n).raw.drop (c - 7)).take (min 16 (c + 9))

/-- The position of the crossing of `v` between raw samples `c` and `c + 1` of values `x0` and `x1`, in 1/1,024 sample (R246): that of
the band-limited interpolator, or else that of a straight line, to nearest with ties upward. -/
def State.crossPos (s : State) (n c : Nat) (v x0 x1 : Int) : Nat :=
  1024 * c + (match Config.crossing (s.around n c) v with
    | some f => min 1024 f
    | none => (2048 * (v - x0).natAbs + (x1 - x0).natAbs) / (2 * (x1 - x0).natAbs))

/-- The duration condition (R249). -/
def durationMeets (cond t1 t2 d : Nat) : Bool :=
  match cond with
  | 0 => decide (d < t1)
  | 1 => decide (t1 < d)
  | 2 => decide (t1 ≤ d ∧ d ≤ t2)
  | _ => decide (d < t1 ∨ t2 < d)

/-- A duration in 1/1,024 sample meets COND (R249). -/
def State.condMeets (s : State) (n d : Nat) : Bool :=
  let b := base (pCAP n)
  durationMeets (s.fg b CAP_TRIG_CFG_COND) (s.fg b CAP_TRIG_T1_LIMIT) (s.fg b CAP_TRIG_T2_LIMIT) d

/-- A position falls in holdoff (R250). -/
def State.inHoldoff (s : State) (n pos : Nat) : Bool :=
  match (s.trc n).lastTrig with
  | some p => decide (pos < p + 1024 * s.fg (base (pCAP n)) CAP_TRIG_HOLDOFF_SAMPLES)
  | none => false

/-- What sample `x` arms (R247). -/
def TrigUnit.arm (u : TrigUnit) (lv hy lo hi x : Int) : TrigUnit :=
  { u with levR := u.levR || decide (x ≤ lv - hy), levF := u.levF || decide (lv + hy ≤ x), lowR := u.lowR || decide (x ≤ lo - hy), highF := u.highF || decide (hi + hy ≤ x), exitR := u.exitR || decide (lo + hy ≤ x ∧ x ≤ hi - hy), exitF := u.exitF || decide (lo + hy ≤ x ∧ x ≤ hi - hy) }

/-- A crossing between raw samples: its sense as `up`, and where it lies. -/
structure Pair where
  c : Nat
  x0 : Int
  x1 : Int
deriving DecidableEq, Repr

/-- Edge and window triggers (R247, R248): the armed crossings between two samples, which are no longer armed, as positions. -/
def State.edgeUnit (s : State) (n : Nat) (u : TrigUnit) (e : Pair) : TrigUnit × List (Nat × Nat) :=
  let b := base (pCAP n)
  let pos := bit (s.fg b CAP_TRIG_CFG_SLOPE) 0
  let neg := bit (s.fg b CAP_TRIG_CFG_SLOPE) 1
  let (lv, _, lo, hi) := s.trigLevels n
  let at_ (c : Bool) (v : Int) : List (Nat × Nat) := if c then [(s.crossPos n e.c v e.x0 e.x1, 0)] else []
  if s.fg b CAP_TRIG_CFG_TYPE = 1 then
    let r := u.levR && risingAt lv e.x0 e.x1
    let f := u.levF && fallingAt lv e.x0 e.x1
    ({ u with levR := u.levR && !r, levF := u.levF && !f }, at_ (pos && r) lv ++ at_ (neg && f) lv)
  else
    let r := u.lowR && risingAt lo e.x0 e.x1
    let f := u.highF && fallingAt hi e.x0 e.x1
    let xr := u.exitR && risingAt hi e.x0 e.x1
    let xf := u.exitF && fallingAt lo e.x0 e.x1
    ({ u with lowR := u.lowR && !r, highF := u.highF && !f, exitR := u.exitR && !xr, exitF := u.exitF && !xf }, at_ (pos && r) lo ++ at_ (pos && f) hi ++ at_ (neg && xr) hi ++ at_ (neg && xf) lo)

/-- A measurement in progress after two samples (R248): begun anew by a counted crossing, marked by one of the far threshold, ended by
one of the end threshold. -/
def Meas.next (m : Option Meas) (start : Option Nat) (far : Bool) : Option Meas :=
  match start with
  | some p => some { start := p, far := far }
  | none => m.map (fun v => { v with far := v.far || far })

/-- Triggers with a duration, SLOPE, PULSE_WIDTH and RUNT (R247 to R249): the completing crossings between two samples, as positions
with their durations. -/
def State.spanUnit (s : State) (n : Nat) (u : TrigUnit) (e : Pair) : TrigUnit × List (Nat × Nat) :=
  let b := base (pCAP n)
  let ty := s.fg b CAP_TRIG_CFG_TYPE
  let pos := bit (s.fg b CAP_TRIG_CFG_SLOPE) 0
  let neg := bit (s.fg b CAP_TRIG_CFG_SLOPE) 1
  let (lv, hy, lo, hi) := s.trigLevels n
  let up0 := if ty = 5 then lv else lo
  let dn0 := if ty = 5 then lv else hi
  let r := (if ty = 5 then u.levR else u.lowR) && risingAt up0 e.x0 e.x1
  let f := (if ty = 5 then u.levF else u.highF) && fallingAt dn0 e.x0 e.x1
  let p := Meas.next u.pos (if r then some (s.crossPos n e.c up0 e.x0 e.x1) else none) (risingAt hi e.x0 e.x1)
  let q := Meas.next u.neg (if f then some (s.crossPos n e.c dn0 e.x0 e.x1) else none) (fallingAt lo e.x0 e.x1)
  let upEnd := if ty = 4 then hi else if ty = 5 then lv - hy else lo - hy
  let dnEnd := if ty = 4 then lo else if ty = 5 then lv + hy else hi + hy
  let pDone := if ty = 4 then risingAt upEnd e.x0 e.x1 else fallingAt upEnd e.x0 e.x1
  let qDone := if ty = 4 then fallingAt dnEnd e.x0 e.x1 else risingAt dnEnd e.x0 e.x1
  let pStop := pDone || (ty == 4 && fallingAt (lo - hy) e.x0 e.x1)
  let qStop := qDone || (ty == 4 && risingAt (hi + hy) e.x0 e.x1)
  let meets (m : Meas) (d : Nat) : Bool := if ty = 6 then !m.far && (!s.fb b CAP_TRIG_CFG_WIDTH_QUAL || s.condMeets n d) else s.condMeets n d
  let out (on done : Bool) (m : Option Meas) (v : Int) : List (Nat × Nat) :=
    match m with
    | some w => let d := s.crossPos n e.c v e.x0 e.x1 - w.start
      if on && done && meets w d then [(s.crossPos n e.c v e.x0 e.x1, d)] else []
    | none => []
  ({ u with levR := u.levR && !(ty == 5 && r), levF := u.levF && !(ty == 5 && f), lowR := u.lowR && !(ty != 5 && r), highF := u.highF && !(ty != 5 && f), pos := if pStop then none else p, neg := if qStop then none else q },
    out pos pDone p upEnd ++ out neg qDone q dnEnd)

/-- The level trigger (R248): the first sample beyond LEVEL once the unit is ready; where the sample before is not beyond it, the crossing
between them, which must count (R247). -/
def State.levelUnit (s : State) (n : Nat) (u : TrigUnit) (c : Nat) (before : Option Int) (x : Int) : TrigUnit × List (Nat × Nat) :=
  let b := base (pCAP n)
  let (lv, _, _, _) := s.trigLevels n
  let ready := u.ready || (s.inHoldoff n (1024 * (c - 1)) && !s.inHoldoff n (1024 * c))
  let beyond (v : Int) : Bool :=
    (bit (s.fg b CAP_TRIG_CFG_SLOPE) 0 && decide (lv ≤ v)) || (bit (s.fg b CAP_TRIG_CFG_SLOPE) 1 && decide (v ≤ lv))
  match before with
  | some w =>
    let r := u.levR && risingAt lv w x
    let f := u.levF && fallingAt lv w x
    let hit := ready && beyond x && (beyond w || r || f)
    ({ u with levR := u.levR && !r, levF := u.levF && !f, ready := ready && !hit },
      if hit then [(if beyond w then 1024 * c else s.crossPos n (c - 1) lv w x, 0)] else [])
  | none => ({ u with ready := u.ready && !beyond x }, if u.ready && beyond x then [(1024 * c, 0)] else [])

/-- Raw sample `c` passes through the trigger unit (R245 to R249): the unit after it and the candidates it completes. -/
def State.unitSample (s : State) (n : Nat) (u : TrigUnit) (c : Nat) : TrigUnit × List (Nat × Nat) :=
  let ty := s.fg (base (pCAP n)) CAP_TRIG_CFG_TYPE
  let x := s.heardAt n c
  let (lv, hy, lo, hi) := s.trigLevels n
  let r :=
    if ty = 2 then s.levelUnit n u c (if c = 0 then none else some (s.heardAt n (c - 1))) x
    else if c = 0 then (u, [])
    else if ty = 1 ∨ ty = 3 then s.edgeUnit n u { c := c - 1, x0 := s.heardAt n (c - 1), x1 := x }
    else if 4 ≤ ty ∧ ty ≤ 6 then s.spanUnit n u { c := c - 1, x0 := s.heardAt n (c - 1), x1 := x }
    else (u, [])
  (r.1.arm lv hy lo hi x, r.2)

/-- The fabric tick whose levels CF sees at the present tick: 3 ticks and up to 2 CF cycles before, which of these being free (R296, R303). -/
def State.seenTick (s : State) : Nat := s.now - 3 - s.free 0x296 % (2 * 24000000000000 / s.capRate + 1)

/-- The level of the trigger's gate; ungated reads 1 (R250). -/
def State.trigGate (s : State) (n : Nat) : Bool :=
  let g := s.fg (base (pCAP n)) CAP_TRIG_CFG_GATE
  g == 0 || s.pulseAt g s.seenTick

/-- A trigger taken: its position starts the next holdoff, and its record waits (R250, R252). -/
def State.takeTrigger (s : State) (n : Nat) (r : TrigRec) : State :=
  let b := base (pSTEN n)
  let starts := s.fb b STEN_TD_CFG_EN && !s.fb b STEN_TD_CFG_ANCHOR
  s.updTrc n (fun t =>
    { t with lastTrig := some r.pos, trigs := t.trigs ++ [r], tdPend := if starts then t.tdPend ++ [(r.pos / 1024, r.cyc)] else t.tdPend })

/-- The candidates completed in one CF cycle are judged by gate, holdoff and merging (R250, R255). -/
def State.judgeTriggers (s : State) (n : Nat) (l : List TrigRec) : State :=
  let b := base (pCAP n)
  if l.isEmpty then s
  else if !s.trigGate n then s.countBy b CAP_TRIG_GATED_COUNT_COUNT l.length
  else
    let ok := l.filter (fun r => !s.inHoldoff n r.pos)
    let t := s.countBy b CAP_TRIG_HOLDOFF_COUNT_COUNT (l.length - ok.length)
    match ok with
    | [] => t
    | r :: rest =>
      let best := rest.foldl (fun a q => if q.pos < a.pos then q else a) r
      (t.countBy b CAP_TRIG_MERGED_COUNT_COUNT rest.length).takeTrigger n best

/-- The crossings that CF cycle `q` completes reach judgement (R250); a level trigger that is not taken leaves the unit ready. -/
def State.unitCycle (s : State) (n q : Nat) : State :=
  let r := (List.range 8).foldl (fun (a : TrigUnit × List TrigRec) (i : Nat) =>
    let e := s.unitSample n a.1 (8 * q + i)
    (e.1, a.2 ++ e.2.map (fun p =>
      { cyc := q, pos := p.1, type := s.fg (base (pCAP n)) CAP_TRIG_CFG_TYPE, width := min 0xFFFFFFFF p.2, clipped := (s.around n (p.1 / 1024)).any (fun x => x == -2048 || x == 2047) })))
    ((if s.inHoldoff n (1024 * (8 * q)) then (s.trc n).unit else { (s.trc n).unit with ready := true }), [])
  let t := (s.updTrc n (fun v => { v with unit := r.1, seen := q + 1 })).judgeTriggers n (if s.hushed n q then [] else r.2)
  if (t.trc n).lastTrig = (s.trc n).lastTrig then t.updTrc n (fun v => { v with unit := { v.unit with ready := r.1.ready || !r.2.isEmpty } }) else t

/-- The trigger unit judges the CF cycles whose samples are there: up to 8 samples after a crossing are asked for (R246), while the
acquisition has them to come. -/
def State.unitRun (s : State) (n : Nat) : State :=
  let r := (s.trc n).raw.length
  let to_ := if s.acquiring n then (r - 7) / 8 else cdiv r 8
  (List.range (to_ - (s.trc n).seen)).foldl (fun t i => t.unitCycle n ((s.trc n).seen + i)) s

/-! ### The raw stream (R229, R235, R236) -/

/-- Whether CF cycle `i` of a run of samples holds a clip. -/
def clipCycle (xs : List Int) (i : Nat) : Bool := ((xs.drop (8 * i)).take 8).any (fun x => x == -2048 || x == 2047)

/-- The clips of a run of whole CF cycles whose first begins in cycle `q` of the acquisition (R235). -/
def State.clips (s : State) (n q : Nat) (xs : List Int) : State :=
  let l := (List.range (xs.length / 8)).filter (clipCycle xs)
  match l with
  | [] => s
  | i :: _ =>
    let t := s.countBy (base (pCAP n)) CAP_CLIP_COUNT_COUNT l.length
    if bit (s.fg (sbase (s.owner (pCAP n)) (pCAP n)) HDR_PAGE_NOTICE_RAW_RAW) 0 then t
    else t.notify { s.note (pCAP n) 0 with time := if s.acquiring n then s.cycTick n (q + i) else s.now }

/-- The ADC's samples, in whole CF cycles, reach channel `n`: clips are counted, and while the channel acquires, the samples are taken in
up to the end of the acquisition, the device time comes to their last CF cycle, and the trigger unit and the time-domain pass go on. A
channel that is powered down takes none. -/
def State.takeRaw (s : State) (n : Nat) (raw : List Int) : State :=
  let s := s.capDue n
  let xs := (raw.take (raw.length / 8 * 8)).map (clampI (-2048) 2047)
  if !s.fb (base (pCAP n)) HDR_PAGE_CTRL_EN then s
  else if !s.acquiring n && decide ((s.trc n).c ≤ (s.trc n).raw.length) then s.clips n 0 xs
  else
    let r := (s.trc n).raw.length
    let ys := match (s.trc n).endAt with | some e => xs.take (e.1 - r) | none => if s.acquiring n then xs else xs.take ((s.trc n).c - r)
    let t := (s.clips n (r / 8) ys).updTrc n (fun v => { v with raw := v.raw ++ ys })
    let t := if ys.isEmpty then t else t.toCycle n ((r + ys.length - 1) / 8)
    (((t.endDue n).unitRun n).passDone n)

/-! ### Events, records and configuration (R250 to R255) -/

/-- An event arrives at channel `n`'s trigger unit (R250, R255, R307): whether the unit acts on it, and the state after. -/
def State.trigEvent (s : State) (n : Nat) : Bool × State :=
  let b := base (pCAP n)
  let pos := 1024 * s.cNow n
  if s.fg b CAP_TRIG_CFG_TYPE ≠ 7 then (true, s)
  else if !s.acquiring n || s.inHoldoff n pos then (false, s.count b CAP_TRIG_EVT_OVERRUN_COUNT_COUNT)
  else if (s.trc n).trigs.any (fun r => r.cyc == pos / 8192) then (false, s.count b CAP_TRIG_MERGED_COUNT_COUNT)
  else (true, s.takeTrigger n { cyc := pos / 8192, pos := pos, type := 7, width := 0, clipped := false })

/-- The CF cycles up to the present one are judged with the configuration in force (R254). -/
def State.unitFlush (s : State) (n : Nat) : State :=
  let to_ := min ((s.trc n).raw.length / 8) (s.capBegun n)
  (List.range (to_ - (s.trc n).seen)).foldl (fun t i => t.unitCycle n ((s.trc n).seen + i)) s

/-- The trigger unit's measurements are discarded, its crossings unarmed and any holdoff ended, from the next CF cycle on (R254). -/
def State.trigReset (s : State) (n : Nat) : State :=
  s.updTrc n (fun t => { t with lastTrig := none, unit := TrigUnit.fresh, seen := if s.acquiring n then max t.seen (s.capBegun n) else t.seen })

/-- The mark of a trigger (R275). -/
def State.trigMark (s : State) (n : Nat) (r : TrigRec) : Mark :=
  let t := s.posTime n r.pos
  { s.markAt n 2 (r.pos / 1024) with time := t / 65536, frac := t % 65536, a := r.type * 4096 + b2n r.clipped * 2048 + r.pos % 1024, arg32 := s.fg (base (pCAP n)) CAP_TRIG_COUNT_COUNT, arg32b := r.width }

/-- A record of REARM begins with a trigger in interval `i` (R263, R264). -/
def State.recordBegin (s : State) (n i : Nat) : State :=
  let b := base (pSTRM n)
  let start := i - s.fg b STRM_REC_PRE_PRE
  let c := s.cOfIv n start
  let t := (s.updTrc n (fun v =>
    { v with record := some start, records := v.records + 1, armedC := none, dead := v.dead + (c - v.prevEnd) })).newSpan n start
  let m := { s.markAt n 5 c with arg32 := (s.trc n).records, arg64 := s.rd64 (b + STRM_LAST_DEAD) }
  ((t.pushMark n m).count b STRM_RECORD_COUNT_COUNT).fs b STRM_ACQ_STATUS_REC_ARMED 0

/-- The packer and the acquisition mode act on a trigger (R261 to R265). -/
def State.triggerMode (s : State) (n : Nat) (r : TrigRec) : State :=
  let c := r.pos / 1024
  let i := s.ivOf n c
  if s.acqMode n ≠ 2 then
    let t := s.pushMark n (s.trigMark n r)
    if s.acqMode n = 1 then t.stopAt n (c + s.fg (base (pSTRM n)) STRM_POST_SAMPLES) 2 else t
  else match (s.trc n).record with
    | some start =>
      if start ≤ i ∧ i < start + s.fg (base (pSTRM n)) STRM_REC_LEN_LEN then s.pushMark n (s.trigMark n r)
      else s.count (base (pSTRM n)) STRM_DEAD_TRIG_COUNT_COUNT
    | none =>
      match (s.trc n).armedC with
      | some a =>
        if a ≤ s.cOfIv n i then (s.recordBegin n i).pushMark n (s.trigMark n r)
        else s.count (base (pSTRM n)) STRM_DEAD_TRIG_COUNT_COUNT
      | none => s.count (base (pSTRM n)) STRM_DEAD_TRIG_COUNT_COUNT

/-- The oldest trigger taken has its record latched, counted, published and handed on (R252). -/
def State.triggerRecord (s : State) (n : Nat) : State :=
  match (s.trc n).trigs with
  | [] => s
  | r :: rest =>
    let b := base (pCAP n)
    let time := s.posTime n r.pos
    let t := ((s.updTrc n (fun v => { v with trigs := rest })).toCycle n (r.cyc + s.fg b CAP_LATENCY_TRIG_CF)).endDue n
    let t := (t.wr64 (b + CAP_TRIG_POS) (r.pos / 1024)).wr64 (b + CAP_TRIG_TIME) (time / 65536)
    let t := (t.fs b CAP_TRIG_SUB_SUBSAMPLE (r.pos % 1024)).fs b CAP_TRIG_SUB_FRAC (time % 65536)
    let t := if 4 ≤ r.type ∧ r.type ≤ 6 then t.fs b CAP_TRIG_WIDTH_WIDTH r.width else t
    let t := (t.fs b CAP_TRIG_STATUS_TYPE r.type).fs b CAP_TRIG_STATUS_CLIPPED (b2n r.clipped)
    ((t.count b CAP_TRIG_COUNT_COUNT).publishBy (0x600 + n)).triggerMode n r

/-! ### Rate reduction (R244, R269 to R271) -/

/-- Where a requested change from k to `k'` takes effect (R244): a raise at the first interval boundary at or after the request that is a
whole multiple of D × 2^k', a lowering at the next boundary. -/
def State.changeAt (s : State) (n k' c : Nat) : Nat :=
  let m := s.decim n * 2 ^ max (s.kNow n) k'
  cdiv c m * m

/-- A requested change of k takes effect (R244, R271): the open block ends there, and the next one begins with the RATE mark. -/
def State.factorChange (s : State) (n : Nat) : State :=
  let k := s.kNow n
  match (s.trc n).kReq with
  | none => s
  | some (k', c0) =>
    let c := s.changeAt n k' c0
    if !s.acquiring n ∨ k' = k then s
    else
      let s := (s.toCycle n (c / 8)).endDue n
      if !s.acquiring n then s
      else
        let i := s.ivOf n c
        let t := s.updTrc n (fun v => { v with segs := (i, c, k') :: v.segs, kReq := none, rateMax := v.rateMax || k' == 16 })
        let t := ((t.endSpan n i 3).newSpan n i).pushMark n { t.markAt n 3 c with a := k * 256 + k', flags := b2n (decide (k < k')) }
        let t := t.fs (base (pCAP n)) CAP_AVG_NOW_K_NOW k'
        if k < k' then
          let t := t.count (base (pSTRM n)) STRM_RATE_UP_COUNT_COUNT
          if k' = 16 ∧ !(s.trc n).rateMax then t.notify (t.note (pSTRM n) 2) else t
        else t.count (base (pSTRM n)) STRM_RATE_DOWN_COUNT_COUNT

/-- The fill above HIGH asks for k + 1, once the hold after the last raise has passed and the fill still rises (R269). -/
def State.rateRaise (s : State) (n : Nat) : State :=
  let b := base (pSTRM n)
  let k := (((s.trc n).kReq).map (·.1)).getD (s.kNow n)
  let again := match (s.trc n).raised with
    | some (at_, fill) => decide (at_ + 3000 * s.fg b STRM_RATE_TIMING_RAISE_HOLD_US ≤ s.now ∧ fill < (s.trc n).held.length)
    | none => true
  if s.acquiring n && s.acqMode n != 2 && s.fillAbove n (s.fg b STRM_WATERMARK_HIGH) && again && decide (k < 16) then
    s.updTrc n (fun v => { v with kReq := some (k + 1, s.cNow n), raised := some (s.now, v.held.length) })
  else s

/-- The fill below LOW for the dwell asks for k - 1, never below the floor (R270). -/
def State.rateLower (s : State) (n : Nat) : State :=
  let k := (((s.trc n).kReq).map (·.1)).getD (s.kNow n)
  if s.acquiring n && s.acqMode n != 2 && s.fillBelow n (s.fg (base (pSTRM n)) STRM_WATERMARK_LOW) && decide (s.floorK n < k) then
    s.updTrc n (fun v => { v with kReq := some (k - 1, s.cNow n), raised := none })
  else s

/-! ### REARM (R263, R264) -/

/-- The rearm instant (R264): the first interval boundary at which its conditions hold, from the present CF cycle on. -/
def State.rearmAt (s : State) (n : Nat) : Nat :=
  let v := s.trc n
  let len := s.decim n * 2 ^ s.kNow n
  s.boundary n (max (s.cNow n) (max (if v.records = 0 then 0 else v.prevEnd + 128) (v.prevEnd + s.fg (base (pSTRM n)) STRM_REC_PRE_PRE * len)))

/-- At the rearm instant the channel is rearmed and the dead time is known (R264). -/
def State.rearm (s : State) (n : Nat) : State :=
  let b := base (pSTRM n)
  let v := s.trc n
  if s.acquiring n && s.acqMode n == 2 && v.record.isNone && v.armedC.isNone && s.fillBelow n (s.fg b STRM_WATERMARK_HIGH) then
    let c := s.rearmAt n
    let t := (s.updTrc n (fun w => { w with armedC := some c })).toCycle n (c / 8)
    ((t.fs b STRM_ACQ_STATUS_REC_ARMED 1).wr64 (b + STRM_LAST_DEAD) ((s.cTime n c - s.cTime n v.prevEnd) / 65536)).endDue n
  else s

/-- The record in progress has its REC_LEN intervals (R263). -/
def State.recordEnd (s : State) (n : Nat) : State :=
  match (s.trc n).record with
  | none => s
  | some start =>
    let i := start + s.fg (base (pSTRM n)) STRM_REC_LEN_LEN
    let c := s.cOfIv n i
    (((s.updTrc n (fun v => { v with record := none, prevEnd := c })).endSpan n i 5).toCycle n (c / 8)).endDue n

/-! ### Stencil masks (R277, R278, R283) -/

/-- Positions increase strictly. -/
def rising : List Vertex → Bool
  | [] => true
  | v :: t => (match t with | [] => true | u :: _ => decide (v.at_ < u.at_)) && rising t

/-- A limit within the raw codes, or none (R277). -/
def rawLimit (l : Option Int) : Bool := match l with | some v => decide (-2048 ≤ v ∧ v ≤ 2047) | none => true

/-- The bank may be put in force (R277, R283); `period` is TD_PERIOD where passes are PERIODIC (R278). -/
def State.bankOk (s : State) (n b : Nat) (spec : Bool) (period : Option Nat) : Bool :=
  let l := s.mask n b spec
  rising l && (if spec then l.all (fun v => decide (v.at_ < s.bins n)) else l.all (fun v => rawLimit v.upper && rawLimit v.lower))
    && (match period, l.getLast? with | some p, some v => decide (v.at_ < p) | _, _ => true)

/-- TD_PERIOD where ANCHOR says PERIODIC. -/
def State.periodOf (s : State) (n : Nat) : Option Nat :=
  if s.fb (base (pSTEN n)) STEN_TD_CFG_ANCHOR then some (s.fg (base (pSTEN n)) STEN_TD_PERIOD_VALUE) else none

/-- Both banks in force pass their checks, as arm and ring enable ask (R277). -/
def State.masksOk (s : State) (n : Nat) : Bool :=
  s.bankOk n (s.fg (base (pSTEN n)) STEN_TD_CFG_BANK) false (s.periodOf n) && s.bankOk n (s.fg (base (pSTEN n)) STEN_SP_CFG_BANK) true none

/-- The first periodic pass that starts at or after raw sample `c` (R278). -/
def State.passFrom (s : State) (n c : Nat) : Nat :=
  let b := base (pSTEN n)
  cdiv (c - s.fg b STEN_TD_PHASE_VALUE) (max 1 (s.fg b STEN_TD_PERIOD_VALUE))

/-- What a write to a stencil register leaves for the passes and frames that start after it (R278, R283). -/
def State.stencilSet (s : State) (n : Nat) : State :=
  let p := base (pSTEN n)
  let set := (s.fb p STEN_SP_CFG_EN, s.fg p STEN_SP_CFG_BANK)
  if !s.acquiring n then s
  else s.updTrc n (fun v =>
    { v with tdNext := s.passFrom n (s.acquired n), spSets := if (v.spSets.head?).map (·.2) = some set then v.spSets else (s.acquired n, set) :: v.spSets })

/-- A write to a stencil register of channel `n` at page offset `off` (R277, R278, R283). -/
def State.stencilReg (s : State) (k n off : Nat) (w : Word) : Act :=
  let p := base (pSTEN n)
  let t := (s.plain k (p + off) w).stencilSet n
  let tdBank := s.fg p STEN_TD_CFG_BANK
  let spBank := s.fg p STEN_SP_CFG_BANK
  if off = STEN_TD_CFG then
    if t.bankOk n (t.fg p STEN_TD_CFG_BANK) false (t.periodOf n) then .ok t else .error .limit
  else if off = STEN_TD_PERIOD then
    if t.bankOk n tdBank false (t.periodOf n) then .ok t else .error .limit
  else if off = STEN_TD_VERT then
    if (tdBank = 0 ∧ t.fg p STEN_TD_VERT_COUNT0 ≠ s.fg p STEN_TD_VERT_COUNT0)
        ∨ (tdBank = 1 ∧ t.fg p STEN_TD_VERT_COUNT1 ≠ s.fg p STEN_TD_VERT_COUNT1) then .error .locked else .ok t
  else if off = STEN_SP_VERT then
    if (spBank = 0 ∧ t.fg p STEN_SP_VERT_COUNT0 ≠ s.fg p STEN_SP_VERT_COUNT0)
        ∨ (spBank = 1 ∧ t.fg p STEN_SP_VERT_COUNT1 ≠ s.fg p STEN_SP_VERT_COUNT1) then .error .locked else .ok t
  else if off = STEN_SP_CFG then
    if !t.bankOk n (t.fg p STEN_SP_CFG_BANK) true none then .error .limit
    else
      let u := if t.fg p STEN_SP_CFG_BANK = spBank then t else t.updTrc n (fun v => { v with spRun := 0 })
      s.ringRecheck u n
  else s.ringRecheck t n

/-- A word written to a stencil mask window (R277, R283). -/
def State.maskWrite (s : State) (k a : Nat) (w : Word) : Act :=
  let spec := decide (0x08740000 ≤ a)
  let n := if spec then (a - 0x08740000) / 0x4000 else (a - 0x08700000) / 0x10000
  let b := if spec then (a - 0x08740000) % 0x4000 / 0x2000 else (a - 0x08700000) % 0x10000 / 0x8000
  let inForce := s.fg (base (pSTEN n)) (if spec then STEN_SP_CFG_BANK else STEN_TD_CFG_BANK)
  if s.variant.caps ≤ n then .error .address
  else if !s.owns k (pSTEN n) then .error .owner
  else if b = inForce then .error .locked
  else .ok (s.stw a w.toNat)

/-! ### Stencil passes and verdicts (R278 to R286) -/

/-- STENCIL_VIOLATION, raised where the owner's bit was 0 before (R280, R285). -/
def State.stencilNote (s : State) (n code : Nat) (note : Notice) : State :=
  if bit (s.fg (sbase (s.owner (pSTEN n)) (pSTEN n)) HDR_PAGE_NOTICE_RAW_RAW) code then s else s.notify note

/-- The first violating sample of the pass, in its judging cycle, once (R279, R280). -/
def State.judgePass (s : State) (n : Nat) : State :=
  match (s.trc n).pass with
  | none => s
  | some p =>
    match p.told, s.passViols n p with
    | false, e :: _ =>
      let b := base (pSTEN n)
      let c := e.1
      let v := ((e.2.head?).map (·.vertex)).getD 0
      let s := (s.toCycle n (max (c / 8) p.taken + s.fg b STEN_LATENCY_TD_CF)).endDue n
      let t := ((s.updTrc n (fun q => { q with pass := q.pass.map (fun w => { w with told := true }) })).count b STEN_TD_VIOL_COUNT_COUNT).wr64 (b + STEN_TD_LAST_C) c
      let t := if s.fb b STEN_TD_CFG_ACT_EVENT then t.publishBy (0x700 + n) else t
      let note := t.note (pSTEN n) 0 v 0 (c % 2 ^ 32) (c / 2 ^ 32)
      let t := t.stencilNote n 0 { note with time := s.cTime n c / 65536 }
      if s.fb b STEN_TD_CFG_ACT_STOP then t.stopAt n (c + s.fg (base (pSTRM n)) STRM_POST_SAMPLES) 3 else t
    | _, _ => s

/-- A pass with anchor `a` starts, its trigger taken in CF cycle `q` (R278): the pass before it is through. -/
def State.passStart (s : State) (n : Nat) (a : Int) (q : Nat) : State :=
  let b := base (pSTEN n)
  (((s.judgePass n).passMark n).updTrc n (fun v =>
    { v with pass := some { anchor := a, bank := s.fg b STEN_TD_CFG_BANK, taken := q, told := false, ended := false } })).count b STEN_TD_PASS_COUNT_COUNT

/-- The next pass starts (R278): by the oldest trigger that waits, or as the next one of PERIODIC, at its first raw sample. -/
def State.tdPass (s : State) (n : Nat) : State :=
  let b := base (pSTEN n)
  let v := s.trc n
  if s.fb b STEN_TD_CFG_ANCHOR then
    if !s.fb b STEN_TD_CFG_EN || !s.acquiring n then s
    else
      let a := s.fg b STEN_TD_PHASE_VALUE + v.tdNext * s.fg b STEN_TD_PERIOD_VALUE
      let t := ((s.toCycle n (a / 8)).endDue n).updTrc n (fun w => { w with tdNext := w.tdNext + 1 })
      if t.acquiring n then t.passStart n a 0 else t
  else
    match v.tdPend with
    | [] => s
    | (x, q) :: rest =>
      let a : Int := (x : Int) - s.fg b STEN_TD_PRE_VALUE
      let t := s.updTrc n (fun w => { w with tdPend := rest })
      if (match v.pass with | some p => decide (a < s.passEndAt n p) | none => false) then t.count b STEN_TD_OVERLAP_COUNT_COUNT
      else (t.passStart n a q).passDone n

/-- The excess of a bin in 1/128 dB, rounded to nearest (R275, R285). -/
def Excess.inUnits (e : Excess) : Nat := (2 * e.amount.toNat + e.len) / (2 * e.len)

/-- The worst excess of a judged list of levels: the bin, its excess. -/
def worstBin (l : List (Nat × List Excess)) : Nat × Nat :=
  l.foldl (fun w e => e.2.foldl (fun v x => if v.2 < Excess.inUnits x then (e.1, Excess.inUnits x) else v) w) ((((l.head?).map (·.1)).getD 0), 0)

/-- The inputs of frame `f` (R281). -/
def State.frameAt (s : State) (n f : Nat) : List (Int × Int) :=
  let b := base (pSTEN n)
  (List.range (2 ^ (10 + s.fg b STEN_SP_CFG_NSIZE))).map (fun m => s.inputAt n (s.fb b STEN_SP_CFG_SRC) (f * s.hop n + m))

/-- The first and the last raw sample that frame `f` stands for (R281). -/
def State.frameSpan (s : State) (n f : Nat) : Nat × Nat :=
  let b := base (pSTEN n)
  let d := if s.fb b STEN_SP_CFG_SRC then s.decim n else 1
  (f * s.hop n * d, (f * s.hop n + 2 ^ (10 + s.fg b STEN_SP_CFG_NSIZE) - 1) * d)

/-- The last input of frame `f` is formed. -/
def State.frameReady (s : State) (n f : Nat) : Bool :=
  let b := base (pSTEN n)
  let last := f * s.hop n + 2 ^ (10 + s.fg b STEN_SP_CFG_NSIZE) - 1
  if s.fb b STEN_SP_CFG_SRC then decide (last < s.ddcReady n) else decide (last < (s.trc n).raw.length)

/-- The CF cycle in which the verdict on frame `f` is made (R285): SPEC_CF after that in which its last input is formed, for a DDC output
that of the last raw sample its filter spans (R240). -/
def State.verdictCycle (s : State) (n f : Nat) : Nat :=
  let b := base (pSTEN n)
  let last := (s.frameSpan n f).2
  (if s.fb b STEN_SP_CFG_SRC then last + 8 * s.decim n else last) / 8 + 2 ^ (7 + s.fg b STEN_SP_CFG_NSIZE) + 96

/-- The levels of the bins over `m` frames from `f` on, in 1/128 dBFS (R282): the logarithm is uninterpreted, and of nothing it is the
least level. -/
def State.levels (s : State) (n f m : Nat) : List Int :=
  let b := base (pSTEN n)
  let len := 2 ^ (10 + s.fg b STEN_SP_CFG_NSIZE)
  let frames := (List.range m).map (fun i => s.frameAt n (f + i))
  (List.range (s.bins n)).map (fun i =>
    if frames.all (fun l => l.all (fun x => x == (0, 0))) then -32768
    else clampI (-32768) 32767 (Config.binLevel (s.fg b STEN_SP_CFG_WINDOW) (if s.fb b STEN_SP_CFG_SRC then (i + len / 2) % len else i) frames len))

/-- One SPECTRUM block of the bins `l` from bin `first` on of spectrum `g`, whose first raw sample is `c` (R272, R286), or its discard. -/
def State.spectrumBlock (s : State) (n g c first : Nat) (l : List Int) : State :=
  let t := s.trc n
  let p := base (pSTEN n)
  if s.ringFull n then s.count p STEN_SPEC_DROP_COUNT_COUNT
  else
    let time := s.cTime n c
    let shape := s.fg p STEN_SP_CFG_NSIZE * 4096 + s.fg p STEN_SP_CFG_OVERLAP * 2048 + s.fg p STEN_SP_CFG_WINDOW * 512 + s.fg p STEN_SP_CFG_DETECT * 256
    let h := blockHeader 2 n 0 (s.fg p STEN_SP_CFG_SRC) (s.fg p STEN_SP_AVG_A) 0 shape l.length t.seq g c
      (time / 65536) (time % 65536) t.acq first 1
    s.storeBlock n (h ++ (l.map (fun v => leBytes (ofSigned 16 v) 2)).flatten) 0 c (time / 65536)

/-- A level spectrum streamed in blocks of 2,016 bins (R286). -/
def State.streamSpectrum (s : State) (n g c : Nat) (l : List Int) : State :=
  (List.range (cdiv l.length 2016)).foldl (fun t i => t.spectrumBlock n g c (2016 * i) ((l.drop (2016 * i)).take 2016)) s

/-- The next spectrum of 2^A frames is streamed once its last frame is formed (R286). -/
def State.streamNext (s : State) (n : Nat) : State :=
  let b := base (pSTEN n)
  let g := (s.trc n).spOut
  let m := 2 ^ s.fg b STEN_SP_AVG_A
  if s.fb b STEN_SP_CFG_STREAM_EN && s.frameReady n (g * m + m - 1) then
    ((s.updTrc n (fun v => { v with spOut := g + 1 })).toCycle n (s.verdictCycle n (g * m + m - 1))).streamSpectrum n g
      (s.frameSpan n (g * m)).1 (s.levels n (g * m) m)
  else s

/-- A counted violation of the spectral stencil in its verdict cycle (R284, R285): the frame's number, its first and last raw sample, and
the bins that violate. -/
def State.spectralHit (s : State) (n f first last : Nat) (bad : List (Nat × List Excess)) : State :=
  let b := base (pSTEN n)
  let w := worstBin bad
  let t := ((s.count b STEN_SP_VIOL_COUNT_COUNT).wr64 (b + STEN_SP_LAST_C) first).fs b STEN_SP_LAST_EXCESS (min 65535 w.2)
  let t := t.fs b STEN_SP_LAST_BIN w.1
  let m := { s.markAt n 8 first with b := w.2, flags := excessFlags (bad.flatMap (·.2)), arg32 := w.1, arg32b := bad.length, arg64 := f }
  let t := if s.fb b STEN_SP_CFG_ACT_MARK then t.pushMark n m else t
  let t := if s.fb b STEN_SP_CFG_ACT_EVENT then t.publishBy (0x800 + n) else t
  let t := if s.fb b STEN_SP_CFG_ACT_TRIG && s.fg (base (pCAP n)) CAP_TRIG_CFG_TYPE == 8 then
    t.judgeTriggers n [{ cyc := s.capBegun n - 1, pos := 1024 * first, type := 8, width := 0, clipped := false }] else t
  let note := t.note (pSTEN n) 1 w.1 (w.2 % 65536) (first % 2 ^ 32) (first / 2 ^ 32)
  let t := t.stencilNote n 1 { note with time := s.cTime n first / 65536 }
  if s.fb b STEN_SP_CFG_ACT_STOP then t.stopAt n (last + s.fg (base (pSTRM n)) STRM_POST_SAMPLES) 4 else t

/-- The first frame that the next verdict judges, and how many (R282): under AVG the next whole group. -/
def State.nextVerdict (s : State) (n : Nat) : Nat × Nat :=
  let b := base (pSTEN n)
  let m := if s.fb b STEN_SP_CFG_DETECT then 2 ^ s.fg b STEN_SP_AVG_A else 1
  (cdiv (s.trc n).spNext m * m, m)

/-- EN and BANK as they stood at raw sample `c` (R283). -/
def State.spSetAt (s : State) (n c : Nat) : Bool × Nat :=
  (((s.trc n).spSets.find? (fun e => decide (e.1 ≤ c))).map (·.2)).getD (false, 0)

/-- The next verdict of the spectral stencil, once its last input is formed (R281 to R286). -/
def State.spectral (s : State) (n : Nat) : State :=
  let b := base (pSTEN n)
  let (f, m) := s.nextVerdict n
  if !s.frameReady n (f + m - 1) then s
  else
    let first := (s.frameSpan n f).1
    let last := (s.frameSpan n (f + m - 1)).2
    let set := s.spSetAt n first
    let s := (s.updTrc n (fun v => { v with spNext := f + m })).toCycle n (s.verdictCycle n (f + m - 1))
    if !set.1 then s
    else
      let s := s.endDue n
      let l := s.levels n f m
      let bad := (((List.range l.length).zip l).map (fun e => (e.1, excesses (s.mask n set.2 true) e.2 e.1))).filter (fun e => !e.2.isEmpty)
      let run := if bad.isEmpty then 0 else (s.trc n).spRun + 1
      let t := (s.updTrc n (fun v => { v with spRun := run })).countBy b STEN_SP_FRAME_COUNT_COUNT m
      if bad.isEmpty || decide (run ≤ s.fg b STEN_SP_CFG_CONSEC) then t else t.spectralHit n f first last bad

/-! ### Starting, stopping, the ring (R259, R266) -/

/-- ACQ_CMD.START (R259, R485, R487, R546). -/
def State.acqStart (s : State) (n : Nat) : Act :=
  if s.armedUses (pCAP n) then .error .locked
  else if s.acquiring n || (s.trc n).startAt.isSome || !s.fb (base (pCAP n)) HDR_PAGE_CTRL_EN || s.fb (base (pCAP n)) HDR_PAGE_CTRL_PARK then
    .error .state
  else if s.loopOn n then .error .busy
  else if s.captureFails n then .error .capture
  else .ok (s.updTrc n (fun t => { t with startAt := some (s.now + 3000) }))

/-- A waiting acquisition begins: the device time comes to its first CF cycle (R259). -/
def State.acqBeginDue (s : State) (n : Nat) : State :=
  match (s.trc n).startAt with
  | some t =>
    if s.fb (base pCLK) CLK_PAGE_STATUS_CF_VALID then
      let q := s.cfFrom t
      { s with now := max s.now (cdiv (s.cfTime q) (2 ^ 40)) }.beginDue n
    else s
  | none => s

/-- ACQ_CMD.STOP (R259, R260): outside a scenario the acquisition ends at the first CF cycle at or after 3,000 ticks; one that waits for
its start stops at that time after it. -/
def State.acqStop (s : State) (n : Nat) : State :=
  if (s.trc n).scen ≠ 64 then s
  else if (s.trc n).startAt.isSome then s.updTrc n (fun t => { t with endAt := some (s.now + 3000, 1) })
  else s.stopFrom n (s.now + 3000)

/-- The owner of the STRM page and the plate satisfy R266, in its order. -/
def State.ringFails (s : State) (n : Nat) : Option Code :=
  let p := s.fg (base (pSTRM n)) STRM_RING_PLATE_PLATE
  if s.plateState p ≠ 2 then some .unpinned
  else if s.plateSpad p ∨ s.plateOwner p ≠ s.owner (pSTRM n) then some .owner
  else if s.plateSize p < s.rd64 (base (pSTRM n) + STRM_RING_SIZE) % 2 ^ 48 then some .bounds
  else if !s.masksOk n then some .limit
  else if s.heldBack ((s.chargesWithRing n s.capRate).filter (fun c => c.holder == 64 + n)) then some .busy
  else if (s.overPlace (s.chargesWithRing n s.capRate)).isSome then some .budget
  else none

/-- RING_CTRL.EN written (R266). -/
def State.ringEnable (s : State) (n : Nat) (en : Bool) : Act :=
  let b := base (pSTRM n)
  let p := s.fg b STRM_RING_PLATE_PLATE
  if en = s.ringOn n then .ok s
  else if en then
    match s.ringFails n with
    | some c => .error c
    | none =>
      .ok (((s.setCharges (s.chargesWithRing n s.capRate)).refBy (plateAddr p + 0x28) 31 16 true).fs b STRM_RING_CTRL_EN 1 |>.updTrc n
        (fun t => { t with place := 0, held := [] }))
  else if s.acquiring n then .error .locked
  else
    let lost := ((s.trc n).held.filter (fun h => h.acq == (s.trc n).acq)).foldl (fun m h => m + h.raw) 0
    let t := (s.setCharges (s.plates.charges.filter (fun c => c.holder != 64 + n))).refBy (plateAddr p + 0x28) 31 16 false
    .ok ((t.fs b STRM_RING_CTRL_EN 0).updTrc n (fun v => { v with held := [], undelivered := v.undelivered + lost }))

/-- A write to a STRM register with rules of its own: the ring size (R266), the record lengths (R263), the format. -/
def State.strmReg (s : State) (k n off : Nat) (w : Word) : Act :=
  let b := base (pSTRM n)
  let t := s.plain k (b + off) w
  if (off = STRM_REC_LEN ∨ off = STRM_REC_PRE) ∧ t.fg b STRM_REC_LEN_LEN ≤ t.fg b STRM_REC_PRE_PRE then .error .format
  else .ok t

/-- RING_SIZE takes a value: a multiple of 64 KiB, at least 1 MiB (R266). -/
def State.ringSizeWrite (s : State) (n v : Nat) : Act :=
  if v % 2 ^ 48 % 65536 ≠ 0 ∨ v % 2 ^ 48 < 1048576 then .error .format else .ok (s.wr64 (base (pSTRM n) + STRM_RING_SIZE) (v % 2 ^ 48))

/-- A write to a CAP register that feeds the ring's demand (R266). -/
def State.capReg (s : State) (k n off : Nat) (w : Word) : Act :=
  s.ringRecheck (s.plain k (base (pCAP n) + off) w) n

/-- A trigger register written (R251, R254). -/
def State.trigCfg (s : State) (k n a : Nat) (w : Word) : Act :=
  match (s.unitFlush n).subWrite k a w with
  | .ok t => .ok (t.trigReset n)
  | .error c => .error c

/-! ### What the pages show -/

/-- Live registers of a CAP page (R237, R256). -/
def State.capLive (s : State) (n off : Nat) : Option Word :=
  if off = CAP_SAMPLE_COUNT then some (BitVec.ofNat 32 (s.cNow n))
  else if off = CAP_SAMPLE_COUNT + 4 then some (BitVec.ofNat 32 (s.cNow n / 2 ^ 32))
  else if off = CAP_CAP_STATUS then
    some (setF (s.rd (base (pCAP n) + CAP_CAP_STATUS)) CAP_CAP_STATUS_CLOCK_VALID (s.fg (base pCLK) CLK_PAGE_STATUS_CF_VALID))
  else none

/-- Live registers of a STRM page (R266, R267, R288). -/
def State.strmLive (s : State) (n off : Nat) : Option Word :=
  if off = STRM_ACQ_STATUS then some (setF (s.rd (base (pSTRM n) + STRM_ACQ_STATUS)) STRM_ACQ_STATUS_FILL_PCT (s.fillPct n))
  else if off = STRM_RING_FILL then some (BitVec.ofNat 32 (s.trc n).held.length)
  else if off = STRM_DEMAND then some (BitVec.ofNat 32 (s.demandLive n))
  else none

/-- What STEN.LATENCY shows: SPEC_CF follows N (R285, R289). -/
def State.stenLatency (s : State) (n : Nat) : Word :=
  setF (s.rd (base (pSTEN n) + STEN_LATENCY)) STEN_LATENCY_SPEC_CF (2 ^ (7 + s.fg (base (pSTEN n)) STEN_SP_CFG_NSIZE) + 96)

/-! ### The commands -/

/-- A meaning on capture channel `n`, after what is due on it. -/
def State.onCap (s : State) (n : Nat) (f : State → State) : Host.Outcome State Fault Refusal :=
  if n < s.variant.caps then .next (f (s.capDue n)) else .fault .noSuchBlock

/-- FRONT_END_SETTLED (R232). -/
def execFrontEndSettled (n : Nat) (s : State) : Host.Outcome State Fault Refusal :=
  s.onCap n (fun s => if s.fb (base (pCAP n)) HDR_PAGE_CTRL_EN then s.fs (base (pCAP n)) CAP_CAP_STATUS_SETTLED 1 else s)

/-- INPUT_OVERVOLT (R234). -/
def execInputOvervolt (n c : Nat) (s : State) : Host.Outcome State Fault Refusal := s.onCap n (·.protectEnter n c)

/-- PROTECT_EXIT (R234). -/
def execProtectExit (n c : Nat) (s : State) : Host.Outcome State Fault Refusal := s.onCap n (·.protectLeave n c)

/-- ADC_CLIP (R235): samples of which some clip. -/
def execAdcClip (n : Nat) (raw : List Int) (s : State) : Host.Outcome State Fault Refusal := s.onCap n (·.takeRaw n raw)

/-- TRIGGER_CANDIDATE (R245 to R250, R255): samples that complete one. -/
def execTriggerCandidate (n : Nat) (raw : List Int) (s : State) : Host.Outcome State Fault Refusal := s.onCap n (·.takeRaw n raw)

/-- TRIGGER_RECORD (R252, R262, R263, R265). -/
def execTriggerRecord (n : Nat) (s : State) : Host.Outcome State Fault Refusal := s.onCap n (·.triggerRecord n)

/-- TRIG_CONFIG_WRITE (R254). -/
def execTrigConfigWrite (o : Org) (addr : Nat) (w : Word) (s : State) : Host.Outcome State Fault Refusal :=
  .next (s.hostReg o addr w (fun t =>
    if 0x060 ≤ pageNo addr ∧ pageNo addr < 0x064 ∧ 0x100 ≤ addr % 4096 ∧ addr % 4096 < 0x118 then t.trigCfg o.sess (pageNo addr - 0x060) addr w
    else .error .address))

/-- AVG_FACTOR_CHANGE (R242, R244, R271). -/
def execAvgFactorChange (n : Nat) (s : State) : Host.Outcome State Fault Refusal := s.onCap n (·.factorChange n)

/-- ACQ_START (R259). -/
def execAcqStart (o : Org) (n : Nat) (s : State) : Host.Outcome State Fault Refusal :=
  .next (s.hostReg o (base (pSTRM n) + STRM_ACQ_CMD) 1#32 (fun t => (t.capDue n).acqStart n))

/-- ACQ_STOP (R259, R260). -/
def execAcqStop (o : Org) (n : Nat) (s : State) : Host.Outcome State Fault Refusal :=
  .next (s.hostReg o (base (pSTRM n) + STRM_ACQ_CMD) 2#32 (fun t => .ok ((t.capDue n).acqStop n)))

/-- ACQ_BEGIN (R237, R245, R259). -/
def execAcqBegin (n : Nat) (s : State) : Host.Outcome State Fault Refusal := s.onCap n (·.acqBeginDue n)

/-- REARM_INSTANT (R264). -/
def execRearmInstant (n : Nat) (s : State) : Host.Outcome State Fault Refusal := s.onCap n (·.rearm n)

/-- RECORD_END (R263). -/
def execRecordEnd (n : Nat) (s : State) : Host.Outcome State Fault Refusal := s.onCap n (·.recordEnd n)

/-- RING_ENABLE (R266). -/
def execRingEnable (o : Org) (n : Nat) (en : Bool) (s : State) : Host.Outcome State Fault Refusal :=
  .next (s.hostReg o (base (pSTRM n) + STRM_RING_CTRL) (BitVec.ofNat 32 (b2n en)) (fun t => (t.capDue n).ringEnable n en))

/-- BLOCK_CLOSE (R258, R268, R272, R273): of the samples brought so far. -/
def execBlockClose (n : Nat) (raw : List Int) (fifo : Bool) (s : State) : Host.Outcome State Fault Refusal :=
  s.onCap n (fun t => (t.takeRaw n raw).closeBlock n false fifo)

/-- BLOCK_FLUSH (R273). -/
def execBlockFlush (n : Nat) (raw : List Int) (fifo : Bool) (s : State) : Host.Outcome State Fault Refusal :=
  s.onCap n (fun t => (t.takeRaw n raw).closeBlock n true fifo)

/-- RATE_RAISE (R269). -/
def execRateRaise (n : Nat) (s : State) : Host.Outcome State Fault Refusal := s.onCap n (·.rateRaise n)

/-- RATE_LOWER (R270). -/
def execRateLower (n : Nat) (s : State) : Host.Outcome State Fault Refusal := s.onCap n (·.rateLower n)

/-- ACCT_LATCH (R276). -/
def execAcctLatch (o : Org) (n : Nat) (s : State) : Host.Outcome State Fault Refusal :=
  .next (s.hostReg o (base (pSTRM n) + STRM_ACCT_LATCH) 1#32 (fun t => .ok ((t.capDue n).acctLatch n)))

/-- TD_PASS_START (R278). -/
def execTdPassStart (n : Nat) (s : State) : Host.Outcome State Fault Refusal := s.onCap n (·.tdPass n)

/-- TD_VIOLATION (R279, R280, R284). -/
def execTdViolation (n : Nat) (raw : List Int) (s : State) : Host.Outcome State Fault Refusal :=
  s.onCap n (fun t => (t.takeRaw n raw).judgePass n)

/-- SPECTRAL_VERDICT (R281 to R286). -/
def execSpectralVerdict (n : Nat) (raw : List Int) (s : State) : Host.Outcome State Fault Refusal :=
  s.onCap n (fun t => ((t.takeRaw n raw).spectral n).streamNext n)

/-- STENCIL_MASK_WRITE (R277, R283): a vertex word, or a register that names a bank or its count. -/
def execStencilMaskWrite (o : Org) (addr : Nat) (w : Word) (s : State) : Host.Outcome State Fault Refusal :=
  .next (if 0x08700000 ≤ addr ∧ addr < 0x08750000 then
      s.hostMem o addr (fun t => if addr % 4 = 0 then t.maskWrite o.sess addr w else .error .address)
    else s.hostReg o addr w (fun t =>
      if 0x068 ≤ pageNo addr ∧ pageNo addr < 0x06C then t.stencilReg o.sess (pageNo addr - 0x068) (addr % 4096) w else .error .address))

end Sys2Proof.Machine
end

