-- ==== Sys2Proof/Machine/Calib.lean ====
section
/-! DEFINITION. Sys2Proof/Machine/Calib.lean: calibration and Burnish (spec/12_calibration_burnish.md). The live view of
R368 is the home of trims, estimator entries and proof model sets in effect. -/
namespace Sys2Proof.Machine
open Sys2Proof

/-- The calibration engine changed. -/
def State.updCal (s : State) (f : Cal → Cal) : State := { s with cal := f s.cal }

/-! ### Trims (R352 to R355) -/

/-- Capture channel `n`'s block of the live view. -/
def capCal (n : Nat) : Nat := calLive + 0x11000 + 0x1000 * n

/-- The current value of the trim at address `a`. -/
def State.trimCur (s : State) (a : Nat) : Nat := s.mbits a 15 0

/-- The target of the trim at address `a`. -/
def State.trimTgt (s : State) (a : Nat) : Nat := s.mbits a 31 16

/-- The greatest code of the trim at offset `o` of a block (R352). -/
def trimMax (cap : Bool) (o : Nat) : Nat := if !cap && decide (o < 8) then 4095 else 1023

/-- The range in force on a channel. -/
def State.rangeNow (s : State) (cap : Bool) (n : Nat) : Nat :=
  if cap then s.fg (base (pCAP n)) CAP_IN_CFG_RANGE else s.fg (base (pGEN n)) GEN_CHAIN_CTRL_RANGE

/-- The trims that Burnish moves on a channel: those of the range in force, and the proof slice trims (R353, R356). -/
def State.liveTrims (s : State) (cap : Bool) (n : Nat) : List Nat :=
  let r := s.rangeNow cap n
  if cap then (List.range 24).map (fun i => capCal n + 0x60 * r + 4 * i)
  else [genCal n, genCal n + 4, genCal n + 0x10 + 8 * r, genCal n + 0x14 + 8 * r]
    ++ (List.range 24).map (fun i => genCal n + 0x40 + 4 * i)

/-- A trim away from its target moves 1 LSB toward it (R356, R358). -/
def State.trimStep (s : State) (a : Nat) : State :=
  let c := s.trimCur a
  let t := s.trimTgt a
  if c = t then s
  else (s.setMbits a 15 0 (if c < t then c + 1 else c - 1)).count (base pCAL) CAL_STEP_COUNT_COUNT

/-- Every channel of the variant, generate channels first. -/
def State.calChans (s : State) : List (Bool × Nat) :=
  (List.range s.variant.gens).map (fun n => (false, n)) ++ (List.range s.variant.caps).map (fun n => (true, n))

/-- The translator of a channel's domain is valid (R32). -/
def State.xlatorValid (s : State) (cap : Bool) : Bool :=
  if cap then s.fb (base pCLK) CLK_PAGE_STATUS_CF_VALID else s.fb (base pCLK) CLK_PAGE_STATUS_GF_VALID

/-- A trim of generate channel `n` changes from stream sample `at_` on, `old` being its value before (R211, R212, R357). -/
def State.noteTrim (s : State) (n a at_ old : Nat) : State :=
  s.updProof n (fun p => { p with steps := { at_ := at_, off := a - genCal n, old := old } :: p.steps })

/-- A trim of a channel moves at a burnish boundary (R356 to R358): on a generate channel the step takes effect at sample 0 of the first
stroke issued at or after the boundary. -/
def State.burnishTrim (s : State) (cap : Bool) (n a : Nat) : State :=
  if cap || s.trimCur a == s.trimTgt a then s.trimStep a else (s.trimStep a).noteTrim n a (8 * s.gfFirst s.now) (s.trimCur a)

/-- One burnish boundary's steps (R356, R357). -/
def State.burnish (s : State) : State :=
  s.calChans.foldl (fun t c => if s.xlatorValid c.1 then (t.liveTrims c.1 c.2).foldl (fun u a => u.burnishTrim c.1 c.2 a) t else t) s

/-- The ticks between burnish boundaries (R356). -/
def State.burnishTicks (s : State) : Nat := 3000 * s.fg (base pCAL) CAL_BURNISH_INTERVAL_US

/-- The next burnish boundary: the first whole multiple of the interval from now on at which none has been carried out; a boundary that a
correction skipped acts at once (R356, R357). -/
def State.nextBoundary (s : State) : Nat :=
  if s.cal.skipped then s.now else cdiv (max s.now s.cal.stepped) s.burnishTicks * s.burnishTicks

/-! ### The page number and the notices of a channel -/

/-- The GEN or CAP page of a channel. -/
def chanPage (cap : Bool) (n : Nat) : Nat := if cap then pCAP n else pGEN n

/-- The channel exists. -/
def State.hasChan (s : State) (cap : Bool) (n : Nat) : Bool := decide (n < if cap then s.variant.caps else s.variant.gens)

/-! ### Estimators (R360 to R363) -/

/-- The address of estimator `e` of a channel, for a capture channel in range `r` (R368). -/
def estAddr (cap : Bool) (n e r : Nat) : Nat :=
  if cap then capCal n + 0x400 + 0x300 * r + 32 * e else genCal n + 0x800 + 32 * e

/-- The trim that an estimator drives, as an offset of the channel's block; none for MODEL and unused entries (R360). -/
def estTrim (cap : Bool) (e r : Nat) : Option Nat :=
  if cap then (if e < 24 then some (0x60 * r + 12 * (e % 8) + 4 * (e / 8)) else none)
  else if e = 0 then some 0
  else if e < 4 then some (0x10 + 8 * e)
  else if e = 4 then some 4
  else if e < 13 then some (0x40 + 12 * (e - 5))
  else if e < 21 then some (0x44 + 12 * (e - 13))
  else if e < 22 then none
  else if e < 26 then some (0x14 + 8 * (e - 22))
  else if e < 34 then some (0x48 + 12 * (e - 26))
  else none

/-- The record of the estimator whose entry is at `a`. -/
def State.estX (s : State) (a : Nat) : EstX :=
  (s.cal.ests.find? (fun x => x.addr == a)).getD { addr := a, discards := 0, lastAt := s.now, since := s.now }

/-- That record replaced. -/
def State.setEstX (s : State) (x : EstX) : State :=
  { s with cal := { s.cal with ests := x :: s.cal.ests.filter (fun y => y.addr != x.addr) } }

/-- The count of accepted blocks or bursts of the entry at `a`. -/
def State.estCount (s : State) (a : Nat) : Nat := s.mbits a 15 0

/-- The state of the entry at `a`: 0 EMPTY, 1 TRAINING, 2 CONVERGED, 3 FROZEN. -/
def State.estState (s : State) (a : Nat) : Nat := s.mbits a 31 28

/-- The estimate rounded to whole trim LSBs, ties away from zero. -/
def estRound (e : Int) : Int := if 0 ≤ e then (e + 128) / 256 else -((-e + 128) / 256)

/-- A target moved by an estimate (R362): clamped to the code range, with TRIM_LIMIT. -/
def State.moveTarget (s : State) (cap : Bool) (n e r : Nat) (est : Int) : State :=
  match estTrim cap e r with
  | none => s
  | some o =>
    let a := (if cap then capCal n else genCal n) + o
    let want : Int := (s.trimTgt a : Int) + estRound est
    let top := trimMax cap o
    if want < 0 ∨ (top : Int) < want then
      (s.setMbits a 31 16 (if want < 0 then 0 else top)).notify
        (s.note pCAL 0 (chanPage cap n + 256 * e + 65536 * r) (ofSigned 32 want))
    else s.setMbits a 31 16 want.toNat

/-- The blocks since device time `since` span a time when Atelier was unavailable (R362). -/
def State.spansGap (s : State) (since : Nat) : Bool :=
  match s.cal.atelierGap with
  | some g => decide (since ≤ g)
  | none => false

/-- A block or burst accepted by an estimator (R361, R362, R366), `need` being the number that make an update: whether the estimator
updates now, and the state after. While Atelier is unavailable updates pause: nothing is counted (R21). -/
def State.estAccept (s : State) (a : Nat) (est : Int) (var need : Nat) : Bool × State :=
  if !s.atelier then (false, s) else
  let x := s.estX a
  let since := if s.estCount a = 0 then s.now else x.since
  let st := if s.estState a = 2 then 2 else 1
  let n := s.estCount a + 1
  let t := (((s.setMbits a 31 28 st).setMbits a 15 0 n).stw (a + 4) (ofSigned 32 est)).stw (a + 8) var
  let t := t.setEstX { addr := a, discards := 0, lastAt := s.now, since := since }
  if n < need then (false, t)
  else if s.spansGap since then (false, t.setMbits a 15 0 0)
  else (true, (t.setMbits a 15 0 0).setMbits a 31 28 (if est.natAbs < 192 then 2 else 1))

/-- A block discarded (R361): 16 in a row freeze the estimator. -/
def State.estDiscard (s : State) (a : Nat) : State :=
  let x := s.estX a
  let t := (s.count (base pCAL) CAL_FROZEN_BLOCK_COUNT_COUNT).setEstX { x with discards := x.discards + 1 }
  if 16 ≤ x.discards + 1 then t.setMbits a 31 28 3 else t

/-- What the word at address `a` of the live view reads: word 3 of an estimator entry counts the seconds since its last
accepted block; the blocks of absent channels read 0; the header holds its Reset column (R368). -/
def State.calWord (s : State) (a : Nat) : Nat :=
  let o := a - calLive
  if o = 0 then 0x01000000 + s.variant.gens * 65536 + s.variant.caps * 256
  else if o < 0x1000 then 0
  else if o < 0x11000 ∧ s.variant.gens ≤ (o - 0x1000) / 0x1000 then 0
  else if 0x11000 ≤ o ∧ s.variant.caps ≤ (o - 0x11000) / 0x1000 then 0
  else if o % 32 = 12 then
    match s.cal.ests.find? (fun x => x.addr + 12 == a) with
    | some x => min 0xFFFFFFFF ((s.now - x.lastAt) / 3000000000)
    | none => s.ldw a
  else s.ldw a

/-! ### Proof model sets (R205 to R207, R363) -/

/-- Coefficient word `k` of set `m`, where the window 0x0866_0000 shows it (R205, R368). -/
def coefAddr (n m k : Nat) : Nat := modelAddr n m + 0x20 + 4 * k

/-- The address of word `i` of a set: header, record and nominal effects, then the coefficients. -/
def modelWordAddr (n m i : Nat) : Nat := if i < 4 then modelAddr n m + 4 * i else coefAddr n m (i - 4)

/-- Word `i` of a set as it is kept: a coefficient is a 20-bit value, sign-extended (R205). -/
def PendingModel.word (p : PendingModel) (i : Nat) : Nat := if i < 4 then p.words.getD i 0 else ofSigned 32 (sext 20 (p.words.getD i 0))

/-- The words of a set, written. -/
def State.writeModel (s : State) (p : PendingModel) : State :=
  (List.range 52).foldl (fun t i => t.stw (modelWordAddr p.gen p.set_ i) (p.word i)) s

/-- The 52 words of set `m` of channel `n`. -/
def State.modelWords (s : State) (n m : Nat) : List Nat := (List.range 52).map (fun i => s.ldw (modelWordAddr n m i))

/-- A set takes effect from stream sample `from_` on, counted in MODEL_VER (R206); the set as it stood serves the samples before. -/
def State.takeModel (s : State) (from_ : Nat) (p : PendingModel) : State :=
  let t := s.updProof p.gen (fun q => { q with olds := { until_ := from_, set_ := p.set_, words := s.modelWords p.gen p.set_ } :: q.olds })
  (t.writeModel p).fs (base (pGEN p.gen)) GEN_PROOF_STATUS_MODEL_VER (t.fg (base (pGEN p.gen)) GEN_PROOF_STATUS_MODEL_VER + 1)

/-- The model sets that wait for channel `n` take effect from stream sample `from_` on, and the comparator uses them from GF cycle
`c` on (R206, R209). -/
def State.modelsTake (s : State) (n from_ c : Nat) : State :=
  let t := (s.cal.models.filter (fun p => p.gen == n)).foldl (fun u p => u.takeModel from_ p) s
  ({ t with cal := { t.cal with models := t.cal.models.filter (fun p => p.gen != n) } }).logChainAt n c

/-- A scenario plays on channel `n` (R206). -/
def State.inTenure (s : State) (n : Nat) : Option Tenure := (s.proof n).tenures.find? (fun e => e.to_.isNone)

/-- Sets installed or restored on channel `n`: while no scenario plays there, in the next GF cycle, else with its next window (R206).
The residual of a stream sample is formed 168 GF cycles after the issue of its stroke (R204). -/
def State.installModels (s : State) (n : Nat) (l : List PendingModel) : State :=
  let t := { s with cal := { s.cal with models := s.cal.models.filter (fun p => !(l.any (fun q => q.gen == p.gen && q.set_ == p.set_))) ++ l } }
  if (s.inTenure n).isSome then t else t.modelsTake n (8 * (s.gfNow - 168)) s.gfNow

/-- Every valid flag of every generate channel cleared (R207). -/
def State.clearModels (s : State) : State :=
  (List.range s.variant.gens).foldl (fun t n =>
    ((List.range 8).foldl (fun u m => u.setMbits (modelAddr n m) 31 31 0) t).logChain n) s

/-- The candidate of an estimator block as the set in force (R363). -/
def State.candidate (s : State) (n : Nat) (b : EstBlock) : PendingModel :=
  let r := s.rangeNow false n
  { gen := n, set_ := s.modelSet n,
    words := (0x80000000 + s.trimCur (genCal n) * 65536 + s.trimCur (genCal n + 4))
      :: s.trimCur (genCal n + 0x10 + 8 * r) :: b.nomGain :: b.nomOffset :: b.coefs }

/-! ### The end of an estimator block -/

/-- The excitation that estimator `e` requires (R360). -/
def State.excited (s : State) (cap : Bool) (e : Nat) (b : EstBlock) : Bool :=
  let lim := 256 * (if cap then s.fg (base pCAL) CAL_EST_CFG_CAP_EXCITE else s.fg (base pCAL) CAL_EST_CFG_GEN_EXCITE)
  if cap then (if e < 8 then true else decide (b.level ≤ lim))
  else if 4 ≤ e ∧ e < 13 then true
  else if e = 21 then decide (b.level ≤ lim) && decide (4 ≤ b.bands)
  else decide (b.level ≤ lim)

/-- The estimator takes blocks on this channel now: amplitude estimators, of the range in force, enabled, on a powered
block, a capture channel's while it acquires (R353, R360, R485). -/
def State.estTakes (s : State) (cap : Bool) (n e r : Nat) : Bool :=
  s.fb (base (chanPage cap n)) HDR_PAGE_CTRL_EN &&
  (if cap then s.fb (base pCAL) CAL_CAP_CTRL_EST_EN n && s.fb (base (pSTRM n)) STRM_ACQ_STATUS_ACQUIRING && decide (e < 16)
      && decide (r = s.rangeNow true n)
    else s.fb (base pCAL) CAL_GEN_CTRL_EST_EN n && decide (e < 22) && (decide (4 ≤ e) || decide (e = s.rangeNow false n)))

/-- An estimator block of a channel ends (R361 to R363). -/
def State.estBlock (s : State) (cap : Bool) (n e r : Nat) (b : EstBlock) : State :=
  let a := estAddr cap n e r
  if !s.estTakes cap n e r then s
  else if 2 * b.usable < 2 ^ 20 || !s.excited cap e b then s.estDiscard a
  else
    let q := s.estAccept a b.est b.var (s.fg (base pCAL) CAL_EST_CFG_ACCEPT_N)
    if !q.1 then q.2
    else if !cap && e == 21 then
      (if b.better || !s.modelValid n (s.modelSet n) then q.2.installModels n [s.candidate n b] else q.2)
    else if 192 ≤ b.est.natAbs then q.2.moveTarget cap n e r b.est
    else q.2

/-! ### Timing bursts (R364 to R367) -/

/-- At least `need` strokes of the step in progress on Graver `g` remain as planned (R364). -/
def State.stepLasts (s : State) (g need : Nat) : Bool :=
  let e := s.entryNow g
  if e.advance = 0 then e.repeat_ == 0 ||
    decide (need ≤ (e.repeat_ - s.fg (gBase g) GRV_PASS_NOW_PASS) * s.passStrokes e - (s.grv g).pos)
  else if e.advance = 3 then decide ((s.grv g).cycle + need ≤ s.gfFirst (s.grv g).until_)
  else false

/-- Raw samples of channel `n`'s acquisition by which REARM dead time may hold a burst still to begin (R365): a record has ended, the next
has not begun, and its cycle 2 has not yet reached the trigger unit. -/
def State.deadGap (s : State) (n : Nat) : Bool :=
  s.acqMode n == 2 && (s.trc n).record.isNone && decide (0 < (s.trc n).records) && decide ((s.trc n).seen ≤ cdiv (s.trc n).prevEnd 8 + 2)

/-- The gap is eligible for a burst on the channel (R364, R365). -/
def State.gapOk (s : State) (cap : Bool) (n : Nat) (gap : BurstGap) : Bool :=
  let g := base (pGEN n)
  match gap with
  | .quiet => !cap && s.fb (base pCAL) CAL_GEN_CTRL_QUIET_GAP n && s.playing n && (s.entryNow n).quiet
      && s.stepLasts n (4096 + (s.gfNow - (s.grv n).cycle))
  | .idleTerm => !cap && s.fb (base pCAL) CAL_GEN_CTRL_IDLE_TERM_GAP n && !s.playing n
      && (!s.fb g GEN_CHAIN_CTRL_OUT_EN || s.fb g GEN_MUTE_CTRL_MUTED)
  | .idleOpen => !cap && s.fb (base pCAL) CAL_GEN_CTRL_IDLE_OPEN_GAP n && !s.playing n
      && s.fb g GEN_CHAIN_CTRL_OUT_EN && !s.fb g GEN_MUTE_CTRL_MUTED
  | .deadTime => cap && s.fb (base pCAL) CAL_CAP_CTRL_DEAD_GAP n && s.fb (base (pSTRM n)) STRM_ACQ_STATUS_ACQUIRING
      && !s.fb (base (pSTEN n)) STEN_TD_CFG_EN && !s.fb (base (pSTEN n)) STEN_SP_CFG_EN && s.deadGap n
  | .notAcquiring => cap && s.fb (base pCAL) CAL_CAP_CTRL_IDLE_TERM_GAP n && !s.fb (base (pSTRM n)) STRM_ACQ_STATUS_ACQUIRING

/-- Timing bursts are enabled on the channel, and the cadence allows one (R364, R365). -/
def State.burstDue (s : State) (cap : Bool) (n : Nat) (gap : BurstGap) : Bool :=
  (if cap then s.fb (base pCAL) CAL_CAP_CTRL_TIMING_EN n else s.fb (base pCAL) CAL_GEN_CTRL_TIMING_EN n)
    && (decide (gap = .deadTime) || match s.cal.lastReq.find? (fun e => e.1 == chanPage cap n) with
      | some e => decide (e.2 + 3000000 * s.fg (base pCAL) CAL_TIMING_CFG_CADENCE_MS ≤ s.now)
      | none => true)

/-- The device time at which the last cycle of a burst that begins now ends: 4,096 strokes, the CF cycles 2 to 13 after the record, or 256
CF cycles (R364, R365). -/
def State.burstUntil (s : State) (cap : Bool) (n : Nat) (gap : BurstGap) : Nat :=
  if !cap then cdiv (s.gfTime (s.gfNow + 4096)) (2 ^ 40)
  else if gap = .deadTime then s.cycTick n (cdiv (s.trc n).prevEnd 8 + 14)
  else cdiv (s.cfTime (s.cfFirst (s.now + 1) + 256)) (2 ^ 40)

/-- A burst begins in an eligible gap: on a generate channel its pattern goes into the line from the next GF cycle on (R364), and a
dead-time burst is what the trigger unit hears (R365). -/
def State.burstStart (s : State) (cap : Bool) (n : Nat) (gap : BurstGap) : State :=
  let p := chanPage cap n
  if s.xlatorValid cap && s.gapOk cap n gap && s.burstDue cap n gap && !s.cal.bursts.any (fun e => e.1 == p) then
    let t := s.updCal (fun c =>
      { c with bursts := (p, s.burstUntil cap n gap) :: c.bursts, lastReq := (p, s.now) :: c.lastReq.filter (fun e => e.1 != p) })
    if !cap then t.updGen n (fun g =>
      { g with bursts := { from_ := s.gfNow, gap := gap, term := gap != .quiet && s.fb (base pCAL) CAL_GEN_CTRL_IDLE_TERM_GAP n } :: g.bursts })
    else if gap = .deadTime then t.updTrc n (fun v => { v with hush := some (cdiv v.prevEnd 8) })
    else t
  else s

/-- The last burst of a channel has kept its gap to its end (R364, R371): every stroke of it carries the pattern. -/
def State.burstWhole (s : State) (cap : Bool) (n : Nat) : Bool :=
  cap || (match (s.gen n).bursts with
    | b :: _ => s.burstCovers n (b.from_ + 4095) b
        && (b.gap == .quiet || (s.lineNow n).all (fun r => decide (r.cycle + r.strokes ≤ b.from_ ∨ b.from_ + 4096 ≤ r.cycle)))
        && (b.term || !(s.gen n).ctrl.any (fun e => e.muted && decide (b.from_ ≤ e.cycle ∧ e.cycle < b.from_ + 4096)))
    | [] => false)

/-- One skew estimator counts an accepted burst (R366). -/
def State.skewCount (s : State) (cap : Bool) (n : Nat) (k : SkewEst) : State :=
  let ok := if cap then decide (16 ≤ k.e ∧ k.e < 24 ∧ k.r = s.rangeNow true n)
    else decide (22 ≤ k.e ∧ k.e < 34) && (decide (26 ≤ k.e) || decide (k.e - 22 = s.rangeNow false n))
  if !ok then s
  else
    let q := s.estAccept (estAddr cap n k.e k.r) k.est k.var (s.fg (base pCAL) CAL_TIMING_CFG_TIMING_N)
    if q.1 && decide (192 ≤ k.est.natAbs) then q.2.moveTarget cap n k.e k.r k.est else q.2

/-- A burst in progress ends (R364, R366, R367): one whose gap ended before its last stroke is abandoned. -/
def State.burstEnd (s : State) (cap : Bool) (n : Nat) (r : BurstEnd) : State :=
  let p := chanPage cap n
  match s.cal.bursts.find? (fun e => e.1 == p) with
  | none => s
  | some e =>
    let t := { s with cal := { s.cal with bursts := s.cal.bursts.filter (fun e => e.1 != p) } }
    let gone (u : State) : State := u.count (base pCAL) CAL_BURST_ABANDON_COUNT_COUNT
    match r with
    | .abandoned => gone t
    | .completed d ests =>
      let t := { t with now := max t.now e.2 }
      if !t.burstWhole cap n then gone t else
      let t := t.count (base pCAL) CAL_BURST_COUNT_COUNT
      let t := if cap then (t.fs (base pCAL) CAL_CAP_CLOCK_PATH_DELAY d n).fs (base pCAL) CAL_CAP_STATUS_STARVED 0 n
        else (t.fs (base pCAL) CAL_GEN_CLOCK_PATH_DELAY d n).fs (base pCAL) CAL_GEN_STATUS_STARVED 0 n
      let t := t.updCal (fun c =>
        { c with starving := c.starving.filter (· != p), lastBurst := (p, s.now) :: c.lastBurst.filter (fun e => e.1 != p) })
      ests.foldl (fun u k => u.skewCount cap n k) t

/-- STARVE_S seconds have passed without a burst (R367). -/
def State.starved (s : State) (cap : Bool) (n : Nat) : State :=
  let p := chanPage cap n
  let en := if cap then s.fb (base pCAL) CAL_CAP_CTRL_TIMING_EN n else s.fb (base pCAL) CAL_GEN_CTRL_TIMING_EN n
  if !en || s.cal.starving.contains p then s
  else
    let last := ((s.cal.lastBurst.find? (fun e => e.1 == p)).map (·.2)).getD s.cal.began
    let s := { s with now := max s.now (last + 3000000000 * s.fg (base pCAL) CAL_TIMING_CFG_STARVE_S) }
    let t := if cap then s.fs (base pCAL) CAL_CAP_STATUS_STARVED 1 n else s.fs (base pCAL) CAL_GEN_STATUS_STARVED 1 n
    ({ t with cal := { t.cal with starving := p :: t.cal.starving } }).notify
      (s.note pCAL 1 p ((s.now - last) / 3000000000))

/-! ### Snapshot and restore (R368 to R370) -/

/-- The address at which session `k`'s own view of a per-session window is kept. -/
def sesMem (k a : Nat) : Nat := a + k * 2 ^ 56

/-- Session `k`'s snapshot view. -/
def snapView (k : Nat) : Nat := sesMem k 0x08780000

/-- Session `k`'s staging view. -/
def stageView (k : Nat) : Nat := sesMem k 0x087A0000

/-- The CRC-32 of the image at `a`, its CRC word taken as 0 (R368). -/
def State.imageCrc (s : State) (a : Nat) : Nat :=
  (List.range 0x15000).foldl (fun c i => crcByte c (if 0x3C ≤ i ∧ i < 0x40 then 0 else (s.mb (a + i)).toNat)) 0xFFFFFFFF
    ^^^ 0xFFFFFFFF

/-- The words of a block of the live view copied to `to`. -/
def State.copyBlock (s : State) (from_ dst : Nat) : State :=
  (List.range 1024).foldl (fun t i => t.stw (dst + 4 * i) (s.calWord (from_ + 4 * i))) s

/-- The module's serial number (R498). -/
def State.serial (s : State) : Nat := s.rd64 (base pDEV + DEV_SERIAL)

/-- One TAKE carried out for session `k` (R369). The tile temperature is a measured value. -/
def State.takeNow (s : State) (k sg sc : Nat) : State :=
  let v := snapView k
  let t := s.zero v 0x15000
  let gs := (List.range s.variant.gens).filter (fun n => bit sg n)
  let cs := (List.range s.variant.caps).filter (fun n => bit sc n)
  let t := gs.foldl (fun u n => u.copyBlock (genCal n) (v + 0x1000 + 0x1000 * n)) t
  let t := cs.foldl (fun u n => u.copyBlock (capCal n) (v + 0x11000 + 0x1000 * n)) t
  let t := t.stw v (s.calWord calLive)
  let t := t.stw (v + 4) (gs.foldl (fun m n => m + 2 ^ n) 0 + 65536 * cs.foldl (fun m n => m + 2 ^ n) 0)
  let t := (((t.st (v + 8) s.now 8).st (v + 0x10) s.genRate 8).st (v + 0x18) s.capRate 8).stw (v + 0x20) (s.free 0x120 % 65536)
  let t := (t.st (v + 0x24) s.serial 8).bump
  let t := t.stw (v + 0x3C) (t.imageCrc v)
  (((t.fs (sbase k pCAL) CAL_CMD_STATUS_BUSY 0).fs (sbase k pCAL) CAL_CMD_STATUS_RESULT 0).fs (sbase k pCAL)
    CAL_CMD_STATUS_OP 1).notifyTo k (t.note pCAL 2)

/-- The checks of a restore by session `k`, in the order of R370. -/
def State.restoreCheck (s : State) (k : Nat) (immediate : Bool) (parts : Nat) : Code :=
  let v := stageView k
  let gs := (List.range 16).filter (fun n => bit (s.ldw (v + 4)) n)
  let cs := (List.range 4).filter (fun n => bit (s.ldw (v + 4)) (16 + n))
  let rate := s.ld (v + 0x10) 8
  if s.mbits v 31 24 ≠ 1 ∨ s.ldw (v + 0x3C) ≠ s.imageCrc v then .image
  else if s.ld (v + 0x24) 8 ≠ s.serial ∨ s.mbits v 23 16 ≠ s.variant.gens ∨ s.mbits v 15 8 ≠ s.variant.caps then .image
  else if gs.any (fun n => !s.owns k (pGEN n)) || cs.any (fun n => !s.owns k (pCAP n)) then .owner
  else if bit parts 1 ∧ 50 * s.genRate < ((rate : Int) - (s.genRate : Int)).natAbs * 1000000 then .rate
  else if immediate && (gs.any (fun n => s.playing n) || cs.any (fun n => s.fb (base (pSTRM n)) STRM_ACQ_STATUS_ACQUIRING)) then
    .state
  else .ok

/-- One trim word of a channel restored: the image's current value becomes the target, and under IMMEDIATE the current value too, from the
next stroke on. -/
def State.restoreTrim (s : State) (cap : Bool) (n from_ dst top : Nat) (immediate : Bool) : State :=
  let c := s.mbits from_ 15 0 % (top + 1)
  let t := s.setMbits dst 31 16 c
  if !immediate then t
  else if cap || s.trimCur dst == c then t.setMbits dst 15 0 c
  else (t.setMbits dst 15 0 c).noteTrim n dst (8 * s.gfNow) (s.trimCur dst)

/-- The image's estimator entries copied, their seconds counted on from the image's. -/
def State.restoreEsts (s : State) (from_ dst n : Nat) : State :=
  (List.range n).foldl (fun t e =>
    let u := (List.range 8).foldl (fun w i => w.stw (dst + 32 * e + 4 * i) (s.ldw (from_ + 32 * e + 4 * i))) t
    u.setEstX { addr := dst + 32 * e, discards := 0, lastAt := s.now - 3000000000 * s.ldw (from_ + 32 * e + 12), since := s.now }) s

/-- An accepted restore by session `k` (R370). -/
def State.restoreDo (s : State) (k : Nat) (immediate : Bool) (parts : Nat) : State :=
  let v := stageView k
  let gs := (List.range s.variant.gens).filter (fun n => bit (s.ldw (v + 4)) n)
  let cs := (List.range s.variant.caps).filter (fun n => bit (s.ldw (v + 4)) (16 + n))
  let gb (n : Nat) : Nat := v + 0x1000 + 0x1000 * n
  let cb (n : Nat) : Nat := v + 0x11000 + 0x1000 * n
  let offs := [0, 4] ++ (List.range 8).map (fun i => 0x10 + 4 * i) ++ (List.range 24).map (fun i => 0x40 + 4 * i)
  let t := if bit parts 0 then
      let u := gs.foldl (fun w n => offs.foldl (fun x o => x.restoreTrim false n (gb n + o) (genCal n + o) (trimMax false o) immediate) w) s
      cs.foldl (fun w n => (List.range 96).foldl (fun x i => x.restoreTrim true n (cb n + 4 * i) (capCal n + 4 * i) 1023 immediate) w) u
    else s
  let t := if bit parts 2 then
      let u := gs.foldl (fun w n => w.restoreEsts (gb n + 0x800) (genCal n + 0x800) 34) t
      cs.foldl (fun w n => (List.range 4).foldl (fun x r => x.restoreEsts (cb n + 0x400 + 0x300 * r) (capCal n + 0x400 + 0x300 * r) 24) w) u
    else t
  if bit parts 1 then
    gs.foldl (fun w n => w.installModels n ((List.range 8).map (fun m =>
      { gen := n, set_ := m, words := (List.range 52).map (fun i =>
          s.ldw (gb n + 0x100 + 0xE0 * m + (if i < 4 then 4 * i else 0x20 + 4 * (i - 4)))) }))) t
  else t

/-- CAL.CMD written: RESTORE is judged and carried out; TAKE waits for the burnish boundary (R369, R370). -/
def State.calCmd (s : State) (k op : Nat) (immediate : Bool) (parts sg sc : Nat) : Act :=
  if s.fb (sbase k pCAL) CAL_CMD_STATUS_BUSY then .error .busy
  else if op = 1 then
    .ok ({ s with cal := { s.cal with takes := s.cal.takes ++ [(k, sg, sc)] } }.fs (sbase k pCAL) CAL_CMD_STATUS_BUSY 1)
  else if op = 2 then
    let c := s.restoreCheck k immediate parts
    let t := if c = .ok then s.restoreDo k immediate parts else s
    let t := (t.fs (sbase k pCAL) CAL_CMD_STATUS_RESULT c.num).fs (sbase k pCAL) CAL_CMD_STATUS_OP 2
    .ok (t.notifyTo k (if c = .ok then s.note pCAL 3 else s.note pCAL 4 c.num))
  else .error .format

/-- What GENn_STATUS or CAPn_STATUS shows: the estimators CONVERGED and FROZEN, and whether a trim in force moves
(R372). -/
def State.calStatusLive (s : State) (cap : Bool) (n : Nat) : Word :=
  let f (g c : Field) : Field := if cap then c else g
  let es := if cap then (List.range 96).map (fun i => estAddr true n (i % 24) (i / 24)) else (List.range 34).map (fun e => estAddr false n e 0)
  let cnt (st : Nat) : Nat := (es.filter (fun a => s.estState a == st)).length
  let w := s.rd (base pCAL + (if cap then CAL_CAP_STATUS n else CAL_GEN_STATUS n))
  let w := setF (setF w (f CAL_GEN_STATUS_CONVERGED CAL_CAP_STATUS_CONVERGED) (cnt 2)) (f CAL_GEN_STATUS_FROZEN CAL_CAP_STATUS_FROZEN) (cnt 3)
  setF w (f CAL_GEN_STATUS_MOVING CAL_CAP_STATUS_MOVING)
    (b2n ((s.liveTrims cap n).any (fun a => s.trimCur a != s.trimTgt a)))

/-! ### The commands -/

/-- A meaning on a channel that must exist. -/
def State.onChan (s : State) (cap : Bool) (n : Nat) (t : State) : Host.Outcome State Fault Refusal :=
  if s.hasChan cap n then .next t else .fault .noSuchBlock

/-- ESTIMATOR_BLOCK (R361 to R363). -/
def execEstimatorBlock (cap : Bool) (n e r : Nat) (b : EstBlock) (s : State) : Host.Outcome State Fault Refusal :=
  s.onChan cap n (s.estBlock cap n e r b)

/-- TIMING_BURST (R364, R365). -/
def execTimingBurst (cap : Bool) (n : Nat) (gap : BurstGap) (s : State) : Host.Outcome State Fault Refusal :=
  s.onChan cap n (s.burstStart cap n gap)

/-- TIMING_BURST_END (R364, R366, R367). -/
def execTimingBurstEnd (cap : Bool) (n : Nat) (r : BurstEnd) (s : State) : Host.Outcome State Fault Refusal :=
  s.onChan cap n (s.burstEnd cap n r)

/-- TIMING_CAL_STARVED (R367). -/
def execTimingCalStarved (cap : Bool) (n : Nat) (s : State) : Host.Outcome State Fault Refusal :=
  s.onChan cap n (s.starved cap n)

/-- TAKE (R369). -/
def execTake (o : Org) (scopeGen scopeCap : Nat) (s : State) : Host.Outcome State Fault Refusal :=
  .next (s.hostReg o (base pCAL + CAL_CMD) (BitVec.ofNat 32 (0x10000000 + scopeCap % 16 * 2 ^ 20 + scopeGen % 65536))
    (fun t => t.calCmd o.sess 1 false 0 scopeGen scopeCap))

/-- RESTORE (R370). -/
def execRestore (o : Org) (immediate : Bool) (parts : Nat) (s : State) : Host.Outcome State Fault Refusal :=
  .next (s.hostReg o (base pCAL + CAL_CMD) (BitVec.ofNat 32 (0x20000000 + b2n immediate * 2 ^ 27 + parts % 8 * 2 ^ 24))
    (fun t => t.calCmd o.sess 2 immediate parts 0 0))

end Sys2Proof.Machine
end

