-- ==== Sys2Proof/Machine/Proof.lean ====
section
/-! DEFINITION. Sys2Proof/Machine/Proof.lean: the proof path (spec/07_proof_path.md): the residual, the proof stencil's
arithmetic, the fault detectors, the self-test and the residual snapshot. -/
namespace Sys2Proof.Machine
open Sys2Proof

/-! ### The samples of the comparator (R202 to R204) -/

/-- Stream samples are numbered 8 to a GF cycle of issue: sample `a` belongs to the stroke of GF cycle `a / 8`. Proof samples fall on
the even ones, and the residual of one is formed 168 GF cycles after that stroke's issue (R204). -/
def residCycle (a : Nat) : Nat := a / 8 + 168

/-- The self-test that renders stream sample `a`, if one does (R224). -/
def State.testAt (s : State) (n a : Nat) : Bool :=
  (s.proof n).selfTests.any (fun e => decide (e.from_ ≤ a / 8) && (match e.to_ with | some c => decide (a / 8 < c) | none => true))

/-- Stream sample `a` as the comparator takes it, at the fine delay's output (R203): during a self-test the internal signal, whose samples
the manual leaves open (R224; assumption log, entry 145). -/
def State.proofStream (s : State) (n : Nat) (a : Int) : Int :=
  if 0 ≤ a ∧ s.testAt n a.toNat then sext 16 (Config.freeValue a.toNat (145 + 2 ^ 20 * n)) else s.streamAt n a

/-- What the proof ADC has brought at sample `i` of those that a command brings; one that it does not bring is a free value (assumption
log, entry 146). -/
def State.measAt (s : State) (n a : Nat) (l : List ProofSample) (i : Nat) : ProofSample :=
  match l[i]? with
  | some p => p
  | none => { meas := Config.freeValue a (146 + 2 ^ 20 * n + s.fresh * 2 ^ 40) % 4096, burst := 0 }

/-! ### The residual (R203, R208, R211) -/

/-- Division by 2^20 rounded to nearest, ties away from zero. -/
def round20 (v : Int) : Int := if 0 ≤ v then (v + 524288) / 1048576 else -((-v + 524288) / 1048576)

/-- What acts on the comparator of channel `n` when the residual of stream sample `a` is formed (R205, R209). -/
def State.proofSet (s : State) (n a : Nat) : ChainSet :=
  ((s.gen n).ctrl.find? (fun e => decide (e.cycle ≤ residCycle a))).getD { cycle := 0, muted := true, idle := 0, fill := 2, active := false, model := 3 }

/-- Word `i` of set `m` as it stood at stream sample `a` (R206): that of the first change after it, or the present one. -/
def State.modelWordAt (s : State) (n m a i : Nat) : Nat :=
  match ((s.proof n).olds.filter (fun e => e.set_ == m && decide (a < e.until_))).getLast? with
  | some e => e.words.getD i 0
  | none => s.ldw (modelWordAddr n m i)

/-- Coefficient `k` of set `m` of channel `n` at stream sample `a`, 20-bit two's complement (R203). -/
def State.coef (s : State) (n m a k : Nat) : Int := sext 20 (s.modelWordAt n m a (k + 4))

/-- The model's sum over the 48 stream samples that end at `a` (R203). -/
def State.modelSum (s : State) (n m a : Nat) : Int :=
  round20 ((List.range 48).foldl (fun (v : Int) (k : Nat) => v + s.coef n m a k * s.proofStream n ((a : Int) - k)) 0)

/-- The trim at offset `o` of channel `n`'s block as stream sample `a` carries it (R211, R357). -/
def State.trimAt (s : State) (n o a : Nat) : Nat :=
  match ((s.proof n).steps.filter (fun e => e.off == o && decide (a < e.at_))).getLast? with
  | some e => e.old
  | none => s.trimCur (genCal n + o)

/-- The trim mirror M at stream sample `a` (R211): the model output itself where the mirrored trims stand at the values recorded with the
set, and scaled and offset by an amount the manual gives no formula of otherwise (assumption log, entry 25). -/
def State.mirror (s : State) (n m a : Nat) (x : Int) : Int :=
  let hdr := s.modelWordAt n m a 0
  let dg : Int := (s.trimAt n 0 a : Int) - bits hdr 27 16
  let d0 : Int := (s.trimAt n 4 a : Int) - bits hdr 11 0
  let dr : Int := (s.trimAt n (0x10 + 8 * (m % 4)) a : Int) - bits (s.modelWordAt n m a 1) 9 0
  if dg = 0 ∧ d0 = 0 ∧ dr = 0 then x else Config.mirror [dg, d0, dr, s.modelWordAt n m a 2, s.modelWordAt n m a 3] x

/-- The expected value at stream sample `a`, in 1/4 LSB (R203); within a timing burst the OCXO's wave is added (R364). -/
def State.expected (s : State) (n a : Nat) (p : ProofSample) : Int :=
  let m := (s.proofSet n a).model
  clampI (-8191) 8191 (s.mirror n m a (s.modelSum n m a))
    + (if (s.gen n).bursts.any (fun b => s.burstCovers n (a / 8) b) then p.burst else 0)

/-- The residual at stream sample `a`, in 1/4 LSB (R208). -/
def State.residual (s : State) (n a : Nat) (p : ProofSample) : Int :=
  clampI (-32768) 32767 (4 * sext 12 p.meas - s.expected n a p)

/-! ### The flags of a residual (R209, R210) -/

/-- SKIP: the residual is formed while the comparator is not active, or within the 48 stream samples after it became active (R209;
assumption log, entry 147). -/
def State.skipAt (s : State) (n a : Nat) : Bool :=
  (List.range 7).any (fun i => !(s.proofSet n (a - 8 * i)).active)

/-- The stroke of GF cycle `c` is filled, idle, replaced by a late jump or within a timing burst (R210, R364). -/
def State.notIntended (s : State) (n c : Nat) : Bool :=
  (s.issued n c).isNone || (s.grv n).fills.any (fun f => decide (f.cycle ≤ c ∧ c < f.cycle + f.strokes))
    || (s.gen n).bursts.any (fun b => s.burstCovers n c b)

/-- FILL: one of the 48 stream samples belongs to such a stroke, COARSE counted (R60, R210). -/
def State.fillAt (s : State) (n a : Nat) : Bool :=
  (List.range 48).any (fun k => s.notIntended n ((a - k - s.fg (base (pGEN n)) GEN_DELAY_COARSE) / 8))

/-- A trim of the channel's block that the mirror follows, model set `m` being in force (R211). -/
def mirrored (m o : Nat) : Bool := o == 0 || o == 4 || o == 0x10 + 8 * (m % 4)

/-- A trim in force of the channel's block that it does not follow (R212). -/
def unmirrored (m o : Nat) : Bool := o == 0x14 + 8 * (m % 4) || decide (0x40 ≤ o)

/-- TRIM: the mirror changed at this proof sample, or an unmirrored trim stepped within its 48 stream samples (R210). -/
def State.trimFlagAt (s : State) (n a : Nat) : Bool :=
  let m := (s.proofSet n a).model
  (s.proof n).steps.any (fun e => (mirrored m e.off && decide (a ≤ e.at_ + 1 ∧ e.at_ ≤ a)) || (unmirrored m e.off && decide (e.at_ ≤ a ∧ a ≤ e.at_ + 47)))

/-- CLIP: an ADC clip (R208). -/
def ProofSample.clip (p : ProofSample) : Bool := sext 12 p.meas == -2048 || sext 12 p.meas == 2047

/-- The snapshot word of a residual (R226). -/
def State.snapWord (s : State) (n a : Nat) (p : ProofSample) : Nat :=
  ofSigned 16 (s.residual n a p) * 65536 + p.meas % 4096 * 16 + b2n (ProofSample.clip p) * 8 + b2n (s.trimFlagAt n a) * 4
    + b2n (s.fillAt n a) * 2 + b2n (s.skipAt n a)

/-- The integer square root of `n`, by `b` further bits below `r`. -/
def isqrtFrom (n : Nat) : Nat → Nat → Nat
  | 0, r => r
  | b + 1, r => isqrtFrom n b (if (r + 2 ^ b) * (r + 2 ^ b) ≤ n then r + 2 ^ b else r)

/-- The root mean square of a sum of `count` squares, rounded to nearest (R215). -/
def rmsOf (sum count : Nat) : Nat := if count = 0 then 0 else (isqrtFrom (4 * sum / count) 40 0 + 1) / 2

/-- Consecutive proof samples from stream sample `a` on, with their stream samples. -/
def numbered (a : Nat) (l : List ProofSample) : List (Nat × ProofSample) :=
  (List.range l.length).zipWith (fun i p => (a + 2 * i, p)) l

/-- The sum of the squares and the largest magnitude of the residuals of a list of samples. -/
def State.residStats (s : State) (n : Nat) (l : List (Nat × ProofSample)) : Nat × Nat :=
  l.foldl (fun v e => let r := (s.residual n e.1 e.2).natAbs; (v.1 + r * r, max v.2 r)) (0, 0)

/-! ### The comparator's status (R209, R228) -/

/-- What PROOF_STATUS shows. -/
def State.proofStatusLive (s : State) (n : Nat) : Word :=
  let w := s.rd (base (pGEN n) + GEN_PROOF_STATUS)
  setF (setF (setF w GEN_PROOF_STATUS_MODEL_SET (s.modelSet n)) GEN_PROOF_STATUS_MODEL_VALID
    (b2n (s.modelValid n (s.modelSet n)))) GEN_PROOF_STATUS_ACTIVE (b2n (s.proofActive n))

/-- The proof ADC re-phased on even stream samples (R202): ALIGNED is set, and the alignment is measured anew. -/
def State.alignProof (s : State) (n : Nat) : State :=
  (((s.fs (base (pGEN n)) GEN_PROOF_STATUS_ALIGNED 1).fs (base (pGEN n)) GEN_PROOF_LAT_ALIGN (s.free 0x700)).logChain n).bump

/-! ### The proof stencil (R214 to R218) -/

/-- GF cycles of one window under STEN_CFG word `w` (R214): 2^W proof samples are 2^(W + 1) stream samples. -/
def winCycles (w : Word) : Nat := 2 ^ (getF w GEN_STEN_CFG_WINDOW + 1) / 8

/-- The stencil settings as the page holds them, in force from the start. -/
def State.stenPage (s : State) (n : Nat) : StenSet :=
  let b := base (pGEN n)
  { from_ := 0, cfg := s.rd (b + GEN_STEN_CFG), rms := s.rd (b + GEN_STEN_RMS), peak := s.rd (b + GEN_STEN_PEAK), rmsNo := 0, peakNo := 0 }

/-- The settings in force at GF cycle `c` (R218). -/
def State.stenFor (s : State) (n c : Nat) : StenSet :=
  ((s.proof n).sets.find? (fun e => decide (e.from_ ≤ c))).getD (((s.proof n).sets.getLast?).getD (s.stenPage n))

/-- The first GF cycle at or after `c` at which a window of `w` cycles begins, S being 0 at cycle `s0`. -/
def winStart (s0 w c : Nat) : Nat := s0 + cdiv (c - s0) w * w

/-- A window that the end of playing before GF cycle `c`, or a resume at it, cuts short is discarded and counted (R214). -/
def State.cutWindow (s : State) (n s0 c : Nat) : State :=
  if (c - s0) % winCycles (s.stenFor n (c - 1)).cfg ≠ 0 then s.count (base (pGEN n)) GEN_WIN_SKIP_COUNT_COUNT else s

/-- Scenario `k` begins, or goes on, to play channel `n` at GF cycle `c`, its sample count S being 0 at cycle `s0` (R214): a window that
its pre-emption had cut short is not counted twice. -/
def State.tenureBegins (s : State) (n k s0 c : Nat) : State :=
  if 16 ≤ n then s
  else
    let w := winCycles (s.stenFor n c).cfg
    let again := match (s.proof n).tenures.find? (fun e => e.scen == k && e.sBase == s0) with
      | some e => (match e.to_ with | some c0 => (c0 - s0) % w != 0 && (c0 - s0) / w == (c - s0) / w | none => false)
      | none => false
    let t := s.updProof n (fun p =>
      { p with tenures := { from_ := c, to_ := none, sBase := s0, scen := k } :: p.tenures,
               sets := p.sets.map (fun e => { e with from_ := min e.from_ c }) })
    if again then t else t.cutWindow n s0 c

/-- The scenario that plays channel `n` stops, is suspended or ends before GF cycle `c` (R214). -/
def State.tenureEnds (s : State) (n c : Nat) : State :=
  match s.inTenure n with
  | none => s
  | some e =>
    (s.cutWindow n e.sBase c).updProof n (fun p => { p with tenures := p.tenures.map (fun v => if v.to_.isNone then { v with to_ := some c } else v) })

/-- STEN_CFG, STEN_RMS or STEN_PEAK written at offset `off` (R218): the change is judged from the first window on that begins whole under
the new WINDOW; a smaller WINDOW cuts the window in progress short. -/
def State.stenWrite (s : State) (k n off : Nat) (w : Word) : State :=
  let old := ((s.proof n).sets.head?).getD (s.stenPage n)
  let t := (s.updProof n (fun p => { p with sets := if p.sets.isEmpty then [old] else p.sets })).plain k (base (pGEN n) + off) w
  let page := t.stenPage n
  let c := match s.inTenure n with | some e => winStart e.sBase (winCycles page.cfg) s.gfNow | none => s.gfNow
  let t := match s.inTenure n with | some e => if winCycles page.cfg < winCycles old.cfg then t.cutWindow n e.sBase c else t | none => t
  t.updProof n (fun p =>
    { p with sets := { page with from_ := c, rmsNo := if page.rms = old.rms then old.rmsNo else old.rmsNo + 1,
                                 peakNo := if page.peak = old.peak then old.peakNo else old.peakNo + 1 } :: p.sets })

/-- The mean of the squares exceeds the limit of word `w`, exactly (R215). -/
def overRms (w : Word) (sum count : Nat) : Bool :=
  getF w GEN_STEN_RMS_EN == 1 && decide (getF w GEN_STEN_RMS_LIMIT * getF w GEN_STEN_RMS_LIMIT * count < sum)

/-- The peak exceeds the limit of word `w`. -/
def overPeak (w : Word) (peak : Nat) : Bool :=
  getF w GEN_STEN_PEAK_EN == 1 && decide (getF w GEN_STEN_PEAK_LIMIT < peak)

/-- The residual snapshot buffer of channel `n` (R225). -/
def snapBuf (n : Nat) : Nat := 0x0E000000 + 0x40000 * n

/-- The recording frozen, `end_` being the stream sample after its last (R225, R226), with what the command brings of its last samples:
FIRST, SNAP_TIME, the words of the span, and PROOF_SNAP_DONE. -/
def State.freeze (s : State) (n end_ : Nat) (l : List ProofSample) : State :=
  let b := base (pGEN n)
  let len := 2 ^ s.fg b GEN_SNAP_CFG_LOG2LEN
  let count := (end_ - (s.proof n).snapFrom) / 2
  let held := min count len
  let a0 := end_ - 2 * held
  let first := if count ≤ len then 0 else count % len
  let part := l.drop (l.length - held)
  let t := (List.range held).foldl (fun u i =>
    u.stw (snapBuf n + 4 * ((first + i) % len)) (s.snapWord n (a0 + 2 * i)
      (if i < held - part.length then s.measAt n (a0 + 2 * i) [] 0 else s.measAt n (a0 + 2 * i) part (i - (held - part.length))))) s
  let t := ((t.fs b GEN_SNAP_STATUS_RECORDING 0).fs b GEN_SNAP_STATUS_FROZEN 1).fs b GEN_SNAP_STATUS_FIRST first
  let time := s.gfTime (a0 / 8) / 2 ^ 40
  let t := (t.wr64 (b + GEN_SNAP_TIME) time).bump
  t.notify { t.note (pGEN n) 19 (first % 65536) with time := time }

/-- The action of a verdict: the strongest of the violated limits, in the order STOP, MUTE, REPORT (R216). -/
def verdictAct (c : StenSet) (vr vp : Bool) : Nat :=
  max (if vr then getF c.rms GEN_STEN_RMS_ACTION else 0) (if vp then getF c.peak GEN_STEN_PEAK_ACTION else 0)

/-- The scenario's playing that holds the whole of a window (R214): its samples are those of 2^W proof samples from a whole window index
on, no self-test runs (R224), and its last residual is formed. -/
def State.winTenure (s : State) (n : Nat) (w : ProofWindow) : Option Tenure :=
  let cyc := winCycles (s.stenFor n w.first).cfg
  (s.proof n).tenures.find? (fun e => decide (e.from_ ≤ w.first) && decide ((w.first - e.sBase) % cyc = 0) && decide (w.samples.length = 4 * cyc)
    && (match e.to_ with | some c => decide (w.first + cyc ≤ c) | none => decide (w.first + cyc ≤ s.gfNow)) && !s.testAt n (8 * w.first))

/-- The trim steps whose effect falls within the `cyc` GF cycles from `c` on (R213). -/
def State.stepsIn (s : State) (n c cyc : Nat) : Nat :=
  let m := (s.proofSet n (8 * c)).model
  ((s.proof n).steps.filter (fun e => (mirrored m e.off || unmirrored m e.off) && decide (8 * c ≤ e.at_ ∧ e.at_ < 8 * (c + cyc)))).length

/-- The verdict of a whole window (R215, R216), the STOP action aside: the state after, and whether the scenario is to
be stopped. -/
def State.verdict (s : State) (n : Nat) (w : ProofWindow) : State × Bool :=
  let b := base (pGEN n)
  let c := s.stenFor n w.first
  let cyc := winCycles c.cfg
  let l := numbered (8 * w.first) w.samples
  let t := s.updProof n (fun p =>
    { p with rmsNo := c.rmsNo, peakNo := c.peakNo, runRms := if p.rmsNo = c.rmsNo then p.runRms else 0, runPeak := if p.peakNo = c.peakNo then p.runPeak else 0 })
  if l.any (fun e => s.skipAt n e.1) || (getF c.cfg GEN_STEN_CFG_BURNISH_SKIP == 1 && l.any (fun e => s.trimFlagAt n e.1)) then
    ((t.count b GEN_WIN_SKIP_COUNT_COUNT).updProof n (fun p => { p with runRms := 0, runPeak := 0 }), false)
  else
    let q := s.residStats n l
    let er := overRms c.rms q.1 w.samples.length
    let ep := overPeak c.peak q.2
    let need := getF c.cfg GEN_STEN_CFG_CONSEC + 1
    let rr := if er then (t.proof n).runRms + 1 else 0
    let rp := if ep then (t.proof n).runPeak + 1 else 0
    let vr := er && decide (need ≤ rr)
    let vp := ep && decide (need ≤ rp)
    let rms := min 65535 (rmsOf q.1 w.samples.length)
    let act := verdictAct c vr vp
    let t := (t.updProof n (fun p => { p with runRms := rr, runPeak := rp })).count b GEN_WIN_EVAL_COUNT_COUNT
    let t := (t.fs b GEN_STEN_LAST_RMS rms).fs b GEN_STEN_LAST_PEAK q.2
    let t := (t.fs b GEN_STEN_WORST_RMS (max rms (t.fg b GEN_STEN_WORST_RMS))).fs b GEN_STEN_WORST_PEAK
      (max q.2 (t.fg b GEN_STEN_WORST_PEAK))
    let t := ((t.fs b GEN_WIN_INFO_STEPS (min 255 (s.stepsIn n w.first cyc))).fs b GEN_WIN_INFO_PEAK_VIOL (b2n vp)).fs b GEN_WIN_INFO_RMS_VIOL (b2n vr)
    if !(vr || vp) then (t, false)
    else
      let first := s.gfTime w.first / 2 ^ 40
      let t := if vr then t.count b GEN_VIOL_RMS_COUNT_COUNT else t
      let t := if vp then t.count b GEN_VIOL_PEAK_COUNT_COUNT else t
      let t := (t.wr64 (b + GEN_LAST_VIOL_TIME) first).publishBy (0x400 + n)
      let t := if act = 1 then t.mute n .proof else t
      let t := if s.fg b GEN_SNAP_CFG_FREEZE_ON = 1 ∧ s.fb b GEN_SNAP_STATUS_RECORDING then t.freeze n (8 * (w.first + cyc)) (w.before ++ w.samples) else t
      let note := t.note (pGEN n) 16 (b2n vr + 2 * b2n vp + 16 * act) (rms + 65536 * q.2) (t.fg b GEN_PROOF_STATUS_MODEL_VER)
      (t.notify { note with time := first }, act == 2)

/-! ### Fault detectors (R219 to R222) -/

/-- The level of the proof-fault producer follows PROOF_FAULT[2:0] (R294). -/
def State.faultLevel (s : State) (n : Nat) : State :=
  let b := base (pGEN n)
  s.sourceLevel (0x500 + n) (s.fb b GEN_PROOF_FAULT_OVERLOAD || s.fb b GEN_PROOF_FAULT_CONTENTION || s.fb b GEN_PROOF_FAULT_OPEN)

/-- A proof fault reported: the page's first fault, the event and the notice. -/
def State.proofFault (s : State) (n code cause arg : Nat) : State :=
  let t := ((s.pageFault (pGEN n) code 0).faultLevel n).publishBy (0x500 + n)
  t.notify (t.note (pGEN n) 17 cause arg)

/-- OVERLOAD declared (R219, R220): the connector is isolated and PROOF is held set. -/
def State.overload (s : State) (n dcMv : Nat) : State :=
  let b := base (pGEN n)
  let t := ((s.fs b GEN_PROOF_FAULT_OVERLOAD 1).fs b GEN_PROOF_FAULT_ISOLATED 1).count b GEN_OVERLOAD_COUNT_COUNT
  let t := t.fs b GEN_FAULT_MEAS_DC_MV dcMv
  let t := t.setOff (t.lanes.off.filter (fun e => e.who != .output n) ++ [{ who := .output n, ovr := true, cont := false, at_ := s.now }])
  (t.mute n .proof).proofFault n 0x0201 1 (dcMv % 65536)

/-- The output of channel `n` begins its re-examination once the overload bit is clear and 1 ms has passed (R220). -/
def State.reexamine (s : State) (n : Nat) : State :=
  s.setOff (s.lanes.off.map (fun d =>
    if d.who = .output n && !d.ovr && decide (d.at_ + holdTicks ≤ s.now) then { d with cont := true } else d))

/-- PROOF_FAULT written with 1 in the bits of `mask`; an overload declared in the same cycle leaves its bit set (R16,
R220). -/
def State.proofFaultClear (s : State) (n mask : Nat) (again : Bool) : State :=
  let b := base (pGEN n)
  let t := if bit mask 1 then s.fs b GEN_PROOF_FAULT_CONTENTION 0 else s
  let t := if bit mask 2 then t.fs b GEN_PROOF_FAULT_OPEN 0 else t
  let t := if bit mask 0 && !again then
      let u := t.fs b GEN_PROOF_FAULT_OVERLOAD 0
      (u.setOff (u.lanes.off.map (fun d => if d.who = .output n then { d with ovr := false } else d))).reexamine n
    else t
  t.faultLevel n

/-- The re-examination ends (R220). -/
def State.reexamDone (s : State) (n : Nat) (persists : Bool) (dcMv : Nat) : State :=
  if ((s.offOf (.output n)).map (fun d => d.cont)).getD false then
    if persists then s.overload n dcMv
    else ((s.setOff (s.lanes.off.filter (fun e => e.who != .output n))).fs (base (pGEN n)) GEN_PROOF_FAULT_ISOLATED 0).fs (base (pGEN n))
      GEN_FAULT_MEAS_DC_MV dcMv
  else s

/-- CONTENTION declared (R221). -/
def State.proofContention (s : State) (n rms : Nat) : State :=
  let b := base (pGEN n)
  if s.fb b GEN_PROOF_FAULT_CONTENTION then s
  else
    let t := (s.fs b GEN_PROOF_FAULT_CONTENTION 1).count b GEN_CONTENTION_COUNT_COUNT
    let t := if s.fb b GEN_PROOF_CTRL_CONT_POLICY then t.mute n .proof else t
    t.proofFault n 0x0202 2 rms

/-- The GF cycle from which the comparator of channel `n` has been active without a break, if it is active (R209, R221). -/
def State.activeSince (s : State) (n : Nat) : Option Nat := (((s.gen n).ctrl.takeWhile (fun e => e.active)).getLast?).map (·.cycle)

/-- A block of 16,384 residuals exceeds CONT_LIMIT and holds no SKIP sample (R221). -/
def State.blockOver (s : State) (n : Nat) (l : List (Nat × ProofSample)) : Bool :=
  let lim := s.fg (base (pGEN n)) GEN_FAULT_CFG_CONT_LIMIT
  l.all (fun e => !s.skipAt n e.1) && decide (lim * lim * 16384 < (s.residStats n l).1)

/-- The last CONT_BLOCKS + 1 blocks of residuals, the first from the stroke of GF cycle `first` on (R221): blocks are counted from the
cycle in which ACTIVE became 1. -/
def State.contBlocks (s : State) (n first : Nat) (l : List ProofSample) : State :=
  let need := s.fg (base (pGEN n)) GEN_FAULT_CFG_CONT_BLOCKS + 1
  let t := s.toGf (first + 4096 * need + 168)
  match t.activeSince n with
  | none => s
  | some r =>
    if r ≤ first + 168 ∧ (first + 168 - r) % 4096 = 0 ∧ l.length = 16384 * need
        ∧ (List.range need).all (fun i => t.blockOver n (numbered (8 * (first + 4096 * i)) ((l.drop (16384 * i)).take 16384))) then
      t.proofContention n (min 65535 (rmsOf (t.residStats n (numbered (8 * (first + 4096 * (need - 1))) (l.drop (16384 * (need - 1))))).1 16384))
    else s

/-- A measurement of the reflected-level detector (R222), with the forward level at the proof ADC in 1/16 dBFS: it is read in FAULT_MEAS,
and the hundredth in a row of those that count below the threshold declares OPEN. -/
def State.proofOpen (s : State) (n rl : Nat) (level : Int) : State :=
  let b := base (pGEN n)
  let s := s.fs b GEN_FAULT_MEAS_RL rl
  if !s.proofActive n || !decide (-480 < level) then s
  else
    let run := if rl % 65536 < s.fg b GEN_FAULT_CFG_OPEN_RL && s.fb b GEN_PROOF_CTRL_OPEN_EN then (s.proof n).openRun + 1 else 0
    let t := s.updProof n (fun p => { p with openRun := run })
    if run < 100 || s.fb b GEN_PROOF_FAULT_OPEN then t
    else ((t.fs b GEN_PROOF_FAULT_OPEN 1).count b GEN_OPEN_COUNT_COUNT).proofFault n 0x0203 3 (rl % 65536)

/-! ### Self-test and snapshot (R223 to R226) -/

/-- TEST_CMD.GO (R223, R485, R487). -/
def State.testGo (s : State) (n : Nat) : Act :=
  let b := base (pGEN n)
  if s.armedUses (pGEN n) then .error .locked
  else if s.fb b GEN_PROOF_STATUS_TESTING then .error .busy
  else if !s.modelValid n (s.modelSet n) || s.causes n != 0 || (s.fb b GEN_TEST_CFG_TARGET && !s.fb b GEN_CHAIN_CTRL_OUT_EN)
      || !s.fb b HDR_PAGE_CTRL_EN || s.fb b HDR_PAGE_CTRL_PARK then .error .state
  else .ok ((s.fs b GEN_PROOF_STATUS_TESTING 1).updProof n (fun p => { p with selfTests := { from_ := s.gfNow, at_ := s.now, to_ := none } :: p.selfTests }))

/-- The device time at which the self-test of channel `n` has run for DURATION (R224). -/
def State.testDue (s : State) (n : Nat) : Nat :=
  (((s.proof n).selfTests.head?).map (·.at_)).getD 0 + 300000 * s.fg (base (pGEN n)) GEN_TEST_CFG_DURATION

/-- The residuals that the self-test of channel `n` has formed, the proof ADC's samples being those given as far as they reach (R224). -/
def State.testSamples (s : State) (n : Nat) (l : List ProofSample) : List (Nat × ProofSample) :=
  let c0 := (((s.proof n).selfTests.head?).map (·.from_)).getD 0
  (List.range (4 * (s.gfNow - 168 - c0))).map (fun i => (8 * c0 + 2 * i, s.measAt n (8 * c0 + 2 * i) l i))

/-- A self-test ends (R224): the result over the non-SKIP samples, which is a free value where there is none, the outcome, and
PROOF_TEST_DONE. -/
def State.testEnd (s : State) (n : Nat) (l : List ProofSample) (aborted : Bool) : State :=
  let b := base (pGEN n)
  if !s.fb b GEN_PROOF_STATUS_TESTING then s
  else
    let l := (s.testSamples n l).filter (fun e => !s.skipAt n e.1)
    let q := s.residStats n l
    let lim := s.fg b GEN_TEST_LIMIT_RMS_LIMIT
    let none_ := l.isEmpty
    let rms := if none_ then s.free 0x710 % 65536 else min 65535 (rmsOf q.1 l.length)
    let pass := (if none_ then decide (rms ≤ lim) else decide (q.1 ≤ lim * lim * l.length))
      && decide (q.2 ≤ s.fg b GEN_TEST_LIMIT_PEAK_LIMIT)
    let out := if aborted then 3 else if pass then 1 else 2
    let t := s.bump.updProof n (fun p =>
      { p with selfTests := p.selfTests.map (fun e => if e.to_.isNone then { e with to_ := some s.gfNow } else e) })
    let t := ((t.fs b GEN_TEST_RESULT_RMS rms).fs b GEN_TEST_RESULT_PEAK q.2).fs b GEN_PROOF_STATUS_TEST_OUTCOME out
    let t := t.fs b GEN_PROOF_STATUS_TESTING 0
    t.notify (t.note (pGEN n) 18 out (rms + 65536 * q.2) l.length)

/-- SNAP_CMD.RUN (R225): recording begins with the next residual. -/
def State.snapRun (s : State) (n : Nat) : State :=
  let b := base (pGEN n)
  (((s.zero (snapBuf n) 0x40000).fs b GEN_SNAP_STATUS_RECORDING 1).fs b GEN_SNAP_STATUS_FROZEN 0).updProof n (fun p =>
    { p with snapFrom := 8 * (s.gfNow - 168) })

/-- SNAP_CMD.FREEZE (R225): only a recording freezes. -/
def State.snapFreeze (s : State) (n : Nat) (l : List ProofSample) : State :=
  if s.fb (base (pGEN n)) GEN_SNAP_STATUS_RECORDING then s.freeze n (8 * (s.gfNow - 168)) l else s

/-! ### The commands -/

/-- OVERLOAD (R219). -/
def execOverload (n dcMv : Nat) (s : State) : Host.Outcome State Fault Refusal := s.onChan false n (s.overload n dcMv)

/-- OVERLOAD_CLEAR (R220). -/
def execOverloadClear (o : Org) (n : Nat) (again : Bool) (s : State) : Host.Outcome State Fault Refusal :=
  .next (s.hostReg o (base (pGEN n) + GEN_PROOF_FAULT) 1#32 (fun t => .ok (t.proofFaultClear n 1 again)))

/-- OVERLOAD_REEXAM_DONE (R220). -/
def execOverloadReexamDone (n : Nat) (persists : Bool) (dcMv : Nat) (s : State) : Host.Outcome State Fault Refusal :=
  s.onChan false n (s.reexamDone n persists dcMv)

/-- PROOF_CONTENTION (R221). -/
def execProofContention (n first : Nat) (samples : List ProofSample) (s : State) : Host.Outcome State Fault Refusal :=
  s.onChan false n (s.contBlocks n first samples)

/-- PROOF_OPEN (R222). -/
def execProofOpen (n rl : Nat) (level : Int) (s : State) : Host.Outcome State Fault Refusal := s.onChan false n (s.proofOpen n rl level)

/-- REENABLE_HOLD_EXPIRY (R195, R220): 1 ms after the disable a held re-enable, or a held re-examination, takes effect. -/
def execReenableHoldExpiry (p : DriverPort) (s : State) : Host.Outcome State Fault Refusal :=
  let t := { s with now := max s.now (((s.offOf p).map (fun (d : DriverOff) => d.at_ + holdTicks)).getD 0) }
  s.onPort p (match p with | .output n => t.reexamine n | _ => t.tryEnable p)

/-- TEST_GO (R223). -/
def execTestGo (o : Org) (n : Nat) (s : State) : Host.Outcome State Fault Refusal :=
  .next (s.hostReg o (base (pGEN n) + GEN_TEST_CMD) 1#32 (fun t => t.testGo n))

/-- TEST_ABORT (R224). -/
def execTestAbort (o : Org) (n : Nat) (samples : List ProofSample) (s : State) : Host.Outcome State Fault Refusal :=
  .next (s.hostReg o (base (pGEN n) + GEN_TEST_CMD) 2#32 (fun t => .ok (t.testEnd n samples true)))

/-- PROOF_TEST_DONE (R224). -/
def execProofTestDone (n : Nat) (samples : List ProofSample) (s : State) : Host.Outcome State Fault Refusal :=
  s.onChan false n (if s.fb (base (pGEN n)) GEN_PROOF_STATUS_TESTING then { s with now := max s.now (s.testDue n) }.testEnd n samples false else s)

/-- SNAP_RUN (R225). -/
def execSnapRun (o : Org) (n : Nat) (s : State) : Host.Outcome State Fault Refusal :=
  .next (s.hostReg o (base (pGEN n) + GEN_SNAP_CMD) 1#32 (fun t => .ok (t.snapRun n)))

/-- SNAP_FREEZE (R225). -/
def execSnapFreeze (o : Org) (n : Nat) (samples : List ProofSample) (s : State) : Host.Outcome State Fault Refusal :=
  .next (s.hostReg o (base (pGEN n) + GEN_SNAP_CMD) 2#32 (fun t => .ok (t.snapFreeze n samples)))

/-- The GF cycle of issue at which the channel's next window begins whose residuals are still to be formed, where a scenario plays. -/
def State.nextWindow (s : State) (n : Nat) : Option Nat :=
  (s.inTenure n).map (fun e => winStart e.sBase (winCycles (s.stenFor n s.gfNow).cfg) (max e.from_ (s.gfNow - 168)))

/-- MODEL_TAKES_EFFECT (R206): the sets that wait take effect with the channel's next window, or, where no scenario plays any more, in the
next GF cycle. -/
def execModelTakesEffect (n : Nat) (s : State) : Host.Outcome State Fault Refusal :=
  s.onChan false n (match (if s.cal.models.any (fun p => p.gen == n) then s.nextWindow n else none) with
    | some c => (s.toGf (c + 168)).modelsTake n (8 * c) (c + 168)
    | none => s.modelsTake n (8 * (s.gfNow - 168)) s.gfNow)

end Sys2Proof.Machine
end

