-- ==== Sys2Proof/Machine/Scenario.lean ====
section
/-! DEFINITION. Sys2Proof/Machine/Scenario.lean: scenarios and schedules (spec/05_scenarios_schedules.md): records, arm,
start, pre-emption, park, resume, stop and end of a scenario, and the schedule that times them. -/
namespace Sys2Proof.Machine
open Sys2Proof

/-! ### Records (R147 to R151) -/

/-- The state of scenario `k` set. -/
def State.setScen (s : State) (k st : Nat) : State := s.setMbits (scenAddr k + 0xC0) 3 0 st

/-- PRIORITY of scenario `k`. -/
def State.prio (s : State) (k : Nat) : Nat := s.mbits (scenAddr k + 0x10) 27 24

/-- START_EVT of scenario `k`. -/
def State.startEvt (s : State) (k : Nat) : Nat := s.mbits (scenAddr k + 0x10) 15 8

/-- The writable bits of each word of a scenario record (R148). -/
def scenMask (off : Nat) : Nat :=
  if off < 0x10 ∨ (0x80 ≤ off ∧ off < 0xC0) ∨ 0xF8 ≤ off then 0xFFFFFFFF
  else if off = 0x10 then 0x0FC0FF00
  else if off = 0x14 then 0x00FFFFFF
  else if off = 0x18 then 0x000FFFFF
  else if 0x20 ≤ off ∧ off < 0x70 then 0xFFFF
  else 0

/-- A member mask that names an absent block (R5, R149). -/
def State.absentMember (s : State) (w : Nat) : Bool :=
  (List.range 20).any (fun g => bit w g && !s.hasGraver g)
    || (List.range 4).any (fun n => bit w (20 + n) && decide (s.variant.caps ≤ n))

/-- A consumer code of a class that has a consumer of that number on a larger variant only (R149). -/
def State.absentConsumer (s : State) (code : Nat) : Bool :=
  !s.consumerOk code && (match code / 256 with
    | 1 | 2 => decide (code % 256 < 20)
    | 3 => decide (code % 256 < 4)
    | _ => false)

/-- A word written to a scenario record (R149). -/
def State.scenWrite (s : State) (k a : Nat) (w : Word) : Act :=
  let x := (a - 0x08620000) / 256
  let off := a % 256
  let v := w.toNat
  if s.scenOwner x ≠ 0 ∧ s.scenOwner x ≠ k then .error .owner
  else if 1 < s.scenState x then .error .locked
  else if off = 0x10 ∧ bits v 23 22 = 3 then .error .format
  else if off = 0x14 ∧ s.absentMember v then .error .address
  else if 0x80 ≤ off ∧ off < 0xC0 ∧ s.absentConsumer (v / 65536) then .error .address
  else
    let t := if s.scenState x = 0 then
        (((s.zero (scenAddr x) 256).stw (scenAddr x + 0x10) 0x800000).setMbits (scenAddr x + 0xC0) 23 16 k).setScen x 1
      else s
    .ok (t.stw a (maskIn (t.ldw a) v (scenMask off)))

/-- The used routes of scenario `k`, as route number, consumer, gate and channel (R148). -/
def State.routesOf (s : State) (k : Nat) : List (Nat × Nat × Nat × Nat) :=
  ((List.range 16).map (fun r => (r, s.mbits (scenAddr k + 0x80 + 4 * r) 31 16, s.mbits (scenAddr k + 0x80 + 4 * r) 15 8,
    s.mbits (scenAddr k + 0x80 + 4 * r) 7 0))).filter (fun q => q.2.1 != 0)

/-- The capture members of scenario `k`. -/
def State.capsOf (s : State) (k : Nat) : List Nat := (List.range 4).filter (fun n => bit (s.scenCaps k) n)

/-- The Gravers that scenario `k` holds (R176). -/
def State.heldBy (s : State) (k : Nat) : List Nat := (List.range 20).filter (fun g => (s.grv g).scen == k)

/-- The capture channels that acquire for scenario `k`. -/
def State.capsBy (s : State) (k : Nat) : List Nat :=
  (List.range 4).filter (fun n => s.acquiring n && (s.trc n).scen == k)

/-- The 64-bit value of two words of a table record. -/
def State.st64 (s : State) (a v : Nat) : State := s.st a v 8

/-! ### Schedule entries (R167) -/

/-- Schedule entry `i`. -/
def schedAddr (i : Nat) : Nat := 0x08640000 + 32 * i

/-- The state of entry `i`: 0 FREE, 1 WRITTEN, 2 PENDING, 3 DONE, 4 REFUSED, 5 CANCELLED. -/
def State.schedState (s : State) (i : Nat) : Nat := s.mbits (schedAddr i + 0x10) 2 0

/-- The owner of entry `i`. -/
def State.schedOwner (s : State) (i : Nat) : Nat := s.mbits (schedAddr i + 0x10) 15 8

/-- A PENDING entry beyond its record. -/
def State.sched (s : State) (i : Nat) : Option SchedX := s.scheds.find? (fun e => e.i == i)

/-- A schedule entry PENDING (R338). -/
def State.anyPending (s : State) : Bool := (List.range 1024).any (fun i => s.schedState i == 2)

/-- Entry `i` leaves PENDING for state `st` with a result, at device time `time` (R169, R171). -/
def State.entryEnds (s : State) (i st : Nat) (c : Code) (time : Nat) : State :=
  if s.schedState i = 2 then
    let t := ((s.setMbits (schedAddr i + 0x10) 2 0 st).setMbits (schedAddr i + 0x10) 23 16 c.num).st64 (schedAddr i + 0x18) time
    { t with scheds := t.scheds.filter (fun e => e.i != i) }
  else s

/-! ### The outcome of an action (R153) -/

/-- What SCEN_DONE and SCEN_REFUSED carry beyond action, scenario and result (R500). -/
structure Report where
  time : Nat
  w1 : Nat
  w2 : Nat
  w3 : Nat
deriving DecidableEq, Repr

/-- A report at the present device time that names nothing. -/
def State.plainReport (s : State) : Report := { time := s.now, w1 := 0, w2 := 0xFF, w3 := 0 }

/-- An action on scenario `k` is carried out or refused: LAST_RESULT, the issuing session's CMD_STATUS for a command,
SCEN_DONE or SCEN_REFUSED, and the outcome of its schedule entry (R153, R171). An EMPTY record stays zero (R152). A proof
verdict's stop reports SCEN_ENDED with cause PROOF and the last stroke instead (R217). -/
def State.finish (s : State) (k : Nat) (a : ScenAct) (c : Code) (r : Report) : State :=
  let t := if s.scenState k ≠ 0 then s.setMbits (scenAddr k + 0xC0) 15 8 c.num else s
  let b := sbase a.sess pSCEN
  let t := if a.src = .command then
      ((t.fs b SCEN_CMD_STATUS_RESULT c.num).fs b SCEN_CMD_STATUS_SCEN k).fs b SCEN_CMD_STATUS_OP a.op else t
  let t := if a.src = .proof then
      t.notifyTo (s.scenOwner k) { t.note pSCEN 2 (k + 256) with time := (s.scn k).last / 2 ^ 40 }
    else t.notifyTo a.sess { t.note pSCEN (if c = .ok then 0 else 1) (a.op + 256 * k + 65536 * c.num) r.w1 r.w2 r.w3 with time := r.time }
  match a.src with
  | .entry i =>
    let t := if c = .ok ∧ (a.op = 1 ∨ a.op = 7) then t.publishBy 0x8004 else t
    t.entryEnds i (if c = .ok then 3 else if c = .orphaned then 5 else 4) c r.time
  | _ => t

/-- A late action of scenario `k`, due at its T and carried out `late` whole ticks after it: LATE of its entry, and ACTION_LATE to the
scenario's owner (R32, R171). -/
def State.reportLate (s : State) (k : Nat) (a : ScenAct) (late : Nat) : State :=
  match a.src with
  | .entry i =>
    (s.setMbits (schedAddr i + 0x10) 4 4 1).notifyTo (s.scenOwner k)
      { s.note pSCEN 5 (1 + 256 * k) i late (late / 2 ^ 32) with time := a.at_ }
  | _ => s.notifyTo (s.scenOwner k) { s.note pSCEN 5 (256 * k) 0 late (late / 2 ^ 32) with time := a.at_ }

/-- The action in progress of scenario `k` changed. -/
def State.updAct (s : State) (k : Nat) (f : ScenAct → ScenAct) : State :=
  s.updScn k (fun x => { x with act := x.act.map f })

/-- The action in progress of scenario `k` ends with a result. -/
def State.closeAct (s : State) (k : Nat) (c : Code) (r : Report) : State :=
  match (s.scn k).act with
  | some a => (s.updScn k (fun x => { x with act := none })).finish k a c r
  | none => s

/-- A member starts or stops at `at_`: the earliest and latest times of the action. -/
def State.stamp (s : State) (k at_ : Nat) : State :=
  s.updAct k (fun a => { a with first := some (min at_ (a.first.getD at_)), last := max at_ a.last })

/-- The members of scenario `k` in a domain act for the first time at `at40`, in 1/2^40 tick: an action that is late there is reported,
once (R32, R171). -/
def State.settleLate (s : State) (k at40 : Nat) : State :=
  match (s.scn k).act with
  | some a =>
    let late := s.lateBy a.at_ at40
    if a.told || (late == 0 && !a.atOnce) then s
    else (s.updAct k (fun q => { q with told := true })).reportLate k a ((at40 - a.at_ * 2 ^ 40) / 2 ^ 40)
  | none => s

/-! ### Routes (R157, R300) -/

/-- A route of scenario `k` installed: the consumer's former subscription and gate are kept. -/
def State.installRoute (s : State) (k c g ch : Nat) : State :=
  let w := s.rd (subKey c)
  let v := setF w (subField c) ch
  let t := s.wr (subKey c) (match gateField c with | some f => setF v f g | none => v)
  { t with xh := { t.xh with routes := { scen := k, consumer := c, oldChan := getF w (subField c), oldGate := gateOf c w } :: t.xh.routes } }

/-- Every route of scenario `k` installed. -/
def State.installRoutes (s : State) (k : Nat) : State :=
  (s.routesOf k).foldl (fun t q => t.installRoute k q.2.1 q.2.2.1 q.2.2.2) s

/-- Every installed route of scenario `k` removed, the former subscriptions restored. -/
def State.removeRoutes (s : State) (k : Nat) : State :=
  let t := (s.xh.routes.filter (fun r => r.scen == k)).foldl (fun u r =>
    let v := setF (u.rd (subKey r.consumer)) (subField r.consumer) r.oldChan
    u.wr (subKey r.consumer) (match gateField r.consumer with | some f => setF v f r.oldGate | none => v)) s
  { t with xh := { t.xh with routes := t.xh.routes.filter (fun r => r.scen != k) } }

/-! ### Arm (R154) -/

/-- The page of member `m`: a Graver g, or 0x20 + n for capture channel n. -/
def State.memberPages (m : Nat) : List Nat :=
  if m < 0x20 then [gPage m] else [pCAP (m - 0x20), pSTRM (m - 0x20), pSTEN (m - 0x20)]

/-- What refuses an arm, with the member it names. -/
structure ArmFail where
  code : Code
  member : Nat
  step : Nat
  object : Nat
  w3 : Nat
  limit : Option Nat
deriving DecidableEq, Repr

/-- A failure that names a member alone. -/
def armFail (c : Code) (m : Nat) : ArmFail := { code := c, member := m, step := 0, object := 0, w3 := 0, limit := none }

/-- Order 1 of R154: the members. -/
def State.armMembers (s : State) (sess k : Nat) : Option ArmFail :=
  let ms := s.membersOf k ++ (s.capsOf k).map (0x20 + ·)
  if ms.isEmpty then some (armFail .empty 0xFF)
  else
    let unowned := ms.find? (fun m => (State.memberPages m).any (fun p => s.owner p != sess))
    let off := ms.find? (fun m => ((State.memberPages m).take 1).any (fun p =>
      !s.fb (base p) HDR_PAGE_CTRL_EN || s.fb (base p) HDR_PAGE_CTRL_PARK))
    let testing := (s.membersOf k).find? (fun g => decide (g < 16) && s.fb (base (pGEN g)) GEN_PROOF_STATUS_TESTING)
    let looping := (s.capsOf k).find? s.loopOn
    (unowned.map (armFail .owner)).or ((off.map (armFail .state)).or ((testing.map (armFail .busy)).or (looping.map (fun n => armFail .busy (0x20 + n)))))

/-- Order 2: the Graver members' tables, in order of g. -/
def State.armTables (s : State) (sess k : Nat) : Option ArmFail :=
  ((s.membersOf k).filterMap (fun g => (s.tableFails sess g (commWin g) [s.entryOf k g]).map (fun r =>
    { code := r.code, member := g, step := r.step, object := r.object, w3 := r.detail, limit := none }))).head?

/-- The charges of scenario `k`'s members (R102, R103). -/
def State.scenCharges (s : State) (k : Nat) : List Charge :=
  ((s.membersOf k).map (fun g => s.tableCharges k g (commWin g) [s.entryOf k g])).flatten

/-- Order 4: bandwidth; an interface that is RETRAINING takes no charge (R394). -/
def State.armBudget (s : State) (k : Nat) : Option ArmFail :=
  let cs := s.plates.charges ++ s.scenCharges k
  if s.heldBack (s.scenCharges k) then some (armFail .busy 0xFF)
  else (s.overPlace cs).map (fun p =>
    { code := .budget, member := 0xFF, step := 0, object := if p < 8 then 5 * 2 ^ 20 + p else 6 * 2 ^ 20 + (p - 8),
      w3 := mbUp (placeSum cs p), limit := some (s.placeLimit p) })

/-- Another armed scenario routes consumer `c`. -/
def State.routedElsewhere (s : State) (k c : Nat) : Bool :=
  (List.range 64).any (fun j => j != k && scenArmed (s.scenState j) && (s.routesOf j).any (fun q => q.2.1 == c))

/-- Order 5: START_EVT and the routes. -/
def State.armEvents (s : State) (sess k : Nat) : Option ArmFail :=
  let bad (c : Except Code Unit) : Bool := match c with | .ok _ => false | .error _ => true
  if bad (s.chanCheck (0x700 + k) sess (s.startEvt k)) then
    some { code := .event, member := 0xFF, step := 0, object := 7 * 2 ^ 20 + s.startEvt k, w3 := 0, limit := none }
  else
    let rs := s.routesOf k
    (rs.find? (fun q =>
      let c := q.2.1
      !s.consumerOk c || !routable c || s.consumerOwner c != sess || s.routedElsewhere k c
        || rs.any (fun p => decide (p.1 < q.1) && p.2.1 == c) || bad (s.subCheck c q.2.2.2 q.2.2.1))).map (fun q =>
      { code := .event, member := 0xFF, step := 0, object := 8 * 2 ^ 20 + q.1, w3 := 0, limit := none })

/-- A bank outside the general area has failed its start-up test (R417). -/
def State.spadBroken (s : State) : Bool :=
  (List.range 32).any (fun b => s.bankFailed b && !decide (s.variant.seqBanks ≤ b ∧ b < s.variant.seqBanks + s.variant.genBanks))

/-- The arm check of scenario `k` for session `sess`, its orders one after the other (R154, R411, R417, R576). -/
def State.armFails (s : State) (sess k : Nat) : Option ArmFail :=
  if !s.trust.started || s.spadBroken then some (armFail .state 0xFF)
  else if (List.range 4).any (fun i => s.badLine (scenAddr k + 64 * i)) then
    some { code := .ecc, member := 0xFF, step := 0, object := 9 * 2 ^ 20 + k, w3 := 0, limit := none }
  else (s.armMembers sess k).or ((s.armTables sess k).or
    ((((s.capsOf k).find? (fun n => s.captureFails n || !s.masksOk n)).map (fun n => armFail .capture (0x20 + n))).or
      ((s.armBudget k).or (s.armEvents sess k))))

/-- The entry steps of the armed scenarios on Graver `g`. -/
def State.entriesOn (s : State) (g : Nat) : List Nat := (s.armedOn g).map (fun k => s.entryOf k g)

/-- An accepted arm: references, charges, step-event subscriptions, and the ACTIVE sets of free members fill (R132,
R154). -/
def State.armTake (s : State) (k : Nat) : State :=
  let t := (s.setScen k 2).updScn k (fun x => { x with armNo := 1 + s.scens.foldl (fun m y => max m y.armNo) 0 })
  let t := (t.setRefs k (t.scenRefs k commWin (fun _ => []))).setCharges (t.plates.charges ++ t.scenCharges k)
  (t.membersOf k).foldl (fun u g =>
    let u := u.takeSubs g (u.entriesOn g)
    if (u.grv g).scen = 64 then u.refillEntry g (u.entryOf k g) else u) t

/-- An arm whose entry fell due too late (R171). -/
def State.lateArm (s : State) (k : Nat) (a : ScenAct) : State := if a.atOnce then s.reportLate k a (s.now - a.at_) else s

/-- ARM of scenario `k` (R154). -/
def State.arm (s : State) (k : Nat) (a : ScenAct) : State :=
  match s.armFails a.sess k with
  | some f =>
    (s.checkEcc f.code (commWin f.member) (f.object / 2 ^ 20) (f.object % 2 ^ 20) f.step).finish k a f.code { time := s.now, w1 := f.object, w2 := f.limit.getD (f.member + 65536 * f.step), w3 := f.w3 }
  | none => ((s.armTake k).updScn k (fun x => { x with act := some a })).lateArm k a

/-- What an arm took is given back: references, charges, subscriptions and the save area (R105, R155). -/
def State.unarm (s : State) (k : Nat) : State :=
  let t := (s.setRefs k Refs.none).setCharges (s.plates.charges.filter (fun c => c.holder != k))
  let t := t.setScen k 1
  ((t.membersOf k).foldl (fun u g => u.takeSubs g (u.entriesOn g)) t).updScn k (fun x => { x with saved := [], after := 0 })

/-- The arm checks and cache fills finish (R154). -/
def State.armFinish (s : State) (k : Nat) : State :=
  if s.scenState k = 2 then
    let t := s.setScen k 3
    let t := (t.membersOf k).foldl (fun u g =>
      if (u.grv g).scen = 64 ∧ (u.grv g).cacheFor = u.entryOf k g then
        let u := u.fs (gBase g) GRV_JCACHE_STATUS_ACTIVE 0x1F
        let e := u.step g (u.entryOf k g)
        (match (if e.endless then none else e.firstNext (u.entryOf k g)) with
        | some n => u.fs (gBase g) GRV_JCACHE_STATUS_NEXT (u.freshSet g (commWin g) n ((u.step g n).firstNext n))
        | none => u.fs (gBase g) GRV_JCACHE_STATUS_NEXT 0x1F).updGrv g (fun v => { v with roles := (v.roles.1, u.gfNow, v.roles.2.2) })
      else u) t
    t.closeAct k .ok s.plainReport
  else s

/-! ### Members (R157 to R164) -/

/-- Graver `g`'s channel is let go by the scenario that holds it before the stroke of GF cycle `c` (R50, R64, R73, R159, R161, R214): it is
idle from there, STEP_NOW names the step issued last, SAMPLE_COUNT holds the last sample issued, and a stencil window in progress is
cut. -/
def State.letGo (s : State) (g c : Nat) : State :=
  let b := gBase g
  let t := s.updGrv g (fun v => { v with cycle := max v.cycle c })
  let t := if g < 16 then (t.lateEnds g (t.lateStrokes g)).tenureEnds g c else t
  let t := (t.fs b GRV_STEP_NOW_PLAYING 0).fs b GRV_STEP_NOW_INDEX (s.grv g).shown
  let t := if g < 16 then
      (t.fs b GEN_STYLUS_STATUS_RENDERING 0).updGen g (fun v => { v with count := (8 * (c - v.sBase) - 1) % 2 ^ 64, late := none })
    else t
  t.updGrv g (fun v => { v with scen := 64, hand := none, latched := false })

/-- The position that Graver `g`'s scenario saves at a pre-emption point (R52, R163). -/
def State.position (s : State) (g : Nat) : Saved :=
  let b := gBase g
  { g := g, begun := true, step := s.stepNow g, passes := s.fg b GRV_PASS_NOW_PASS, entering := (s.grv g).entered, ended := !s.playing g,
    until_ := (s.grv g).until_, loops := s.fg b GRV_LOOP_ACTIVE_ACTIVE,
    counts := (List.range 8).map (fun i => s.fg b GRV_LOOP_COUNT_COUNT i), version := s.fg b GRV_TABLE_VERSION_VERSION,
    nco := (s.grv g).before, sty := (s.grv g).beforeSty, sBase := (s.gen g).sBase }

/-- The NCO state at a scenario's first sample on channel `g` (R51). -/
def State.ncoFirst (s : State) (g : Nat) : Nco :=
  ncoStart (s.fg (base (pGEN g)) GEN_NCO_FTW_FTW_LO + 2 ^ 32 * s.fg (base (pGEN g)) GEN_NCO_FTW_FTW_HI)
    (s.fg (base (pGEN g)) GEN_NCO_PHASE_PHASE) (s.fg (base (pGEN g)) GEN_AMPL_SCALE)

/-- The position of a member that never began: its entry step, still to be entered (R161). -/
def State.unbegun (s : State) (k g : Nat) : Saved :=
  { g := g, begun := false, step := s.entryOf k g, passes := 0, entering := true, ended := false, until_ := 0, loops := 0,
    counts := List.replicate 8 0, version := s.fg (gBase g) GRV_TABLE_VERSION_VERSION, nco := Nco.fresh, sty := Sty.fresh, sBase := 0 }

/-- Scenario `k`'s first stroke on Graver `g` after a start or a resume: the interpolator's history is clear (R46), and the first words
come from the start buffer, which has filled since the action was accepted (R383). -/
def State.headStart (s : State) (g k : Nat) : State :=
  s.updGrv g (fun v =>
    { v with clean := true, via := 0, start := none, since := (match v.start with | some (j, c) => if j = k then c else s.gfNow | none => s.gfNow) })

/-- Scenario `k` begins on Graver `g` at GF cycle `c`, a start: R51, the loops cleared (R120), then the entry step (R157); the ACTIVE set is
filled anew unless it holds that step (R132). -/
def State.startMember (s : State) (g k c : Nat) : State :=
  let e := s.entryOf k g
  let t := if g < 16 then s.updGen g (fun v => { v with nco := s.ncoFirst g, sBase := c, sty := Sty.fresh }) else s
  let t := (List.range 8).foldl (fun u i => u.fs (gBase g) GRV_LOOP_COUNT_COUNT 0 i) ((t.headStart g k).clearLoops g)
  let t := t.goTo g e
  if !t.playing g || (s.grv g).cacheFor == e then t else (t.refill g e).fillNext g

/-- Scenario `k` continues on Graver `g` from a saved position at GF cycle `c` (R52, R164): the shaping history of the Stylus is zero, the
step's actions apply where they were still to apply, and the ACTIVE set is filled unless it holds the step (R132). A member whose sequence
had ended stays idle. -/
def State.resumeMember (s : State) (g k c : Nat) (v : Saved) : State :=
  let b := gBase g
  let e := s.step g v.step
  let d := s.descOf (s.segRec e.segment)
  let t := ((s.headStart g k).fs b GRV_PASS_NOW_PASS v.passes).fs b GRV_LOOP_ACTIVE_ACTIVE v.loops
  let t := (v.counts.zip (List.range 8)).foldl (fun u e => u.fs b GRV_LOOP_COUNT_COUNT e.1 e.2) t
  let t := if g < 16 then t.updGen g (fun q =>
      { q with nco := if v.entering && !v.ended then v.nco.enter e.acts (8 * (c - v.sBase) % 2 ^ 64) else v.nco, sBase := v.sBase,
               sty := if v.ended then v.sty else (v.sty.pass d v.entering).cut d }) else t
  let t := t.updGrv g (fun q => { q with pos := 0, latched := false, entered := v.entering, before := v.nco, beforeSty := v.sty, until_ := if v.entering then waitTime e.wait (s.strokeAt g) else v.until_ })
  if v.ended then t.fs b GRV_STEP_NOW_PLAYING 0
  else if t.badLine (commWin g + 64 * v.step) then t.tableEnd g v.step
  else
    let t := (((t.fs b GRV_STEP_NOW_INDEX v.step).markLate g).showStylus g).loadSlots g
    if (s.grv g).cacheFor = v.step then t else (t.refill g v.step).fillNext g

/-- Scenario `k` takes Graver `g` at the stroke of GF cycle `c`: a start, or a resume where the position of a begun member is saved. -/
def State.takeMember (s : State) (g k c : Nat) : State :=
  let t := (s.settleLate k (s.gfTime c)).updGrv g (fun v => { v with scen := k, hand := none, latched := false, cycle := c })
  let t := (t.fs (gBase g) GRV_STEP_NOW_PLAYING 1).wr64 (base pSCEN + 0x408 + 16 * g) (t.strokeAt g)
  let t := match (s.scn k).saved.find? (fun v => v.g == g && v.begun) with
    | some v => t.resumeMember g k c v
    | none => t.startMember g k c
  let t := if g < 16 then t.tenureBegins g k (t.gen g).sBase c else t
  t.stamp k (s.gfTime c / 2 ^ 40)

/-- A Graver member of scenario `k` goes down before the stroke of GF cycle `c`. -/
def State.goneDown (s : State) (k c : Nat) : State :=
  s.updScn k (fun x => { x with down := max x.down (s.gfTime c), last := max x.last (s.gfTime (c - 1)) })

/-- The state of the scenario as a stop, park or end records its instant. -/
def State.stopTime (s : State) (k at_ : Nat) : State := s.st64 (scenAddr k + 0xD0) at_

/-- A DISARM accepted (R152). -/
def State.disarmBegin (s : State) (k : Nat) (a : ScenAct) : State :=
  (s.setScen k 9).updScn k (fun x => { x with act := some a, after := 0 })

/-- An action that the orphan policy takes on scenario `k`. -/
def State.orphanAct (s : State) (k op : Nat) : ScenAct :=
  { op := op, at_ := s.now, sess := s.scenOwner k, src := .orphan, atOnce := false, waits := false, judged := false, launched := false, told := false, gf := false, cf := false, first := none, last := 0 }

/-- What an orphan policy still asks of a scenario that has become ARMED (R165). -/
def State.afterArmed (s : State) (k : Nat) : State :=
  if (s.scn k).after = 2 ∧ s.scenState k = 3 then s.disarmBegin k (s.orphanAct k 7) else s

/-- The acquisition of channel `n` ends with the first CF cycle at or after `t40`, in 1/2^40 tick, or at an earlier stop point (R159 to R162,
R260). What the channel shows follows at once; the samples up to there belong to the acquisition (assumption log, entry 148). -/
def State.capHalt (s : State) (n t40 : Nat) : State :=
  let q := max (s.cfFirst40 t40) ((s.trc n).cBase + s.acquired n / 8)
  let e := laterEnd (8 * (q - (s.trc n).cBase)) 1 (s.trc n).endAt
  s.acqEnd n e.2 e.1

/-- Every capture channel that acquires for scenario `k` stops at the first CF cycle at or after `t40`. -/
def State.stopCaps (s : State) (k t40 : Nat) : State :=
  (s.capsBy k).foldl (fun t n =>
    (t.capHalt n t40).updScn k (fun x => { x with down := max x.down (t.cfTime (t.cfFirst40 t40)) })) s

/-- A report with the time by which the members of scenario `k` have gone down. -/
def State.downReport (s : State) (k : Nat) : Report := { time := (s.scn k).down / 2 ^ 40, w1 := 0, w2 := 0xFF, w3 := 0 }

/-- Scenario `k` is suspended on every member (R161, R162): its routes are removed, and PREEMPTED or the PARK's
SCEN_DONE is raised with the time of the last suspension. -/
def State.suspended (s : State) (k : Nat) : State :=
  let t := ((s.setScen k 7).removeRoutes k).stopTime k ((s.scn k).down / 2 ^ 40)
  let t := if (s.scn k).by_ = 64 then t
    else (t.notifyTo (s.scenOwner k) { t.note pSCEN 3 (k + 256 * (s.scn k).by_) with time := (s.scn k).down / 2 ^ 40 }).updScn k (fun x => { x with by_ := 64 })
  t.closeAct k .ok (t.downReport k)

/-- Scenario `k` has stopped on every member (R159): its capture members stop with the last of the others, it is ARMED, its saved state is
gone. -/
def State.stopped (s : State) (k : Nat) : State :=
  let t := s.stopCaps k (s.scn k).down
  let t := ((t.setScen k 3).removeRoutes k).stopTime k ((t.scn k).down / 2 ^ 40)
  let t := t.updScn k (fun x => { x with saved := [], by_ := 64 })
  (t.closeAct k .ok (t.downReport k)).afterArmed k

/-- Scenario `k` holds no Graver any more: a suspension or a stop completes. -/
def State.settleDown (s : State) (k : Nat) : State :=
  if 64 ≤ k ∨ !(s.heldBy k).isEmpty then s
  else
    match (s.scn k).act with
    | some a => if !a.launched || !a.gf then s else if s.scenState k = 6 then s.suspended k else if s.scenState k = 8 then s.stopped k else s
    | none => if s.scenState k = 6 then s.suspended k else s

/-- Scenario `k` ends when every Graver member has ended its sequence (R160), with the last of their strokes: its capture members stop at
the first CF cycle after it. -/
def State.scenEnds (s : State) (k : Nat) : State :=
  let gs := s.heldBy k
  if s.scenState k = 5 ∧ !gs.isEmpty ∧ gs.all (fun g => !s.playing g) then
    let c := gs.foldl (fun m g => max m (s.grv g).cycle) 0
    let last := s.gfTime (c - 1)
    let t := gs.foldl (fun u g => (u.letGo g c).stopExchange g) (s.stopCaps k (last + 1))
    let t := ((t.setScen k 3).removeRoutes k).stopTime k (last / 2 ^ 40)
    let t := t.updScn k (fun x => { x with saved := [], act := none })
    (t.notifyTo (s.scenOwner k) { t.note pSCEN 2 k with time := last / 2 ^ 40 }).afterArmed k
  else s

/-- PARK of a PLAYING scenario taken at its action time, from what an orphan policy still asks (R165). -/
def State.parkBegin (s : State) (k : Nat) (a : ScenAct) : State :=
  (s.setScen k 6).updScn k (fun x => { x with act := some a, after := 0 })

/-- Every member of scenario `k` has begun: PLAYING, START, SCEN_DONE with the ticks from the earliest start to the latest
(R153, R157). -/
def State.settleStart (s : State) (k : Nat) : State :=
  if 64 ≤ k then s
  else
    match (s.scn k).act with
    | some a =>
      if s.scenState k = 4 ∧ a.launched ∧ a.cf ∧ (s.membersOf k).all (fun g => (s.grv g).scen == k) then
        let first := a.first.getD s.now
        let t := ((s.setScen k 5).st64 (scenAddr k + 0xC8) first).updScn k (fun x => { x with saved := [] })
        let t := t.closeAct k .ok { time := first, w1 := a.last - first, w2 := 0xFF, w3 := 0 }
        let t := if (s.scn k).after = 1 then t.parkBegin k (t.orphanAct k 5) else t
        t.scenEnds k
      else s
    | none => s

/-- The GF cycle of the stroke at which what awaits Graver `g` takes it (R161): the next one of a sequence that plays; else the first idle
one at or after its time. -/
def State.pointCycle (s : State) (g : Nat) (h : Hand) : Nat :=
  if s.playing g then (s.grv g).cycle else max (s.grv g).cycle (s.gfFrom h.at_)

/-- Graver `g` is at a pre-emption point that something awaits (R159 to R162): the scenario that holds it is suspended or
stopped there, and the one that waits takes the stroke. -/
def State.takePoint (s : State) (g : Nat) : State :=
  match (s.grv g).hand with
  | none => s
  | some h =>
    let o := (s.grv g).scen
    let c := s.pointCycle g h
    let t := if o = 64 then s
      else if h.stop then (((s.settleLate o (s.gfTime c)).goneDown o c).letGo g c).stopExchange g
      else
        let p := s.position g
        let u := ((s.commitWithdraw g).goneDown o c).updScn o (fun x => { x with saved := p :: x.saved.filter (fun v => v.g != g) })
        u.letGo g c
    let t := if 64 ≤ h.next then t.updGrv g (fun v => { v with hand := none }) else t.takeMember g h.next c
    (t.settleDown o).settleStart h.next

/-- Something awaits Graver `g` at its next pre-emption point: at once where its sequence has ended, or where the stroke it plans next is
such a point (R161). -/
def State.await (s : State) (g : Nat) (h : Hand) : State :=
  let t := s.updGrv g (fun v => { v with hand := some h })
  if s.playing g && !((s.grv g).pos == 0 && t.handDue g) then t else t.takePoint g

/-! ### Start, resume and pre-emption (R158, R161, R164) -/

/-- Who holds or is about to hold Graver `g` against scenario `k`. -/
def State.rivals (s : State) (k g : Nat) : List Nat :=
  ([(s.grv g).scen] ++ (match (s.grv g).hand with | some h => [h.next] | none => [])).filter (fun o => decide (o < 64) && o != k)

/-- The scenarios that scenario `k` meets on its members: Gravers held, and captures acquiring for a scenario. -/
def State.meets (s : State) (k : Nat) : List Nat :=
  distinct (((s.membersOf k).map (s.rivals k)).flatten
    ++ ((s.capsOf k).filter (fun n => s.acquiring n && decide ((s.trc n).scen < 64) && (s.trc n).scen != k)).map (fun n => (s.trc n).scen))

/-- The member on which scenario `k` meets one of equal or higher PRIORITY (R158). -/
def State.outranked (s : State) (k : Nat) : Option Nat :=
  ((s.membersOf k).find? (fun g => (s.rivals k g).any (fun o => decide (s.prio k ≤ s.prio o)))).or
    (((s.capsOf k).find? (fun n => s.acquiring n && decide ((s.trc n).scen < 64) && (s.trc n).scen != k
      && decide (s.prio k ≤ s.prio (s.trc n).scen))).map (0x20 + ·))

/-- The member whose TABLE_VERSION differs from the saved one (R143, R164). -/
def State.versionDiffers (s : State) (k : Nat) : Option Nat :=
  ((s.scn k).saved.find? (fun v => s.fg (gBase v.g) GRV_TABLE_VERSION_VERSION != v.version)).map (·.g)

/-- A START or RESUME of scenario `k` refused at its time: ARMED or SUSPENDED, as it was (R158, R164). -/
def State.startRefused (s : State) (k m : Nat) (c : Code) : State :=
  match (s.scn k).act with
  | some a =>
    (((s.setScen k (if a.op = 6 then 7 else 3)).updScn k (fun x => { x with after := 0 })).closeAct k c
      { time := s.now, w1 := 0, w2 := m, w3 := 0 })
  | none => s

/-- Members of scenario `o` not begun are given up: nothing awaits them on other Gravers, and their positions are saved
(R161). -/
def State.dropUnbegun (s : State) (o : Nat) (save : Bool) : State :=
  let t := { s with gravers := s.gravers.map (fun v => match v.hand with
    | some h => if h.next = o then { v with hand := some { h with next := 64 } } else v
    | none => v) }
  if save then
    (t.membersOf o).foldl (fun u g =>
      if (u.grv g).scen = o ∨ (u.scn o).saved.any (fun v => v.g == g) then u
      else u.updScn o (fun x => { x with saved := s.unbegun o g :: x.saved })) t
  else t

/-- Scenario `o` is suspended as one on all its members because scenario `k` takes some of them at tick `at_` (R161). -/
def State.preempt (s : State) (o k at_ : Nat) : State :=
  let stopping := s.scenState o == 8
  let t := if s.scenState o = 4 then (s.dropUnbegun o true).closeAct o .cancelled s.plainReport else s
  let t := if stopping then t else (t.setScen o 6).updScn o (fun x =>
    { x with by_ := if s.scenState o = 6 then x.by_ else k, down := if s.scenState o = 6 then x.down else at_ * 2 ^ 40 })
  let t := ((t.capsBy o).filter (fun n => bit (s.scenCaps k) n)).foldl (fun u n => u.acqPass n at_ k) t
  let t := if stopping then t else t.stopCaps o (at_ * 2 ^ 40)
  (t.heldBy o).foldl (fun u g =>
    if bit (s.scenGravers k) g then u.await g { at_ := at_, stop := stopping, next := k }
    else if stopping ∨ (u.grv g).hand.isSome then u
    else u.await g { at_ := at_, stop := false, next := 64 }) t |>.settleDown o

/-- The free Graver members of scenario `k` begin at the first stroke at or after tick `at_`, once GF runs (R32, R157). -/
def State.beginFree (s : State) (k at_ : Nat) : State :=
  if s.fb (base pCLK) CLK_PAGE_STATUS_GF_VALID then
    (((s.membersOf k).filter (fun g => (s.grv g).scen == 64)).foldl (fun t g => t.takeMember g k (s.gfFrom at_)) s).updAct k
      (fun a => { a with gf := true })
  else s

/-- The free capture members of scenario `k` begin at the first CF cycle at or after tick `at_`, once CF runs (R32, R157). -/
def State.beginCaps (s : State) (k at_ : Nat) : State :=
  if (s.capsOf k).isEmpty then s.updAct k (fun a => { a with cf := true })
  else if s.fb (base pCLK) CLK_PAGE_STATUS_CF_VALID then
    let q := s.cfFrom at_
    let t := s.settleLate k (s.cfTime q)
    let t := ((s.capsOf k).filter (fun n => !s.acquiring n)).foldl (fun t n => t.acqBegin n q k) t
    (t.stamp k (s.cfTime q / 2 ^ 40)).updAct k (fun a => { a with cf := true })
  else s

/-- The line of scenario `k`'s save area (R411), which has no device address: the model numbers them above all. -/
def saveLine (k : Nat) : Nat := 2 ^ 60 + 64 * k

/-- What refuses a START or RESUME of scenario `k`, with the member it names (R158, R164, R411): a save area that reads uncorrectable, a
table version, then PRIORITY. -/
def State.startFails (s : State) (k : Nat) (a : ScenAct) : Option (Nat × Code) :=
  if a.op = 6 ∧ s.badLine (saveLine k) then some (0xFF, .ecc)
  else ((if a.op = 6 then s.versionDiffers k else none).map (fun g => (g, Code.version))).or ((s.outranked k).map (fun m => (m, Code.priority)))

/-- A START or RESUME of scenario `k` at its action time (R157, R158, R161, R164); one that waited on START_EVT has been judged then. -/
def State.launch (s : State) (k : Nat) (a : ScenAct) : State :=
  match (if a.judged then none else s.startFails k a) with
  | some r => (if r.2 = .ecc then s.eccRead (saveLine k) 8 0 else s).startRefused k r.1 r.2
  | none =>
    let at_ := max a.at_ s.now
    let t := (s.updAct k (fun q => { q with launched := true })).updScn k (fun x => { x with down := 0, last := 0 })
    let t := (match a.src with | .entry _ => t.publishBy 0x8004 | _ => t).installRoutes k
    let t := (s.meets k).foldl (fun u o => u.preempt o k at_) t
    ((t.beginFree k at_).beginCaps k at_).settleStart k

/-! ### Stop and park (R159, R162) -/

/-- Scenario `k`'s Graver members stop at the first stroke at or after tick `at_` (R159); one that another scenario waits for passes to
it. -/
def State.stopGravers (s : State) (k at_ : Nat) : State :=
  if s.fb (base pCLK) CLK_PAGE_STATUS_GF_VALID || (s.heldBy k).isEmpty then
    let t := s.updAct k (fun a => { a with gf := true })
    (s.heldBy k).foldl (fun u g =>
      let next := match (u.grv g).hand with | some h => h.next | none => 64
      let u := if u.playing g then u.playStrokes g (min (u.gfFrom at_ - (u.grv g).cycle) (u.restOfPass g)) else u
      (u.updGrv g (fun v => { v with hand := some { at_ := at_, stop := true, next := next } })).takePoint g) t
  else s

/-- STOP, STOP_BOUNDARY or PARK of scenario `k` at its action time. -/
def State.halt (s : State) (k : Nat) (a : ScenAct) : State :=
  let at_ := max a.at_ s.now
  let t := (s.updAct k (fun q => { q with launched := true, gf := q.op != 3 || q.gf })).updScn k (fun x => { x with down := at_ * 2 ^ 40, last := 0 })
  let t := match a.src with | .entry _ => t.publishBy 0x8004 | _ => t
  let t := if s.fb (base pCLK) CLK_PAGE_STATUS_GF_VALID || (s.heldBy k).isEmpty then
      t.settleLate k (if (s.heldBy k).isEmpty then s.cfTime (s.cfFrom at_) else s.gfTime (s.gfFrom at_)) else t
  match a.op with
  | 3 => ((t.stopCaps k (at_ * 2 ^ 40)).stopGravers k at_).settleDown k
  | 4 =>
    ((t.heldBy k).foldl (fun u g =>
      let next := match (u.grv g).hand with | some h => h.next | none => 64
      u.await g { at_ := at_, stop := true, next := next }) t).settleDown k
  | _ =>
    let t := t.stopCaps k (at_ * 2 ^ 40)
    ((t.heldBy k).foldl (fun u g =>
      if (u.grv g).hand.isSome then u else u.await g { at_ := at_, stop := false, next := 64 }) t).settleDown k

/-- The action of scenario `k` whose time has come. -/
def State.actNow (s : State) (k : Nat) : State :=
  match (s.scn k).act with
  | some a =>
    if a.waits || a.launched || decide (a.op = 1 ∨ 6 < a.op) then s
    else if a.op = 2 ∨ a.op = 6 then s.launch k a
    else s.halt k a
  | none => s

/-- Scenario `j`'s action comes before scenario `k`'s at the same time on a shared member: a stop before a start, then the
higher PRIORITY, then the lower number (R174). -/
def State.before (s : State) (k j : Nat) : Bool :=
  match (s.scn k).act, (s.scn j).act with
  | some a, some b =>
    j != k && !b.waits && !b.launched && a.at_ == b.at_ && decide (2 ≤ b.op ∧ b.op ≤ 6)
      && ((s.membersOf k).any (fun g => bit (s.scenGravers j) g) || (s.capsOf k).any (fun n => bit (s.scenCaps j) n))
      && (b.op == 3 || b.op == 4 || ((b.op == 2 || b.op == 6) && (a.op == 2 || a.op == 6)
        && (decide (s.prio k < s.prio j) || (s.prio k == s.prio j && decide (j < k)))))
  | _, _ => false

/-- The scenarios in the order of R174: by falling PRIORITY, then by number. -/
def State.byPrio (s : State) : List Nat :=
  ((List.range 16).reverse.map (fun p => (List.range 64).filter (fun j => s.prio j == p))).flatten

/-- The action time of scenario `k`'s action comes (R156). Actions that R174 puts first are carried out first. -/
def State.actTime (s : State) (k : Nat) : State :=
  match (s.scn k).act with
  | some a =>
    if a.waits || a.launched then s
    else
      let s := { s with now := max s.now a.at_ }
      let first := s.byPrio.filter (s.before k)
      let stops := first.filter (fun j => match (s.scn j).act with | some b => b.op == 3 || b.op == 4 | none => false)
      let starts := first.filter (fun j => !stops.contains j)
      ((stops ++ starts).foldl (fun t j => t.actNow j) s).actNow k
  | none => s

/-- What of scenario `k`'s action waited for a valid translator takes effect at the first stroke or CF cycle (R32, R330). -/
def State.catchUpOf (s : State) (k : Nat) : State :=
  match (s.scn k).act with
  | some a =>
    if !a.launched then s
    else if s.scenState k = 4 then
      let u := if a.gf then s else s.beginFree k s.now
      let u := if a.cf then u else u.beginCaps k s.now
      u.settleStart k
    else if s.scenState k = 8 ∧ a.op = 3 ∧ !a.gf then (s.stopGravers k s.now).settleDown k
    else if s.fb (base pCLK) CLK_PAGE_STATUS_GF_VALID then s.settleLate k (s.gfTime (s.gfFrom s.now))
    else s
  | none => s

/-- The actions whose time came while a translator was invalid take effect where it is valid again (R32, R330). -/
def State.catchUp (s : State) : State := (List.range 64).foldl (fun t k => t.catchUpOf k) s

/-! ### The actions (R152, R155 to R159) -/

/-- The states from which an action is accepted (R152). -/
def accepted (op st : Nat) : Bool :=
  match op with
  | 1 | 9 => st == 1
  | 2 | 7 => st == 3
  | 3 | 4 => decide (4 ≤ st ∧ st ≤ 7)
  | 5 => st == 5
  | 6 => st == 7
  | 8 => st == 2 || st == 9
  | _ => false

/-- An action that needs no stroke is carried out at once: where its entry fell due too late it is reported with the ticks it is late by now
(R171). -/
def State.lateNow (s : State) (k : Nat) (a : ScenAct) : State := if a.atOnce then s.reportLate k a (s.now - a.at_) else s

/-- START or RESUME accepted (R156): its members' start buffers begin to fill, and it waits where START_EVT asks for it (R383). -/
def State.startBegin (s : State) (k : Nat) (a : ScenAct) : State :=
  let t := (s.setScen k 4).updScn k (fun x => { x with act := some { a with waits := s.startEvt k != 0 } })
  (s.membersOf k).foldl (fun u g => u.updGrv g (fun v => { v with start := some (k, s.gfNow) })) t

/-- STOP or STOP_BOUNDARY accepted (R152, R156, R159). -/
def State.stopBegin (s : State) (k : Nat) (a : ScenAct) : State :=
  let st := s.scenState k
  match (s.scn k).act with
  | some b =>
    let t := if b.op = 3 ∨ b.op = 4 then s else s.closeAct k .cancelled s.plainReport
    if st = 4 ∧ b.waits then (((t.setScen k (if b.op = 6 then 7 else 3)).lateNow k a).finish k a .ok s.plainReport).afterArmed k
    else ((t.dropUnbegun k false).setScen k 8).updScn k (fun x => { x with act := some a })
  | none =>
    if st = 7 then ((((s.setScen k 3).updScn k (fun x => { x with saved := [] })).lateNow k a).finish k a .ok s.plainReport).afterArmed k
    else (s.setScen k 8).updScn k (fun x => { x with act := some a })

/-- CANCEL of an arm or a disarm in progress (R155). -/
def State.cancelAct (s : State) (k : Nat) (a : ScenAct) : State :=
  let t := if s.scenState k = 2 then s.unarm k else s.setScen k 3
  (t.closeAct k .cancelled s.plainReport).finish k a .ok s.plainReport

/-- RELEASE (R152): the record is zeroed. -/
def State.releaseScen (s : State) (k : Nat) (a : ScenAct) : State :=
  ((s.finish k a .ok s.plainReport).zero (scenAddr k) 256).updScn k (fun _ => ScenX.fresh)

/-- An accepted action, by its code. -/
def State.perform (s : State) (k : Nat) (a : ScenAct) : State :=
  match a.op with
  | 1 => s.arm k a
  | 2 | 6 => s.startBegin k a
  | 3 | 4 => s.stopBegin k a
  | 5 => s.parkBegin k a
  | 7 => (s.disarmBegin k a).lateNow k a
  | 8 => s.cancelAct k a
  | _ => s.releaseScen k a

/-- Action `op` on scenario `k` with action time `at_`, from a session or an entry (R152, R153). An EMPTY scenario is
nobody's, so OWNER refuses a command on it (assumption log, entry 155). -/
def State.scenAct (s : State) (sess op k at_ : Nat) (src : ActSrc) (atOnce : Bool) : State :=
  let a : ScenAct := { op := op, at_ := at_, sess := sess, src := src, atOnce := atOnce, waits := false, judged := false, launched := false, told := false, gf := false, cf := false, first := none, last := 0 }
  if sess = 0 ∨ s.scenOwner k ≠ sess then s.finish k a .owner s.plainReport
  else if !accepted op (s.scenState k) then s.finish k a .state s.plainReport
  else s.perform k a

/-- An event on START_EVT arrives at scenario `k`'s start consumer (R156, R158): whether an action waited for it. -/
def State.startEvent (s : State) (k : Nat) : Bool × State :=
  match (s.scn k).act with
  | some a =>
    if a.waits && decide (a.at_ ≤ s.now) then
      match s.startFails k a with
      | some r => (true, (if r.2 = .ecc then s.eccRead (saveLine k) 8 0 else s).startRefused k r.1 r.2)
      | none => (true, s.updAct k (fun q => { q with waits := false, judged := true, at_ := s.now + 96 }))
    else (false, s)
  | none => (false, s)

/-- An event on START_EVT with no action waiting (R156, R307). -/
def State.startUnused (s : State) (k : Nat) : State :=
  (s.count (base pSCEN) SCEN_EVT_UNUSED_COUNT_COUNT).overrun (0x700 + k)

/-- The disarm finishes (R152). -/
def State.disarmFinish (s : State) (k : Nat) : State :=
  if s.scenState k = 9 then (s.unarm k).closeAct k .ok s.plainReport else s

/-- The STOP of a proof verdict (R217): the scenario stops at the stroke planned in the verdict cycle. -/
def State.proofStop (s : State) (k planned : Nat) : State :=
  let st := s.scenState k
  let a : ScenAct := { s.orphanAct k 3 with src := .proof, at_ := planned }
  if 64 ≤ k then s
  else if st = 7 then s.stopBegin k a
  else if st = 4 ∨ st = 5 ∨ st = 6 then (s.stopBegin k a).actTime k
  else s

/-! ### Orphan policies (R165) -/

/-- The policy of scenario `k` applied at the lease expiry of its owner. -/
def State.orphanScen (s : State) (k : Nat) : State :=
  let pol := s.mbits (scenAddr k + 0x10) 23 22
  let st := s.scenState k
  let waits : Bool := match (s.scn k).act with | some a => a.waits | none => false
  let t := match pol with
    | 1 =>
      if st = 5 then (s.parkBegin k (s.orphanAct k 5)).actTime k
      else if st = 4 ∧ waits then ((s.closeAct k .cancelled s.plainReport).setScen k 3).updScn k (fun x => { x with saved := [] })
      else if st = 4 then s.updScn k (fun x => { x with after := 1 })
      else s
    | 2 =>
      let u := s.updScn k (fun x => { x with after := 2 })
      if 4 ≤ st ∧ st ≤ 7 then
        let u := (u.stopBegin k (s.orphanAct k 3)).actTime k
        if u.scenState k = 7 then u.stopBegin k (s.orphanAct k 3) else u
      else if st = 3 then u.afterArmed k
      else s
    | _ => s
  let t := if pol = 0 then t
    else (List.range 1024).foldl (fun u i =>
      if u.schedState i = 2 ∧ u.mbits (schedAddr i) 13 8 = k then u.entryEnds i 5 .orphaned s.now else u) t
  let chans := ((s.routesOf k).map (fun q => [q.2.2.1, q.2.2.2])).flatten.filter (fun c => c != 0 && s.chAttr c == 1)
  (s.openList.filter (fun q => q != s.scenOwner k && s.consumers.any (fun c => s.consumerOwner c == q
    && (s.subsOf c).any (fun e => chans.contains e.1 || chans.contains e.2)))).foldl
    (fun u q => u.notifyTo q (u.note pSCEN 4 (k + 256 * pol))) t

/-- A SCHED command of session `k` completes with a result (R169). -/
def State.schedReport (s : State) (k op i : Nat) (c : Code) : State :=
  let b := sbase k pSCHED
  let t := ((s.fs b SCHED_CMD_STATUS_RESULT c.num).fs b SCHED_CMD_STATUS_OP op).fs b SCHED_CMD_STATUS_ENTRY i
  t.notifyTo k (t.note pSCHED (if c = .ok then 0 else 1) (i + 65536 * op + 2 ^ 24 * c.num))

/-- A SCEN command that completes in the queue. -/
def State.scenOrphaned (s : State) (q : QCmd) : State :=
  s.finish q.num { s.orphanAct q.num q.op with sess := q.sess, src := .command } .orphaned s.plainReport

/-- The commands of session `q` still in the unit's queues complete as CANCELLED_UNSTARTED, with ORPHANED (R165, R174). -/
def State.orphanCmds (s : State) (q : Nat) : State :=
  let t := (s.unit.scenQ.filter (fun c => c.sess == q)).foldl (fun u c => u.scenOrphaned c) s
  let t := (s.unit.schedQ.filter (fun c => c.sess == q)).foldl (fun u c => u.schedReport c.sess c.op c.num .orphaned) t
  { t with unit := { t.unit with scenQ := t.unit.scenQ.filter (fun c => c.sess != q), schedQ := t.unit.schedQ.filter (fun c => c.sess != q) } }

/-- The policies of every scenario that session `q` owns, its queued commands first. -/
def State.orphanScens (s : State) (q : Nat) : State :=
  (List.range 64).foldl (fun t k => if s.scenState k ≠ 0 ∧ s.scenOwner k = q then t.orphanScen k else t) (s.orphanCmds q)

/-! ### Schedules (R168 to R173) -/

/-- A word written to a schedule entry (R168). -/
def State.schedWrite (s : State) (k a : Nat) (w : Word) : Act :=
  let i := (a - 0x08640000) / 32
  let off := a % 32
  let mask := if off = 0 then 0x0FC03F00 else if off < 0x10 then 0xFFFFFFFF else 0
  if s.schedOwner i ≠ 0 ∧ s.schedOwner i ≠ k then .error .owner
  else if s.schedState i = 2 then .error .locked
  else if off = 0 ∧ bits w.toNat 23 22 = 0 then .ok (s.zero (schedAddr i) 32)
  else
    let t := s.stw a (maskIn (s.ldw a) w.toNat mask)
    .ok ((t.setMbits (schedAddr i + 0x10) 15 8 k).setMbits (schedAddr i + 0x10) 2 0 1)

/-- The PPS second of entry `i`. -/
def State.schedSecond (s : State) (i : Nat) : Nat := s.ldw (schedAddr i + 4) + 2 ^ 32 * s.mbits (schedAddr i + 8) 15 0

/-- The KEY of entry `i`: 1 DEVICE_TIME, 2 PPS_SECOND. -/
def State.schedKey (s : State) (i : Nat) : Nat := s.mbits (schedAddr i) 23 22

/-- The capture time and the number of the last PPS edge. -/
def State.lastPps (s : State) : Nat × Nat := (s.rd64 (base pTIME + TIME_PPS_TIME), s.rd64 (base pTIME + TIME_PPS_COUNT))

/-- T fixed for entry `i` from the last edge captured (R173). -/
def State.schedFix (s : State) (i : Nat) : State :=
  let n := s.schedSecond i
  let t := (((s.lastPps.1 + s.ldw (schedAddr i + 0xC) : Nat) : Int) + ((n : Int) - s.lastPps.2) * 3000000000).toNat
  { s with scheds := s.scheds.map (fun e => if e.i = i then { e with at_ := some t } else e) }

/-- The result of SUBMIT of entry `i` by session `k` (R169, R170, R173); while Rest is being entered, none with a T less
than 100 ms away (R536). -/
def State.submitCheck (s : State) (k i : Nat) : Code :=
  let op := s.mbits (schedAddr i) 27 24
  if s.schedOwner i ≠ k ∨ s.scenOwner (s.mbits (schedAddr i) 13 8) ≠ k then .owner
  else if s.schedState i = 2 then .state
  else if op = 0 ∨ 7 < op ∨ s.schedKey i = 0 ∨ s.schedKey i = 3 then .limit
  else if s.schedKey i = 2 ∧ 2999999999 < s.ldw (schedAddr i + 0xC) then .limit
  else if s.schedKey i = 2 ∧ !s.fb (base pDEV) DEV_FW_STATUS_ATELIER_READY then .firmwareBusy
  else if s.schedKey i = 2 ∧ s.clk.ppsSeen ∧ s.schedSecond i ≤ s.lastPps.2 then .late
  else if s.restState = 1 ∧ s.schedKey i = 1 ∧ s.ld (schedAddr i + 4) 8 < s.now + 300000000 then .state
  else .ok

/-- SUBMIT (R169): the entry is PENDING, and its T is fixed where it can be. -/
def State.submitDo (s : State) (i : Nat) : State :=
  let t := ((s.stw (schedAddr i + 0x10) (s.ldw (schedAddr i + 0x10) &&& 0xFF00)).setMbits (schedAddr i + 0x10) 2 0 2).st64 (schedAddr i + 0x18) 0
  let t := { t with scheds := { i := i, at_ := none, fell := false } :: t.scheds.filter (fun e => e.i != i) }
  if s.schedKey i = 1 then
    { t with scheds := t.scheds.map (fun e => if e.i = i then { e with at_ := some (s.ld (schedAddr i + 4) 8) } else e) }
  else if s.clk.ppsSeen ∧ s.schedSecond i ≤ s.lastPps.2 + 1 then t.schedFix i
  else t

/-- What a SCHED command answers (R169). A FREE entry is in no state from which REMOVE acts; one of another session's is refused with
OWNER. -/
def State.schedCheck (s : State) (k op i : Nat) : Code :=
  if op = 1 then s.submitCheck k i
  else if s.schedState i = 0 then .state
  else if s.schedOwner i ≠ k then .owner
  else if s.schedState i != 2 || (match s.sched i with | some e => e.fell | none => true) then .state
  else .ok

/-- A SCHED command of session `k` is carried out, and its completion reported (R169). -/
def State.schedAct (s : State) (k op i : Nat) : State :=
  let c := s.schedCheck k op i
  (if c ≠ .ok then s else if op = 1 then s.submitDo i else s.entryEnds i 5 .cancelled 0).schedReport k op i c

/-- Entry `i`, whose T is `t`, falls due now (R171): its action is carried out with its action time. -/
def State.schedFalls (s : State) (i t : Nat) : State :=
  let u := { s with scheds := s.scheds.map (fun (q : SchedX) => if q.i = i then { q with fell := true } else q) }
  if s.schedState i ≠ 2 then s
  else if s.badLine (schedAddr i) then (u.eccRead (schedAddr i) 8 0).entryEnds i 4 .ecc u.now
  else u.scenAct (s.schedOwner i) (s.mbits (schedAddr i) 27 24) (s.mbits (schedAddr i) 13 8) t (.entry i) (decide (t < s.now + 3000))

/-! ### The unit's order (R153, R169, R171, R174) -/

/-- What the unit takes next: the head of the queue of SCHED.CMD, a PENDING entry that falls due, or the head of the queue of SCEN.CMD. -/
inductive Due where
  | schedCmd (q : QCmd)
  | entry (i t : Nat)
  | scenCmd (q : QCmd)
deriving DecidableEq, Repr

/-- Of two happenings with their ticks, the one the unit takes first; at equal ticks the former. -/
def sooner (a b : Option (Nat × Due)) : Option (Nat × Due) :=
  match a, b with
  | some x, some y => if y.1 < x.1 then some y else some x
  | none, y => y
  | x, none => x

/-- Of two PENDING entries, the one that falls due first (R171). -/
def soonerEntry (a b : Nat × Nat) : Nat × Nat := if b.2 < a.2 ∨ (b.2 = a.2 ∧ b.1 < a.1) then b else a

/-- The PENDING entry that falls due next: the least T, then the least number (R171). -/
def State.entryDue (s : State) : Option (Nat × Nat) :=
  match s.scheds.filterMap (fun e => if e.fell then none else e.at_.map (fun t => (e.i, t))) with
  | [] => none
  | e :: l => some (l.foldl soonerEntry e)

/-- The happening that the unit takes next, with its tick. At one tick a SCHED command is taken first, so that a removal prevails over its
entry's falling due (R174), then the entries that fall due, then a SCEN command (R171). Of each queue one command is taken a tick
(assumption log, entry 40). -/
def State.upNext (s : State) : Option (Nat × Due) :=
  sooner (sooner (s.unit.schedQ.head?.map (fun q => (max s.unit.schedFree q.since, .schedCmd q)))
    (s.entryDue.map (fun e => (e.2 - 3000, .entry e.1 e.2))))
    (s.unit.scenQ.head?.map (fun q => (max s.unit.scenFree q.since, .scenCmd q)))

/-- The unit carries out, in tick `tick`, what it takes next. -/
def State.take (s : State) (tick : Nat) (d : Due) : State :=
  match d with
  | .schedCmd q =>
    { s with unit := { s.unit with schedQ := s.unit.schedQ.tail, schedFree := tick + 1 } }.schedAct q.sess q.op q.num
  | .entry i t => s.schedFalls i t
  | .scenCmd q =>
    { s with unit := { s.unit with scenQ := s.unit.scenQ.tail, scenFree := tick + 1 } }.scenAct q.sess q.op q.num (tick + 3000) .command false

/-- What the unit takes up to the present tick, at most `fuel` happenings. -/
def State.runUnit (s : State) : Nat → State
  | 0 => s
  | fuel + 1 =>
    match s.upNext with
    | some (tick, d) => if s.now < tick then s else State.runUnit (s.take tick d) fuel
    | none => s

/-- What the unit has taken by the present tick, and the acquisitions that have begun or ended by then: the queues hold 16 commands each, and
a submission may add an entry to those PENDING. -/
def State.settled (s : State) : State := (s.runUnit (48 + s.scheds.length)).capsDue

/-- The present tick moves on to `t`, and the unit takes what comes up to there. -/
def State.moveTo (s : State) (t : Nat) : State := { s with now := max s.now t }.settled

/-- SCEN.CMD written (R152, R153): a reserved OP is refused with FORMAT, a full queue with BUSY; else the command enters the queue. -/
def State.scenCmd (s : State) (sess op k : Nat) : Act :=
  let s := s.settled
  if op = 0 ∨ 9 < op then .error .format
  else if 16 ≤ s.unit.scenQ.length then .error .busy
  else .ok { s with unit := { s.unit with scenQ := s.unit.scenQ ++ [(⟨sess, op, k % 64, s.now⟩ : QCmd)] } }.settled

/-- SCHED.CMD written by session `k` (R169), in the same manner. -/
def State.schedCmd (s : State) (k op i : Nat) : Act :=
  let s := s.settled
  if op = 0 ∨ 2 < op then .error .format
  else if 16 ≤ s.unit.schedQ.length then .error .busy
  else .ok { s with unit := { s.unit with schedQ := s.unit.schedQ ++ [(⟨k, op, i % 1024, s.now⟩ : QCmd)] } }.settled

/-- Every PENDING PPS_SECOND entry whose edge n − 1 has been captured has its T fixed (R173). -/
def State.schedEdge (s : State) : State :=
  (s.scheds.filter (fun e => e.at_.isNone && s.schedKey e.i == 2 && decide (s.schedSecond e.i ≤ s.lastPps.2 + 1))).foldl
    (fun t e => t.schedFix e.i) s

/-- Edge n − 1 is 1 ms overdue: T is fixed from the last edge captured (R173). -/
def State.schedExtrap (s : State) (i : Nat) : State :=
  match s.sched i with
  | some e =>
    if e.at_.isNone && s.schedKey i == 2 && s.clk.ppsSeen then
      let s := s.moveTo (s.lastPps.1 + (s.schedSecond i - 1 - s.lastPps.2) * 3000000000 + 3000000)
      ((s.schedFix i).setMbits (schedAddr i + 0x10) 5 5 1).settled
    else s
  | none => s

/-! ### What the SCEN and SCHED pages show (R176, R177) -/

/-- CMD_STATUS of session `k` on the page at `b`, with the commands of that session still in the queue `l` (R176, R177); the field holds at
most 15. -/
def State.cmdStatus (s : State) (b k : Nat) (l : List QCmd) : Word :=
  setF (s.rd (b + 0x044)) SCEN_CMD_STATUS_QUEUED (min 15 (l.filter (fun q => q.sess == k)).length)

/-- CMD_STATUS, STATE_MAPk and GRAVERg_STATE, as session `k` reads them. -/
def State.scenLive (s : State) (k off : Nat) : Option Word :=
  if off = 0x044 then some (s.cmdStatus (sbase k pSCEN) k s.unit.scenQ)
  else if 0x080 ≤ off ∧ off < 0x0A0 then
    some (BitVec.ofNat 32 ((List.range 8).foldl (fun n j => n + s.scenState (8 * ((off - 0x080) / 4) + j) * 16 ^ j) 0))
  else if 0x400 ≤ off ∧ off < 0x540 ∧ off % 16 = 0 then
    let g := (off - 0x400) / 16
    if !s.hasGraver g then some 0#32
    else
      let mine := (List.range 64).filter (fun k => bit (s.scenGravers k) g)
      let susp := (mine.filter (fun k => s.scenState k == 7)).length
      let arm := (mine.filter (fun k => decide (3 ≤ s.scenState k))).length
      some (BitVec.ofNat 32 ((if (s.grv g).scen < 64 then 2 ^ 31 + (s.grv g).scen * 2 ^ 24 else 0) + min 63 susp * 256 + min 127 arm))
  else none

/-- CMD_STATUS, COUNTS and NEXT_DUE, as session `k` reads them. -/
def State.schedLive (s : State) (k off : Nat) : Option Word :=
  let next := (s.scheds.filterMap (·.at_)).foldl min (2 ^ 64 - 1)
  if off = 0x044 then some (s.cmdStatus (sbase k pSCHED) k s.unit.schedQ)
  else if off = 0x048 then
    some (BitVec.ofNat 32 (65536 * ((List.range 1024).filter (fun i => s.schedState i == 2)).length
      + ((List.range 1024).filter (fun i => s.schedState i == 0)).length))
  else if off = 0x050 then some (BitVec.ofNat 32 next)
  else if off = 0x054 then some (BitVec.ofNat 32 (next / 2 ^ 32))
  else none

/-! ### The commands -/

/-- SCEN_RECORD_WRITE (R149). -/
def execScenRecordWrite (o : Org) (addr : Nat) (w : Word) (s : State) : Host.Outcome State Fault Refusal :=
  .next (s.hostMem o addr (fun t =>
    if 0x08620000 ≤ addr ∧ addr < 0x08624000 ∧ addr % 4 = 0 then t.scenWrite o.sess addr w else .error .address))

/-- A command written to SCEN.CMD. -/
def State.scenCmdBy (s : State) (o : Org) (op k : Nat) : State :=
  s.hostReg o (base pSCEN + SCEN_CMD) (BitVec.ofNat 32 (256 * k + op)) (fun t => t.scenCmd o.sess op k)

/-- ARM (R154). -/
def execArm (o : Org) (k : Nat) (s : State) : Host.Outcome State Fault Refusal := .next (s.scenCmdBy o 1 k)

/-- ARM_DONE (R154). -/
def execArmDone (k : Nat) (s : State) : Host.Outcome State Fault Refusal := .next (s.settled.armFinish k)

/-- START (R156, R157). -/
def execStart (o : Org) (k : Nat) (s : State) : Host.Outcome State Fault Refusal := .next (s.scenCmdBy o 2 k)

/-- STOP (R159). -/
def execStop (o : Org) (k : Nat) (s : State) : Host.Outcome State Fault Refusal := .next (s.scenCmdBy o 3 k)

/-- STOP_BOUNDARY (R159). -/
def execStopBoundary (o : Org) (k : Nat) (s : State) : Host.Outcome State Fault Refusal := .next (s.scenCmdBy o 4 k)

/-- PARK (R162). -/
def execPark (o : Org) (k : Nat) (s : State) : Host.Outcome State Fault Refusal := .next (s.scenCmdBy o 5 k)

/-- RESUME (R164). -/
def execResume (o : Org) (k : Nat) (s : State) : Host.Outcome State Fault Refusal := .next (s.scenCmdBy o 6 k)

/-- DISARM (R152). -/
def execDisarm (o : Org) (k : Nat) (s : State) : Host.Outcome State Fault Refusal := .next (s.scenCmdBy o 7 k)

/-- DISARM_DONE (R152). -/
def execDisarmDone (k : Nat) (s : State) : Host.Outcome State Fault Refusal := .next (s.settled.disarmFinish k)

/-- CANCEL (R155). -/
def execCancel (o : Org) (k : Nat) (s : State) : Host.Outcome State Fault Refusal := .next (s.scenCmdBy o 8 k)

/-- RELEASE of a scenario record (R152). -/
def execScenRelease (o : Org) (k : Nat) (s : State) : Host.Outcome State Fault Refusal := .next (s.scenCmdBy o 9 k)

/-- ACTION_TIME (R156, R157, R159, R161, R162, R164). -/
def execActionTime (k : Nat) (s : State) : Host.Outcome State Fault Refusal :=
  .next ((match (s.scn k).act with | some a => if a.waits then s.settled else s.moveTo a.at_ | none => s.settled).actTime k)

/-- SCHED_ENTRY_WRITE (R168). -/
def execSchedEntryWrite (o : Org) (addr : Nat) (w : Word) (s : State) : Host.Outcome State Fault Refusal :=
  .next (s.hostMem o addr (fun t =>
    if 0x08640000 ≤ addr ∧ addr < 0x08648000 ∧ addr % 4 = 0 then t.schedWrite o.sess addr w else .error .address))

/-- A command written to SCHED.CMD. -/
def State.schedCmdBy (s : State) (o : Org) (op i : Nat) : State :=
  s.hostReg o (base pSCHED + SCHED_CMD) (BitVec.ofNat 32 (op * 2 ^ 24 + i)) (fun t => t.schedCmd o.sess op i)

/-- SUBMIT (R169). -/
def execSubmit (o : Org) (i : Nat) (s : State) : Host.Outcome State Fault Refusal := .next (s.schedCmdBy o 1 i)

/-- REMOVE (R169). -/
def execRemove (o : Org) (i : Nat) (s : State) : Host.Outcome State Fault Refusal := .next (s.schedCmdBy o 2 i)

/-- SCHED_DUE (R171). -/
def execSchedDue (i : Nat) (s : State) : Host.Outcome State Fault Refusal :=
  .next (match (s.sched i).bind (fun e => if e.fell then none else e.at_) with
    | some t => s.moveTo (t - 3000)
    | none => s.settled)

/-- SCHED_EXTRAPOLATE (R173). -/
def execSchedExtrapolate (i : Nat) (s : State) : Host.Outcome State Fault Refusal := .next (s.schedExtrap i)

/-- WINDOW_VERDICT (R215 to R217): in the cycle in which the verdict of a whole window is due; the operands spell no such window otherwise,
and nothing happens. -/
def execWindowVerdict (n : Nat) (w : ProofWindow) (s : State) : Host.Outcome State Fault Refusal :=
  s.onChan false n (match s.winTenure n w with
    | none => s
    | some e =>
      let d := w.first + winCycles (s.stenFor n w.first).cfg + 191
      let v := (s.toGf d).verdict n w
      if v.2 then v.1.proofStop e.scen (s.gfTime (d + 16) / 2 ^ 40) else v.1)

end Sys2Proof.Machine
end

