-- ==== Sys2Proof/Machine/Clocks.lean ====
section
/-! DEFINITION. Sys2Proof/Machine/Clocks.lean: clocks, device time and multi-unit sync (spec/11_clocks_time_sync.md): the
reference chain, the sample rates, the clock outputs, PPS and the sync bus. -/
namespace Sys2Proof.Machine
open Sys2Proof

/-- The clock die changed. -/
def State.updClk (s : State) (f : Clk → Clk) : State := { s with clk := f s.clk }

/-- The sync bus changed. -/
def State.updSync (s : State) (f : SyncBus → SyncBus) : State := s.updClk (fun c => { c with sync := f c.sync })

/-! ### Device time (R336, R339) -/

/-- GF goes on from its present cycle at a rate or on a scale about to change; the translator that held up to there is kept. -/
def State.anchorGf (s : State) : State :=
  s.updClk (fun c => { c with gf := c.gf.anchored s.genRate s.gfNow, gfPast := (c.gf, s.genRate) :: c.gfPast })

/-- CF goes on from its present cycle at a rate or on a scale about to change. -/
def State.anchorCf (s : State) : State :=
  s.updClk (fun c => { c with cf := c.cf.anchored s.capRate s.cfNow, cfPast := (c.cf, s.capRate) :: c.cfPast })

/-- The grid of CF cycles has changed: every acquisition goes on over the new one (R331, R339). -/
def State.regrid (s : State) : State :=
  (List.range s.variant.caps).foldl (fun u n =>
    if u.acquiring n then u.updTrc n (fun v => { v with grids := (s.clk.cf, s.capRate) :: v.grids }) else u) s

/-- A time that the module keeps, after device time was set or corrected by `d`. -/
def shifted (d : Int) (t : Nat) : Nat := ((t : Int) + d).toNat

/-- A grid of cycles after device time was set by `d`. -/
def Grid.moved (e : Grid) (d : Int) : Grid := { e with edge := shifted (d * 2 ^ 40) e.edge, least := shifted (d * 2 ^ 40) e.least }

/-- A grid of cycles from the tick after `v`, where a correction c of device time begins (R339): the cycles of held ticks are reported at the
held value with fraction 0xFFFF. -/
def Grid.corrected (e : Grid) (v : Nat) (c : Int) : Grid :=
  { e with edge := shifted (-c * 2 ^ 40) e.edge, least := if 0 < c then (65536 * v + 0xFFFF) * 2 ^ 24 else e.least }

/-- A correction c of device time at its tick: the counter holds its value for c ticks, or advances by 1 + |c| in one tick; the translators go
on over the corrected scale (R339). -/
def State.correct (s : State) (c : Int) : State :=
  if c = 0 then s
  else
    let t := s.anchorGf.anchorCf.updClk (fun k => { k with gf := k.gf.corrected s.now c, cf := k.cf.corrected s.now c })
    (if 0 < c then t.updClk (fun k => { k with hold := (if k.heldAt = s.now then k.hold else 0) + c.toNat, heldAt := s.now })
    else { t with now := s.now + 1 + c.natAbs, cal := { t.cal with skipped := t.cal.skipped || decide (max (s.now + 1) s.cal.stepped ≤ (s.now + c.natAbs) / s.burnishTicks * s.burnishTicks) } }).regrid

/-- An announced correction whose device time has come takes effect. -/
def State.corrections (s : State) : State :=
  match s.clk.sync.correction with
  | some (t, c) => if t ≤ s.now then (s.updSync (fun b => { b with correction := none })).correct c else s
  | none => s

/-- Device time has reached `t`. -/
def State.toTime (s : State) (t : Nat) : State := { s with now := max s.now t }.corrections.settled

/-- A frame sent on the sync bus, upstream or downstream. -/
def State.syncSend (s : State) (up : Bool) (f : SyncFrame) : State := s.updSync (fun b => { b with sent := (up, f) :: b.sent })

/-- A master sends a TIME frame once per 1 ms (R341). -/
def State.timeBeat (s : State) : State :=
  if s.fg (base pSYNC) SYNC_STATUS_STATE = 5 ∧ s.clk.sync.timeAt ≤ s.now then
    (s.syncSend false (.time s.now (s.fg (base pSYNC) SYNC_BUS_LEAD_TICKS))).updSync (fun b => { b with timeAt := s.now + 3000000 })
  else s

/-! ### Page ownership (R475) -/

/-- A producer or a subscription of the block of page `p` stands on an event channel. -/
def State.pageOnFabric (s : State) (p : Nat) : Bool :=
  (List.range 256).any (fun c => s.producerPage (s.chF c XH_CH_CFG_PRODUCER) == some p)
    || s.consumers.any (fun c => (match c / 256 with
        | 2 => gPage (c % 256) == p
        | 1 | 3 | 4 | 8 => pageNo (subKey c) == p
        | _ => false) && (s.subsOf c).any (fun e => e.1 != 0 || e.2 != 0))

/-- The block of page `p` acquires (R475). -/
def State.pageAcquires (s : State) (p : Nat) : Bool :=
  decide (0x060 ≤ p ∧ p < 0x06C) && (s.acquiring ((p - 0x060) % 4) || (s.trc ((p - 0x060) % 4)).startAt.isSome)

/-- What a command of XPORT.OWN_CMD by session `k` on page `p` comes to. -/
def State.ownOp (s : State) (k op p : Nat) : Code × State :=
  let mine : Bool := match pageOf s.variant p with
    | some (kind, _) => kind.ordinary
    | none => false
  if op = 1 then
    if !mine then (.address, s)
    else if s.owner p ≠ 0 then (.owner, s)
    else (.ok, s.fs (base p) HDR_PAGE_OWNER_OWNER k)
  else if !mine ∨ s.owner p ≠ k then (.owner, s)
  else if s.armedUses p || s.pageAcquires p || s.pageOnFabric p then (.locked, s)
  else (.ok, s.fs (base p) HDR_PAGE_OWNER_OWNER 0)

/-- Signet carries out a command of page ownership, writes OWN_STATUS and raises OWN_DONE or OWN_REFUSED (R475). -/
def State.ownDo (s : State) (q : OwnReq) : State :=
  let b := sbase q.sess pXPORT
  let r := s.ownOp q.sess q.op q.page
  let t := ((r.2.fs b XPORT_OWN_STATUS_BUSY 0).fs b XPORT_OWN_STATUS_RESULT r.1.num).fs b XPORT_OWN_STATUS_PAGE q.page
  t.notifyTo q.sess (s.note pXPORT (if r.1 = .ok then 0 else 1) (q.page + 4096 * q.op + 65536 * r.1.num))

/-- Signet carries out the commands of page ownership that wait, at most `fuel` of them. -/
def State.ownRun (s : State) : Nat → State
  | 0 => s
  | fuel + 1 =>
    match s.xport.ownQ with
    | [] => s
    | q :: l => State.ownRun ({ s with xport := { s.xport with ownQ := l, ownFree := s.now + 1 } }.ownDo q) fuel

/-- Signet takes one command of page ownership a tick for the whole module (R475; assumption log, entry 150). -/
def State.ownSettled (s : State) : State := if s.xport.ownFree ≤ s.now then s.ownRun 1 else s


/-! ### The time translators (R30, R32, R331) -/

/-- GF stops, its translator invalid (R330). -/
def State.stopGf (s : State) : State := s.anchorGf.fs (base pCLK) CLK_PAGE_STATUS_GF_VALID 0

/-- CF stops, its translator invalid (R330). -/
def State.stopCf (s : State) : State := s.anchorCf.fs (base pCLK) CLK_PAGE_STATUS_CF_VALID 0

/-- GF restarts with the cycle after the last one before it stopped, at a phase to the tick that is free, and its translator is anchored anew
(R30, R330). -/
def State.startGf (s : State) : State :=
  ((s.updClk (fun c => { c with gf := ⟨s.now * 2 ^ 40 + s.free 0x330 % 2 ^ 40, c.gf.cyc, 0⟩ })).fs (base pCLK) CLK_PAGE_STATUS_GF_VALID 1).bump

/-- CF restarts in the same way. -/
def State.startCf (s : State) : State :=
  ((s.updClk (fun c => { c with cf := ⟨s.now * 2 ^ 40 + s.free 0x331 % 2 ^ 40, c.cf.cyc, 0⟩ })).fs (base pCLK) CLK_PAGE_STATUS_CF_VALID 1).bump

/-- Device time set to `t` (R338, R344): what the module times in ticks goes on unaffected (R39), so the times it keeps for
that move with the counter. -/
def State.setTime (s : State) (t : Nat) : State :=
  let d := (t : Int) - s.now
  let f := shifted d
  let ses (q : Sess) : Sess :=
    { q with lastMsgAt := f q.lastMsgAt, otherPortAt := f q.otherPortAt, orphanAt := f q.orphanAt, unacked := q.unacked.map (fun u => { u with firstAt := f u.firstAt, sentAt := f u.sentAt }), flights := q.flights.map (fun u => { u with sentAt := f u.sentAt }), pulls := q.pulls.map (fun u => (u.1, f u.2)), notices := q.notices.map (fun u => { u with at_ := f u.at_ }), gapRuns := q.gapRuns.map (fun u => { u with begun := f u.begun }) }
  { s with
    now := t % 2 ^ 64
    clk := { s.clk with gf := s.anchorGf.clk.gf.moved d, cf := s.anchorCf.clk.cf.moved d, gfPast := s.anchorGf.clk.gfPast.map (fun g => (g.1.moved d, g.2)), cfPast := s.anchorCf.clk.cfPast.map (fun g => (g.1.moved d, g.2)), ppsAt := shifted (65536 * d) s.clk.ppsAt, acquireAt := f s.clk.acquireAt, sync := { s.clk.sync with waiting := s.clk.sync.waiting.map (fun v => { v with since := f v.since }), slots := s.clk.sync.slots.map (fun v => f (64 * v) / 64), bad := s.clk.sync.bad.map (fun v => (v.1, f v.2)), timeAt := f s.clk.sync.timeAt } }
    unit := ⟨s.unit.scenQ.map (fun q => { q with since := f q.since }), s.unit.schedQ.map (fun q => { q with since := f q.since }), f s.unit.scenFree, f s.unit.schedFree⟩
    lanes := { s.lanes with off := s.lanes.off.map (fun v => { v with at_ := f v.at_ }), lastEdge := s.lanes.lastEdge.map (fun v => v.map (shifted (65536 * d))) }
    proofs := s.proofs.map (fun p => { p with selfTests := p.selfTests.map (fun v => { v with at_ := f v.at_ }) })
    cal := { s.cal with ests := s.cal.ests.map (fun v => { v with lastAt := f v.lastAt, since := f v.since }), bursts := s.cal.bursts.map (fun v => (v.1, f v.2)), lastReq := s.cal.lastReq.map (fun v => (v.1, f v.2)), lastBurst := s.cal.lastBurst.map (fun v => (v.1, f v.2)), atelierGap := s.cal.atelierGap.map f, began := f s.cal.began, stepped := f s.cal.stepped }
    xh := { s.xh with published := s.xh.published.map (fun e => (e.1, f e.2)), crossing := s.xh.crossing.map (fun e => { e with at_ := f e.at_ }), hits := s.xh.hits.map (fun e => (e.1, f e.2)), levels := s.xh.levels.map (fun m => { m with at_ := f m.at_ }), groups := s.xh.groups.map (fun m => { m with at_ := f m.at_ }) }
    dram := { s.dram with panicAt := s.dram.panicAt.map (fun v => v.map f) }
    trust := { s.trust with restarts := s.trust.restarts.map f, tamperAt := f s.trust.tamperAt, resetDue := s.trust.resetDue.map (fun v => (v.1, f v.2)), signetAt := f s.trust.signetAt, readyAt := f s.trust.readyAt }
    power := { s.power with okAt := s.power.okAt.map f, loopAt := f s.power.loopAt }
    xport := { s.xport with sess := s.xport.sess.map ses, ownQ := s.xport.ownQ.map (fun q => { q with since := f q.since }), ownFree := f s.xport.ownFree, challenges := s.xport.challenges.map (fun c => { c with sentAt := f c.sentAt }), auth := s.xport.auth.map (fun c => { c with times := c.times.map f, ignoreUntil := f c.ignoreUntil }), ports := s.xport.ports.map (fun p => { p with dhcpAckAt := f p.dhcpAckAt }) } }

/-! ### The reference chain (R316 to R328) -/

/-- The reference state: 0 BYPASS, 1 ACQUIRING, 2 LOCKED (R318). -/
def State.refState (s : State) : Nat := s.fg (base pCLK) CLK_REF_STATUS_STATE

/-- One switch of the reference with its cause (R326): to the OCXO, or to the cleaner with cause RETURN. -/
def State.refSwitch (s : State) (cause : Nat) : State :=
  let b := base pCLK
  let ocxo := cause != 7
  let t := (s.fs b CLK_REF_STATUS_STATE (if ocxo then 0 else 2)).fs b CLK_PAGE_STATUS_ON_BYPASS (b2n ocxo)
  let t := t.sourceTo 6 ocxo
  let t := if ocxo then t.publish 6 else t
  let t := (t.fs b CLK_REF_STATUS_LAST_CAUSE cause).count b CLK_SWITCH_COUNT_COUNT
  t.notify (t.note pCLK 0 cause (t.fg b CLK_REF_DEV_DEV_PPB))

/-- The ACQUIRING state ends without lock, with its outcome (R318, R319). -/
def State.acquireEnds (s : State) (outcome : Nat) : State :=
  let t := s.fs (base pCLK) CLK_REF_STATUS_STATE 0
  t.notify (t.note pCLK 1 outcome)

/-- The module leaves the input for the OCXO: from LOCKED by a switch with its cause (R325), from ACQUIRING with the
outcome given. -/
def State.leaveRef (s : State) (cause outcome : Nat) : State :=
  if s.refState = 2 then s.refSwitch cause
  else if s.refState = 1 then s.acquireEnds outcome
  else s

/-- The SYNC state (R351). -/
def State.syncState (s : State) : Nat := s.fg (base pSYNC) SYNC_STATUS_STATE

/-- The SYNC state set. -/
def State.setSync (s : State) (st : Nat) : State := s.fs (base pSYNC) SYNC_STATUS_STATE st

/-- A join in progress fails with its outcome: 1 LOSS, 2 TIMEOUT, 3 FILTER_ABSENT (R344). -/
def State.joinFails (s : State) (outcome : Nat) : State :=
  if s.syncState = 1 ∨ s.syncState = 2 then
    let t := s.setSync 0
    t.notify (t.note pSYNC 0 outcome (t.fg (base pSYNC) SYNC_UP_DELAY_DELAY) (t.fg (base pSYNC) SYNC_TOTAL_DELAY_DELAY))
  else s

/-- The last complete monitor gate lay beyond ± `limit` ppb (R328). -/
def State.devBeyond (s : State) (limit : Nat) : Bool :=
  let d := sext 32 (s.fg (base pCLK) CLK_REF_DEV_DEV_PPB)
  s.fg (base pCLK) CLK_REF_DEV_DEV_PPB != 0x80000000 && decide (limit < d.natAbs)

/-- REF_CMD.SELECT (R319). -/
def State.refSelect (s : State) : Act :=
  let b := base pCLK
  if s.refState ≠ 0 ∨ !s.fb b CLK_REF_STATUS_PRESENT ∨ s.fb b CLK_REF_STATUS_FILTER_ABSENT
      ∨ s.devBeyond (s.fg b CLK_REF_LIMITS_FAULT_PPB) ∨ s.fg (base pSYNC) SYNC_CFG_ROLE = 2 then .error .state
  else .ok ((s.fs b CLK_REF_STATUS_STATE 1).updClk (fun c => { c with acquireAt := s.now }))

/-- REF_CMD written: BYPASS before SELECT (R319; assumption log, entry 41). -/
def State.refCmd (s : State) (bypass select : Bool) : Act :=
  let t := if bypass then s.leaveRef 6 4 else s
  if select then t.refSelect else .ok t

/-- The comparator of LOCK_A rises: lock is declared, unless the filter is absent (R322, R323, R326). -/
def State.lockRises (s : State) : State :=
  let t := s.fs (base pCLK) CLK_REF_STATUS_LOCK_HIGH 1
  if t.refState = 1 ∧ !t.fb (base pCLK) CLK_REF_STATUS_FILTER_ABSENT then
    let u := t.refSwitch 7
    u.notify (u.note pCLK 1 0)
  else t

/-- REF_IN is lost (R324); on a member, whose input is the upstream link, no reference goes with it (R342). -/
def State.refLost (s : State) : State :=
  let t := s.fs (base pCLK) CLK_REF_STATUS_PRESENT 0
  if s.fg (base pSYNC) SYNC_CFG_ROLE = 2 then t else t.leaveRef 1 1

/-- One 100 ms gate of the reference monitor, with the deviation in ppb where the input is present (R328). -/
def State.monitorGate (s : State) (dev : Option Int) : State :=
  let b := base pCLK
  let t := s.fs b CLK_REF_DEV_DEV_PPB (match dev with | some d => ofSigned 32 d | none => 0x80000000)
  let warn := t.devBeyond (s.fg b CLK_REF_LIMITS_WARN_PPB)
  let fault := t.devBeyond (s.fg b CLK_REF_LIMITS_FAULT_PPB)
  let t := t.updClk (fun c =>
    { c with beyondWarn := if warn then c.beyondWarn + 1 else 0, withinWarn := if dev.isSome && !warn then c.withinWarn + 1 else 0, beyondFault := if fault then c.beyondFault + 1 else 0 })
  let w := t.fg b CLK_REF_DEV_DEV_PPB
  let t := if 10 ≤ t.clk.beyondWarn ∧ !t.fb b CLK_REF_STATUS_WARN then
      let u := t.fs b CLK_REF_STATUS_WARN 1
      u.notify (u.note pCLK 2 1 w)
    else if 10 ≤ t.clk.withinWarn ∧ t.fb b CLK_REF_STATUS_WARN then
      let u := t.fs b CLK_REF_STATUS_WARN 0
      u.notify (u.note pCLK 2 0 w)
    else t
  if 10 ≤ t.clk.beyondFault ∧ t.refState = 2 then t.refSwitch 3 else t

/-- One 1 ms gate of LOCK_A's transition counter (R323). -/
def State.lockGate (s : State) (n : Nat) : State :=
  let b := base pCLK
  let t := s.fs b CLK_LOCK_MON_TRANSITIONS (min 0xFFFF n)
  if 1000 < n then
    let t := t.fs b CLK_REF_STATUS_FILTER_ABSENT 1
    (((t.notify (t.note pCLK 3 (min 0xFFFF n))).leaveRef 4 2).joinFails 3)
  else t

/-! ### Sample rates (R329 to R332) -/

/-- The loop of a rate: false for the DAC clock, true for the ADC clock. -/
def State.loopRate (s : State) (cap : Bool) : Nat := if cap then s.capRate else s.genRate

/-- The sessions that a loop's notices go to: the page owner, and every session with an armed scenario that has a member
on the loop (R330). -/
def State.loopSessions (s : State) (cap : Bool) : List Nat :=
  let armed := ((List.range 64).filter (fun k => decide (3 ≤ s.scenState k)
    && (if cap then s.scenCaps k != 0 else s.scenGravers k != 0))).map s.scenOwner
  distinct ((if s.clkOwner = 0 then [] else [s.clkOwner]) ++ armed)

/-- RATE_DONE (bit 4) or SYNTH_RELOCK (bit 5) of a loop (R330 to R332). -/
def State.loopNotice (s : State) (cap : Bool) (code : Nat) : State :=
  let r := s.loopRate cap
  (s.loopSessions cap).foldl (fun t k => t.notifyTo k (t.note pCLK code (b2n cap) 0 (r % 2 ^ 32) (r / 2 ^ 32))) s

/-- Every generate channel's proof alignment is lost (R202), what acts at its comparator being noted. -/
def State.unalign (s : State) : State :=
  (List.range s.variant.gens).foldl (fun u n => (u.fs (base (pGEN n)) GEN_PROOF_STATUS_ALIGNED 0).logChain n) s

/-- The DAC-clock loop acquires (R330, R332): every generate channel is muted for CLOCK, GF stops, its translator is
invalid. -/
def State.genAcquire (s : State) (why : AcqWhy) : State :=
  let b := base pCLK
  let t := (List.range s.variant.gens).foldl (fun u n => u.mute n .clock) s.unalign
  ((t.fs b CLK_PAGE_STATUS_GEN_ACQ 1).stopGf).updClk (fun c => { c with genWhy := why, genGlide := false })

/-- The ADC-clock loop acquires (R330, R332): every acquisition ends with cause CLOCK, CF stops, its translator is
invalid. -/
def State.capAcquire (s : State) (why : AcqWhy) : State :=
  let b := base pCLK
  let t := (List.range s.variant.caps).foldl (fun u n =>
    (u.acqCut n).fs (base (pCAP n)) CAP_CAP_STATUS_CLOCK_VALID 0) s
  ((t.fs b CLK_PAGE_STATUS_CAP_ACQ 1).stopCf).updClk (fun c => { c with capWhy := why, capGlide := false })

/-- GLIDING shows a slew of either loop. -/
def State.showGlide (s : State) : State := s.fs (base pCLK) CLK_PAGE_STATUS_GLIDING (b2n (s.clk.genGlide || s.clk.capGlide))

/-- The highest frequency of a clock output format, in mHz (R333). -/
def formatMax (f : Nat) : Nat :=
  match f with
  | 0 => 1500000000000
  | 1 => 3000000000000
  | 2 => 400000000000
  | 3 => 6000000000000
  | _ => 250000000000

/-- The frequency of a clock output's source, in mHz, at rates `gen` and `cap` (R333). -/
def sourceRate (src gen cap : Nat) : Nat :=
  match src with
  | 1 => 3000000000000
  | 2 => gen
  | 3 => cap
  | 4 | 5 => 100000000000
  | _ => 0

/-- An OUTk_CFG word exceeds its format's highest frequency. -/
def outTooFast (w : Word) (gen cap : Nat) : Bool :=
  decide (formatMax (getF w CLK_OUT_CFG_FORMAT) * (getF w CLK_OUT_CFG_DIV_M1 + 1) < sourceRate (getF w CLK_OUT_CFG_SRC) gen cap)

/-- An enabled clock output would exceed its format at the rates given (R329). -/
def State.outsFail (s : State) (gen cap : Nat) : Bool :=
  (List.range 4).any (fun k =>
    let w := s.rd (base pCLK + CLK_OUT_CFG k)
    getF w CLK_OUT_CFG_EN == 1 && outTooFast w gen cap)

/-- Clock output `k`, sourced from TB, rises at tick `t` of device time, its fixed delay apart (R334): at the whole multiples of DIV ticks, to
which it realigns after a correction. -/
def State.outRises (s : State) (k t : Nat) : Bool :=
  let w := s.rd (base pCLK + CLK_OUT_CFG k)
  getF w CLK_OUT_CFG_EN == 1 && getF w CLK_OUT_CFG_SRC == 1 && t % (getF w CLK_OUT_CFG_DIV_M1 + 1) == 0

/-- OUTk_CFG written (R333, R579). -/
def State.outCfg (s : State) (k a : Nat) (w : Word) : Act :=
  let f := getF w CLK_OUT_CFG_FORMAT
  if 4 < f ∨ getF w CLK_OUT_CFG_LEVEL = 3 ∨ (f = 2 ∧ getF w CLK_OUT_CFG_LEVEL ≠ 0) then .error .format
  else if 5 < getF w CLK_OUT_CFG_SRC ∨ outTooFast w s.genRate s.capRate then .error .limit
  else .ok (s.plain k a w)

/-- The charges at a new DAC rate: every Graver's and pattern port's demand goes with the rate (R102). -/
def chargesAt (cs : List Charge) (old new : Nat) : List Charge :=
  cs.map (fun c => if c.port < 20 then { c with amount := cdiv (c.amount * new) old } else c)

/-- The charges of every enabled ring at the ADC rate in force. -/
def State.ringCharges' (s : State) : List Charge :=
  (List.range 4).foldl (fun l n =>
    if s.ringOn n then l.filter (fun c => c.holder != 64 + n) ++ s.ringCharges n s.capRate else l) s.plates.charges

/-- A rate committed on a loop (R207, R329 to R331); bits 63 to 48 of the pair are reserved (R12). -/
def State.rateWrite (s : State) (cap : Bool) (r0 : Nat) : Act :=
  let r := r0 % 2 ^ 48
  let b := base pCLK
  let old := s.loopRate cap
  let key := b + (if cap then CLK_CAP_RATE else CLK_GEN_RATE)
  let busy := if cap then s.fb b CLK_PAGE_STATUS_CAP_ACQ || s.clk.capGlide else s.fb b CLK_PAGE_STATUS_GEN_ACQ || s.clk.genGlide
  let near := decide ((max r old - min r old) * 1000000 ≤ 50 * old)
  let lim := if cap then (4000000000000, 12000000000000) else (8000000000000, 24000000000000)
  if r < lim.1 ∨ lim.2 < r then .error .limit
  else if s.outsFail (if cap then s.genRate else r) (if cap then r else s.capRate) then .error .limit
  else if busy then .error .busy
  else
    let t := (if cap then s.anchorCf else s.anchorGf).wr64 key r
    let cs := if cap then t.ringCharges' else chargesAt s.plates.charges old r
    if old < r ∧ (s.overPlace cs).isSome then .error .budget
    else
      let t := t.setCharges cs
      let t := if cap || near then t else t.clearModels
      .ok (if s.fb b CLK_RATE_CFG_MODE && near then
          ((if cap then t.regrid else t).updClk (fun c => if cap then { c with capGlide := true } else { c with genGlide := true })).showGlide
        else (if cap then t.capAcquire .write else t.genAcquire .write).showGlide)

/-- A loop's acquisition completes (R202, R330, R332, R587): its domain restarts, its translator is valid, and what fell
due meanwhile is carried out. -/
def State.synthDone (s : State) (cap : Bool) : State :=
  let b := base pCLK
  if cap then
    if !s.fb b CLK_PAGE_STATUS_CAP_ACQ then s
    else
      let t := (s.fs b CLK_PAGE_STATUS_CAP_ACQ 0).startCf
      let t := (List.range s.variant.caps).foldl (fun u n => u.fs (base (pCAP n)) CAP_CAP_STATUS_CLOCK_VALID 1) t
      let t := t.catchUp
      match s.clk.capWhy with
      | .write => t.loopNotice true 4
      | .relock => t.loopNotice true 5
      | _ => t
  else
    if !s.fb b CLK_PAGE_STATUS_GEN_ACQ then s
    else
      let t := s.startGf.catchUp
      let t := (List.range s.variant.gens).foldl (fun u n => u.alignProof n) t
      let t := t.fs b CLK_PAGE_STATUS_GEN_ACQ 0
      let t := if s.clk.genWhy = .wake then t
        else (List.range s.variant.gens).foldl (fun u n => if (u.gen n).settling then u else u.unmute n .clock) t
      match s.clk.genWhy with
      | .write => t.loopNotice false 4
      | .relock => t.loopNotice false 5
      | _ => t

/-- A GLIDE slew ends (R331). -/
def State.glideEnds (s : State) (cap : Bool) : State :=
  if (if cap then s.clk.capGlide else s.clk.genGlide) then
    let t := s.updClk (fun c => if cap then { c with capGlide := false } else { c with genGlide := false })
    (t.showGlide).loopNotice cap 4
  else s

/-- A loop loses lock without a write (R332). -/
def State.relock (s : State) (cap : Bool) : State :=
  if s.fb (base pCLK) (if cap then CLK_PAGE_STATUS_CAP_ACQ else CLK_PAGE_STATUS_GEN_ACQ) then s
  else
    let t := s.count (base pCLK) CLK_SYNTH_RELOCK_COUNT_COUNT
    (if cap then t.capAcquire .relock else t.genAcquire .relock).showGlide

/-- A plain CLK register written at offset `off` (R317, R328, R333). -/
def State.clkReg (s : State) (k off : Nat) (w : Word) : Act :=
  if off = CLK_REF_CFG ∧ s.refState ≠ 0 then .error .state
  else if off = CLK_REF_CMD then s.refCmd (getF w CLK_REF_CMD_BYPASS == 1) (getF w CLK_REF_CMD_SELECT == 1)
  else if off = CLK_REF_LIMITS ∧ (getF w CLK_REF_LIMITS_FAULT_PPB ≤ getF w CLK_REF_LIMITS_WARN_PPB
      ∨ 20000 < getF w CLK_REF_LIMITS_FAULT_PPB) then .error .format
  else if 0x080 ≤ off ∧ off < 0x090 then s.outCfg k (base pCLK + off) w
  else .ok (s.plain k (base pCLK + off) w)

/-! ### PPS (R337 to R339) -/

/-- A number of 1/65,536 ticks rounded to whole ticks, ties away from zero. -/
def roundTick (e : Int) : Int := if 0 ≤ e then (e + 32768) / 65536 else -((-e + 32768) / 65536)

/-- A signed value saturated to 32 bits, as two's complement. -/
def sat32 (e : Int) : Nat := ofSigned 32 (clampI (-2147483648) 2147483647 e)

/-- A scenario is active, a schedule entry PENDING or a capture channel acquires (R338). -/
def State.timeHeld (s : State) : Bool :=
  (List.range 64).any (fun k => decide (s.scenState k = 4 ∨ s.scenState k = 5 ∨ s.scenState k = 6 ∨ s.scenState k = 8))
    || s.anyPending || (List.range 4).any (fun n => s.acquiring n)

/-- ALIGN_ONCE is refused (R338). -/
def State.alignHeld (s : State) : Bool :=
  s.timeHeld || s.fg (base pSYNC) SYNC_CFG_ROLE == 2 || (s.syncState == 5 && s.clk.sync.below)

/-- PPS_CFG written (R338, R339). -/
def State.ppsMode (s : State) (k : Nat) (w : Word) : Act :=
  let m := getF w TIME_PPS_CFG_MODE
  if (m = 1 ∧ s.alignHeld) ∨ (m = 2 ∧ s.fg (base pSYNC) SYNC_CFG_ROLE = 2) then .error .locked
  else .ok (s.plain k (base pTIME + TIME_PPS_CFG) w)

/-- The captured edge under ALIGN_ONCE (R338), `p` being its capture time in 1/65,536 tick. -/
def State.ppsAlign (s : State) (p : Nat) : State :=
  let b := base pTIME
  let t := s.fs b TIME_PPS_CFG_MODE 0
  if s.alignHeld then t.notify (t.note pTIME 2 1)
  else
    let m := s.rd64 (b + TIME_PPS_NEXT) % 2 ^ 48
    let c := roundTick ((p : Int) - 65536 * (m * 3000000000 : Nat))
    let q := ((p : Int) - 65536 * c).toNat
    let at_ := max s.now (p / 65536 + 3)
    let t := { t with now := at_ }.setTime ((at_ : Int) - c).toNat
    let t := ((t.wr64 (b + TIME_PPS_TIME) (q / 65536)).fs b TIME_PPS_FRAC_VALUE (q % 65536)).wr64 (b + TIME_PPS_COUNT) m
    t.notify (t.note pTIME 2 0 0 (ofSigned 64 (-c) % 2 ^ 32) (ofSigned 64 (-c) / 2 ^ 32))

/-- The captured edge under DISCIPLINE (R339). -/
def State.ppsDiscipline (s : State) (p : Nat) : State :=
  let b := base pTIME
  let sec := 3000000000 * 65536
  let e := (p : Int) - ((p + sec / 2) / sec * sec : Nat)
  let t := s.fs b TIME_PPS_ERR_VALUE (sat32 e)
  if e.natAbs ≤ 131072 then
    let c := roundTick e
    if c = 0 then t
    else
      let t := t.count b TIME_SNAP_COUNT_COUNT
      if s.syncState = 5 ∧ s.clk.sync.below then
        let at_ := p / 65536 + s.fg (base pSYNC) SYNC_BUS_LEAD_TICKS
        (t.updSync (fun q => { q with correction := some (at_, c) })).syncSend false (.correct at_ c)
      else ({ t with now := max t.now (p / 65536 + 3) }).correct c
  else
    let t := t.count b TIME_PPS_OOW_COUNT_COUNT
    t.notify { t.note pTIME 0 (sat32 e) with time := p / 65536 }

/-- A PPS_IN edge at `ticks` and `frac` (R173, R337 to R339). -/
def State.ppsEdge (s : State) (ticks frac : Nat) : State :=
  let b := base pTIME
  let s := s.toTime ticks
  let p := 65536 * ticks + frac % 65536
  let prev := s.clk.ppsAt
  if s.clk.ppsSeen ∧ p < prev + 1500000000 * 65536 then s.count b TIME_PPS_REJECT_COUNT_COUNT
  else
    let sec := 3000000000 * 65536
    let n := if s.clk.ppsSeen then (s.lastPps.2 + (2 * (p - prev) + sec) / (2 * sec)) % 2 ^ 48 else 0
    let t := ((s.wr64 (b + TIME_PPS_TIME) ticks).fs b TIME_PPS_FRAC_VALUE (frac % 65536)).wr64 (b + TIME_PPS_COUNT) n
    let t := (t.updClk (fun c => { c with ppsSeen := true, ppsGap := false, ppsAt := p })).publish 1
    let t := match s.fg b TIME_PPS_CFG_MODE with
      | 1 => t.ppsAlign p
      | 2 => t.ppsDiscipline p
      | _ => t
    t.schedEdge.settled

/-- 1.5 s without a captured edge, counted once a gap (R337). -/
def State.ppsGap (s : State) : State :=
  if s.clk.ppsGap then s
  else
    let s := s.toTime (s.clk.ppsAt / 65536 + 4500000000)
    let t := (s.updClk (fun c => { c with ppsGap := true })).count (base pTIME) TIME_PPS_MISSING_COUNT_COUNT
    t.notify { t.note pTIME 1 with time := if s.clk.ppsSeen then s.clk.ppsAt / 65536 else t.now }

/-! ### The sync bus (R340 to R347) -/

/-- SYNC.CFG.ROLE written (R340). -/
def State.roleWrite (s : State) (k : Nat) (w : Word) : Act :=
  if s.syncState ≠ 0 then .error .state
  else
    let t := s.plain k (base pSYNC + SYNC_CFG) w
    .ok (if getF w SYNC_CFG_ROLE = 1 then
      ((t.setSync 5).updSync (fun b => { b with timeAt := t.now })).timeBeat else t)

/-- SYNC.CMD.JOIN (R344): the round trip is measured with 4,096 MEASURE frames (R343). -/
def State.joinCmd (s : State) : Act :=
  if s.fg (base pSYNC) SYNC_CFG_ROLE ≠ 2 ∨ (s.syncState ≠ 0 ∧ s.syncState ≠ 4) ∨ !s.fb (base pSYNC) SYNC_STATUS_UP_UP then
    .error .state
  else if s.timeHeld then .error .locked
  else .ok (((s.setSync 1).updSync (fun b => { b with echoes := 0, roundTrips := 0 })).syncSend true (.measures 4096))

/-- SYNC.CMD.LEAVE (R347). -/
def State.leaveCmd (s : State) : Act :=
  if s.syncState = 0 then .error .state
  else
    let t := s.updSync (fun b => { b with waiting := [] })
    .ok (if s.syncState = 5 then (t.setSync 0).syncSend false (.split 0) else ((t.leaveRef 6 4).setSync 0))

/-- SYNC.CMD written: LEAVE before JOIN (assumption log, entry 41). -/
def State.syncCmd (s : State) (leave join : Bool) : Act := do
  let t ← if leave then s.leaveCmd else .ok s
  if join then t.joinCmd else .ok t

/-- The measurement finishes (R343): UP_DELAY, and the cleaner acquires the recovered clock (R344). -/
def State.measured (s : State) : State :=
  if s.syncState = 1 ∧ 0 < s.clk.sync.echoes then
    let d := (s.clk.sync.roundTrips / s.clk.sync.echoes - 196608) / 2
    ((s.fs (base pSYNC) SYNC_UP_DELAY_DELAY d).setSync 2).fs (base pCLK) CLK_REF_STATUS_STATE 1 |>.updClk
      (fun c => { c with acquireAt := s.now })
  else s

/-- Lock on the recovered clock completes the join (R344): `ticks` is the upstream TIME frame's value, `hops` and `total`
what the upstream module is from the master. -/
def State.joined (s : State) (ticks hops total : Nat) : State :=
  let b := base pSYNC
  if s.syncState ≠ 2 then s
  else
    let t := if s.refState = 1 then s.lockRises else s
    if t.refState ≠ 2 then t
    else
      let d := t.fg b SYNC_UP_DELAY_DELAY
      let t := t.setTime (ticks + (d + 512) / 1024)
      let t := ((t.fs b SYNC_STATUS_HOPS (hops + 1)).fs b SYNC_TOTAL_DELAY_DELAY (total + d)).setSync 3
      t.notify (t.note pSYNC 0 0 d (t.fg b SYNC_TOTAL_DELAY_DELAY))

/-- The bus carries symbols: JOINED, MASTER, or SPLIT over the links that work (R345, R347). -/
def State.busLive (s : State) : Bool := s.syncState == 3 || s.syncState == 4 || s.syncState == 5

/-- Where the frame slots lie against device time, which the manual leaves open (assumption log, entry 3). -/
def slotPhase : Nat := Config.freeValue 0 0x1100 % 64

/-- The first slot in which a symbol that came at `t` can be sent (R341). -/
def slotAfter (t : Nat) : Nat := (t + slotPhase) / 64 + 1

/-- The symbols of one direction whose slots have begun are sent, one of each line in one TRIGGER frame, a forwarded one before the module's
own in one slot (R345, R346, R348), by at most `fuel` slots. -/
def State.drainDir (s : State) (up : Bool) : Nat → State
  | 0 => s
  | fuel + 1 =>
    let mine := s.clk.sync.waiting.filter (fun y => y.up == up)
    let slot := max (s.clk.sync.slots.getD (b2n up) 0 + 1) ((mine.map (fun y => slotAfter y.since)).foldl min (2 ^ 64))
    if mine.isEmpty ∨ s.now + slotPhase < 64 * slot then s
    else
      let first (line : Nat) : Option Symbol :=
        let able := mine.filter (fun y => y.line == line && decide (slotAfter y.since ≤ slot))
        (able.filter (fun y => !y.own) ++ able).head?
      let sent := (first 0).toList ++ (first 1).toList
      let t := s.updSync (fun b => { b with waiting := sent.foldl (fun l y => l.erase y) b.waiting, slots := b.slots.set (b2n up) slot })
      State.drainDir (t.syncSend up (.trigger ((first 0).map (fun y => y.tpub % 2 ^ 24)) ((first 1).map (fun y => y.tpub % 2 ^ 24)))) up fuel

/-- Every symbol whose slot has begun is sent. -/
def State.drain (s : State) : State :=
  if s.clk.sync.waiting.isEmpty then s
  else
    let n := s.clk.sync.waiting.length
    (s.drainDir false n).drainDir true n

/-- A symbol of `line` with its t_pub becomes due for publication; equal ones are published once (R345). -/
def State.symbolDue (s : State) (line tpub : Nat) : State :=
  s.updSync (fun b => if b.due.contains (line, tpub) then b else { b with due := b.due ++ [(line, tpub)] })

/-- An event arrives at the transmit consumer of `line` (R345, R346): whether it is sent. -/
def State.syncTransmit (s : State) (line : Nat) : Bool × State :=
  let s := s.drain
  if !s.busLive || s.clk.sync.waiting.any (fun y => y.line == line && y.own) then (false, s)
  else
    let tpub := s.now + s.fg (base pSYNC) SYNC_BUS_LEAD_TICKS
    let mk (up : Bool) : Symbol := { line := line, up := up, tpub := tpub, since := s.now, own := true }
    let t := s.updSync (fun b => { b with waiting := b.waiting ++ (if s.syncState = 5 then [mk false] else [mk false, mk true]) })
    let t := t.count (base pSYNC) (if line = 0 then SYNC_TX_A_COUNT_COUNT else SYNC_TX_B_COUNT_COUNT)
    (true, t.symbolDue line tpub)

/-- The full t_pub of the carried 24 bits: the value nearest device time (R345). -/
def State.fullTime (s : State) (p width : Nat) : Nat :=
  let lo := (s.now : Int) - 2 ^ (width - 1)
  (lo + ((p : Int) - lo) % (2 ^ width : Nat)).toNat

/-- The symbol of `line` with its t_pub has been published; another with the same is not published again (R345). -/
def State.symbolGone (s : State) (line tpub : Nat) : State :=
  s.updSync (fun b => { b with outs := (line, tpub) :: b.outs.filter (fun o => o.1 != line) })

/-- A symbol of `line` received, travelling upstream or downstream (R345, R346). -/
def State.symbolIn (s : State) (line : Nat) (up : Bool) (p : Nat) : State :=
  let b := base pSYNC
  let tpub := s.fullTime p 24
  let fwd := s.syncState != 5
  let queue := s.clk.sync.waiting.filter (fun y => y.line == line && y.up == up && !y.own)
  let t := if !fwd then s
    else if 4 ≤ queue.length then
      let u := s.count b SYNC_DROP_COUNT_COUNT
      u.notify (u.note pSYNC 3 line (b2n up))
    else s.updSync (fun q => { q with waiting := q.waiting ++ [{ line := line, up := up, tpub := tpub, since := s.now, own := false }] })
  if s.clk.sync.outs.contains (line, tpub) then t
  else if tpub < s.now + 3 then
    let u := ((t.count b SYNC_LATE_COUNT_COUNT).publish (2 + line)).symbolGone line tpub
    u.notify (u.note pSYNC 2 line (s.now + 3 - tpub))
  else t.symbolDue line tpub

/-- A TRIGGER frame received from upstream or downstream (R345). -/
def State.triggerFrame (s : State) (fromUp : Bool) (a b : Option Nat) : State :=
  let s := s.drain
  if !s.busLive then s
  else
    let t := match a with | some p => s.symbolIn 0 (!fromUp) p | none => s
    match b with | some p => t.symbolIn 1 (!fromUp) p | none => t

/-- In tick t_pub the symbol of `line` is published (R345). -/
def State.symbolOut (s : State) (line : Nat) : State :=
  match (s.clk.sync.due.filter (fun d => d.1 == line)).foldl (fun m d => match m with
      | some x => some (min x d.2) | none => some d.2) none with
  | none => s
  | some t => ((s.toTime t).updSync (fun b => { b with due := b.due.erase (line, t) })).drain.publish (2 + line) |>.symbolGone line t

/-- A member splits from the chain (R347): it leaves its reference, sends SPLIT downstream and reports the hop. -/
def State.split (s : State) (hop : Nat) (byTime : Bool) : State :=
  let t := ((s.leaveRef 5 1).setSync 4).syncSend false (.split hop)
  t.notify (t.note pSYNC 1 (hop % 32 + 512 * b2n byTime))

/-- The module's own hop number. -/
def State.hops (s : State) : Nat := s.fg (base pSYNC) SYNC_STATUS_HOPS

/-- A SPLIT frame received (R347, R348). -/
def State.splitFrame (s : State) (hop : Nat) : State :=
  if s.syncState = 1 ∨ s.syncState = 2 ∨ s.syncState = 3 then s.split hop false
  else if s.syncState = 4 then s.syncSend false (.split hop)
  else s

/-- A TIME frame received (R344, R345): a JOINED member takes BUS_LEAD and checks its own time. -/
def State.timeFrame (s : State) (ticks lead : Nat) : State :=
  let b := base pSYNC
  if s.syncState ≠ 3 then s
  else
    let t := s.fs b SYNC_BUS_LEAD_TICKS lead
    if (ticks + (s.fg b SYNC_UP_DELAY_DELAY + 512) / 1024) % 2 ^ 56 = s.now % 2 ^ 56 then
      t.syncSend false (.time s.now lead)
    else t.split t.hops true

/-- A CORRECT frame received (R339, R343): it is applied at the stated device time, and forwarded. -/
def State.correctFrame (s : State) (at32 c4 : Nat) : State :=
  if s.syncState ≠ 3 then s
  else
    let at_ := s.fullTime at32 32
    let c := sext 4 c4
    let t := (s.count (base pTIME) TIME_SNAP_COUNT_COUNT).syncSend false (.correct at_ c)
    (t.updSync (fun b => { b with correction := some (at_, c) })).corrections

/-- A sync link goes down (R341, R347). -/
def State.linkLost (s : State) (up : Bool) : State :=
  let b := base pSYNC
  if up then
    let t := s.fs b SYNC_STATUS_UP_UP 0
    if t.syncState = 1 ∨ t.syncState = 2 then (t.leaveRef 5 1).joinFails 1
    else if t.syncState = 3 then t.split t.hops false
    else t
  else
    let t := (s.fs b SYNC_STATUS_DOWN_UP 0).updSync (fun q => { q with below := false })
    if t.busLive then t.notify (t.note pSYNC 1 (t.hops + 256)) else t

/-- A frame of the sync bus received from upstream or downstream: one with a bad CRC is discarded and counted, and the fourth in a row takes
the link down (R341). -/
def State.frameIn (s : State) (up crcOk : Bool) (f : State → State) : State :=
  let i := b2n (!up)
  let last := s.clk.sync.bad.getD i (0, 0)
  let n := if s.now ≤ last.2 + 64 then last.1 + 1 else 1
  let mark (t : State) (m : Nat) : State := t.updSync (fun b => { b with bad := b.bad.set i (m, s.now) })
  if crcOk then f (mark s 0)
  else
    let t := mark (s.count (base pSYNC) SYNC_CRC_COUNT_COUNT) n
    if n = 4 ∧ t.fb (base pSYNC) (if up then SYNC_STATUS_UP_UP else SYNC_STATUS_DOWN_UP) then t.linkLost up else t

/-- A plain SYNC register written at offset `off` (R340, R344, R345, R347). -/
def State.syncReg (s : State) (k off : Nat) (w : Word) : Act :=
  if off = SYNC_CFG then s.roleWrite k w
  else if off = SYNC_CMD then s.syncCmd (getF w SYNC_CMD_LEAVE == 1) (getF w SYNC_CMD_JOIN == 1)
  else if off = SYNC_BUS_LEAD ∧ s.fg (base pSYNC) SYNC_CFG_ROLE = 2 then .ok s
  else .ok (s.plain k (base pSYNC + off) w)

/-- TIME.NOW (R336, R350). -/
def State.timeLive (s : State) (off : Nat) : Option Word :=
  if off = 0x040 then some (BitVec.ofNat 32 s.now)
  else if off = 0x044 then some (BitVec.ofNat 32 (s.now / 2 ^ 32))
  else none

/-! ### The commands -/

/-- BURNISH_BOUNDARY (R356, R369): the next whole multiple of the interval; waiting TAKEs are copied before the steps. -/
def execBurnishBoundary (s : State) : Host.Outcome State Fault Refusal :=
  let t := s.toTime s.nextBoundary
  let t := t.cal.takes.foldl (fun u e => u.takeNow e.1 e.2.1 e.2.2) t
  .next ({ t with cal := { t.cal with takes := [], stepped := t.now + 1, skipped := false } }).burnish

/-- SELECT (R319). -/
def execSelect (o : Org) (s : State) : Host.Outcome State Fault Refusal :=
  .next (s.hostReg o (base pCLK + CLK_REF_CMD) 1#32 (fun t => t.refCmd false true))

/-- BYPASS (R319). -/
def execBypass (o : Org) (s : State) : Host.Outcome State Fault Refusal :=
  .next (s.hostReg o (base pCLK + CLK_REF_CMD) 2#32 (fun t => t.refCmd true false))

/-- REF_LOSS (R324). -/
def execRefLoss (s : State) : Host.Outcome State Fault Refusal := .next s.refLost

/-- LOCK_DECLARED (R322). -/
def execLockDeclared (s : State) : Host.Outcome State Fault Refusal := .next s.lockRises

/-- UNLOCK (R322). -/
def execUnlock (s : State) : Host.Outcome State Fault Refusal :=
  let t := s.fs (base pCLK) CLK_REF_STATUS_LOCK_HIGH 0
  .next (if t.refState = 2 then t.refSwitch 2 else t)

/-- REF_MONITOR_GATE (R328). -/
def execRefMonitorGate (dev : Option Int) (s : State) : Host.Outcome State Fault Refusal := .next (s.monitorGate dev)

/-- LOCK_MON_GATE (R323). -/
def execLockMonGate (transitions : Nat) (s : State) : Host.Outcome State Fault Refusal := .next (s.lockGate transitions)

/-- REF_ACQUIRE_TIMEOUT (R318, R344): 10 s without lock. -/
def execRefAcquireTimeout (s : State) : Host.Outcome State Fault Refusal :=
  if s.refState = 1 then .next (((s.toTime (s.clk.acquireAt + 30000000000)).acquireEnds 3).joinFails 2) else .next s

/-- REF_IN_PRESENT (R317). -/
def execRefInPresent (present : Bool) (s : State) : Host.Outcome State Fault Refusal :=
  .next (s.fs (base pCLK) CLK_REF_STATUS_PRESENT (b2n present))

/-- GEN_RATE_WRITE (R329, R330): the pair committed by its low word. -/
def execGenRateWrite (o : Org) (rate : Nat) (s : State) : Host.Outcome State Fault Refusal :=
  .next (s.hostReg o (base pCLK + CLK_GEN_RATE) (BitVec.ofNat 32 rate) (fun t => t.rateWrite false rate))

/-- CAP_RATE_WRITE (R329, R330). -/
def execCapRateWrite (o : Org) (rate : Nat) (s : State) : Host.Outcome State Fault Refusal :=
  .next (s.hostReg o (base pCLK + CLK_CAP_RATE) (BitVec.ofNat 32 rate) (fun t => t.rateWrite true rate))

/-- SYNTH_ACQUIRED (R330, R332). -/
def execSynthAcquired (cap : Bool) (s : State) : Host.Outcome State Fault Refusal := .next (s.synthDone cap).checkStarted

/-- GLIDE_DONE (R331). -/
def execGlideDone (cap : Bool) (s : State) : Host.Outcome State Fault Refusal := .next (s.glideEnds cap)

/-- SYNTH_RELOCK (R332). -/
def execSynthRelock (cap : Bool) (s : State) : Host.Outcome State Fault Refusal := .next (s.relock cap)

/-- SSC_CHANGE (R335): the setting written is in force from the triangle's minimum. -/
def execSscChange (s : State) : Host.Outcome State Fault Refusal :=
  .next (s.updClk (fun c => { c with quiet := s.fb (base pCLK) CLK_SSC_CFG_QUIET }))

/-- PPS_CAPTURE (R337 to R339). -/
def execPpsCapture (ticks frac : Nat) (s : State) : Host.Outcome State Fault Refusal := .next (s.ppsEdge ticks frac)

/-- PPS_MISSING (R337). -/
def execPpsMissing (s : State) : Host.Outcome State Fault Refusal := .next s.ppsGap

/-- PPS_MODE_WRITE (R338). -/
def execPpsModeWrite (o : Org) (mode : Nat) (s : State) : Host.Outcome State Fault Refusal :=
  .next (s.hostReg o (base pTIME + TIME_PPS_CFG) (BitVec.ofNat 32 mode) (fun t => t.ppsMode o.sess (BitVec.ofNat 32 mode)))

/-- ROLE_WRITE (R340). -/
def execRoleWrite (o : Org) (role : Nat) (s : State) : Host.Outcome State Fault Refusal :=
  .next (s.hostReg o (base pSYNC + SYNC_CFG) (BitVec.ofNat 32 role) (fun t => t.roleWrite o.sess (BitVec.ofNat 32 role)))

/-- JOIN (R344). -/
def execJoin (o : Org) (s : State) : Host.Outcome State Fault Refusal :=
  .next (s.hostReg o (base pSYNC + SYNC_CMD) 1#32 (fun t => t.syncCmd false true))

/-- LEAVE (R347). -/
def execLeave (o : Org) (s : State) : Host.Outcome State Fault Refusal :=
  .next (s.hostReg o (base pSYNC + SYNC_CMD) 2#32 (fun t => t.syncCmd true false))

/-- MEASURE_DONE (R343). -/
def execMeasureDone (s : State) : Host.Outcome State Fault Refusal := .next s.measured

/-- SYNC_JOINED (R344). -/
def execSyncJoined (ticks hops total : Nat) (s : State) : Host.Outcome State Fault Refusal := .next (s.joined ticks hops total)

/-- SYNC_TRIGGER_FRAME (R345, R346). -/
def execSyncTriggerFrame (up crcOk : Bool) (a b : Option Nat) (s : State) : Host.Outcome State Fault Refusal :=
  .next (s.frameIn up crcOk (fun t => t.triggerFrame up a b))

/-- SYNC_TIME_FRAME (R344). -/
def execSyncTimeFrame (crcOk : Bool) (ticks lead : Nat) (s : State) : Host.Outcome State Fault Refusal :=
  .next (s.frameIn true crcOk (fun t => t.timeFrame ticks lead))

/-- SYNC_MEASURE_FRAME (R343): the frame comes back as an ECHO 128 ticks later. -/
def execSyncMeasureFrame (crcOk : Bool) (sn : Nat) (s : State) : Host.Outcome State Fault Refusal :=
  .next (s.frameIn false crcOk (fun t => if t.busLive then
    (t.syncSend false (.echo (sn % 65536) (t.now + 128))).updSync (fun b => { b with below := true }) else t))

/-- SYNC_ECHO_FRAME (R343): one round trip in 1/1,024 tick. -/
def execSyncEchoFrame (crcOk : Bool) (roundTrip : Nat) (s : State) : Host.Outcome State Fault Refusal :=
  .next (s.frameIn true crcOk (fun t => if t.syncState = 1 then
    t.updSync (fun b => { b with echoes := b.echoes + 1, roundTrips := b.roundTrips + roundTrip }) else t))

/-- SYNC_SPLIT_FRAME (R347). -/
def execSyncSplitFrame (crcOk : Bool) (hop : Nat) (s : State) : Host.Outcome State Fault Refusal :=
  .next (s.frameIn true crcOk (fun t => t.splitFrame (hop % 32)))

/-- SYNC_CORRECT_FRAME (R343). -/
def execSyncCorrectFrame (crcOk : Bool) (at32 c4 : Nat) (s : State) : Host.Outcome State Fault Refusal :=
  .next (s.frameIn true crcOk (fun t => t.correctFrame at32 c4))

/-- SYNC_LINK_DOWN (R347). -/
def execSyncLinkDown (up : Bool) (s : State) : Host.Outcome State Fault Refusal := .next (s.linkLost up)

/-- SYNC_LINK_UP (R341). -/
def execSyncLinkUp (up : Bool) (s : State) : Host.Outcome State Fault Refusal :=
  .next (s.fs (base pSYNC) (if up then SYNC_STATUS_UP_UP else SYNC_STATUS_DOWN_UP) 1)

end Sys2Proof.Machine
end

