-- ==== Sys2Proof/Machine/Dram.lean ====
section
/-! DEFINITION. Sys2Proof/Machine/Dram.lean: the DRAM controllers (spec/13_dram_controller.md): configuration, training,
uncorrectable blocks, refresh, retraining and the real-time ports. -/
namespace Sys2Proof.Machine
open Sys2Proof

/-- The DRAM controllers changed. -/
def State.updDram (s : State) (f : Dram → Dram) : State := { s with dram := f s.dram }

/-- The state of interface `i` (R397): 0 UNTRAINED, 1 TRAINING, 2 READY, 3 RETRAINING, 4 FAILED. -/
def State.mifState (s : State) (i : Nat) : Nat := s.fg (base (pMIF i)) MIF_STATUS_STATE

/-- The state of interface `i` set. -/
def State.setMif (s : State) (i st : Nat) : State := s.fs (base (pMIF i)) MIF_STATUS_STATE st

/-- The interfaces fitted. -/
def State.mifs (s : State) : List Nat := List.range s.variant.mifs

/-- A DRAM plate is PINNED. -/
def State.dramPinned (s : State) : Bool := s.plates.extents.any (fun e => !s.plateSpad e.1)

/-- Queue `q` of the DMA engine holds an outstanding descriptor (R433). -/
def State.queueBusy (s : State) (q : Nat) : Bool :=
  s.fg (base pDMA) DMA_Q_RING_HEAD q != s.fg (base pDMA) DMA_Q_RING_TAIL q

/-- What refuses a change of MEMC.CFG (R374). -/
def State.cfgHeld (s : State) : Bool :=
  s.dramPinned || (List.range s.variant.caps).any s.ringOn || (List.range 16).any s.queueBusy
    || (List.range 16).any (fun k => s.rootOf (k + 1) != 0)
    || s.mifs.any (fun i => s.mifState i == 1 || s.mifState i == 3) || s.fb (base pMEMC) MEMC_STATUS_REINIT

/-- MEMC.USABLE after a change of the map: n × U. -/
def State.showUsable (s : State) : State := s.wr64 (base pMEMC + MEMC_USABLE) (s.working.length * s.usable)

/-- MEMC.CFG written (R374): a change re-initialises all DRAM; a write that changes no field changes nothing (assumption
log, entry 54). -/
def State.memcCfg (s : State) (w : Word) : Act :=
  let b := base pMEMC
  let m := 0x13#32
  if w &&& m = s.rd (b + MEMC_CFG) &&& m then .ok s
  else if s.cfgHeld then .error .state
  else
    let rate : Bool := getF w MEMC_CFG_DATA_RATE != s.fg b MEMC_CFG_DATA_RATE
    let t := ((s.wr (b + MEMC_CFG) (w &&& m)).fs b MEMC_STATUS_REINIT 1).showUsable
    .ok (if rate then t.working.foldl (fun u i => u.setMif i 1) t else t)

/-- The narrowest eye of a training. -/
def narrowest (r : IfTraining) : Nat := r.lanes.foldl (fun m l => min m (min l.rdWidth l.wrWidth)) 255

/-- The eyes and the temperature of a training recorded (R387). -/
def State.putEyes (s : State) (i : Nat) (r : IfTraining) : State :=
  let b := base (pMIF i)
  let t := (r.lanes.zip (List.range 8)).foldl (fun u e =>
    (((u.fs b MIF_LANE_EYE_RD_WIDTH e.1.rdWidth e.2).fs b MIF_LANE_EYE_RD_CENTRE e.1.rdCentre e.2).fs b
      MIF_LANE_EYE_WR_WIDTH e.1.wrWidth e.2).fs b MIF_LANE_EYE_WR_CENTRE e.1.wrCentre e.2) s
  t.fs b MIF_TEMP_TRAIN_TEMP (ofSigned 8 r.temp)

/-- The lowest byte lane whose eye fails. -/
def badLane (r : IfTraining) : Nat := (r.lanes.takeWhile (fun l => decide (26 ≤ l.rdWidth ∧ 26 ≤ l.wrWidth))).length

/-- The training of interface `i` judged (R388): a failed one leaves the address map; both outcomes go to the journal. -/
def State.trained (s : State) (i : Nat) (r : IfTraining) : State :=
  let b := base (pMIF i)
  let t := s.putEyes i r
  if (narrowest r) < 26 then
    let t := (t.setMif i 4).fs (base pMEMC) MEMC_STATUS_FAILED (putBit (t.fg (base pMEMC) MEMC_STATUS_FAILED) i true)
    let t := ((t.fs (base pMEMC) MEMC_STATUS_DEGRADED 1).pageFault (pMIF i) 0x0502 (badLane r)).showUsable
    t.journal (pMIF i) 0x0502 (badLane r)
  else
    let t := t.setMif i 2
    if (narrowest r) < 45 then (t.fs b MIF_STATUS_MARGINAL 1).journal (pMIF i) 0 (narrowest r) else t.fs b MIF_STATUS_MARGINAL 0

/-- The training in progress finishes on every interface that is TRAINING (R387, R388). -/
def State.trainingDone (s : State) (rs : List IfTraining) : State :=
  (rs.zip s.mifs).foldl (fun t e => if t.mifState e.2 = 1 then t.trained e.2 e.1 else t) s

/-- DRAM is written to zero: no frame of it is owned (R374, R421). -/
def State.zeroDram (s : State) : State :=
  { s with mem := stDrop (fun a => decide (dramBase ≤ a ∧ a < 2 ^ 48)) s.mem
           badWords := s.badWords.filter (fun a => decide (a < dramBase ∨ 2 ^ 48 ≤ a))
           frames := stDrop (fun f => decide (dramBase ≤ f * 65536)) s.frames }

/-- Training and zeroing are over: REINIT clears and MEM_REINIT_DONE is raised (R374, R575). -/
def State.reinitDone (s : State) : State :=
  if s.fb (base pMEMC) MEMC_STATUS_REINIT && s.mifs.all (fun i => decide (2 ≤ s.mifState i)) then
    let t := s.zeroDram.fs (base pMEMC) MEMC_STATUS_REINIT 0
    (t.notify (t.note pMEMC 0 (t.fg (base pMEMC) MEMC_STATUS_FAILED))).checkStarted
  else s

/-- The patrol scrub reads the block at `a` (R381): single-bit errors are corrected and counted (R378). -/
def State.scrub (s : State) (a corrected : Nat) : State :=
  match s.dramDecode a with
  | none => s
  | some (i, _) =>
    if s.fg (base pMEMC) MEMC_SCRUB_HOURS = 0 || !s.fb (base pMEMC) MEMC_CFG_ECC_EN || s.fb (base pMEMC) MEMC_STATUS_REINIT then s
    else
      let t := s.countBy (base (pMIF i)) MIF_ECC_CORR_COUNT_COUNT corrected
      if t.badLine a then t.memUe a 7 0 else t

/-- A poll of interface `i`'s temperatures (R389, R392). -/
def State.pollOne (s : State) (i : Nat) (d0 d1 : Int) : State :=
  let b := base (pMIF i)
  let t := (s.fs b MIF_TEMP_DEV0 (ofSigned 8 d0)).fs b MIF_TEMP_DEV1 (ofSigned 8 d1)
  let hot := decide (85 < d0) || decide (85 < d1)
  let n := if hot then 0 else t.dram.cool.getD i 0 + 1
  let t := t.updDram (fun d => { d with cool := d.cool.set i n })
  let twice : Bool := t.fb b MIF_STATUS_REFRESH_2X
  let t := if hot && !twice then
      let u := t.fs b MIF_STATUS_REFRESH_2X 1
      u.notify (u.note (pMIF i) 3 1)
    else if twice && decide (64 ≤ n) then
      let u := t.fs b MIF_STATUS_REFRESH_2X 0
      u.notify (u.note (pMIF i) 3 0)
    else t
  let train := sext 8 (t.fg b MIF_TEMP_TRAIN_TEMP)
  let far := decide (25 < (d0 - train).natAbs) || decide (25 < (d1 - train).natAbs)
  if t.mifState i ≠ 2 then t
  else if far && !t.fb b MIF_STATUS_RETRAIN_ADVISED then
    let u := t.fs b MIF_STATUS_RETRAIN_ADVISED 1
    u.notify (u.note (pMIF i) 1 (ofSigned 8 d0 + 256 * ofSigned 8 d1 + 65536 * ofSigned 8 train))
  else if !far then t.fs b MIF_STATUS_RETRAIN_ADVISED 0
  else t

/-- A charge lies on interface `i`. -/
def State.charged (s : State) (i : Nat) : Bool := s.plates.charges.any (fun c => c.place == i && c.amount != 0)

/-- MIFi.CMD.RETRAIN (R393, R394). -/
def State.retrain (s : State) (i : Nat) : Act :=
  if s.mifState i ≠ 2 ∨ s.fb (base pMEMC) MEMC_STATUS_REINIT then .error .state
  else if (if s.affine then s.charged i else (List.range 6).any s.charged) then .error .locked
  else if !s.atelier then .error .firmwareBusy
  else .ok (s.setMif i 3)

/-- A retraining finishes (R394): the outcome 0 PASS, 1 MARGINAL or 2 FAILED. -/
def State.retrained (s : State) (i : Nat) (r : IfTraining) : State :=
  if s.mifState i = 3 then
    let b := base (pMIF i)
    let out := if (narrowest r) < 26 then 2 else if (narrowest r) < 45 then 1 else 0
    let t := if out = 2 then s
      else ((s.putEyes i r).fs b MIF_STATUS_MARGINAL out).fs b MIF_STATUS_RETRAIN_ADVISED 0
    let t := (t.setMif i 2).count b MIF_RETRAIN_COUNT_COUNT
    t.notify (t.note (pMIF i) 2 out (narrowest r))
  else s

/-! ### Real-time ports (R382, R384) -/

/-- Port `p` is that of a present block. -/
def State.rtPort (s : State) (p : Nat) : Bool :=
  if p < 16 then decide (p < s.variant.gens)
  else if p < 20 then decide (p - 16 < s.variant.pats)
  else if p < 24 then decide (p - 20 < s.variant.caps)
  else decide (p - 24 < s.variant.caps)

/-- The key of port `p`'s registers; those of ports 16 to 18 are hidden behind the admission registers (assumption log,
entry 51). -/
def portBase (p : Nat) : Nat := base pMEMC + (if 16 ≤ p ∧ p < 19 then 0x700 else 0)

/-- Port `p` writes (a ring writer). -/
def portWrites (p : Nat) : Bool := decide (20 ≤ p ∧ p < 24)

/-- Port `p` has data to fetch or to write (R382): a Graver's reader while a scenario plays on it, or is to begin there, whose sequence
needs DRAM data; a ring writer while its channel acquires; a ring reader while a block waits to be sent. -/
def State.portNeeds (s : State) (p : Nat) : Bool :=
  if p < 20 then
    s.plates.charges.any (fun c => c.port == p && decide (c.place < 8)
      && (((s.grv p).scen == c.holder && s.playing p) || ((s.grv p).start.map (·.1)) == some c.holder))
  else if p < 24 then s.acquiring (p - 20)
  else (s.trc (p - 24)).held.any (fun b => !b.sent)

/-- Port `p`'s FIFO fill, in percent, is judged (R382): it enters or leaves panic at the thresholds, and is in none without data to fetch
or to write. -/
def State.portFill (s : State) (p fill : Nat) : State :=
  let b := portBase p
  let panic : Bool := s.fb b MEMC_PORT_STATUS_PANIC p
  let raised := s.portNeeds p && if portWrites p then decide (75 < fill) else decide (fill < 25)
  let lifted := !s.portNeeds p || if portWrites p then decide (fill ≤ 50) else decide (50 ≤ fill)
  let old := s.fg b MEMC_PORT_STATUS_EXTREME_PCT p
  let t := (s.fs b MEMC_PORT_STATUS_FILL_PCT fill p).fs b MEMC_PORT_STATUS_EXTREME_PCT
    (if portWrites p then max old fill else min old fill) p
  if !panic && raised then
    ((t.fs b MEMC_PORT_STATUS_PANIC 1 p).count b MEMC_PORT_PANIC_COUNT_COUNT p).updDram
      (fun d => { d with panicAt := d.panicAt.set p (some s.now) })
  else if panic && lifted then
    let since := ((s.dram.panicAt.getD p none).getD s.now)
    ((t.fs b MEMC_PORT_STATUS_PANIC 0 p).countBy b MEMC_PORT_PANIC_US_COUNT ((s.now - since) / 3000) p).updDram
      (fun d => { d with panicAt := d.panicAt.set p none })
  else t

/-- MEMC.PORT_CLEAR (R396); a port in panic counts from now on. -/
def State.portClear (s : State) : State :=
  (List.range 28).foldl (fun t p =>
    if !t.rtPort p then t
    else ((t.fs (portBase p) MEMC_PORT_PANIC_COUNT_COUNT 0 p).fs (portBase p) MEMC_PORT_PANIC_US_COUNT 0 p).fs (portBase p)
      MEMC_PORT_STATUS_EXTREME_PCT (if portWrites p then 0 else 100) p)
    (s.updDram (fun d => { d with panicAt := d.panicAt.map (fun o => o.map (fun _ => s.now)) }))

/-- PORTp_PANIC_US of a port in panic counts up to the present; a port that needs no data is in none (R382). -/
def State.panicLive (s : State) (off : Nat) : Option Word :=
  if 0x100 ≤ off ∧ off < 0x2C0 ∧ off % 16 = 0 ∧ (off < 0x200 ∨ 0x230 ≤ off) ∧ !s.portNeeds ((off - 0x100) / 16) then
    some (setF (s.rd (base pMEMC + off)) MEMC_PORT_STATUS_PANIC 0)
  else if 0x100 ≤ off ∧ off < 0x2C0 ∧ off % 16 = 8 ∧ (off < 0x200 ∨ 0x230 ≤ off) then
    let p := (off - 0x100) / 16
    match s.dram.panicAt.getD p none with
    | some t => some (BitVec.ofNat 32 (satAdd 0xFFFFFFFF (s.fg (portBase p) MEMC_PORT_PANIC_US_COUNT p) ((s.now - t) / 3000)))
    | none => none
  else none

/-! ### The commands -/

/-- A meaning of a happening on DRAM interface `i`. -/
def State.onMif (s : State) (i : Nat) (t : State) : Host.Outcome State Fault Refusal :=
  if i < s.variant.mifs then .next t else .fault .noSuchBlock

/-- MEMC_CFG_WRITE (R374). -/
def execMemcCfgWrite (o : Org) (w : Word) (s : State) : Host.Outcome State Fault Refusal :=
  .next (s.hostReg o (base pMEMC + MEMC_CFG) w (fun t => t.memcCfg w))

/-- MEM_REINIT_DONE (R374, R575). -/
def execMemReinitDone (s : State) : Host.Outcome State Fault Refusal := .next s.reinitDone

/-- DRAM_TRAINING_DONE (R387, R388). -/
def execDramTrainingDone (rs : List IfTraining) (s : State) : Host.Outcome State Fault Refusal := .next (s.trainingDone rs)

/-- PATROL_SCRUB (R381). -/
def execPatrolScrub (a corrected : Nat) (s : State) : Host.Outcome State Fault Refusal := .next (s.scrub a corrected)

/-- DRAM_TEMP_POLL (R389, R392). -/
def execDramTempPoll (temps : List (Int × Int)) (s : State) : Host.Outcome State Fault Refusal :=
  .next ((temps.zip s.mifs).foldl (fun t e => t.pollOne e.2 e.1.1 e.1.2) s)

/-- RETRAIN (R393). -/
def execRetrain (o : Org) (i : Nat) (s : State) : Host.Outcome State Fault Refusal :=
  .next (s.hostReg o (base (pMIF i) + MIF_CMD) 1#32 (fun t => t.retrain i))

/-- RETRAIN_DONE (R394). -/
def execRetrainDone (i : Nat) (r : IfTraining) (s : State) : Host.Outcome State Fault Refusal := s.onMif i (s.retrained i r)

/-- PORT_PANIC (R382, R384). -/
def execPortPanic (p fill : Nat) (s : State) : Host.Outcome State Fault Refusal :=
  if p < 28 ∧ s.rtPort p then .next (s.portFill p fill) else .fault .noSuchBlock

/-- Since when the ports in panic on interface `i` have been, the earliest first served (R384). -/
def State.panicSince (s : State) (i : Nat) : List Nat :=
  (List.range 28).filterMap (fun p => if s.plates.charges.any (fun c => c.port == p && c.place == i) then s.dram.panicAt.getD p none else none)

/-- The ticks by which a due refresh of interface `i` may be postponed: 8 refresh intervals (R390, R391). -/
def State.refreshAllowance (s : State) (i : Nat) : Nat := if s.fb (base (pMIF i)) MIF_STATUS_REFRESH_2X then 46875 else 93750

/-- A refresh of interface `i` becomes mandatory (R391): a panic there has postponed it by the whole allowance. -/
def State.mandRefresh (s : State) (i : Nat) : State :=
  match s.panicSince i with
  | [] => s
  | t :: l => (s.moveTo (l.foldl min t + s.refreshAllowance i)).count (base (pMIF i)) MIF_MAND_REFRESH_COUNT_COUNT

/-- MANDATORY_REFRESH (R391). -/
def execMandatoryRefresh (i : Nat) (s : State) : Host.Outcome State Fault Refusal := s.onMif i (s.mandRefresh i)

end Sys2Proof.Machine
end

