-- ==== Sys2Proof/Machine/Spad.lean ====
section
/-! DEFINITION. Sys2Proof/Machine/Spad.lean: the scratchpad (spec/14_scratchpad.md): uncorrectable lines, the patrol, the
start-up test, the self-test, and what is closed to accesses meanwhile. -/
namespace Sys2Proof.Machine
open Sys2Proof

/-- SPAD.STATUS.MODE (R420): 0 NORMAL, 1 START_UP, 2 SELF_TEST, 3 RECOVERY, 4 RETENTION. -/
def State.spadMode (s : State) : Nat := s.fg (base pSPAD) SPAD_STATUS_MODE

/-- MODE set. -/
def State.setSpadMode (s : State) (m : Nat) : State := s.fs (base pSPAD) SPAD_STATUS_MODE m

/-- Bank `b` is in the general area of the variant (R399). -/
def State.generalBank (s : State) (b : Nat) : Bool := decide (s.variant.seqBanks ≤ b ∧ b < s.variant.seqBanks + s.variant.genBanks)

/-- Bank `b` holds a page of a PINNED plate (R420). -/
def State.bankPinned (s : State) (b : Nat) : Bool :=
  s.plates.extents.any (fun e => s.plateSpad e.1 && e.2.any (fun d => decide (spadBase ≤ d) && bankOf d == b))

/-- What BANK_PINNED shows. -/
def State.pinnedMask (s : State) : Nat := (List.range 32).foldl (fun m b => m + (if s.bankPinned b then 2 ^ b else 0)) 0

/-- What closes bank `b` to accesses (R413, R417, R418), with the code an access receives. -/
def State.spadGate (s : State) (b : Nat) : Option Code :=
  if s.bankFailed b then some .address
  else if s.spadMode = 4 then some .state
  else if s.fb (base pSPAD) SPAD_TEST_STATUS_BUSY && s.fg (base pSPAD) SPAD_TEST_STATUS_BANK == b then some .state
  else none

/-- Address `a` is that of a table kept in the sequencer or the system area (R399). -/
def inTables (a : Nat) : Bool := decide (0x01000000 ≤ a ∧ a < spadBase)

/-- Lines of the sequencer and system areas read and corrected; the uncorrectable ones are reported, those found now and those that still
stand (R410, R412, R413). -/
def State.patrol (s : State) (corrected : Nat) (bad : List Nat) : State :=
  let t := (bad.filter inTables).foldl (fun u a => u.markBad a) (s.countBy (base pSPAD) SPAD_ECC_CORR_COUNT_COUNT corrected)
  (distinct ((t.badWords.filter inTables).map (fun a => a / 64 * 64))).foldl (fun u a => u.eccRead a 7 0) t

/-- SPAD.TEST_CMD.GO for a bank (R418). -/
def State.bankTest (s : State) (b : Nat) : Act :=
  if !s.generalBank b || s.bankFailed b || s.bankPinned b then .error .state
  else if s.fb (base pSPAD) SPAD_TEST_STATUS_BUSY then .error .busy
  else .ok (((s.fs (base pSPAD) SPAD_TEST_STATUS_BUSY 1).fs (base pSPAD) SPAD_TEST_STATUS_BANK b).setSpadMode 2)

/-- A bank marked FAILED. -/
def State.failBank (s : State) (b : Nat) : State :=
  (s.fs (base pSPAD) SPAD_BANK_FAIL_BANKS (putBit (s.fg (base pSPAD) SPAD_BANK_FAIL_BANKS) b true)).pageFault pSPAD 0x0602 b

/-- A bank written to zero. -/
def State.zeroBank (s : State) (b : Nat) : State :=
  let t := s.zero (spadBase + 0x400000 * b) 0x400000
  { t with badWords := t.badWords.filter (fun a => !decide (spadBase + 0x400000 * b ≤ a ∧ a < spadBase + 0x400000 * (b + 1))) }

/-- The bank test finishes (R418): 1 PASS, 2 FAIL. -/
def State.testDone (s : State) (pass : Bool) : State :=
  let p := base pSPAD
  if s.fb p SPAD_TEST_STATUS_BUSY then
    let b := s.fg p SPAD_TEST_STATUS_BANK
    let out := if pass then 1 else 2
    let t := (s.zeroBank b).fs p SPAD_TEST_STATUS_BUSY 0 |>.fs p SPAD_TEST_STATUS_OUTCOME out
    let t := t.setSpadMode 0
    let t := if pass then t else t.failBank b
    t.notify (t.note pSPAD 1 (b + 256 * out))
  else s

/-- The start-up test and zeroing finish (R417): every line outside the secure region reads zero. -/
def State.startupTest (s : State) (failing : List Nat) : State :=
  if s.spadMode = 1 then
    let inPad (a : Nat) : Bool := !decide (dramBase ≤ a ∧ a < 2 ^ 48) && !decide (calLive ≤ a ∧ a < calLive + 0x15000) && !decide (0x08800000 ≤ a ∧ a < 0x08810000)
    let t := { s with mem := stDrop inPad s.mem, badWords := s.badWords.filter (fun a => decide (dramBase ≤ a ∧ a < 2 ^ 48)) }
    let t := (failing.filter (fun b => decide (b < s.variant.banks))).foldl (fun u b =>
      let u := u.failBank b
      if u.generalBank b then u else u.journal pSPAD 0x0602 b) t
    (t.setSpadMode 0).checkStarted
  else s

/-- The scratchpad is back in service after a retention wake (R413). -/
def State.recovered (s : State) (corrected : Nat) (bad : List Nat) : State :=
  if s.spadMode = 3 then (s.patrol corrected bad).setSpadMode 0 else s

/-! ### The commands -/

/-- SPAD_ECC (R410): a requester's read finds the line behind address `a`, of a table or of the general area, uncorrectable. -/
def execSpadEcc (a req inst : Nat) (s : State) : Host.Outcome State Fault Refusal :=
  .next (if inTables a || s.inGeneral a then s.lineUe a req inst else s)

/-- SPAD_PATROL (R412). -/
def execSpadPatrol (corrected : Nat) (bad : List Nat) (s : State) : Host.Outcome State Fault Refusal :=
  .next (if s.spadMode = 4 then s else s.patrol corrected bad)

/-- SPAD_RECOVERY_DONE (R413). -/
def execSpadRecoveryDone (corrected : Nat) (bad : List Nat) (s : State) : Host.Outcome State Fault Refusal :=
  .next (s.recovered corrected bad)

/-- SPAD_TEST_GO (R418). -/
def execSpadTestGo (o : Org) (bank : Nat) (s : State) : Host.Outcome State Fault Refusal :=
  .next (s.hostReg o (base pSPAD + SPAD_TEST_CMD) (BitVec.ofNat 32 (256 + bank % 32)) (fun t => t.bankTest (bank % 32)))

/-- SPAD_TEST_DONE (R418). -/
def execSpadTestDone (pass : Bool) (s : State) : Host.Outcome State Fault Refusal := .next (s.testDone pass)

/-- SPAD_STARTUP_TEST_DONE (R417). -/
def execSpadStartupTestDone (failing : List Nat) (s : State) : Host.Outcome State Fault Refusal :=
  .next (s.startupTest failing)

end Sys2Proof.Machine
end

