-- ==== Sys2Proof/Machine/Dma.lean ====
section
/-! DEFINITION. Sys2Proof/Machine/Dma.lean: frames, root commits and the DMA engine (spec/15_dma_translation.md). -/
namespace Sys2Proof.Machine
open Sys2Proof

/-- The DMA engine and the DATU changed. -/
def State.updDma (s : State) (f : Dma → Dma) : State := { s with dma := f s.dma }

/-! ### What a root names (R424, R425) -/

/-- The addresses of the valid 8-byte entries among the `n` bytes from `lo`, rising: a valid entry's first byte is odd, so
it is listed. -/
def State.validAt (s : State) (lo n : Nat) : List Nat :=
  (s.mem.filter (fun e => decide (lo ≤ e.1 ∧ e.1 < lo + n ∧ e.1 % 8 = 0) && e.2.toNat % 2 == 1)).map (·.1)

/-- A table that a valid root entry names: the entry's address, its index, the table's address, and KIND P2M. -/
structure TableRef where
  entry : Nat
  index : Nat
  addr : Nat
  p2m : Bool
deriving DecidableEq, Repr

/-- Bytes of a table. -/
def TableRef.bytes (t : TableRef) : Nat := if t.p2m then 4096 else 131072

/-- The tables of a root, in the order of its entries. -/
def State.tablesOf (s : State) (root : Nat) : List TableRef :=
  if root = 0 then []
  else (s.validAt root 0x200000).map (fun a =>
    { entry := a, index := (a - root) / 8, addr := bits (s.ld a 8) 47 12 * 4096, p2m := bit (s.ld a 8) 1 })

/-- The frames a table lies in. -/
def TableRef.frames (t : TableRef) : List Nat := if t.p2m then [t.addr / 65536] else [t.addr / 65536, t.addr / 65536 + 1]

/-- The frames of a root. -/
def rootFrames (root : Nat) : List Nat := if root = 0 then [] else (List.range 32).map (fun i => root / 65536 + i)

/-- Frame `f` holds the root or one of its tables. -/
def State.holdsTable (s : State) (root f : Nat) : Bool :=
  (rootFrames root).contains f || (s.tablesOf root).any (fun t => t.frames.contains f)

/-- A valid page entry: its address, the session address it maps, the device address, the size, and its word. -/
structure PageRef where
  entry : Nat
  at_ : Nat
  addr : Nat
  size : Nat
  word : Nat
deriving DecidableEq, Repr

/-- The valid page entries of a table. -/
def State.pagesOf (s : State) (t : TableRef) : List PageRef :=
  (s.validAt t.addr t.bytes).map (fun a =>
    let w := s.ld a 8
    if t.p2m then { entry := a, at_ := t.index * 2 ^ 30 + (a - t.addr) / 8 * 2 ^ 21, addr := bits w 47 21 * 2 ^ 21, size := 2 ^ 21, word := w }
    else { entry := a, at_ := t.index * 2 ^ 30 + (a - t.addr) / 8 * 2 ^ 16, addr := bits w 47 16 * 2 ^ 16, size := 2 ^ 16, word := w })

/-- The frames of a page. -/
def PageRef.frames (p : PageRef) : List Nat := (List.range (p.size / 65536)).map (fun i => p.addr / 65536 + i)

/-- Frame `f` is mapped by a root. -/
def State.mapsFrame (s : State) (root f : Nat) : Bool :=
  (s.tablesOf root).any (fun t => (s.pagesOf t).any (fun p => decide (p.addr / 65536 ≤ f ∧ f < (p.addr + p.size) / 65536)))

/-- Frame `f` holds a table of session `k`'s committed or pending root (R423, R428). -/
def State.tableFrame (s : State) (k f : Nat) : Bool :=
  s.holdsTable (s.rootOf k) f || s.dma.commits.any (fun c => c.sess == k && s.holdsTable c.root f)

/-- Frame `f` lies under a PINNED plate. -/
def State.underPlate (s : State) (f : Nat) : Bool := s.plates.extents.any (fun e => e.2.any (fun d => d / 65536 == f))

/-! ### Frame commands (R422) -/

/-- The 64-bit code words that a write of `n` bytes from `a` replaces whole read correct (R580). -/
def State.heal (s : State) (a n : Nat) : State :=
  { s with badWords := s.badWords.filter (fun w => !decide (a ≤ w ∧ w + 8 ≤ a + n)) }

/-- Frame `f` written to zero, which replaces its words whole (R422, R580). -/
def State.zeroFrame (s : State) (f : Nat) : State := (s.zero (f * 65536) 65536).heal (f * 65536) 65536

/-- The frames that a frame command of session `k` names. -/
def State.frameList (s : State) (k count : Nat) : List Nat :=
  (List.range count).map (fun i => s.rd64 (sbase k pDATU + DATU_FRAME_BASE) % 2 ^ 48 / 65536 + i)

/-- The result of a frame command and, where it is OK, its effect. -/
def State.frameOp (s : State) (k op count : Nat) : Code × State :=
  let fs := s.frameList k count
  if s.rd64 (sbase k pDATU + DATU_FRAME_BASE) % 65536 ≠ 0 ∨ count = 0 then (.align, s)
  else if op = 1 then
    if fs.any (fun f => !s.frameAvail f) then (.bounds, s)
    else if fs.any (fun f => s.frameOwner f != 0 && s.frameOwner f != k) then (.owner, s)
    else (.ok, fs.foldl (fun t f => if t.frameOwner f = 0 then (t.zeroFrame f).setFrame f k else t) s)
  else if fs.any (fun f => s.frameOwner f != k) then (.owner, s)
  else if fs.any (fun f => s.tableFrame k f || s.mapsFrame (s.rootOf k) f || s.underPlate f) then (.state, s)
  else (.ok, fs.foldl (fun t f => (t.zeroFrame f).setFrame f 0) s)

/-- DATU.FRAME_CMD written (R422): BUSY refuses it, a reserved OP is refused with FORMAT; FRAME_DONE reports it. -/
def State.frameCmd (s : State) (k op count : Nat) : Act :=
  if s.dma.frame.isSome then .error .busy
  else if op = 0 ∨ 2 < op then .error .format
  else
    let r := s.frameOp k op count
    .ok (r.2.updDma (fun d => { d with frame := some { sess := k, op := op, count := count, result := r.1.num } }))

/-- The frame command in progress completes (R422). -/
def State.frameFinish (s : State) : State :=
  match s.dma.frame with
  | none => s
  | some c =>
    ((s.updDma (fun d => { d with frame := none })).fs (sbase c.sess pDATU) DATU_FRAME_STATUS_RESULT c.result).notifyTo c.sess
      (s.note pDATU 2 (c.op + 65536 * c.result) c.count)

/-! ### Root commits (R428 to R430) -/

/-- A frame of device DRAM that is available. -/
def State.dramFrame (s : State) (f : Nat) : Bool := decide (dramBase ≤ f * 65536) && s.frameAvail f

/-- The failure of order 2: the code's session address. -/
def State.placed (s : State) (root : Nat) : Option Nat :=
  if root % 65536 ≠ 0 ∨ (rootFrames root).any (fun f => !s.dramFrame f) then some 0
  else ((s.tablesOf root).find? (fun t => (!t.p2m && t.addr % 65536 != 0) || t.frames.any (fun f => !s.dramFrame f))).map
    (fun t => t.index * 2 ^ 30)

/-- The failure of order 3 for session `k`. -/
def State.foreign (s : State) (k root : Nat) : Option Nat :=
  if (rootFrames root).any (fun f => s.frameOwner f != k) then some 0
  else ((s.tablesOf root).filterMap (fun t =>
    if t.frames.any (fun f => s.frameOwner f != k) then some (t.index * 2 ^ 30)
    else ((s.pagesOf t).find? (fun p => p.frames.all s.frameAvail && p.frames.any (fun f => s.frameOwner f != k))).map (·.at_))).head?

/-- The session address of the first entry that an uncorrectable block of a root or its tables holds, and the block (R429 order 4). -/
def State.badEntry (s : State) (root : Nat) : Option (Nat × Nat) :=
  let blocks := distinct (s.badWords.map (fun w => w / 64 * 64))
  let inRoot := (blocks.filter (fun b => decide (root ≠ 0 ∧ root ≤ b ∧ b < root + 0x200000))).map (fun b => ((b - root) / 8 * 2 ^ 30, b))
  let inTab := ((s.tablesOf root).map (fun t =>
    (blocks.filter (fun b => decide (t.addr ≤ b ∧ b < t.addr + t.bytes))).map
      (fun b => (t.index * 2 ^ 30 + (b - t.addr) / 8 * (if t.p2m then 2 ^ 21 else 2 ^ 16), b)))).flatten
  (inRoot ++ inTab).foldl (fun m x => match m with | none => some x | some y => if x.1 < y.1 then some x else some y) none

/-- The reserved bits of a valid entry that are not zero (R425). -/
def malformed (w : Nat) (lo hi : Nat) : Bool := bits w hi lo != 0 || bits w 63 48 != 0

/-- The session address of the first malformed entry (R429 order 4). -/
def State.malEntry (s : State) (root : Nat) : Option Nat :=
  ((s.tablesOf root).filterMap (fun t =>
    if malformed (s.ld t.entry 8) 2 11 then some (t.index * 2 ^ 30)
    else ((s.pagesOf t).find? (fun p => malformed p.word 3 (if t.p2m then 20 else 15))).map (·.at_))).head?

/-- What address `a` translates to under a root: device address, R and W. -/
def State.mapping (s : State) (root a : Nat) : Option (Nat × Bool × Bool) :=
  (s.walk root a).map (fun p => (p.addr + a % p.size, p.read, p.write))

/-- The first session address under a PINNED plate of session `k` whose mapping a root would change, with the plate. -/
def State.pinBroken (s : State) (k root : Nat) : Option (Nat × Nat) :=
  let ps := s.plates.extents.filter (fun e => s.plateOwner e.1 == k)
  let bad := (ps.map (fun e => ((List.range e.2.length).map (fun i => s.plateBase e.1 + 65536 * i)).filter
    (fun a => s.mapping root a != s.mapping (s.rootOf k) a) |>.map (fun a => (a, e.1)))).flatten
  bad.foldl (fun m x => match m with | none => some x | some y => if x.1 < y.1 then some x else some y) none

/-- The check of a new root (R429): the code, the session address, and the plate of the first failure; of an uncorrectable block its
address in place of the plate. -/
def State.rootFails (s : State) (c : RootCommit) : Option (Code × Nat × Nat) :=
  if s.fb (base pMEMC) MEMC_STATUS_REINIT then some (.state, 0, 0)
  else
    match s.placed c.root with
    | some a => some (.align, a, 0)
    | none =>
      match s.foreign c.sess c.root with
      | some a => some (.owner, a, 0)
      | none =>
        match s.badEntry c.root with
        | some e => some (.ecc, e.1, e.2)
        | none =>
          match s.malEntry c.root with
          | some a => some (.table, a, 0)
          | none => (s.pinBroken c.sess c.root).map (fun x => (.pinned, x.1, x.2))

/-- Session `k`'s commit in progress. -/
def State.commitOf (s : State) (k : Nat) : Option RootCommit := s.dma.commits.find? (fun c => c.sess == k)

/-- Session `k`'s commit ends: PENDING clears and the protection of its frames is lifted. -/
def State.dropCommit (s : State) (k : Nat) : State :=
  (s.updDma (fun d => { d with commits := d.commits.filter (fun c => c.sess != k) })).fs (sbase k pDATU) DATU_XLAT_STATUS_PENDING 0

/-- A commit refused (R430). -/
def State.xlatRefuse (s : State) (k : Nat) (code : Code) (a plate : Nat) : State :=
  let b := sbase k pDATU
  let t := (((s.dropCommit k).fs b DATU_XLAT_STATUS_RESULT code.num).fs b DATU_XLAT_STATUS_PLATE plate).wr64 (b + DATU_XLAT_ADDR) a
  t.notifyTo k (t.note pDATU 1 (code.num + 256 * plate) (t.fg b DATU_NEW_VERSION_VERSION) (a % 2 ^ 32) (a / 2 ^ 32))

/-- XLAT_CMD written (R428, R430): CANCEL withdraws a commit whose check has not ended; COMMIT starts one. -/
def State.xlatCmd (s : State) (k : Nat) (cancel commit : Bool) : Act :=
  let t := if cancel then
      match s.commitOf k with
      | some c => if c.accepted then s else s.xlatRefuse k .cancelled 0 0
      | none => s
    else s
  if !commit then .ok t
  else if (t.commitOf k).isSome then .error .busy
  else
    let b := sbase k pDATU
    .ok ((t.updDma (fun d => { d with commits := d.commits ++ [{ sess := k, root := t.rd64 (b + DATU_NEW_ROOT) % 2 ^ 48, version := t.fg b DATU_NEW_VERSION_VERSION, accepted := false }] })).fs
      b DATU_XLAT_STATUS_PENDING 1)

/-- The check of session `k`'s commit ends (R429, R430): an accepted root waits for the chunks in flight; an uncorrectable block is
reported with requester table agent (R379). -/
def State.xlatChecked (s : State) (k : Nat) : State :=
  match s.commitOf k with
  | some c =>
    if c.accepted then s
    else
      match s.rootFails c with
      | some (.ecc, a, block) => (s.eccRead block 8 0).xlatRefuse k .ecc a 0
      | some f => s.xlatRefuse k f.1 f.2.1 f.2.2
      | none => s.updDma (fun d => { d with commits := d.commits.map (fun x => if x.sess = k then { x with accepted := true } else x) })
  | none => s

/-- The new root takes effect once no chunk of the session is in flight (R430); a plate pinned meanwhile whose pages it would change refuses
it (R87, R90). -/
def State.xlatEffect (s : State) (k : Nat) : State :=
  match s.commitOf k with
  | some c =>
    if !c.accepted || s.dma.chunks.any (fun x => x.sess == k) then s
    else match s.pinBroken k c.root with
    | some x => s.xlatRefuse k .pinned x.1 x.2
    | none =>
      let b := sbase k pDATU
      let old := s.fg b DATU_VERSION_VERSION
      let t := (((s.dropCommit k).wr64 (b + DATU_ROOT) c.root).fs b DATU_VERSION_VERSION c.version).fs b DATU_XLAT_STATUS_RESULT 0
      t.notifyTo k (t.note pDATU 0 old c.version)
  | none => s

/-! ### Descriptors (R431 to R433) -/

/-- Slot `i` of queue `q`. -/
def slotAddr (q i : Nat) : Nat := 0x08800000 + 0x1000 * q + 64 * i

/-- The state of a slot: 0 FREE, 1 SUBMITTED, 2 ACTIVE, 3 PREEMPTED, 4 FAULTED, 5 COMPLETE. -/
def State.slotState (s : State) (q i : Nat) : Nat := s.mbits (slotAddr q i + 0x1C) 31 28

/-- The state of a slot set. -/
def State.setSlot (s : State) (q i st : Nat) : State := s.setMbits (slotAddr q i + 0x1C) 31 28 st

/-- A slot holds a descriptor that has not completed. -/
def State.slotOut (s : State) (q i : Nat) : Bool := decide (1 ≤ s.slotState q i ∧ s.slotState q i ≤ 4)

/-- The owner of queue `q`. -/
def State.qOwner (s : State) (q : Nat) : Nat := s.fg (base pDMA) DMA_Q_CTRL_OWNER q

/-- HEAD of queue `q`. -/
def State.qHead (s : State) (q : Nat) : Nat := s.fg (base pDMA) DMA_Q_RING_HEAD q

/-- What Qq_RING.STATE and DMA.STATUS show of queue `q` (R444). -/
def State.showQueue (s : State) (q : Nat) : State :=
  let b := base pDMA
  let st := s.slotState q (s.qHead q)
  let t := s.fs b DMA_Q_RING_STATE (if !s.queueBusy q then 0 else if st = 4 then 2 else 1) q
  let t := t.fs b DMA_STATUS_FAULTED (putBit (t.fg b DMA_STATUS_FAULTED) q (s.queueBusy q && st == 4))
  t.fs b DMA_STATUS_BUSY (putBit (t.fg b DMA_STATUS_BUSY) q (s.queueBusy q && (st == 2 || st == 3)))

/-- A word written to a descriptor slot (R431, R432). -/
def State.slotWrite (s : State) (k a : Nat) (w : Word) : Act :=
  let q := (a - 0x08800000) / 0x1000
  let i := (a - 0x08800000) % 0x1000 / 64
  let mask := match a % 64 with
    | 0x00 => 0x1F
    | 0x14 => 0xFFFF
    | 0x04 | 0x08 | 0x0C | 0x10 | 0x18 => 0xFFFFFFFF
    | _ => 0
  if s.qOwner q ≠ k then .error .owner
  else if s.slotOut q i then .error .locked
  else .ok (s.stw a (maskIn (s.ldw a) w.toNat mask))

/-- Qq_RING.TAIL written (R433). -/
def State.tailTo (s : State) (k q tail : Nat) : Act :=
  let b := base pDMA
  let old := s.fg b DMA_Q_RING_TAIL q
  let n := (tail + 64 - old) % 64
  let out := (old + 64 - s.qHead q) % 64
  if s.qOwner q ≠ k then .error .owner
  else if 63 < out + n then .error .busy
  else
    let t := (List.range n).foldl (fun u j =>
      let a := slotAddr q ((old + j) % 64)
      ((u.stw (a + 0x1C) (2 ^ 28)).stw (a + 0x20) 0).zero (a + 0x28) 16) s
    let t := t.fs b DMA_Q_RING_TAIL tail q
    let t := if out = 0 ∧ n ≠ 0 then t.updDma (fun d => { d with taken := d.taken.set q 0 }) else t
    .ok (t.showQueue q)

/-- HEAD advanced past completed slots (R437). -/
def State.headOn (s : State) (q : Nat) : Nat → State
  | 0 => s
  | n + 1 =>
    if s.queueBusy q && s.slotState q (s.qHead q) == 5 then
      State.headOn (s.fs (base pDMA) DMA_Q_RING_HEAD ((s.qHead q + 1) % 64) q) q n
    else s

/-- A descriptor completes (R437): 1 OK, 2 CANCELLED_UNSTARTED, 3 ABORTED, with its result. -/
def State.dmaComplete (s : State) (q i status : Nat) (c : Code) : State :=
  let a := slotAddr q i
  let t := (((s.setMbits (a + 0x1C) 15 12 status).setMbits (a + 0x1C) 23 16 c.num).setSlot q i 5).st (a + 0x30) s.now 8
  let head : Bool := i == s.qHead q
  let t := if head then t.updDma (fun d => { d with taken := d.taken.set q 0, stopping := d.stopping.filter (· != q) }) else t
  let t := (t.headOn q 64).fs (base pDMA) DMA_Q_DONE_COUNT_COUNT (t.fg (base pDMA) DMA_Q_DONE_COUNT_COUNT q + 1) q
  let t := t.showQueue q
  if s.mbits a 4 4 = 1 ∨ status ≠ 1 then
    t.notifyTo (s.qOwner q) (t.note pDMA 0 (q + 16 * i + 4096 * status) (s.ldw (a + 0x18)) (s.ldw (a + 0x20)))
  else t

/-- The outstanding slots of queue `q`, in ring order. -/
def State.slotsOut (s : State) (q : Nat) : List Nat :=
  (List.range ((s.fg (base pDMA) DMA_Q_RING_TAIL q + 64 - s.qHead q) % 64)).map (fun j => (s.qHead q + j) % 64)

/-- Every SUBMITTED descriptor of queue `q` completed unstarted with a result (R438, R442). -/
def State.cancelSubmitted (s : State) (q : Nat) (c : Code) : State :=
  (s.slotsOut q).foldl (fun t i => if t.slotState q i = 1 then t.dmaComplete q i 2 c else t) s

/-- Qq_CMD written (R431, R438, R441, R444). -/
def State.queueCmd (s : State) (k q op : Nat) : Act :=
  let i := s.qHead q
  let faulted := s.queueBusy q && s.slotState q i == 4
  if op = 0 ∨ 5 < op then .error .format
  else if op = 1 then
    if s.qOwner q ≠ 0 then .error .owner else .ok (s.fs (base pDMA) DMA_Q_CTRL_OWNER k q)
  else if s.qOwner q ≠ k then .error .owner
  else if op = 2 then
    if s.queueBusy q then .error .state else .ok (s.fs (base pDMA) DMA_Q_CTRL_OWNER 0 q)
  else if op = 3 then .ok (s.cancelSubmitted q .cancelled)
  else if !faulted then .error .state
  else if op = 4 then
    .ok (((s.setSlot q i 2).updDma (fun d => { d with taken := d.taken.set q (s.ldw (slotAddr q i + 0x20)) })).showQueue q)
  else .ok (s.dmaComplete q i 3 .ok)

/-! ### Transfers (R433 to R441) -/

/-- A descriptor (R432). -/
structure DmaDesc where
  op : Nat
  len : Nat
  src : Nat
  dst : Nat
deriving DecidableEq, Repr

/-- The descriptor in slot `i` of queue `q`. -/
def State.descAt (s : State) (q i : Nat) : DmaDesc :=
  let a := slotAddr q i
  { op := s.mbits a 3 0, len := s.ldw (a + 4), src := s.ld (a + 8) 8, dst := s.ld (a + 0x10) 8 }

/-- The source of a COPY or the buffer offset of a PULL: 48 bits. -/
def DmaDesc.src48 (d : DmaDesc) : Nat := d.src % 2 ^ 48

/-- A descriptor that is completed at once with LIMIT (R433). -/
def DmaDesc.bad (d : DmaDesc) : Bool :=
  d.op == 0 || decide (3 < d.op) || d.len % 64 != 0 || decide (d.len < 64) || d.dst % 64 != 0 || decide (2 ^ 48 < d.dst + d.len)
    || (d.op == 2 && (d.src48 % 64 != 0 || decide (2 ^ 48 < d.src48 + d.len)))

/-- The spans of a COPY overlap (R435). -/
def DmaDesc.overlaps (d : DmaDesc) : Bool := d.op == 2 && decide (d.dst < d.src48 + d.len ∧ d.src48 < d.dst + d.len)

/-- The COPY runs in descending order (R435). -/
def DmaDesc.down (d : DmaDesc) : Bool := d.overlaps && decide (d.src48 < d.dst)

/-- The next chunk of a descriptor with `taken` bytes started, as offset and length (R434, R435). -/
def DmaDesc.chunk (d : DmaDesc) (taken : Nat) : Nat × Nat :=
  if d.down then
    let e := d.dst + d.len - taken
    let b := max d.dst ((e - 1) / 4096 * 4096)
    (b - d.dst, e - b)
  else
    let b := d.dst + taken
    (taken, min (d.dst + d.len) ((b / 4096 + 1) * 4096) - b)

/-- The pieces of `n` source bytes from session address `a`, cut where a 64 KiB page begins. -/
def srcPieces (a n : Nat) : List (Nat × Nat) :=
  let cut := (a / 65536 + 1) * 65536
  if a + n ≤ cut then [(a, n)] else [(a, cut - a), (cut, a + n - cut)]

/-- The destination at device address `d` is write-protected for session `k` (R423). -/
def State.protectedAt (s : State) (k d : Nat) : Bool := s.tableFrame k (d / 65536) || s.writeLocked d

/-- The chunk of session `k`'s queue `q` from slot `i` of `taken` bytes, translated and checked under the root in force (R434,
R439). -/
def State.makeChunk (s : State) (q i taken : Nat) : Chunk :=
  let d := s.descAt q i
  let k := s.qOwner q
  let c := d.chunk taken
  let to_ := d.dst + c.1
  let root := s.rootOf k
  let srcs := if d.op = 2 then srcPieces (d.src48 + c.1) c.2 else []
  let unmapped := ((srcs.map (·.1)) ++ [to_]).find? (fun a => (s.translate root a).isNone)
  let dst := s.translate root to_
  let noRead := (srcs.map (·.1)).find? (fun a => match s.translate root a with | some (_, p) => !p.read | none => false)
  let noWrite := match dst with | some (a, p) => !p.write || s.protectedAt k a | none => false
  let fault := match unmapped with
    | some a => some (1, a)
    | none => match noRead with
      | some a => some (2, a)
      | none => if noWrite then some (2, to_) else if d.op = 1 ∧ !s.isOpen k then some (4, d.src48 + c.1) else none
  let at_ (a : Nat) : Nat := match s.translate root a with | some (x, _) => x | none => 0
  let src := match d.op with
    | 1 => DmaSrc.pull s.dma.tags (d.src48 + c.1) none
    | 2 => DmaSrc.copy (srcs.map (fun p => (at_ p.1, p.2)))
    | _ => DmaSrc.fill d.src
  { q := q, slot := i, sess := k, to_ := to_, len := c.2, dst := at_ to_, src := src, fault := fault, fin := false, dead := false }

/-- The device extents a chunk reads. -/
def Chunk.reads (c : Chunk) : List (Nat × Nat) := match c.src with | .copy ps => ps | _ => []

/-- Two extents overlap. -/
def extentsMeet (a b : Nat × Nat) : Bool := decide (a.1 < b.1 + b.2 ∧ b.1 < a.1 + a.2)

/-- A chunk must wait for a chunk of its descriptor in flight (R435). -/
def Chunk.waitsFor (c x : Chunk) : Bool :=
  c.q == x.q && c.slot == x.slot && !x.fin && (c.reads.any (fun e => extentsMeet e (x.dst, x.len))
    || x.reads.any (fun e => extentsMeet e (c.dst, c.len)))

/-- The head descriptor of queue `q` has a chunk that can start now (R430, R433 to R436). -/
def State.servable (s : State) (q : Nat) : Bool :=
  let i := s.qHead q
  let st := s.slotState q i
  let d := s.descAt q i
  let mine := s.dma.chunks.filter (fun c => c.q == q && c.slot == i && !c.dead)
  s.queueBusy q && decide (1 ≤ st ∧ st ≤ 3) && !s.dma.stopping.contains q
    && !s.dma.commits.any (fun c => c.sess == s.qOwner q && c.accepted)
    && (st == 1 || (decide (s.dma.taken.getD q 0 < d.len) && !mine.any (fun c => c.fault.isSome)
      && !(d.overlaps && !mine.isEmpty)
      && !s.dma.chunks.any (fun x => !x.dead && (s.makeChunk q i (s.dma.taken.getD q 0)).waitsFor x)))

/-- The queues of class `c` in round-robin order. -/
def State.classOrder (s : State) (c : Nat) : List Nat :=
  (List.range 4).map (fun j => 4 * c + (s.dma.turn.getD c 0 + 1 + j) % 4)

/-- The queue that the engine serves next (R436). -/
def State.nextQueue (s : State) : Option Nat := ((List.range 4).map s.classOrder).flatten.find? s.servable

/-- Started descriptors of lower classes are passed over: they become PREEMPTED (R436). -/
def State.passOver (s : State) (c : Nat) : State :=
  (List.range 16).foldl (fun t q =>
    let i := t.qHead q
    if c < q / 4 ∧ t.queueBusy q ∧ t.slotState q i = 2 ∧ t.dma.taken.getD q 0 < (t.descAt q i).len ∧ !t.dma.stopping.contains q then
      ((t.setSlot q i 3).count (base pDMA) DMA_PREEMPT_COUNT_COUNT).showQueue q
    else t) s

/-- The next chunk starts (R433 to R436), in one of 4 places, or in one while the module throttles (R542); a PULL sends its
request (R465). -/
def State.chunkStart (s : State) : State :=
  let places := if 2 ≤ s.fg (base pTHERM) THERM_STATE_STATE then 1 else 4
  match (if s.dma.chunks.length < places then s.nextQueue else none) with
  | none => s
  | some q =>
    let i := s.qHead q
    let d := s.descAt q i
    let t := (s.updDma (fun x => { x with turn := x.turn.set (q / 4) (q % 4) })).passOver (q / 4)
    if s.slotState q i = 1 ∧ d.bad then t.dmaComplete q i 3 .limit
    else
      let t := if s.slotState q i = 1 then
          (t.updDma (fun x => { x with taken := x.taken.set q 0 })).setMbits (slotAddr q i + 0x1C) 11 11 (b2n d.down) else t
      let t := (t.setSlot q i 2).showQueue q
      let n := t.dma.taken.getD q 0
      let c := t.makeChunk q i n
      let t := t.updDma (fun x => { x with chunks := x.chunks ++ [c], taken := x.taken.set q (n + c.len) })
      match c.src, c.fault with
      | .pull tag offset _, none =>
        (t.updDma (fun x => { x with tags := (x.tags + 1) % 2 ^ 32 })).sendRel c.sess (.pullReq tag (d.src / 2 ^ 48) offset c.len)
      | _, _ => t

/-- The bytes at device address `a`. -/
def State.bytesAt (s : State) (a n : Nat) : List Byte := (List.range n).map (fun i => s.mb (a + i))

/-- A chunk's bytes: none where a block of its source reads uncorrectable. -/
def State.chunkBytes (s : State) (c : Chunk) : Option (List Byte) :=
  match c.src with
  | .pull _ _ data => data
  | .copy ps => some ((ps.map (fun p => s.bytesAt p.1 p.2)).flatten)
  | .fill w => some ((List.range c.len).map (fun i => BitVec.ofNat 8 (w / 256 ^ (i % 8))))

/-- The uncorrectable block that a chunk's source read meets. -/
def State.chunkUe (s : State) (c : Chunk) : Option Nat :=
  (c.reads.filterMap (fun p => ((List.range (p.2 / 64 + 1)).map (fun j => p.1 / 64 * 64 + 64 * j)).find?
    (fun a => decide (a < p.1 + p.2) && s.badLine a))).head?

/-- A chunk is held: it reaches an interface that is RETRAINING (R394), or scratchpad that is closed (R413, R418). -/
def State.chunkHeld (s : State) (c : Chunk) : Bool :=
  ((c.dst, c.len) :: c.reads).any (fun e => match s.dramDecode e.1 with
    | some (i, _) => s.mifState i == 3
    | none => s.inSpad e.1 && (s.spadGate (bankOf e.1)).isSome)

/-- A faulting chunk stops its transfer (R440). -/
def State.dmaFault (s : State) (c : Chunk) (f : Nat × Nat) : State :=
  let a := slotAddr c.q c.slot
  let t := s.updDma (fun d =>
    { d with chunks := d.chunks.map (fun x => if x.q = c.q ∧ x.slot = c.slot then { x with dead := true } else x), taken := d.taken.set c.q (s.ldw (a + 0x20)) })
  let t := ((t.setSlot c.q c.slot 4).setMbits (a + 0x1C) 27 24 f.1).setMbits (a + 0x1C) 23 16 0
  let t := ((t.st (a + 0x28) f.2 8).st (a + 0x30) s.now 8).count (base pDMA) DMA_FAULT_COUNT_COUNT
  let t := t.showQueue c.q
  t.notifyTo c.sess (t.note pDMA 1 (c.q + 16 * c.slot + 4096 * f.1 + f.2 / 64 % 1024 * 2 ^ 22) (s.ldw (a + 0x18)) (s.ldw (a + 0x20))
    (f.2 / 65536 % 2 ^ 32))

/-- The oldest chunks of queue `q` that have finished are retired in order: DONE advances, a fault is declared, the
descriptor completes at its end (R437, R440). -/
def State.retire (s : State) (q : Nat) : Nat → State
  | 0 => s
  | n + 1 =>
    match s.dma.chunks.find? (fun c => c.q == q && !c.dead) with
    | none => s
    | some c =>
      if !c.fin then s
      else
        let t := s.updDma (fun d => { d with chunks := d.chunks.erase c })
        match c.fault with
        | some f => t.dmaFault c f
        | none =>
          let a := slotAddr q c.slot
          let t := t.stw (a + 0x20) (t.ldw (a + 0x20) + c.len)
          if (t.descAt q c.slot).len ≤ t.ldw (a + 0x20) then t.dmaComplete q c.slot 1 .ok
          else State.retire t q n

/-- A stopped queue's started descriptor completes ABORTED once its chunks have finished (R442). -/
def State.stopEnds (s : State) (q : Nat) : State :=
  if s.dma.stopping.contains q && !s.dma.chunks.any (fun c => c.q == q) then
    if decide (2 ≤ s.slotState q (s.qHead q) ∧ s.slotState q (s.qHead q) ≤ 4) && s.queueBusy q then s.dmaComplete q (s.qHead q) 3 .orphaned
    else s.updDma (fun d => { d with stopping := d.stopping.filter (· != q) })
  else s

/-- The chunk at place `i` finishes (R434, R439, R440); a destination write-protected since
the chunk started refuses its bytes (R89, R90, R423). -/
def State.chunkDone (s : State) (i : Nat) : State :=
  match s.dma.chunks[i]? with
  | none => s
  | some c =>
    if c.fin || s.chunkHeld c then s
    else
      let ready : Bool := c.fault.isSome || (s.chunkBytes c).isSome
      if !ready then s
      else
        let f := match c.fault with
          | some f => some f
          | none => match s.chunkUe c with
            | some a => some (3, a)
            | none => if s.protectedAt c.sess c.dst then some (2, c.to_) else none
        let t := match f with
          | some (3, a) => s.eccRead a 5 c.q
          | some _ => s
          | none => ((s.noteRewrite c.dst c.len).stBytes c.dst ((s.chunkBytes c).getD [])).heal c.dst c.len
        let t := if c.dead then t.updDma (fun d => { d with chunks := d.chunks.eraseIdx i })
          else t.updDma (fun d => { d with chunks := d.chunks.set i { c with fin := true, fault := f } })
        (t.retire c.q 4).updDma (fun d => { d with chunks := d.chunks.filter (fun x => !(x.dead && x.fin)) }) |>.stopEnds c.q

/-- The answer to the pull of tag `tag` of session `k` (R465): its bytes, or a REMOTE fault. -/
def State.pullAnswer (s : State) (k tag : Nat) (data : Option (List Byte)) : State :=
  (s.updSes k (fun q => { q with pulls := q.pulls.filter (fun p => p.1 != tag) })).updDma (fun d => { d with chunks := d.chunks.map (fun (c : Chunk) =>
    match c.src with
    | .pull t o none =>
      if t = tag ∧ c.sess = k ∧ c.fault.isNone ∧ !c.fin then
        match data with
        | some l => if l.length = c.len then { c with src := .pull t o (some l) } else { c with fault := some (4, o) }
        | none => { c with fault := some (4, o) }
      else c
    | _ => c) })

/-- No answer came to the pull of tag `tag` within 10 ms of its first sending (R439, R465). -/
def State.pullLate (s : State) (k tag : Nat) : State :=
  match (s.ses k).pulls.find? (fun p => p.1 == tag) with
  | some p => { s with now := max s.now (p.2 + 30000000) }.pullAnswer k tag none
  | none => s

/-- The queues of session `k` at the expiry of its lease (R442). -/
def State.orphanQueues (s : State) (k : Nat) : State :=
  (List.range 16).foldl (fun t q =>
    if t.qOwner q = k ∧ t.fb (base pDMA) DMA_Q_CTRL_ORPHAN q then
      let u := t.cancelSubmitted q .orphaned
      if u.queueBusy q then (u.updDma (fun d => { d with stopping := q :: d.stopping })).stopEnds q else u
    else if t.qOwner q = k then
      t.updDma (fun d => { d with chunks := d.chunks.map (fun (c : Chunk) => match c.src with
        | .pull _ o none => if c.q = q ∧ c.fault.isNone then { c with fault := some (4, o) } else c
        | _ => c) })
    else t) s

/-! ### The commands -/

/-- A command written to DATU.FRAME_CMD. -/
def State.frameBy (s : State) (o : Org) (op count : Nat) : State :=
  s.hostReg o (base pDATU + DATU_FRAME_CMD) (BitVec.ofNat 32 (op * 2 ^ 28 + count % 2 ^ 21)) (fun t => t.frameCmd o.sess op (count % 2 ^ 21))

/-- FRAME_CLAIM (R422). -/
def execFrameClaim (o : Org) (count : Nat) (s : State) : Host.Outcome State Fault Refusal := .next (s.frameBy o 1 count)

/-- FRAME_RELEASE (R422). -/
def execFrameRelease (o : Org) (count : Nat) (s : State) : Host.Outcome State Fault Refusal := .next (s.frameBy o 2 count)

/-- FRAME_DONE (R422). -/
def execFrameDone (s : State) : Host.Outcome State Fault Refusal := .next s.frameFinish

/-- COMMIT (R428). -/
def execCommit (o : Org) (s : State) : Host.Outcome State Fault Refusal :=
  .next (s.hostReg o (base pDATU + DATU_XLAT_CMD) 1#32 (fun t => t.xlatCmd o.sess false true))

/-- XLAT_CANCEL (R430). -/
def execXlatCancel (o : Org) (s : State) : Host.Outcome State Fault Refusal :=
  .next (s.hostReg o (base pDATU + DATU_XLAT_CMD) 2#32 (fun t => t.xlatCmd o.sess true false))

/-- XLAT_CHECK_DONE (R429, R430). -/
def execXlatCheckDone (sess : Nat) (s : State) : Host.Outcome State Fault Refusal := .next (s.xlatChecked sess)

/-- XLAT_DONE (R430). -/
def execXlatDone (sess : Nat) (s : State) : Host.Outcome State Fault Refusal := .next (s.xlatEffect sess)

/-- DMA_SLOT_WRITE (R431, R432). -/
def execDmaSlotWrite (o : Org) (addr : Nat) (w : Word) (s : State) : Host.Outcome State Fault Refusal :=
  .next (s.hostMem o addr (fun t =>
    if 0x08800000 ≤ addr ∧ addr < 0x08810000 ∧ addr % 4 = 0 then t.slotWrite o.sess addr w else .error .address))

/-- TAIL_WRITE (R433). -/
def execTailWrite (o : Org) (q tail : Nat) (s : State) : Host.Outcome State Fault Refusal :=
  .next (s.hostReg o (base pDMA + DMA_Q_RING (q % 16)) (BitVec.ofNat 32 (tail % 64 * 2 ^ 24)) (fun t => t.tailTo o.sess (q % 16) (tail % 64)))

/-- A command written to Qq_CMD. -/
def State.queueBy (s : State) (o : Org) (q op : Nat) : State :=
  s.hostReg o (base pDMA + DMA_Q_CMD (q % 16)) (BitVec.ofNat 32 op) (fun t => t.queueCmd o.sess (q % 16) op)

/-- QUEUE_CLAIM (R431). -/
def execQueueClaim (o : Org) (q : Nat) (s : State) : Host.Outcome State Fault Refusal := .next (s.queueBy o q 1)

/-- QUEUE_RELEASE (R444). -/
def execQueueRelease (o : Org) (q : Nat) (s : State) : Host.Outcome State Fault Refusal := .next (s.queueBy o q 2)

/-- QUEUE_CANCEL (R438). -/
def execQueueCancel (o : Org) (q : Nat) (s : State) : Host.Outcome State Fault Refusal := .next (s.queueBy o q 3)

/-- DMA_RESUME (R441). -/
def execDmaResume (o : Org) (q : Nat) (s : State) : Host.Outcome State Fault Refusal := .next (s.queueBy o q 4)

/-- DMA_ABORT (R441). -/
def execDmaAbort (o : Org) (q : Nat) (s : State) : Host.Outcome State Fault Refusal := .next (s.queueBy o q 5)

/-- DMA_CHUNK_START (R436). -/
def execDmaChunkStart (s : State) : Host.Outcome State Fault Refusal := .next s.chunkStart

/-- DMA_CHUNK_DONE (R434). -/
def execDmaChunkDone (i : Nat) (s : State) : Host.Outcome State Fault Refusal := .next (s.chunkDone i)

end Sys2Proof.Machine
end

