-- ==== Sys2Proof/Machine/Sessions.lean ====
section
/-! DEFINITION. Sys2Proof/Machine/Sessions.lean: the transport engine: acknowledgement and resending, opening and ending a
session, failover, stream blocks and gaps, and page ownership (spec/16_host_link_transport.md, R446 to R475). -/
namespace Sys2Proof.Machine
open Sys2Proof

/-! ### Acknowledgement, the window and the notice queue (R455, R456, R469, R470) -/

/-- Messages held back at their source are sent as the window allows, in order (R456). -/
def State.pump (s : State) (k : Nat) : State :=
  (s.ses k).waiting.foldl (fun t m => t.sendRel k m) (s.updSes k (fun q => { q with waiting := [] }))

/-- What stands in LOST_PENDING is reported by NOTICES_LOST, counted in LOST_TOTAL, and LOST_PENDING returns to 0 (R469). -/
def State.reportLost (s : State) (k : Nat) : State :=
  let b := sbase k pNOTE
  let n := s.fg b NOTE_LOST_PENDING_VALUE
  if n = 0 then s
  else ((s.fs b NOTE_LOST_PENDING_VALUE 0).countBy b NOTE_LOST_TOTAL_VALUE n).notifyTo k (s.note pNOTE 0 n)

/-- The peer of session `k` has received every reliable message up to `ack` (R452, R455): they are freed, the notice records
they carried leave the queue, and what was held back is sent. -/
def State.acked (s : State) (k ack : Nat) : State :=
  let q := s.ses k
  let rest := q.notices.filter (fun r => match r.inMsg with | some m => decide (ack < m) | none => true)
  let t := s.updSes k (fun v => { v with unacked := q.unacked.filter (fun r => decide (ack < r.seq)), notices := rest })
  let t := if rest.length < q.notices.length then t.reportLost k else t
  t.pump k

/-- Queued records that have not been sent travel in one NOTICE message, up to 64 of them, while the window allows (R470). -/
def State.sendNotices (s : State) (k : Nat) : State :=
  let q := s.ses k
  let next := ((q.notices.filter (fun r => r.inMsg.isNone)).take 64).map (·.nseq)
  if !s.isOpen k || next.isEmpty || !q.waiting.isEmpty || decide (1024 ≤ q.unacked.length) then s
  else (s.updSes k (fun v =>
    { v with notices := v.notices.map (fun r => if r.inMsg.isNone && next.contains r.nseq then { r with inMsg := some q.txNext } else r) })).sendRel k (.notice next)

/-! ### Ports of a session and failover (R447, R471, R472) -/

/-- Port `p` is UP. -/
def State.portUp (s : State) (p : Nat) : Bool := s.fb (base (pLINK p)) LINK_STATUS_UP

/-- Session `k` is dual-homed. -/
def State.dual (s : State) (k : Nat) : Bool := s.fb (sbase k pXPORT) XPORT_SESSION_DUAL

/-- The preferred port of session `k`. -/
def State.prefPort (s : State) (k : Nat) : Nat := s.fg (sbase k pXPORT) XPORT_SESSION_PREF

/-- Session `k` uses port `p`. -/
def State.usesPort (s : State) (k p : Nat) : Bool := s.dual k || s.curPort k == p

/-- Resend time in ticks. -/
def State.retxTicks (s : State) : Nat := 3000 * s.fg (base pXPORT) XPORT_RETX_RETX_US

/-- Session `k` moves to port `p`: every reliable message not yet acknowledged is sent there at once, and FAILOVER is
raised with its cause, 0 DOWN or 1 RESEND. -/
def State.failover (s : State) (k p cause : Nat) : State :=
  let t := (s.fs (sbase k pXPORT) XPORT_SESSION_CURRENT p).count (sbase k pXPORT) XPORT_FAILOVER_COUNT_COUNT
  let t := (s.ses k).unacked.foldl (fun u r => u.emit p k r.seq true r.msg) t
  let t := t.countBy (sbase k pXPORT) XPORT_RETX_COUNT_COUNT (s.ses k).unacked.length
  (t.updSes k (fun q => { q with unacked := q.unacked.map (fun r => { r with sentAt := s.now, resends := 0 }) })).notifyTo k
    (s.note pNOTE 3 (p + 2 * cause))

/-- The current port of session `k` is the preferred one while that is UP, and the other otherwise. -/
def State.settlePort (s : State) (k : Nat) : State :=
  let p := if s.portUp (s.prefPort k) then s.prefPort k else 1 - s.prefPort k
  if s.dual k && s.curPort k != p then s.failover k p 0 else s

/-- Three successive resends of a message went unacknowledged while a valid message arrived on the other port within the
last four resend times. -/
def State.resendFails (s : State) (k : Nat) : State :=
  let q := s.ses k
  if s.dual k && q.unacked.any (fun r => decide (3 ≤ r.resends)) && q.otherPortAt != 0
      && decide (s.now + 1 ≤ q.otherPortAt + 4 * s.retxTicks) then s.failover k (1 - s.curPort k) 1 else s

/-- Port `p` goes DOWN: sessions on it move. -/
def State.portDown (s : State) (p : Nat) : State :=
  if !s.portUp p then s
  else
    let t := (s.fs (base (pLINK p)) LINK_STATUS_UP 0)
    let t := t.notifyAll (t.note (pLINK p) 0)
    (t.openList.filter (fun k => t.curPort k == p)).foldl (fun u k => u.settlePort k) t

/-- Port `p` comes UP: sessions that prefer it return. -/
def State.portRise (s : State) (p : Nat) : State :=
  if s.portUp p then s
  else
    let t := ((s.fs (base (pLINK p)) LINK_STATUS_UP 1).fs (base (pLINK p)) LINK_STATUS_LOS 0).fs (base (pLINK p)) LINK_STATUS_ALIGNED 1
    let t := t.notifyAll (t.note (pLINK p) 1)
    (t.openList.filter (fun k => t.prefPort k == p)).foldl (fun u k => u.settlePort k) t

/-- The message `seq` of session `k` is resent on the current port, RETX_US after its last sending (R456). -/
def State.resend (s : State) (k seq : Nat) : State :=
  match (s.ses k).unacked.find? (fun r => r.seq == seq) with
  | some r =>
    if s.isOpen k then
      let t := { s with now := max s.now (r.sentAt + s.retxTicks) }
      let t := (t.emit (t.curPort k) k seq true r.msg).count (sbase k pXPORT) XPORT_RETX_COUNT_COUNT
      (t.updSes k (fun q => { q with unacked := q.unacked.map (fun x => if x.seq = seq then { x with sentAt := t.now, resends := x.resends + 1 } else x) })).resendFails k
    else s
  | none => s

/-! ### Stream blocks (R464, R466) -/

/-- The stream credit A = G - U + R of session `k`. -/
def State.streamCredit (s : State) (k : Nat) : Nat :=
  let b := sbase k pXPORT
  (s.fg b XPORT_GRANT_COUNT + s.fg b XPORT_RETURNED_COUNT + 2 ^ 32 - s.fg b XPORT_SENT_COUNT) % 2 ^ 32

/-- Session `k` owns channel `n`'s STRM page and a block of its ring waits to be sent. -/
def State.hasBlock (s : State) (k n : Nat) : Bool := s.owner (pSTRM n) == k && (s.trc n).held.any (fun h => !h.sent)

/-- It is channel `n`'s turn among the channels of session `k` (R466): none between the one served last and it has a block to send. -/
def State.streamTurn (s : State) (k n : Nat) : Bool :=
  ((List.range 4).map (fun j => ((s.ses k).turn + 1 + j) % 4)).find? (fun m => decide (m < s.variant.caps) && s.hasBlock k m) == some n

/-- The next block of channel `n` is sent to the owner of its STRM page, in the channel's turn, while credit is available. -/
def State.streamOut (s : State) (n : Nat) : State :=
  let k := s.owner (pSTRM n)
  match (s.trc n).held.find? (fun h => !h.sent) with
  | some h =>
    if s.isOpen k && decide (0 < s.streamCredit k) && s.streamTurn k n then
      let t := s.updTrc n (fun v => { v with held := v.held.map (fun x => if x.acq = h.acq ∧ x.seq = h.seq then { x with sent := true } else x) })
      let t := t.updSes k (fun q => { q with turn := n, flights := q.flights ++
        [{ chan := n, acq := h.acq, blk := h.seq, raw := h.raw, firstC := h.firstC, time := h.time, sentAt := s.now }] })
      (t.fs (sbase k pXPORT) XPORT_SENT_COUNT (t.fg (sbase k pXPORT) XPORT_SENT_COUNT + 1)).sendPlain k (.stream n h.acq h.seq)
    else s
  | none => s

/-- The block of a flight leaves the ring and its raw samples are counted, as DELIVERED or as UNDELIVERED (R267, R276); an episode of
discards ends with it (R268). -/
def State.freeBlock (s : State) (f : Flight) (delivered : Bool) : State :=
  (s.updTrc f.chan (fun v =>
    let mine : Bool := v.acq == f.acq
    { v with held := v.held.filter (fun x => !(x.acq == f.acq && x.seq == f.blk)), delivered := v.delivered + (if mine && delivered then f.raw else 0), undelivered := v.undelivered + (if mine && !delivered then f.raw else 0) })).ringFreed f.chan

/-- The block of a flight becomes a delivery gap of session `k` (R466): accounted, and joined to the run it continues. -/
def State.gapBlock (s : State) (k : Nat) (f : Flight) : State :=
  let joins := fun (r : GapRun) => r.chan == f.chan && r.acq == f.acq && r.firstBlk + r.blocks == f.blk && decide (r.blocks < 255)
    && decide (s.now ≤ r.begun + 3000000)
  let t := ((s.freeBlock f false).fs (sbase k pXPORT) XPORT_RETURNED_COUNT (s.fg (sbase k pXPORT) XPORT_RETURNED_COUNT + 1)).count
    (sbase k pXPORT) XPORT_GAP_BLOCK_COUNT_COUNT
  t.updSes k (fun q =>
    { q with flights := q.flights.filter (fun x => x != f), gapRuns := if q.gapRuns.any joins then q.gapRuns.map (fun r => if joins r then { r with blocks := r.blocks + 1, raw := r.raw + f.raw } else r) else q.gapRuns ++ [{ chan := f.chan, acq := f.acq, firstBlk := f.blk, blocks := 1, raw := f.raw, firstC := f.firstC, time := f.time, begun := s.now }] })

/-- The block of a flight is confirmed. -/
def State.confirmBlock (s : State) (k : Nat) (f : Flight) : State :=
  ((s.freeBlock f true).fs (sbase k pXPORT) XPORT_CONFIRMED_COUNT (s.fg (sbase k pXPORT) XPORT_CONFIRMED_COUNT + 1)).updSes k
    (fun q => { q with flights := q.flights.filter (fun x => x != f) })

/-- An entry of a STREAM_ACK names the block of a flight. -/
def AckEntry.names (e : AckEntry) (f : Flight) : Bool :=
  e.chan == f.chan && e.acq == f.acq && decide (e.first ≤ f.blk ∧ f.blk < e.first + e.count)

/-- A STREAM_ACK of session `k`: a refusal prevails over a confirmation (R466, R476). -/
def State.streamAck (s : State) (k : Nat) (es : List AckEntry) : State :=
  (s.ses k).flights.foldl (fun t f =>
    if es.any (fun e => e.refuse && AckEntry.names e f) then t.gapBlock k f
    else if es.any (fun e => AckEntry.names e f) then t.confirmBlock k f
    else t) s

/-- The deadline of a block of session `k`, 10 ms after it was sent (R466). -/
def State.blockDeadline (s : State) (k n acq blk : Nat) : State :=
  match (s.ses k).flights.find? (fun f => f.chan == n && f.acq == acq && f.blk == blk) with
  | some f => ({ s with now := max s.now (f.sentAt + 30000000) }).gapBlock k f
  | none => s

/-- The oldest run of channel `n` is reported 1 ms after it began (R466). -/
def State.gapReported (s : State) (k n : Nat) : State :=
  match (s.ses k).gapRuns.find? (fun r => r.chan == n) with
  | some r =>
    let t := { s with now := max s.now (r.begun + 3000000) }
    let note := t.note pNOTE 2 (r.acq * 65536 + r.blocks * 256 + n) (r.raw % 2 ^ 32) (r.firstC % 2 ^ 32) (r.firstC / 2 ^ 32)
    (t.updSes k (fun q => { q with gapRuns := q.gapRuns.filter (fun x => x != r) })).notifyTo k { note with time := r.time }
  | none => s

/-! ### The end of a session (R473, R474) -/

/-- A change of state of session number `k`, told to every other open session (R459). -/
def State.sessChange (s : State) (k : Nat) : State :=
  (s.openList.filter (fun q => q != k)).foldl (fun t q => t.notifyTo q (s.note pNOTE 4 (k + 256 * (s.ses k).st.code))) s

/-- The pages that a session may own. -/
def State.ownable (s : State) : List Nat :=
  [pCLK, pTIME, pSYNC] ++ (List.range s.variant.gens).map pGEN ++ (List.range s.variant.pats).map pPAT
    ++ ((List.range s.variant.caps).map (fun n => [pCAP n, pSTRM n, pSTEN n])).flatten

/-- Session number `k` owns something of R473: pages, channels and groups, plates, records, descriptors, scenarios, schedule
entries, frames, a translation root or a DMA queue. -/
def State.hasEstate (s : State) (k : Nat) : Bool :=
  s.ownable.any (fun p => s.owner p == k)
    || (List.range 256).any (fun c => s.chOwner c == k) || (List.range 16).any (fun g => s.grpF g XH_GRP_CTRL_OWNER == k)
    || (List.range 256).any (fun p => s.plateOwner p == k)
    || s.mem.any (fun e => decide (0x08000000 ≤ e.1 ∧ e.1 < 0x08200000 ∧ e.1 % 32 = 0x18) && e.2.toNat == k)
    || s.mem.any (fun e => decide (0x08200000 ≤ e.1 ∧ e.1 < 0x08600000 ∧ e.1 % 256 = 0x0C) && e.2.toNat == k)
    || (List.range 64).any (fun n => s.scenState n != 0 && s.scenOwner n == k)
    || (List.range 1024).any (fun i => s.schedState i != 0 && s.schedOwner i == k)
    || s.frames.any (fun f => f.2 == k) || s.rootOf k != 0 || (List.range 16).any (fun q => s.qOwner q == k)

/-- The acquisitions of session `k` outside any scenario end as under a host STOP, where XPORT.ORPHAN.ACQ says so. -/
def State.orphanAcqs (s : State) (k : Nat) : State :=
  if s.fb (sbase k pXPORT) XPORT_ORPHAN_ACQ then
    (List.range s.variant.caps).foldl (fun t n =>
      if t.owner (pSTRM n) = k ∧ (t.acquiring n || (t.trc n).startAt.isSome) then t.acqStop n else t) s
  else s

/-- A session ends: its number becomes ORPHAN, or FREE where it owns nothing (R473); what it wrote to OWN_CMD before is carried out first
(assumption log, entry 150). -/
def State.endSession (s : State) (k : Nat) : State :=
  if !s.isOpen k then s
  else
    let s := s.settled.ownRun 16
    let q := s.ses k
    let b := sbase k pNOTE
    let t := s.fs b NOTE_LOST_PENDING_VALUE (s.fg b NOTE_LOST_PENDING_VALUE + q.notices.length)
    let t := t.updSes k (fun v => { v with st := .orphan, held := [], unacked := [], waiting := [], notices := [], pulls := [], orphanAt := s.now, readShadow := [], writeShadow := [] })
    let t := ((t.orphanScens k).orphanQueues k).orphanAcqs k
    let t := q.flights.foldl (fun u f => u.gapBlock k f) t
    let t := if t.hasEstate k then t else t.updSes k (fun _ => Sess.fresh)
    t.sessChange k

/-- The instant at which the lease of session `k` ends (R473). -/
def State.leaseEnd (s : State) (k : Nat) : Nat :=
  (s.ses k).lastMsgAt + 3000000 * s.fg (sbase k pXPORT) XPORT_LEASE_LEASE_MS

/-- The lease of session `k` ends. -/
def State.leaseExpires (s : State) (k : Nat) : State :=
  if s.isOpen k then ({ s with now := max s.now (s.leaseEnd k) }).endSession k else s

/-- GRACE_S after a number became ORPHAN it becomes CLAIMABLE (R474). -/
def State.graceExpires (s : State) (k : Nat) : State :=
  if (s.ses k).st = .orphan ∧ 1 ≤ k ∧ k ≤ 16 then
    let t := { s with now := max s.now ((s.ses k).orphanAt + 3000000000 * s.fg (sbase k pXPORT) XPORT_LEASE_GRACE_S) }
    (t.updSes k (fun q => { q with st := .claimable })).sessChange k
  else s

/-! ### Opening a session (R457 to R459, R508, R577) -/

/-- The octets of a label. -/
def label (t : String) : List Nat := t.toList.map (fun c => c.toNat)

/-- A number as `n` octets, least significant first. -/
def octets (v : Nat) : Nat → List Nat
  | 0 => []
  | n + 1 => v % 256 :: octets (v / 256) n

/-- The octets of an OPEN_REQ body: its words little-endian, the address ALT first octet first. -/
def OpenReq.octets (r : OpenReq) : List Nat :=
  Sys2Proof.Machine.octets (r.hostId * 65536 + r.target * 256 + b2n r.dual * 4 + b2n r.adopt * 2 + b2n r.reclaim) 4
    ++ Sys2Proof.Machine.octets (r.leaseMs % 65536) 4 ++ (Sys2Proof.Machine.octets r.alt 16).reverse ++ Sys2Proof.Machine.octets (r.altUdp % 65536) 4

/-- The lifecycle state (R508). -/
def State.lifecycle (s : State) : Nat := s.fg (base pTRUST) TRUST_LIFECYCLE_STATE

/-- The tamper alarm stands (R512). -/
def State.alarm (s : State) : Bool := s.fb (base pTRUST) TRUST_LIFECYCLE_ALARM

/-- The key that HOST_ID `h` names, where it may open a session in the lifecycle state (R505, R508, R515). -/
def State.keyFor' (s : State) (h : Nat) : Option HostKey :=
  if h = 0 then
    if s.lifecycle ≠ 2 ∨ s.alarm ∨ s.trust.recovery then some { id := 0, perms := 7, key := Config.key0 } else none
  else if s.trust.recovery ∨ s.lifecycle = 0 ∨ 4 ≤ s.lifecycle then none
  else s.trust.keys.find? (fun k => k.id == h)

/-- HMAC-SHA-256 under the key number `key` of `n` octets. -/
def mac (key n : Nat) (msg : List Nat) : Nat := Config.hmac (octets key n) msg

/-- The MAC that OPEN_PROOF must carry. -/
def State.proofMac (s : State) (key : Nat) (c : Challenge) (nh : List Nat) : Nat :=
  mac key 32 (label "ATZAL-OPEN" ++ octets c.nonce 32 ++ nh ++ octets s.serial 8 ++ OpenReq.octets c.req)

/-- The RMAC that a reclaim must carry under the reclaim secret of its target. -/
def State.reclaimMac (s : State) (c : Challenge) (nh : List Nat) : Nat :=
  mac (s.ses c.req.target).secret 8 (label "ATZAL-RECLAIM" ++ octets c.nonce 32 ++ nh)

/-- The session number of R459 that an open without RECLAIM or ADOPT takes. -/
def State.freeNumber (s : State) : Option Nat :=
  ((List.range 16).map (· + 1)).find? (fun k => decide ((s.ses k).st = .free))

/-- The first refusal of R458 that applies to a proof, or the key and the number to open. -/
def State.verdictOpen (s : State) (c : Challenge) (nh : List Nat) (m rm : Nat) : Except Code (HostKey × Nat) :=
  let r := c.req
  let st : SessState := if 1 ≤ r.target ∧ r.target ≤ 16 then (s.ses r.target).st else .free
  match s.keyFor' r.hostId with
  | none => .error .auth
  | some key =>
    if m ≠ s.proofMac key.key c nh then .error .auth
    else if r.reclaim ∧ st ≠ .free ∧ ((s.ses r.target).lapsed ∨ rm ≠ s.reclaimMac c nh) then .error .auth
    else if r.reclaim ∧ ((st ≠ .orphan ∧ st ≠ .claimable) ∨ (s.ses r.target).hostId ≠ r.hostId) then .error .state
    else if r.adopt ∧ st ≠ .claimable then .error .state
    else if r.adopt ∧ !bit key.perms 0 then .error .owner
    else if 8 ≤ s.openList.length then .error .full
    else if r.reclaim ∨ r.adopt then .ok (key, r.target)
    else match s.freeNumber with
      | some k => .ok (key, k)
      | none => .error .full

/-- A handshake message sent to where its OPEN_REQ came from, with the open identifier in its SEQ (R451, R452, R457). -/
def State.handshake (s : State) (r : OpenReq) (openId : Nat) (m : Msg) : State :=
  s.sendTo (r.port % 2) r.fromAddr r.fromUdp 0 openId 0 0 false m

/-- OPEN_REQ (R457, R458): ignored before Signet runs and while a host's opens are ignored; beyond 16 challenges it is
discarded and counted. -/
def State.openReq (s : State) (r : OpenReq) : State :=
  let live := s.xport.challenges.filter (fun c => decide (s.now ≤ c.sentAt + 300000000))
  if !s.fb (base pDEV) DEV_FW_STATUS_SIGNET_READY || s.xport.auth.any (fun a => a.hostId == r.hostId && decide (s.now < a.ignoreUntil)) then s
  else if 16 ≤ live.length then s.count (base pXPORT) XPORT_OPEN_FAIL_COUNT_COUNT
  else
    let i := s.xport.openIds + 1
    let n := s.free 0x457 % 2 ^ 256
    let t := { s.bump with xport := { s.xport with openIds := i, challenges := live ++ [({ openId := i, nonce := n, req := r, sentAt := s.now } : Challenge)] } }
    t.handshake r i (.challenge i n s.serial)

/-- A challenge lapses 100 ms after it was sent (R457). -/
def State.proofLate (s : State) (i : Nat) : State :=
  match s.xport.challenges.find? (fun c => c.openId == i) with
  | some c => { s with now := max s.now (c.sentAt + 300000000), xport := { s.xport with challenges := s.xport.challenges.filter (fun x => x.openId != i) } }
  | none => s

/-- An AUTH refusal of host `h` is watched: the fourth within 1 s makes its opens ignored for the next (R458). -/
def State.watchAuth (s : State) (h : Nat) : State :=
  let old := ((s.xport.auth.find? (fun a => a.hostId == h)).map (·.times)).getD []
  let times := s.now :: old.filter (fun t => decide (s.now < t + 3000000000))
  let a : AuthWatch := { hostId := h, times := times, ignoreUntil := if 4 ≤ times.length then s.now + 3000000000 else 0 }
  { s with xport := { s.xport with auth := a :: s.xport.auth.filter (fun x => x.hostId != h) } }

/-- The registers that are session number `k`'s own, and its views, back at reset (R489, R494). -/
def State.freshNumber (s : State) (k : Nat) : State :=
  (((s.dropRegs (fun a => decide (sbase k 0 ≤ a ∧ a < sbase (k + 1) 0))).zero (snapView k) 0x15000).zero (stageView k) 0x15000).updSes k
    (fun _ => Sess.fresh)

/-- Session number `k` opens: fresh, or with the estate it holds (R457, R459, R474, R489). -/
def State.openNumber (s : State) (c : Challenge) (k x : Nat) : State :=
  let r := c.req
  let t := if (s.ses k).st = .free then s.freshNumber k else s
  let t := t.updSes k (fun q =>
    { Sess.fresh with st := .opened, hostId := r.hostId, token := x % 2 ^ 64, secret := x / 2 ^ 64 % 2 ^ 64, openAddr := r.fromAddr, openUdp := r.fromUdp, alt := r.alt, altUdp := r.altUdp, homePort := r.port % 2, lastMsgAt := s.now, gapRuns := q.gapRuns })
  let b := sbase k pXPORT
  let t := ((((t.fs b XPORT_SESSION_HOST_ID r.hostId).fs b XPORT_SESSION_PREF (r.port % 2)).fs b XPORT_SESSION_CURRENT (r.port % 2)).fs b
    XPORT_SESSION_DUAL (b2n r.dual)).fs b XPORT_SESSION_NUMBER k
  let t := t.fs b XPORT_LEASE_LEASE_MS (min 60000 (max 10 r.leaseMs))
  let t := (((t.fs b XPORT_GRANT_COUNT 0).fs b XPORT_SENT_COUNT 0).fs b XPORT_CONFIRMED_COUNT 0).fs b XPORT_RETURNED_COUNT 0
  ((t.wr (sbase k pDEV + 0x068) (BitVec.ofNat 32 k)).wr (sbase k pDEV + 0x06C) 0#32).fs (sbase k pNOTE) NOTE_NEXT_NSEQ_VALUE 0

/-- The notices a newly opened session receives first: TAMPER, FW_FALLBACK, NOTICES_LOST (R474, R512, R515, R577). -/
def State.firstNotices (s : State) (k : Nat) : State :=
  let t := if s.alarm then s.notifyTo k { (s.note pTRUST 2 (s.fg (base pTRUST) TRUST_TAMPER_LAST_CAUSE)) with time := s.trust.tamperAt } else s
  let t := match s.trust.fallback with
    | some c => t.notifyTo k (s.note pTRUST 4 (s.fg (base pDEV) DEV_FW_SIGNET_IMAGE + 256 * c))
    | none => t
  t.reportLost k

/-- OPEN_PROOF (R457 to R459): checked, and answered by OPEN_DONE. One that names no open challenge of its port, or comes
later than 100 ms, is discarded. -/
def State.openProof (s : State) (port i : Nat) (nh : List Nat) (m rm : Nat) : State :=
  match s.xport.challenges.find? (fun c => c.openId == i && c.req.port % 2 == port % 2 && decide (s.now ≤ c.sentAt + 300000000)) with
  | none => s
  | some c =>
    let t := { s with xport := { s.xport with challenges := s.xport.challenges.filter (fun x => x.openId != i) } }
    match s.verdictOpen c nh m rm with
    | .error e =>
      let u := t.count (base pXPORT) XPORT_OPEN_FAIL_COUNT_COUNT
      let u := if e = .auth then u.watchAuth c.req.hostId else u
      u.handshake c.req i (.openDone i e.num 0 0 0)
    | .ok (key, k) =>
      let n := octets c.nonce 32
      let x := mac key.key 32 (label "ATZAL-SESSION" ++ n ++ nh)
      let u := t.openNumber c k x
      let u := u.handshake c.req i (.openDone i 0 k (u.fg (sbase k pXPORT) XPORT_LEASE_LEASE_MS)
        (mac key.key 32 (label "ATZAL-ACCEPT" ++ nh ++ n ++ [k])))
      (u.sessChange k).firstNotices k

/-! ### Page ownership (R475) -/

/-- XPORT.OWN_CMD written by session `k` (R475): BUSY refuses it; else it waits for Signet, which may be free at once. -/
def State.ownCmd (s : State) (k op p : Nat) : Act :=
  let b := sbase k pXPORT
  if s.fb b XPORT_OWN_STATUS_BUSY then .error .busy
  else if op ≠ 1 ∧ op ≠ 2 then .error .format
  else .ok ({ s with xport := { s.xport with ownQ := s.xport.ownQ ++ [(⟨k, op, p, s.now⟩ : OwnReq)] } }.fs b XPORT_OWN_STATUS_BUSY 1).ownSettled

/-! ### XPORT and NOTE registers (R478, R479) -/

/-- What XPORT.SESSION_MAP shows. -/
def State.sessionMap (s : State) : Nat :=
  (List.range 16).foldl (fun n i => n + (s.ses (i + 1)).st.code * 4 ^ i) 0

/-- A command message (R453). -/
def HostMsg.isCommand : HostMsg → Bool
  | .pullData .. | .pullErr .. => false
  | _ => true

/-- Commands of session `k` outstanding at the module (R463): those held for a gap in SEQ to fill, and those whose RESPONSE
waits for the window. -/
def State.cmdsOut (s : State) (k : Nat) : Nat :=
  ((s.ses k).held.filter (fun e => HostMsg.isCommand e.2)).length + ((s.ses k).waiting.filter (fun m => m.isResponse)).length

/-- Live registers of the XPORT page, as session `k` reads them. -/
def State.xportLive (s : State) (k off : Nat) : Option Word :=
  if off = XPORT_SESSION_MAP then some (BitVec.ofNat 32 s.sessionMap)
  else if off = XPORT_CMD_OUT then some (BitVec.ofNat 32 (s.cmdsOut k))
  else none

/-- Live registers of the NOTE page, as session `k` reads them. -/
def State.noteLive (s : State) (k off : Nat) : Option Word :=
  if off = NOTE_QUEUE then some (BitVec.ofNat 32 (s.ses k).notices.length) else none

/-- Counters of keys `keys` cleared where `mask` has their bit (R70): one incremented in the same cycle, its bit in
`again`, is left at 1. -/
def State.clearCounts (s : State) (mask again : Nat) (keys : List Nat) : State :=
  ((List.range keys.length).zip keys).foldl (fun t e =>
    if bit mask e.1 then t.wr e.2 (if bit again e.1 then 1#32 else 0#32) else t) s

/-- XPORT.CNT_CLEAR: the session's own counters, and the module-wide ones by the CLK owner (R478, R492). -/
def State.xportClear (s : State) (k : Nat) (w again : Nat) : Act :=
  if bits w 9 8 ≠ 0 ∧ !s.owns k pCLK then .error .owner
  else .ok ((s.clearCounts (bits w 6 0) (bits again 6 0) ((List.range 7).map (fun i => sbase k pXPORT + 0x080 + 4 * i))).clearCounts
    (bits w 9 8) (bits again 9 8) [base pXPORT + 0x0C0, base pXPORT + 0x0C4])

/-- NOTE.CNT_CLEAR. -/
def State.noteClear (s : State) (k : Nat) (w again : Nat) : State :=
  s.clearCounts (bits w 1 0) (bits again 1 0) [sbase k pNOTE + NOTE_LOST_TOTAL, sbase k pNOTE + NOTE_MASKED_COUNT]

/-- A register of the XPORT page written by session `k`: PREF moves a dual-homed session (R471, R472). -/
def State.xportReg (s : State) (k off : Nat) (w : Word) : Act :=
  if off = XPORT_OWN_CMD then s.ownCmd k (getF w XPORT_OWN_CMD_OP) (getF w XPORT_OWN_CMD_PAGE)
  else if off = XPORT_CNT_CLEAR then s.xportClear k w.toNat 0
  else if off = XPORT_SESSION then .ok ((s.plain k (base pXPORT + off) w).settlePort k)
  else .ok (s.plain k (base pXPORT + off) w)

/-! ### Receiving (R454, R455) -/

/-- A frame has arrived on port `p`. -/
def State.rxFrame (s : State) (p : Nat) : State := s.inc64 (base (pLINK (p % 2)) + LINK_RX_FRAMES)

/-- A message of an open session: a lease that has ended ends first (R476); it is judged by R454, renews the lease (R473),
acknowledges (R452), and then does what `f` says. -/
def State.onMsg (s : State) (h : Hdr) (f : State → State) : State :=
  let s := s.rxFrame h.port
  let s := if s.isOpen h.sess && decide (s.leaseEnd h.sess ≤ s.now) then s.endSession h.sess else s
  if !s.isOpen h.sess || (s.ses h.sess).token != h.token || !s.usesPort h.sess (h.port % 2) then s.count (base pXPORT) XPORT_DISCARD_COUNT_COUNT
  else if !h.lengthOk then s.count (sbase h.sess pXPORT) XPORT_DISCARD_COUNT_S_COUNT
  else
    let t := s.updSes h.sess (fun q => { q with lastMsgAt := s.now, otherPortAt := if s.curPort h.sess = h.port % 2 then q.otherPortAt else s.now + 1 })
    f ((t.acked h.sess (min h.ack ((t.ses h.sess).txNext - 1))).resendFails h.sess)

/-- The held message that is due next, if any. -/
def Sess.due (q : Sess) : Option HostMsg := (q.held.find? (fun e => e.1 == q.rxNext)).map (·.2)

/-- Held messages carried out as their turn comes, `fuel` at most. -/
def State.drainHeld (s : State) (k : Nat) (f : State → Nat → HostMsg → State) : Nat → State
  | 0 => s
  | n + 1 =>
    match (s.ses k).due with
    | some m =>
      let seq := (s.ses k).rxNext
      let t := s.updSes k (fun q => { q with rxNext := seq + 1, held := q.held.filter (fun e => e.1 != seq) })
      State.drainHeld (f t seq m) k f n
    | none => s

/-- A reliable message of session `k` taken in SEQ order (R455), where `f` carries it out; a new command beyond the 256
outstanding ones is discarded (R463). -/
def State.takeRel (s : State) (k seq : Nat) (m : HostMsg) (f : State → Nat → HostMsg → State) : State :=
  let q := s.ses k
  if seq < q.rxNext ∨ q.held.any (fun e => e.1 == seq) then
    (s.count (sbase k pXPORT) XPORT_DUP_COUNT_COUNT).sendPlain k .ack
  else if q.rxNext + 512 < seq then s
  else if HostMsg.isCommand m ∧ 256 ≤ s.cmdsOut k then s.count (sbase k pXPORT) XPORT_CREDIT_OVERRUN_COUNT_COUNT
  else if q.rxNext < seq then s.updSes k (fun v => { v with held := v.held ++ [(seq, m)] })
  else (f (s.updSes k (fun v => { v with rxNext := seq + 1 })) seq m).drainHeld k f q.held.length

/-- An answer to a pull (R465). -/
def State.pullReply (s : State) (k : Nat) : HostMsg → State
  | .pullData tag data => s.pullAnswer k tag (some data)
  | .pullErr tag _ => s.pullAnswer k tag none
  | _ => s

/-- A CLOSE is carried out (R463, R473): its credit returns at CLOSED, and the session ends. -/
def State.closeSession (s : State) (k : Nat) : State :=
  if s.isOpen k then ((s.returnCredit k).sendPlain k .closed).endSession k else s

end Sys2Proof.Machine
end

