-- ==== Sys2Proof/Machine/Blocks.lean ====
section
/-! DEFINITION. Sys2Proof/Machine/Blocks.lean: the common header's controls: block enable, park and reset, and the fault
register (spec/17_register_map.md, R484 to R488). -/
namespace Sys2Proof.Machine
open Sys2Proof

/-- The capture channel a CAP, STRM or STEN page belongs to. -/
def capOf (p : Nat) : Nat := (p - 0x060) % 4

/-- What keeps EN and RESET of page `p` from being written (R485): an armed scenario uses the block, the channel acquires or
its ring is enabled, or a proof self-test runs on the channel. -/
def State.blockHeld (s : State) (p : Nat) : Bool :=
  s.armedUses p || (decide (0x060 ≤ p ∧ p < 0x06C) && (s.pageAcquires p || s.ringOn (capOf p)))
    || (decide (0x040 ≤ p ∧ p < 0x050) && s.fb (base p) GEN_PROOF_STATUS_TESTING)

/-- A table commit of page `p`'s Graver is pending (R486). -/
def State.commitPends (s : State) (p : Nat) : Bool :=
  decide (0x040 ≤ p ∧ p < 0x054) && s.fb (base p) GRV_TABLE_STATUS_PENDING

/-- The kind of page `p` has the property `f`. -/
def State.pageIs (s : State) (p : Nat) (f : PageKind → Bool) : Bool :=
  match pageOf s.variant p with
  | some (kind, _) => f kind
  | none => false

/-- EN written (R485): 0 removes power, READY clears and a capture front end is no longer settled. -/
def State.writeEn (s : State) (p : Nat) (en : Bool) : State :=
  if s.fb (base p) HDR_PAGE_CTRL_EN = en then s
  else if en then s.fs (base p) HDR_PAGE_CTRL_EN 1
  else
    let t := (s.fs (base p) HDR_PAGE_CTRL_EN 0).fs (base p) HDR_PAGE_CTRL_READY 0
    if 0x060 ≤ p ∧ p < 0x064 then t.fs (base p) CAP_CAP_STATUS_SETTLED 0 else t

/-- PAGE_FAULT cleared (R488): a fault detected in the same cycle is recorded as the first after the clear. -/
def State.clearFault (s : State) (p : Nat) (again : Option (Nat × Nat)) : State :=
  let t := s.wr (base p + 0x01C) 0#32
  match again with
  | some (code, detail) => t.pageFault p code detail
  | none => t

/-- PAGE_CTRL of page `p` written (R485 to R488): everything is judged before anything changes. -/
def State.pageCtrl (s : State) (p : Nat) (w : Word) (again : Option (Nat × Nat)) : Act :=
  let reset : Bool := getF w HDR_PAGE_CTRL_RESET == 1
  let park := s.pageIs p PageKind.parkCap
  if reset && !s.pageIs p PageKind.resetCap then .error .state
  else if reset && (s.blockHeld p || s.commitPends p) then .error .locked
  else if park && getF w HDR_PAGE_CTRL_EN == 0 && s.fb (base p) HDR_PAGE_CTRL_EN && s.blockHeld p then .error .locked
  else
    let t := if park then (s.writeEn p (getF w HDR_PAGE_CTRL_EN == 1)).fs (base p) HDR_PAGE_CTRL_PARK (getF w HDR_PAGE_CTRL_PARK) else s
    let t := if getF w HDR_PAGE_CTRL_FAULT_CLR = 1 then t.clearFault p again else t
    .ok (if reset then t.fs (base p) HDR_PAGE_CTRL_BUSY 1 else t)

/-- The block of page `p` is settled (R485): a proof ADC is re-phased before READY (R202). -/
def State.blockReady (s : State) (p : Nat) : State :=
  if s.pageIs p PageKind.parkCap && s.fb (base p) HDR_PAGE_CTRL_EN && !s.fb (base p) HDR_PAGE_CTRL_READY then
    (if 0x040 ≤ p ∧ p < 0x050 then s.alignProof (p - 0x040) else s).fs (base p) HDR_PAGE_CTRL_READY 1
  else s

/-- What a block holds beyond its registers, at its reset. -/
def State.blockFresh (s : State) (p : Nat) : State :=
  let n := capOf p
  if 0x040 ≤ p ∧ p < 0x050 then
    { s with gens := s.gens.set (p - 0x040) Gen.fresh, proofs := s.proofs.set (p - 0x040) Proof.fresh, gravers := s.gravers.set (p - 0x040) Graver.fresh }
  else if 0x050 ≤ p ∧ p < 0x054 then
    let t := { s with gravers := s.gravers.set (p - 0x050 + 16) Graver.fresh }
    let mine := fun (o : DriverOff) => match o.who with
      | .lane g _ => g == p - 0x050
      | _ => p == 0x050
    let l := { t.lanes with settling := t.lanes.settling.filter (· != p - 0x050), off := t.lanes.off.filter (fun o => !mine o) }
    { t with lanes := if p = 0x050 then { l with outs := List.replicate 4 ⟨false, false, 0⟩, lastEdge := List.replicate 4 none } else l }
  else if 0x060 ≤ p ∧ p < 0x064 then s.updTrc n (fun t => { t with c := 0, raw := [], segs := [], spans := [], seen := 0, unit := TrigUnit.fresh, lastTrig := none, trigs := [] })
  else if 0x064 ≤ p ∧ p < 0x068 then s.updTrc n (fun t => { Tracer.fresh with nextAcq := t.nextAcq, c := t.c, cBase := t.cBase, grids := t.grids, lastTrig := t.lastTrig, trigs := t.trigs })
  else if 0x068 ≤ p ∧ p < 0x06C then s.updTrc n (fun t => { t with pass := none, tdPend := [], spRun := 0 })
  else s

/-- A block reset completes (R486): every block-specific field of the page returns to its Reset value but CAPACITY, every
session's RAW of the page and its PAGE_FAULT clear, and BUSY clears. A generate channel's CLOCK and THERMAL causes stand
while what sets them does. -/
def State.blockResetDone (s : State) (p : Nat) : State :=
  if !s.fb (base p) HDR_PAGE_CTRL_BUSY then s
  else
    let s := if 0x060 ≤ p ∧ p < 0x064 then s.packRest (capOf p) else s
    let cap := s.rd (base p + GRV_TABLE_CFG)
    let causes := s.causes (p - 0x040)
    let t := s.dropRegs (fun a => decide (base p + 0x040 ≤ a ∧ a < base p + 0x1000) || a == base p + 0x01C
      || a % 0x1000000 == base p + 0x018)
    let t := (t.fs (base p) HDR_PAGE_CTRL_BUSY 0).blockFresh p
    let t := if 0x040 ≤ p ∧ p < 0x054 then t.wr (base p + GRV_TABLE_CFG) cap else t
    if 0x040 ≤ p ∧ p < 0x050 then
      let t := if bit causes 2 && !(s.gen (p - 0x040)).settling then t.mute (p - 0x040) .clock else t
      (if bit causes 3 then t.mute (p - 0x040) .thermal else t).logChain (p - 0x040)
    else t

/-! ### The commands -/

/-- A write of PAGE_CTRL of page `p` that changes the bits `f` changes. -/
def State.ctrlBy (s : State) (o : Org) (p : Nat) (f : Word → Word) (again : Option (Nat × Nat)) : State :=
  let w := f (s.rd (base p + 0x00C))
  s.hostReg o (base p + 0x00C) w (fun t => t.pageCtrl p w again)

/-- BLOCK_ENABLE (R485). -/
def execBlockEnable (o : Org) (page : Nat) (en : Bool) (s : State) : Host.Outcome State Fault Refusal :=
  .next (s.ctrlBy o page (fun w => setF w HDR_PAGE_CTRL_EN (b2n en)) none)

/-- BLOCK_READY (R485). -/
def execBlockReady (page : Nat) (s : State) : Host.Outcome State Fault Refusal :=
  if s.pageIs page (fun _ => true) then .next (s.blockReady page) else .fault .noSuchBlock

/-- BLOCK_PARK (R487). -/
def execBlockPark (o : Org) (page : Nat) (park : Bool) (s : State) : Host.Outcome State Fault Refusal :=
  .next (s.ctrlBy o page (fun w => setF w HDR_PAGE_CTRL_PARK (b2n park)) none)

/-- BLOCK_RESET (R486). -/
def execBlockReset (o : Org) (page : Nat) (s : State) : Host.Outcome State Fault Refusal :=
  .next (s.ctrlBy o page (fun w => setF w HDR_PAGE_CTRL_RESET 1) none)

/-- BLOCK_RESET_DONE (R486). -/
def execBlockResetDone (page : Nat) (s : State) : Host.Outcome State Fault Refusal :=
  if s.pageIs page (fun _ => true) then .next (s.blockResetDone page) else .fault .noSuchBlock

/-- FAULT_CLR (R488); `coincident` is a fault detected in the same cycle, as its code and detail. -/
def execFaultClr (o : Org) (page : Nat) (coincident : Option (Nat × Nat)) (s : State) : Host.Outcome State Fault Refusal :=
  .next (s.ctrlBy o page (fun w => setF w HDR_PAGE_CTRL_FAULT_CLR 1) coincident)

end Sys2Proof.Machine
end

