-- ==== Sys2Proof/Machine/Network.lean ====
section
/-! DEFINITION. Sys2Proof/Machine/Network.lean: the host ports' network layer (spec/16_host_link_transport.md, R446 to R450,
R477) and the transport rows that carry no register access. IPv6 addresses stand as one number, first octet highest. -/
namespace Sys2Proof.Machine
open Sys2Proof

/-- Host port `p` changed. -/
def State.updPort (s : State) (p : Nat) (f : Port → Port) : State :=
  { s with xport := { s.xport with ports := s.xport.ports.modify (p % 2) f } }

/-- The address that a frame of the network layer goes to; a multicast group of IPv6 or the broadcast address of IPv4 where it has no one
receiver (R448, R449). -/
def Msg.dest : Msg → Nat
  | .arpReply to_ _ => to_
  | .neighborAdvert _ to_ => to_
  | .echoReply to_ _ => to_
  | .dhcpRequest _ server => if server = 0 then 0xFFFFFFFF else server
  | .mldReport _ => 0xFF02 * 2 ^ 112 + 0x16
  | .dadProbe a => 0xFF02 * 2 ^ 112 + 0x1FF000000 + a % 2 ^ 24
  | _ => 0xFFFFFFFF

/-- A frame of the network layer sent on port `p`, while it is UP. -/
def State.netSend (s : State) (p : Nat) (m : Msg) : State :=
  if s.portUp (p % 2) then s.sendTo (p % 2) m.dest 0 0 0 0 0 false m else s

/-- A received frame discarded: counted in RX_DISCARD (R446, R448). -/
def State.rxDiscard (s : State) (p : Nat) : State := s.inc64 (linkBase p + LINK_RX_DISCARD)

/-! ### Addresses (R449) -/

/-- IPv4 mode of a port: 0 off, 1 static, 2 DHCPv4. -/
def State.v4Mode (s : State) (p : Nat) : Nat := s.fg (linkBase p) LINK_ADDR_CFG_V4_MODE

/-- IPv6 mode of a port: 0 off, 1 static, 2 SLAAC. -/
def State.v6Mode (s : State) (p : Nat) : Nat := s.fg (linkBase p) LINK_ADDR_CFG_V6_MODE

/-- V4_STATE: 0 none, 1 acquiring, 2 in force. -/
def State.v4State (s : State) (p : Nat) : Nat := s.fg (linkBase p) LINK_STATUS_V4_STATE

/-- V6_STATE: 0 none, 1 tentative, 2 in force, 3 duplicate. -/
def State.v6State (s : State) (p : Nat) : Nat := s.fg (linkBase p) LINK_STATUS_V6_STATE

/-- The IPv4 address on the page. -/
def State.v4Addr (s : State) (p : Nat) : Nat := s.fg (linkBase p) LINK_V4_ADDR_ADDR

/-- Four words from offset `off` set to a 128-bit number. -/
def State.setQuad (s : State) (p off v : Nat) : State :=
  (List.range 4).foldl (fun t i => t.wr (linkBase p + off + 4 * i) (BitVec.ofNat 32 (v / 2 ^ (32 * (3 - i))))) s

/-- The global IPv6 address on the page. -/
def State.v6Addr (s : State) (p : Nat) : Nat := s.quad p (LINK_V6_ADDR 0)

/-- The MAC address of a port, first octet highest. -/
def State.macAddr (s : State) (p : Nat) : Nat := s.rd64 (linkBase p + LINK_MAC) % 2 ^ 48

/-- The EUI-64 interface identifier of a MAC address (RFC 4862): FF-FE in the middle, the universal bit inverted. -/
def eui64 (m : Nat) : Nat := ((m / 2 ^ 24 * 2 ^ 40 + 0xFFFE * 2 ^ 24 + m % 2 ^ 24) ^^^ 2 ^ 57) % 2 ^ 64

/-- The link-local address of a port, in force while IPv6 is on. -/
def State.linkLocal (s : State) (p : Nat) : Nat := 0xFE80 * 2 ^ 112 + eui64 (s.macAddr p)

/-- The notice of a gain, loss or change of an address: family 0 IPv4, 1 IPv6. -/
def State.addrChange (s : State) (p family : Nat) : State :=
  s.notifyAll (s.note (pLINK (p % 2)) 2 (family + 256 * (if family = 0 then s.v4State p else s.v6State p)))

/-- An IPv4 address in force: announced by a gratuitous ARP (R448). -/
def State.bind4 (s : State) (p addr : Nat) : State :=
  let t := ((s.fs (linkBase p) LINK_V4_ADDR_ADDR addr).fs (linkBase p) LINK_STATUS_V4_STATE 2).netSend p (.gratuitousArp addr)
  if s.v4State p = 2 ∧ s.v4Addr p = addr then t else t.addrChange p 0

/-- The IPv4 address of a port is no longer in force; the state becomes `st`. -/
def State.drop4 (s : State) (p st : Nat) : State :=
  let t := s.fs (linkBase p) LINK_STATUS_V4_STATE st
  if s.v4State p = 2 then t.addrChange p 0 else t

/-- An IPv6 global address in force. -/
def State.bind6 (s : State) (p addr : Nat) : State :=
  let t := (s.setQuad p (LINK_V6_ADDR 0) addr).fs (linkBase p) LINK_STATUS_V6_STATE 2
  if s.v6State p = 2 ∧ s.v6Addr p = addr then t else t.addrChange p 1

/-- The IPv6 global address of a port is no longer in force; the state becomes `st`. -/
def State.drop6 (s : State) (p st : Nat) : State :=
  let t := (s.fs (linkBase p) LINK_STATUS_V6_STATE st).updPort p (fun q => { q with tentative := none })
  if s.v6State p = 2 ∨ st = 3 then t.addrChange p 1 else t

/-- DHCPv4 starts over on a port. -/
def State.dhcpStart (s : State) (p : Nat) : State := (s.drop4 p 1).netSend p .dhcpDiscover

/-- The IPv4 mode of a port takes effect. -/
def State.start4 (s : State) (p : Nat) : State :=
  match s.v4Mode p with
  | 0 => s.drop4 p 0
  | 1 => s.bind4 p (s.v4Addr p)
  | _ => if s.v4State p = 2 then s else s.dhcpStart p

/-- The IPv6 mode of a port takes effect: the multicast groups are joined, and a static address is in force. -/
def State.start6 (s : State) (p : Nat) : State :=
  match s.v6Mode p with
  | 0 => s.drop6 p 0
  | 1 => (s.bind6 p (s.v6Addr p)).netSend p (.mldReport (s.v6Addr p))
  | _ => s.netSend p (.mldReport (s.linkLocal p))

/-- LINKp.ADDR_CFG written: a family whose mode changes starts in its new mode. -/
def State.addrCfg (s : State) (k p : Nat) (w : Word) : State :=
  let t := s.plain k (linkBase p + LINK_ADDR_CFG) w
  let t := if t.v4Mode p = s.v4Mode p then t else (t.drop4 p 0).start4 p
  if t.v6Mode p = s.v6Mode p then t else (t.drop6 p 0).start6 p

/-- LINKp.CTRL written (R447): BYPASS turns the transmitter off and the port DOWN at once; it is refused with LOCKED while
the other port is not UP. -/
def State.linkCtrl (s : State) (k p : Nat) (w : Word) : Act :=
  let on := getF w LINK_CTRL_BYPASS = 1
  let was := s.fb (linkBase p) LINK_CTRL_BYPASS
  if on ∧ !was ∧ !s.portUp (1 - p % 2) then .error .locked
  else
    let t := s.plain k (linkBase p + LINK_CTRL) w
    let t := t.fs (linkBase p) LINK_STATUS_BYPASSED (getF w LINK_CTRL_BYPASS)
    .ok (if on then t.portDown (p % 2) else t)

/-- LINKp.CNT_CLEAR: the 64-bit counters whose bit is set go back to 0. -/
def State.linkClear (s : State) (p w again : Nat) : State :=
  (List.range 6).foldl (fun t i => if bit w i then t.wr64 (linkBase p + 0x080 + 8 * i) (b2n (bit again i)) else t) s

/-- A register of a LINK page written (R447, R449, R477): addresses that DHCPv4 or SLAAC writes ignore the host. -/
def State.linkReg (s : State) (k p off : Nat) (w : Word) : Act :=
  if off = LINK_CTRL then s.linkCtrl k p w
  else if off = LINK_ADDR_CFG then .ok (s.addrCfg k p w)
  else if off = LINK_V4_ADDR then
    .ok (if s.v4Mode p = 2 then s else if s.v4Mode p = 1 then s.bind4 p w.toNat else s.plain k (linkBase p + off) w)
  else if (LINK_V6_ADDR 0) ≤ off ∧ off < (LINK_V6_ADDR 0) + 16 then
    if s.v6Mode p = 2 then .ok s
    else
      let t := s.plain k (linkBase p + off) w
      .ok (if s.v6Mode p = 1 ∧ t.v6Addr p ≠ s.v6Addr p then t.addrChange p 1 else t)
  else if off = LINK_CNT_CLEAR then .ok (s.linkClear p w.toNat 0)
  else .ok (s.plain k (linkBase p + off) w)

/-! ### Received frames (R448, R449) -/

/-- An address of a neighbour learned. -/
def State.learn (s : State) (p addr m : Nat) : State :=
  s.updPort p (fun q => { q with neighbours := (addr, m) :: q.neighbours.filter (fun e => e.1 != addr) })

/-- A received ARP frame: outside what the port supports while IPv4 is off. -/
def State.arpIn (s : State) (p : Nat) : ArpOp → State
  | .request target sender m =>
    if s.v4Mode p = 0 then s.rxDiscard p
    else
      let t := s.learn p sender m
      if s.v4State p = 2 ∧ s.v4Addr p = target then t.netSend p (.arpReply sender m) else t
  | .reply sender m => if s.v4Mode p = 0 then s.rxDiscard p else s.learn p sender m

/-- A received NDP frame. A router advertisement's autonomous prefix forms an address, which is then tentative (R449). -/
def State.ndpIn (s : State) (p : Nat) (f : NdpOp) : State :=
  if s.v6Mode p = 0 then s.rxDiscard p
  else match f with
    | .solicit target sender m =>
      if target = s.linkLocal p ∨ (s.v6State p = 2 ∧ target = s.v6Addr p) then (s.learn p sender m).netSend p (.neighborAdvert target sender)
      else s.rxDiscard p
    | .advert target m => s.learn p target m
    | .routerAdvert prefix64 auton router m =>
      let t := s.learn p router m
      if s.v6Mode p ≠ 2 then t
      else
        let t := t.updPort p (fun q => { q with router := router })
        let a := prefix64 % 2 ^ 64 * 2 ^ 64 + eui64 (s.macAddr p)
        if !auton || (s.v6State p == 2 && s.v6Addr p == a) || (s.port p).tentative == some a then t
        else
          let t := if s.v6State p = 2 then t else t.fs (linkBase p) LINK_STATUS_V6_STATE 1
          ((t.updPort p (fun q => { q with tentative := some a })).netSend p (.mldReport a)).netSend p (.dadProbe a)

/-- Duplicate address detection of the tentative address ends (R449). -/
def State.dadEnds (s : State) (p : Nat) (dup : Bool) : State :=
  match (s.port p).tentative with
  | some a =>
    if dup then (s.setQuad p (LINK_V6_ADDR 0) 0).drop6 p 3
    else (s.updPort p (fun q => { q with tentative := none })).bind6 p a
  | none => s

/-- An echo request to an address in force, answered up to the MTU (R448). -/
def State.echoIn (s : State) (p : Nat) (v6 : Bool) (dst src len : Nat) : State :=
  let mine : Bool := if v6 then s.v6Mode p != 0 && (dst == s.linkLocal p || (s.v6State p == 2 && dst == s.v6Addr p)) else s.v4State p == 2 && dst == s.v4Addr p
  if mine ∧ len ≤ s.fg (linkBase p) LINK_UDP_MTU then s.netSend p (.echoReply src len) else s.rxDiscard p

/-- A received DHCPv4 message (R449). -/
def State.dhcpIn (s : State) (p : Nat) (f : DhcpOp) : State :=
  if s.v4Mode p ≠ 2 then s.rxDiscard p
  else match f with
    | .offer addr server => if s.v4State p = 1 then s.netSend p (.dhcpRequest addr server) else s
    | .ack addr server mask router leaseS =>
      let t := s.updPort p (fun q => { q with dhcpServer := server, dhcpMask := mask, dhcpLeaseS := leaseS, dhcpAckAt := s.now })
      (t.fs (linkBase p) LINK_V4_GW_ADDR router).bind4 p addr
    | .nak => (s.dhcpStart p).fs (linkBase p) LINK_V4_ADDR_ADDR 0

/-- The instants of a DHCP lease (R449): renewal at half, rebinding at seven eighths, and its end without renewal. -/
def State.dhcpTimer (s : State) (p : Nat) (t : DhcpTimer) : State :=
  if s.v4Mode p ≠ 2 ∨ s.v4State p ≠ 2 then s
  else
    let lease := 3000000000 * (s.port p).dhcpLeaseS
    let at_ := (s.port p).dhcpAckAt + (match t with | .half => lease / 2 | .sevenEighths => lease * 7 / 8 | .ended => lease)
    let u := { s with now := max s.now at_ }
    match t with
    | .half => u.netSend p (.dhcpRequest (s.v4Addr p) (s.port p).dhcpServer)
    | .sevenEighths => u.netSend p (.dhcpRequest (s.v4Addr p) 0)
    | .ended => (u.dhcpStart p).fs (linkBase p) LINK_V4_ADDR_ADDR 0

/-! ### The commands -/

/-- A meaning on one of the two host ports. -/
def onPort2 (p : Nat) (t : State) : Host.Outcome State Fault Refusal := if p < 2 then .next t else .fault .noSuchBlock

/-- ARP_FRAME (R448). -/
def execArpFrame (port : Nat) (f : ArpOp) (s : State) : Host.Outcome State Fault Refusal := onPort2 port ((s.rxFrame port).arpIn port f)

/-- NDP_FRAME (R448, R449). -/
def execNdpFrame (port : Nat) (f : NdpOp) (s : State) : Host.Outcome State Fault Refusal := onPort2 port ((s.rxFrame port).ndpIn port f)

/-- ICMP_ECHO (R448). -/
def execIcmpEcho (port : Nat) (v6 : Bool) (dst src len : Nat) (s : State) : Host.Outcome State Fault Refusal :=
  onPort2 port ((s.rxFrame port).echoIn port v6 dst src len)

/-- DHCP_MESSAGE (R449). -/
def execDhcpMessage (port : Nat) (f : DhcpOp) (s : State) : Host.Outcome State Fault Refusal := onPort2 port ((s.rxFrame port).dhcpIn port f)

/-- DHCP_LEASE_TIMER (R449). -/
def execDhcpLeaseTimer (port : Nat) (t : DhcpTimer) (s : State) : Host.Outcome State Fault Refusal := onPort2 port (s.dhcpTimer port t)

/-- DUPLICATE_ADDRESS_DETECTION (R449). -/
def execDuplicateAddressDetection (port : Nat) (duplicate : Bool) (s : State) : Host.Outcome State Fault Refusal :=
  onPort2 port (s.dadEnds port duplicate)

/-- UNSUPPORTED_FRAME (R446, R448, R450). -/
def execUnsupportedFrame (port : Nat) (_why : DiscardWhy) (s : State) : Host.Outcome State Fault Refusal :=
  onPort2 port ((s.rxFrame port).rxDiscard port)

/-- DISCARDED_MESSAGE (R454). -/
def execDiscardedMessage (port : Nat) (_why : DiscardWhy) (s : State) : Host.Outcome State Fault Refusal :=
  onPort2 port ((s.rxFrame port).count (base pXPORT) XPORT_DISCARD_COUNT_COUNT)

/-- PORT_UP (R447): not while the port is bypassed. Its addresses are announced. -/
def execPortUp (port : Nat) (s : State) : Host.Outcome State Fault Refusal :=
  onPort2 port (if s.fb (linkBase port) LINK_STATUS_BYPASSED || s.portUp port then s else ((s.portRise port).start4 port).start6 port)

/-- PORT_BYPASS (R447). -/
def execPortBypass (o : Org) (port : Nat) (on : Bool) (s : State) : Host.Outcome State Fault Refusal :=
  let w := setF (s.rd (linkBase port + LINK_CTRL)) LINK_CTRL_BYPASS (b2n on)
  .next (s.hostReg o (linkBase port + LINK_CTRL) w (fun t => t.linkCtrl o.sess port w))

/-- OPEN_REQ (R457). -/
def execOpenReq (r : OpenReq) (s : State) : Host.Outcome State Fault Refusal := .next ((s.rxFrame r.port).openReq r)

/-- OPEN_PROOF (R457 to R459, R474). -/
def execOpenProof (port openId : Nat) (nh : List Nat) (mac rmac : Nat) (s : State) : Host.Outcome State Fault Refusal :=
  .next ((s.rxFrame port).openProof port openId nh mac rmac)

/-- OPEN_PROOF_TIMEOUT (R457). -/
def execOpenProofTimeout (openId : Nat) (s : State) : Host.Outcome State Fault Refusal := .next (s.proofLate openId)

/-- ACK (R455, R470). -/
def execAck (h : Hdr) (s : State) : Host.Outcome State Fault Refusal := .next (s.onMsg h (fun t => t))

/-- BARE_ACK_SEND (R455). -/
def execBareAckSend (sess : Nat) (s : State) : Host.Outcome State Fault Refusal :=
  .next (if s.isOpen sess then s.sendPlain sess .ack else s)

/-- RETRANSMIT (R456, R472). -/
def execRetransmit (sess seq : Nat) (s : State) : Host.Outcome State Fault Refusal := .next (s.resend sess seq)

/-- CREDIT (R464): a stale grant changes nothing. -/
def execCredit (h : Hdr) (grant : Nat) (s : State) : Host.Outcome State Fault Refusal :=
  .next (s.onMsg h (fun t =>
    let b := sbase h.sess pXPORT
    if (grant % 2 ^ 32 + 2 ^ 32 - t.fg b XPORT_GRANT_COUNT) % 2 ^ 32 < 2 ^ 31 then t.fs b XPORT_GRANT_COUNT grant else t))

/-- HEARTBEAT (R473). -/
def execHeartbeat (h : Hdr) (s : State) : Host.Outcome State Fault Refusal :=
  .next (s.onMsg h (fun t => t.sendPlain h.sess (.heartbeatEcho t.now ((t.leaseEnd h.sess - t.now) / 3000))))

/-- PULL_TIMEOUT (R439, R465). -/
def execPullTimeout (sess tag : Nat) (s : State) : Host.Outcome State Fault Refusal := .next (s.pullLate sess tag)

/-- STREAM (R464, R466). -/
def execStream (ch : Nat) (s : State) : Host.Outcome State Fault Refusal := s.onCap ch (fun t => t.streamOut ch)

/-- STREAM_ACK (R466, R476). -/
def execStreamAck (h : Hdr) (entries : List AckEntry) (s : State) : Host.Outcome State Fault Refusal :=
  .next (s.onMsg h (fun t => if entries.length = 0 ∨ 32 < entries.length then t.count (sbase h.sess pXPORT) XPORT_DISCARD_COUNT_S_COUNT
    else t.streamAck h.sess entries))

/-- STREAM_BLOCK_DEADLINE (R466). -/
def execStreamBlockDeadline (sess ch acq blk : Nat) (s : State) : Host.Outcome State Fault Refusal :=
  .next (s.blockDeadline sess ch acq blk)

/-- DELIVERY_GAP (R466). -/
def execDeliveryGap (sess ch : Nat) (s : State) : Host.Outcome State Fault Refusal := .next (s.gapReported sess ch)

/-- NOTICE (R470). -/
def execNotice (sess : Nat) (s : State) : Host.Outcome State Fault Refusal := .next (s.sendNotices sess)

/-- LEASE_EXPIRY (R473). -/
def execLeaseExpiry (sess : Nat) (s : State) : Host.Outcome State Fault Refusal := .next (s.leaseExpires sess)

/-- GRACE_EXPIRY (R474). -/
def execGraceExpiry (sess : Nat) (s : State) : Host.Outcome State Fault Refusal := .next (s.graceExpires sess)

/-- The commands of XPORT.OWN_CMD. -/
def State.ownBy (s : State) (o : Org) (op page : Nat) : State :=
  s.hostReg o (base pXPORT + XPORT_OWN_CMD) (BitVec.ofNat 32 (op * 2 ^ 28 + page % 4096)) (fun t => t.ownCmd o.sess op (page % 4096))

/-- CLAIM_PAGE (R475). -/
def execClaimPage (o : Org) (page : Nat) (s : State) : Host.Outcome State Fault Refusal := .next (s.ownBy o 1 page)

/-- RELEASE_PAGE (R475). -/
def execReleasePage (o : Org) (page : Nat) (s : State) : Host.Outcome State Fault Refusal := .next (s.ownBy o 2 page)

end Sys2Proof.Machine
end

