-- ==== Sys2Proof/Machine/Trust.lean ====
section
/-! DEFINITION. Sys2Proof/Machine/Trust.lean: Signet and Atelier (spec/18_trust_lifecycle.md): keys and bundles, the lifecycle,
tamper, firmware images, Atelier's restarts, flash records, module reset and boot. A command of TRUST.CMD is
one step, so BUSY is never seen standing (R524; assumption log, entry 150). -/
namespace Sys2Proof.Machine
open Sys2Proof

/-! ### Records, epochs and keys (R505, R512, R519) -/

/-- A record of type `ty` is written (R519, R520). -/
def State.putRecord (s : State) (ty : Nat) : State :=
  let seq := ((s.trust.records.find? (fun r => r.type == ty)).map (·.seq)).getD 0
  s.updTrust (fun t => { t with records := { type := ty, seq := seq + 1, hours := s.hours } :: t.records.filter (fun r => r.type != ty) })

/-- The next epoch fuse is burnt (R512): at 16 left EPOCHS_LOW is raised, and the last one leaves the module RETIRED. -/
def State.burnEpoch (s : State) : State :=
  let left := s.fg (base pTRUST) TRUST_LIFECYCLE_EPOCHS_LEFT
  if left = 0 then s
  else
    let t := (s.fs (base pTRUST) TRUST_LIFECYCLE_EPOCHS_LEFT (left - 1)).updTrust (fun q => { q with epoch := q.epoch + 1 })
    let t := if left = 17 then t.notifyAll (t.note pTRUST 5 16) else t
    if left = 1 then t.fs (base pTRUST) TRUST_LIFECYCLE_STATE 4 else t

/-- The keys of the secure region but key 0 replaced; TRUST.KEYS counts them all (R507, R526). -/
def State.setKeys (s : State) (l : List HostKey) : State :=
  (s.updTrust (fun t => { t with keys := l })).fs (base pTRUST) TRUST_KEYS_VALUE (l.length + 1)

/-- A KEY_STORE record written under the present epoch (R505, R510). -/
def State.saveKeys (s : State) : State :=
  (s.updTrust (fun t => { t with flashKeys := t.keys, flashEpoch := t.epoch })).putRecord 4

/-- The permissions of session `k`'s key: bit 0 ADOPT, 1 FIRMWARE, 2 SETTINGS (R505). -/
def State.permits (s : State) (k p : Nat) : Bool :=
  let h := (s.ses k).hostId
  h == 0 || s.trust.keys.any (fun q => q.id == h && bit q.perms p)

/-! ### Bundles (R506, R507) -/

/-- The `n` bytes at `a` lie in DRAM frames that session `k` owns, and the memory is served (R506, R516, R534). -/
def State.ownBytes (s : State) (k a n : Nat) : Bool :=
  decide (dramBase ≤ a) && decide (s.restState < 2)
    && (List.range ((a + n - 1) / 65536 - a / 65536 + 1)).all (fun i => s.frameOwner (a / 65536 + i) == k)

/-- TRUST.SRC of session `k`. -/
def State.trustSrc (s : State) (k : Nat) : Nat := s.rd64 (sbase k pTRUST + TRUST_SRC) % 2 ^ 48

/-- A bundle opened: its counter, its target and its keys. -/
structure Bundle where
  counter : Nat
  target : Nat
  keys : List HostKey
deriving DecidableEq, Repr

/-- The bundle at session `k`'s SRC, or what refuses it (R506, R507). -/
def State.bundle (s : State) (k : Nat) : Except Code Bundle :=
  let a := s.trustSrc k
  let count := s.mbits (a + 8) 7 0
  let n := 0x20 + 48 * count + 16
  if !s.ownBytes k a 64 || !s.ownBytes k a n then .error .owner
  else if s.ldw a ≠ 0x4B424E44 ∨ s.ldw (a + 4) ≤ s.fg (base pTRUST) TRUST_BUNDLE_CTR_VALUE ∨ 63 < count then .error .bundle
  else match Config.bundleOpen s.serial ((s.bytesAt a n).map (·.toNat)) with
    | none => .error .bundle
    | some es =>
      if es.length ≠ count ∨ es.any (fun e => e.1 = 0 ∨ 0xFFFE < e.1) ∨ (distinct (es.map (·.1))).length ≠ es.length then .error .bundle
      else .ok { counter := s.ldw (a + 4), target := s.mbits (a + 12) 2 0, keys := es.map (fun e => { id := e.1, perms := e.2.1 % 8, key := e.2.2 }) }

/-- An accepted bundle raises BUNDLE_CTR. -/
def State.takeBundle (s : State) (b : Bundle) : State := s.fs (base pTRUST) TRUST_BUNDLE_CTR_VALUE b.counter

/-! ### Lifecycle and alarm (R509, R510, R513) -/

/-- A change of lifecycle state is accepted (R509). -/
def lifecycleOk (old new : Nat) : Bool :=
  match old, new with
  | 0, 4 | 1, 4 | 2, 4 | 3, 4 | 0, 1 | 1, 2 | 2, 3 | 3, 2 | 3, 1 => true
  | _, _ => false

/-- LIFECYCLE (R510). A change to RETIRED installs no key but key 0 and ends with a module reset 10 ms later. -/
def State.lifecycleTo (s : State) (k : Nat) : Except Code State :=
  match s.bundle k with
  | .error c => .error c
  | .ok b =>
    if s.alarm || !lifecycleOk s.lifecycle b.target then .error .state
    else
      let t := ((s.takeBundle b).fs (base pTRUST) TRUST_LIFECYCLE_STATE b.target).putRecord 2
      let t := (t.burnEpoch.wipe 2).setKeys (if b.target = 4 then [] else b.keys)
      let t := t.saveKeys
      let e : JEntry := { time := t.now, hours := t.hours, page := pTRUST, code := t.free 0x510 % 65536, detail := b.target, boots := t.trust.boots }
      let t := t.bump.jWrite e
      .ok (if b.target = 4 then t.updTrust (fun q => { q with resetDue := some (3, t.now + 30000000) }) else t)

/-- KEY_LOAD (R507, R524). -/
def State.keyLoad (s : State) (k : Nat) : Except Code State :=
  if s.lifecycle = 2 ∨ s.lifecycle = 4 then .error .state
  else match s.bundle k with
    | .error c => .error c
    | .ok b => .ok (((s.takeBundle b).setKeys b.keys).saveKeys)

/-- A watched input is in tamper (R511). -/
def State.inTamper (s : State) : Bool :=
  s.fb (base pTRUST) TRUST_TAMPER_LID_OPEN || (s.fb (base pTRUST) TRUST_TAMPER_LOOP_EN && s.fb (base pTRUST) TRUST_TAMPER_LOOP_BROKEN)

/-- ALARM_CLEAR (R513). -/
def State.alarmClear (s : State) (k : Nat) : Except Code State :=
  if !s.alarm || s.inTamper then .error .state
  else match s.bundle k with
    | .error c => .error c
    | .ok b =>
      .ok ((((s.takeBundle b).fs (base pTRUST) TRUST_LIFECYCLE_ALARM 0).sourceTo 7 false |>.setKeys b.keys).saveKeys)

/-- A command ends: CMD_STATUS is written, and TRUST_DONE or TRUST_REFUSED raised to the writer. -/
def State.trustEnd (s : State) (k op : Nat) (r : Except Code State) : State :=
  let t := match r with | .ok t => t | .error _ => s
  let c : Code := match r with | .ok _ => .ok | .error c => c
  let b := sbase k pTRUST
  ((t.fs b TRUST_CMD_STATUS_RESULT c.num).fs b TRUST_CMD_STATUS_OP op).notifyTo k
    (s.note pTRUST (if c = .ok then 0 else 1) (op + 65536 * c.num))

/-! ### Tamper (R511, R512, R578) -/

/-- Steps 2 to 5 of R512, which Signet carries out. -/
def State.tamperRest (s : State) : State :=
  let cause := s.fg (base pTRUST) TRUST_TAMPER_LAST_CAUSE
  let t := s.openList.foldl (fun u k => u.endSession k) s
  let t := (t.fs (base pTRUST) TRUST_LIFECYCLE_ALARM 1).publish 7
  let t := ((t.sourceTo 7 true).burnEpoch.setKeys []).pageFault pTRUST 0x0A04 cause
  (t.journal pTRUST 0x0A04 cause).updTrust (fun q => { q with tamperLeft := false })

/-- A broken loop or an open lid has persisted for 10 µs (R511): the loop is a tamper only while it is watched. Before
Signet runs, the wipe logic acts alone (R578). -/
def State.tamper (s : State) (lid : Bool) : State :=
  let b := base pTRUST
  let t := if lid then s.fs b TRUST_TAMPER_LID_OPEN 1 else s.fs b TRUST_TAMPER_LOOP_BROKEN 1
  if !lid && !s.fb b TRUST_TAMPER_LOOP_EN then t
  else
    let t := ((t.fs b TRUST_TAMPER_LAST_CAUSE (if lid then 2 else 1)).updTrust (fun q => { q with tamperAt := s.now })).wipe 1
    if s.fb (base pDEV) DEV_FW_STATUS_SIGNET_READY then t.tamperRest
    else (t.fs b TRUST_LIFECYCLE_ALARM 1).updTrust (fun q => { q with tamperLeft := true })

/-! ### Firmware images (R514 to R517) -/

/-- Slot `i`. -/
def State.slot (s : State) (i : Nat) : Slot := s.trust.slots.getD i { image := none, good := false, hours := 0 }

/-- Slot `i` is valid (R514, R517). -/
def State.slotValid (s : State) (i : Nat) : Bool :=
  match (s.slot i).image with
  | some m => (s.slot i).good && decide (s.fg (base pTRUST) TRUST_FW_SEC_MIN ≤ m.secVersion) && decide (m.keyIndex < 4) && !bit s.trust.revoked m.keyIndex
  | none => false

/-- A_VALID and B_VALID follow the slots. -/
def State.showSlots (s : State) : State :=
  (s.fs (base pTRUST) TRUST_FW_A_VALID (b2n (s.slotValid 0))).fs (base pTRUST) TRUST_FW_B_VALID (b2n (s.slotValid 1))

/-- The slot running. -/
def State.running (s : State) : Nat := s.fg (base pDEV) DEV_FW_SIGNET_IMAGE

/-- BOOT_PREF written. -/
def State.bootPref (s : State) (slot trial : Nat) : State :=
  ((s.fs (base pTRUST) TRUST_FW_PREFERRED slot).fs (base pTRUST) TRUST_FW_TRIAL trial).putRecord 1

/-- FW_STAGE (R516): the image is verified, written into the slot not running, read back (`ok`) and put on trial. -/
def State.fwStage (s : State) (k : Nat) (ok : Bool) : Except Code State :=
  let a := s.trustSrc k
  let n := s.fg (sbase k pTRUST) TRUST_LENGTH_BYTES
  if !s.permits k 1 then .error .owner
  else if n < 256 ∨ 16777216 < n then .error .signature
  else if !s.ownBytes k a n then .error .owner
  else
    let key := s.ldw (a + 0x1C)
    let sec := s.ldw (a + 0xC)
    if s.ldw a ≠ 0x45534657 ∨ s.ldw (a + 4) ≠ 1 ∨ s.ldw (a + 0x10) ≠ n ∨ 3 < key ∨ bit s.trust.revoked key
        ∨ !Config.signatureOk ((s.bytesAt a n).map (·.toNat)) then .error .signature
    else if sec < s.fg (base pTRUST) TRUST_FW_SEC_MIN then .error .rollback
    else if !ok then .error .flash
    else
      let i := 1 - s.running
      let m : Image := { version := s.ldw (a + 8) % 2 ^ 24, secVersion := sec, length := n, keyIndex := key, content := s.ld a n }
      .ok (((s.updTrust (fun t => { t with slots := t.slots.set i { image := some m, good := true, hours := s.hours } })).bootPref i 1).showSlots)

/-- FW_CONFIRM (R517). -/
def State.fwConfirm (s : State) (k : Nat) : Except Code State :=
  if !s.permits k 1 then .error .owner
  else if !s.fb (base pTRUST) TRUST_FW_TRIAL then .error .state
  else
    let sec := (((s.slot s.running).image).map (·.secVersion)).getD 0
    .ok ((((s.bootPref (s.fg (base pTRUST) TRUST_FW_PREFERRED) 0).fs (base pTRUST) TRUST_FW_SEC_MIN
      (max sec (s.fg (base pTRUST) TRUST_FW_SEC_MIN)))).showSlots)

/-- A boot from the staged slot is on trial. -/
def State.onTrial (s : State) : Bool :=
  s.fb (base pTRUST) TRUST_FW_TRIAL && s.running == s.fg (base pTRUST) TRUST_FW_PREFERRED

/-- Signet falls back to the other slot (R517), with the cause of R527, and a module reset of cause SIGNET is due. -/
def State.fallBack (s : State) (cause : Nat) : State :=
  if s.onTrial then
    (s.bootPref (1 - s.running) 0).updTrust (fun t => { t with nextFallback := some cause, resetDue := some (3, s.now) })
  else s

/-! ### Settings (R521) -/

/-- The LINK offsets that the settings hold, in order. -/
def linkOffs : List Nat := [0x040, 0x044, 0x048] ++ (List.range 10).map (fun i => 0x058 + 4 * i)

/-- The registers that the settings name, as key and word of the 64 (R521). -/
def settingsRegs : List (Nat × Nat) :=
  (base pMEMC + MEMC_CFG, 1) :: ((List.range 13).zip linkOffs).flatMap (fun e => [(base (pLINK 0) + e.2, 4 + e.1), (base (pLINK 1) + e.2, 20 + e.1)])

/-- A settings image that some register would refuse. -/
def State.settingsBad (s : State) (l : List Nat) : Bool :=
  l.getD 0 0 % 256 != 1 || settingsRegs.any (fun e => match pageOf s.variant (pageNo e.1) with
    | some (kind, inst) => outOfRange (fieldsAt kind inst (e.1 % 0x1000)) (BitVec.ofNat 32 (l.getD e.2 0))
    | none => false)

/-- SETTINGS_SAVE (R521). -/
def State.settingsSave (s : State) (k : Nat) : Except Code State :=
  let a := s.trustSrc k
  if !s.permits k 2 || !s.ownBytes k a 256 then .error .owner
  else
    let l := (List.range 64).map (fun i => s.ldw (a + 4 * i))
    let loop := bits (l.getD 2 0) 1 1
    if s.settingsBad l then .error .format
    else if loop ≠ s.fg (base pTRUST) TRUST_TAMPER_LOOP_EN ∧ s.lifecycle ≠ 1 ∧ s.lifecycle ≠ 3 then .error .state
    else .ok (((s.updTrust (fun t => { t with settings := some l })).putRecord 3).fs (base pTRUST) TRUST_TAMPER_LOOP_EN loop)

/-! ### Atelier (R518) -/

/-- Atelier is halted to be restarted, with the cause of R527: for the third time within 600 s it stays halted, unless a
command restarts it. A boot on trial falls back (R517). -/
def State.atelierDown (s : State) (cause : Nat) : State :=
  let live := s.fg (base pTRUST) TRUST_FW_ATELIER_STATE
  if !s.fb (base pDEV) DEV_FW_STATUS_SIGNET_READY || (live == 2 && cause != 2) || live == 1 || decide (2 ≤ s.restState) then s
  else
    let times := s.now :: s.trust.restarts.filter (fun t => decide (s.now < t + 1800000000000))
    let stays : Bool := decide (3 ≤ times.length) && cause != 2
    let t := (s.fs (base pDEV) DEV_FW_STATUS_ATELIER_READY 0).updTrust (fun q => { q with restarts := times, restarting := some cause })
    let t := { t with cal := { t.cal with atelierGap := some s.now } }
    let t := t.fs (base pTRUST) TRUST_FW_ATELIER_STATE (if stays then 2 else 1)
    let t := t.notifyAll (t.note pTRUST 3 (256 * cause) (s.fg (base pDEV) DEV_ATELIER_RESTARTS_COUNT))
    let t := if stays then (t.pageFault pTRUST 0x0A03 0).journal pTRUST 0x0A03 0 else t
    t.fallBack 3

/-- A damaged record copy has been rewritten (R520). -/
def State.rewritten (s : State) (ty : Nat) : State := (s.pageFault pTRUST 0x0A02 ty).journal pTRUST 0x0A02 ty

/-- Atelier runs (R515, R518, R574): what Signet held is written, damaged records are rewritten; at start-up it begins
training, after a restart it counts and reports it. -/
def State.atelierUp (s : State) : State :=
  if !s.fb (base pDEV) DEV_FW_STATUS_SIGNET_READY || s.fg (base pTRUST) TRUST_FW_ATELIER_STATE != 1 || s.trust.recovery || decide (2 ≤ s.restState) then s
  else
    let t := ((s.fs (base pDEV) DEV_FW_STATUS_ATELIER_READY 1).fs (base pTRUST) TRUST_FW_ATELIER_STATE 0).jFlush
    let t := (s.trust.damaged.foldl (fun u ty => u.rewritten ty) t).updTrust (fun q => { q with damaged := [], restarting := none, readyAt := s.now })
    match s.trust.restarting with
    | some cause =>
      let t := t.count (base pDEV) DEV_ATELIER_RESTARTS_COUNT
      t.checkStarted.notifyAll (t.note pTRUST 3 (1 + 256 * cause) (t.fg (base pDEV) DEV_ATELIER_RESTARTS_COUNT))
    | none => (t.mifs.foldl (fun u i => if u.mifState i = 0 then u.setMif i 1 else u) t).checkStarted

/-! ### The command register (R524) -/

/-- What command `op` of session `k` comes to; `ok` says that a staged image read back well. In ROM recovery only FW_STAGE
is served (R515). -/
def State.trustOp (s : State) (k op : Nat) (ok : Bool) : Except Code State :=
  if s.trust.recovery ∧ op ≠ 4 then .error .state
  else match op with
    | 1 => s.lifecycleTo k
    | 2 => s.keyLoad k
    | 3 => s.alarmClear k
    | 4 => s.fwStage k ok
    | 5 => s.fwConfirm k
    | 6 => s.settingsSave k
    | 7 => if s.permits k 1 then .ok (s.atelierDown 2) else .error .owner
    | _ => if !s.permits k 2 then .error .owner else if s.lifecycle ≠ 3 then .error .state else .ok (s.updTrust (fun t => { t with journal := [] }))

/-- TRUST.CMD written by session `k`. -/
def State.trustCmd (s : State) (k op : Nat) (ok : Bool) : Act :=
  if (List.range 16).any (fun i => s.fb (sbase (i + 1) pTRUST) TRUST_CMD_STATUS_BUSY) then .error .busy
  else if op = 0 ∨ 8 < op then .error .format
  else .ok (s.trustEnd k op (s.trustOp k op ok))

/-! ### Module reset and boot (R499, R515, R549, R574) -/

/-- What a module reset keeps: what is in flash, in fuses or measured, and what Signet finds of it at boot. -/
def persistent (key : Nat) : Bool :=
  let off := key % 0x1000
  match key / 0x1000 with
  | 0x000 => off == 0x050 || off == 0x054
  | 0x001 => [0x040, 0x058, 0x05C, 0x060, 0x064, 0x068, 0x06C, 0x070].contains off
  | 0x002 => decide (0x040 ≤ off ∧ off < 0x050)
  | 0x003 => decide (0x044 ≤ off ∧ off < 0x070)
  | 0x0A0 | 0x0A1 => off == 0x050 || off == 0x054
  | _ => false

/-- The SETTINGS record loaded into the writable fields of the registers it names (R12, R521). -/
def State.loadSettings (s : State) : State :=
  match s.trust.settings with
  | none => s
  | some l =>
    let t := settingsRegs.foldl (fun u e => u.plain 0 e.1 (BitVec.ofNat 32 (l.getD e.2 0))) s
    (t.fs (base pCLK) CLK_SSC_CFG_QUIET (bits (l.getD 2 0) 0 0)).updClk (fun c => { c with quiet := bit (l.getD 2 0) 0 })

/-- A module reset with its cause: 1 POWER_ON, 2 HOST, 3 SIGNET, 4 THERMAL (R498, R549). -/
def State.moduleReset (s : State) (cause : Nat) : State :=
  let keep := { s.trust with keys := [], held := [], lost := 0, restarts := [], fallback := none, recovery := false, started := false, restarting := none, damaged := [], resetDue := none, signetAt := 0, readyAt := 0 }
  let t := { State.reset with variant := s.variant, fresh := s.fresh, pending := s.pending, regs := s.regs.filter (fun e => persistent e.1), trust := keep, power := { s.power with okAt := [0, 0], loopBy := 0, loopAt := 0 } }
  let t := (t.fs (base pDEV) DEV_RESET_INFO_CAUSE cause).fs (base pTRUST) TRUST_FW_ATELIER_STATE 1
  let t := t.fs (base pPWR) PWR_FEED_STATUS_ISOLATED (s.power.high.foldl (fun m f => m + 2 ^ f) 0)
  t.loadSettings

/-- A thermal trip holds the module in reset until every junction sensor reads at or below 95 °C (R543). -/
def State.tooHot (s : State) : Bool :=
  s.fg (base pDEV) DEV_RESET_INFO_CAUSE == 4
    && (List.range (4 + s.variant.gens / 4)).any (fun i => decide (95 * 16 < sext 16 (s.fg (base pTHERM) THERM_SENSOR_TEMP i)))

/-- Reset release to Signet running (R515): the preferred slot is verified, then the other; `goodA` and `goodB` say which
slots verify, `damaged` lists the types of the record copies found damaged (R520). -/
def State.boot (s : State) (goodA goodB : Bool) (damaged : List Nat) : State :=
  if s.fb (base pDEV) DEV_FW_STATUS_SIGNET_READY || s.tooHot then s
  else
    let t := s.updTrust (fun q => { q with signetAt := s.now, slots := (q.slots.modify 0 (fun x => { x with good := goodA })).modify 1 (fun x => { x with good := goodB }), boots := q.boots + 1, damaged := damaged, fallback := q.nextFallback, nextFallback := none })
    let t := t.showSlots.fs (base pTRUST) TRUST_FLASH_RECORDS_BAD damaged.length
    let pref := t.fg (base pTRUST) TRUST_FW_PREFERRED
    let run := if t.slotValid pref then pref else 1 - pref
    let ok := t.slotValid run
    let v := (((t.slot run).image).map (·.version)).getD 0 * 256 + run
    let t := ((t.wr (base pDEV + DEV_FW_SIGNET) (BitVec.ofNat 32 v)).wr (base pDEV + DEV_FW_ATELIER) (BitVec.ofNat 32 v)).fs
      (base pDEV) DEV_FW_STATUS_SIGNET_READY 1
    let t := t.updTrust (fun q => { q with recovery := !ok })
    let t := if ok then t.setKeys (if t.trust.flashEpoch = t.trust.epoch then t.trust.flashKeys else []) else t.setKeys []
    let t := if ok ∧ run ≠ pref then
        ((t.updTrust (fun q => { q with fallback := some 0 })).pageFault pTRUST 0x0A01 pref).journal pTRUST 0x0A01 pref else t
    if t.trust.tamperLeft then t.tamperRest else t

/-- A module reset that is due falls (R499, R510, R517). -/
def State.resetFalls (s : State) : State :=
  match s.trust.resetDue with
  | some (cause, t) => if t ≤ s.now then s.moduleReset cause else s
  | none => s

/-- DEV.RESET_CMD written by the owner of the CLK page (R499): a module reset of cause HOST is due 1 ms later. -/
def State.resetCmd (s : State) (w : Word) : Act :=
  if getF w DEV_RESET_CMD_GO = 0 then .ok s
  else if getF w DEV_RESET_CMD_KEY ≠ 0xB007 then .error .format
  else .ok (s.updTrust (fun t => { t with resetDue := some (2, s.now + 3000000) }))

/-! ### The commands -/

/-- A command of TRUST.CMD. -/
def State.trustBy (s : State) (o : Org) (op : Nat) (ok : Bool) : State :=
  s.hostReg o (base pTRUST + TRUST_CMD) (BitVec.ofNat 32 (op * 2 ^ 28)) (fun t => t.trustCmd o.sess op ok)

/-- LIFECYCLE (R509, R510). -/
def execLifecycle (o : Org) (s : State) : Host.Outcome State Fault Refusal := .next (s.trustBy o 1 true)

/-- KEY_LOAD (R507). -/
def execKeyLoad (o : Org) (s : State) : Host.Outcome State Fault Refusal := .next (s.trustBy o 2 true)

/-- ALARM_CLEAR (R513). -/
def execAlarmClear (o : Org) (s : State) : Host.Outcome State Fault Refusal := .next (s.trustBy o 3 true)

/-- FW_STAGE (R516); `readBackOk` says that the image read back from the slot verified again. -/
def execFwStage (o : Org) (readBackOk : Bool) (s : State) : Host.Outcome State Fault Refusal := .next (s.trustBy o 4 readBackOk)

/-- FW_CONFIRM (R517). -/
def execFwConfirm (o : Org) (s : State) : Host.Outcome State Fault Refusal := .next (s.trustBy o 5 true)

/-- SETTINGS_SAVE (R521). -/
def execSettingsSave (o : Org) (s : State) : Host.Outcome State Fault Refusal := .next (s.trustBy o 6 true)

/-- ATELIER_RESTART (R518). -/
def execAtelierRestart (o : Org) (s : State) : Host.Outcome State Fault Refusal := .next (s.trustBy o 7 true)

/-- JOURNAL_CLEAR (R523). -/
def execJournalClear (o : Org) (s : State) : Host.Outcome State Fault Refusal := .next (s.trustBy o 8 true)

/-- ATELIER_HEARTBEAT_TIMEOUT (R518): the heartbeat is not watched in Rest. -/
def execAtelierHeartbeatTimeout (s : State) : Host.Outcome State Fault Refusal :=
  .next (if s.atelier then s.atelierDown 0 else s)

/-- ATELIER_TRAP (R518): an unrecoverable trap, or an uncorrectable error of Atelier's memory. -/
def execAtelierTrap (memory : Bool) (s : State) : Host.Outcome State Fault Refusal :=
  .next (if s.atelier then s.atelierDown (if memory then 3 else 1) else s)

/-- ATELIER_RUNNING (R515, R518). -/
def execAtelierRunning (s : State) : Host.Outcome State Fault Refusal := .next s.atelierUp

/-- FW_TRIAL_TIMEOUT (R517): Atelier not ready 10 s after Signet started, or no confirmation 600 s after ATELIER_READY. -/
def execFwTrialTimeout (s : State) : Host.Outcome State Fault Refusal :=
  let due := if s.atelier then s.trust.readyAt + 1800000000000 else s.trust.signetAt + 30000000000
  .next (if s.onTrial then { s with now := max s.now due }.fallBack (if s.atelier then 2 else 1) else s)

/-- TAMPER (R511, R512). -/
def execTamper (lid : Bool) (s : State) : Host.Outcome State Fault Refusal := .next (s.tamper lid)

/-- TAMPER_INPUT_RESTORED (R511). -/
def execTamperInputRestored (lid : Bool) (s : State) : Host.Outcome State Fault Refusal :=
  .next (if lid then s.fs (base pTRUST) TRUST_TAMPER_LID_OPEN 0 else s.fs (base pTRUST) TRUST_TAMPER_LOOP_BROKEN 0)

/-- What a flash refresh names is due: it has reached 35,064 powered hours, and a slot has the other one valid (R522). -/
def State.refreshDue (s : State) : Refresh → Bool
  | .record ty => s.trust.records.any (fun r => r.type == ty && decide (r.hours + 35064 ≤ s.hours))
  | .slot i => (s.slot i).image.isSome && decide ((s.slot i).hours + 35064 ≤ s.hours ∧ i < 2) && s.slotValid (1 - i)

/-- FLASH_REFRESH (R522): Atelier rewrites what is due. -/
def execFlashRefresh (what : Refresh) (s : State) : Host.Outcome State Fault Refusal :=
  .next (if s.atelier && s.refreshDue what then
    match what with
    | .record ty => s.putRecord ty
    | .slot i => s.updTrust (fun t => { t with slots := t.slots.modify i (fun x => { x with hours := s.hours }) })
    else s)

/-- HOURS_UPDATE (R522). -/
def execHoursUpdate (s : State) : Host.Outcome State Fault Refusal :=
  .next ((s.count (base pTRUST) TRUST_HOURS_VALUE).putRecord 6)

/-- MODULE_RESET_CMD (R499). -/
def execModuleResetCmd (o : Org) (key : Nat) (go : Bool) (s : State) : Host.Outcome State Fault Refusal :=
  let w := BitVec.ofNat 32 (key % 65536 * 65536 + b2n go)
  .next (s.hostReg o (base pDEV + DEV_RESET_CMD) w (fun t => t.resetCmd w))

/-- MODULE_RESET (R499, R549): every session ends without its orphan policies. One of cause HOST or SIGNET happens where it is due (R499,
R510, R517); the other causes of DEV.RESET_INFO are POWER_ON and THERMAL. -/
def execModuleReset (cause : Nat) (s : State) : Host.Outcome State Fault Refusal :=
  .next (if cause = 1 ∨ cause = 4 ∨ s.trust.resetDue.map (·.1) = some cause then s.moduleReset cause else s)

/-- BOOT (R515, R520). -/
def execBoot (goodA goodB : Bool) (damaged : List Nat) (s : State) : Host.Outcome State Fault Refusal :=
  .next (s.boot goodA goodB damaged)

end Sys2Proof.Machine
end

