-- ==== Sys2Proof/Machine/Power.lean ====
section
/-! DEFINITION. Sys2Proof/Machine/Power.lean: feeds, the Rest state, thermal states and the capture loopback test
(spec/19_power_thermal_faults.md). -/
namespace Sys2Proof.Machine
open Sys2Proof

/-- The key of the PWR page. -/
abbrev pwrB : Nat := base pPWR

/-! ### Feeds (R528 to R532) -/

/-- The state of feed `f`: 0 ABSENT, 1 LOW, 2 OK, 3 HIGH. -/
def State.feed (s : State) (f : Nat) : Nat := s.fg pwrB (if f = 0 then PWR_FEED_STATUS_FEED0 else PWR_FEED_STATUS_FEED1)

/-- The state that a voltage in 1/16 V gives a feed (R528). -/
def feedState (volts : Nat) : Nat :=
  if volts < 180 * 16 then 0 else if volts < 260 * 16 then 1 else if volts ≤ 400 * 16 then 2 else 3

/-- The voltage of feed `f` in 1/16 V. -/
def State.feedVolts (s : State) (f : Nat) : Nat := s.fg pwrB (if f = 0 then PWR_FEED0_MEAS_VOLTS else PWR_FEED1_MEAS_VOLTS)

/-- Feed `f` is isolated, by command or as HIGH. -/
def State.isolated (s : State) (f : Nat) : Bool := bit (s.fg pwrB PWR_FEED_STATUS_ISOLATED) f

/-- The feeds that the OR-ing stage joins: those OK, or HIGH and not isolated; where there is none, those LOW. Of two joined
feeds more than 2 V apart the higher supplies, and within 2 V they share (R528, R530). -/
def State.supplying (s : State) : List Nat :=
  let live := [0, 1].filter (fun f => !s.isolated f && decide (2 ≤ s.feed f))
  let live := if live.isEmpty then [0, 1].filter (fun f => !s.isolated f && s.feed f == 1) else live
  live.filter (fun f => live.all (fun g => decide (s.feedVolts g ≤ s.feedVolts f + 32)))

/-- SUPPLYING and ISOLATED follow the feeds, the command and what is isolated as HIGH. -/
def State.showFeeds (s : State) : State :=
  let iso := [0, 1].foldl (fun m f =>
    let cmd := s.fb pwrB (if f = 0 then PWR_FEED_CTRL_ISOLATE0 else PWR_FEED_CTRL_ISOLATE1)
    m + (if cmd || s.power.high.contains f || (s.isolated f && s.feed f != 2) then 2 ^ f else 0)) 0
  let t := s.fs pwrB PWR_FEED_STATUS_ISOLATED iso
  t.fs pwrB PWR_FEED_STATUS_SUPPLYING (t.supplying.foldl (fun m f => m + 2 ^ f) 0)

/-- FEED_CHANGE raised and counted (R552). -/
def State.feedNote (s : State) : State :=
  (s.count pwrB PWR_FEED_CHANGE_COUNT_COUNT).notifyAll
    (s.note pPWR 0 (s.feed 0 + 4 * s.feed 1 + 256 * s.fg pwrB PWR_FEED_STATUS_ISOLATED) (s.feedVolts 0 + 65536 * s.feedVolts 1))

/-- Feed `f` has new readings, which give its state (R528, R530). -/
def State.feedTo (s : State) (f volts ma : Nat) : State :=
  let f := f % 2
  let st := feedState volts
  let old := s.feed f
  let other := s.feed (1 - f)
  let t := s.fs pwrB (if f = 0 then PWR_FEED_STATUS_FEED0 else PWR_FEED_STATUS_FEED1) st
  let t := (t.fs pwrB (if f = 0 then PWR_FEED0_MEAS_VOLTS else PWR_FEED1_MEAS_VOLTS) volts).fs pwrB
    (if f = 0 then PWR_FEED0_MEAS_MILLIAMPS else PWR_FEED1_MEAS_MILLIAMPS) ma
  if st = old then t.showFeeds
  else
    let t := if old = 2 then (t.pageFault pPWR 0x0801 f).journal pPWR 0x0801 f else t
    let t := if st = 3 then (t.pageFault pPWR 0x0802 f).journal pPWR 0x0802 f else t
    let t := if st = 3 ∧ other = 2 ∧ !s.isolated (1 - f) then { t with power := { t.power with high := f :: t.power.high.filter (· != f) } } else t
    let t := if st = 2 then { t with power := { t.power with okAt := t.power.okAt.set f s.now } } else t
    let t := t.showFeeds
    if old = 2 ∨ st = 2 ∨ other ≠ 2 then t.feedNote else t

/-- A feed isolated as HIGH has stayed OK for 100 ms and rejoins (R530). -/
def State.feedRejoins (s : State) (f : Nat) : State :=
  if s.feed (f % 2) = 2 ∧ s.power.high.contains (f % 2) then
    let s := { s with now := max s.now (s.power.okAt.getD (f % 2) 0 + 300000000) }
    ({ s with power := { s.power with high := s.power.high.filter (· != f % 2) } }).showFeeds
  else s

/-- PWR.FEED_CTRL written (R531): refused with LOCKED where no feed would be both OK and not isolated. -/
def State.feedCtrl (s : State) (k : Nat) (w : Word) : Act :=
  let left (f : Nat) : Bool := s.feed f == 2 && !bit w.toNat f && !s.power.high.contains f
  let wasCut (f : Nat) : Bool := s.fb pwrB (if f = 0 then PWR_FEED_CTRL_ISOLATE0 else PWR_FEED_CTRL_ISOLATE1)
  let cuts : Bool := [0, 1].any (fun f => bit w.toNat f && !wasCut f)
  if cuts && !left 0 && !left 1 then .error .locked else .ok ((s.plain k (pwrB + PWR_FEED_CTRL) w).showFeeds)

/-- A power failure (R532): outputs are isolated, Signet writes POWER_FAIL, and the module holds itself in reset. -/
def State.powerFails (s : State) : State :=
  (s.jWrite { time := s.now, hours := s.hours, page := pPWR, code := 0x0803, detail := 0, boots := s.trust.boots }).moduleReset 1

/-! ### The Rest state (R534 to R540) -/

/-- Rest state set. -/
def State.setRest (s : State) (st : Nat) : State := s.fs pwrB PWR_REST_STATUS_STATE st

/-- What keeps Rest from being entered (R536), with the code. -/
def State.restFails (s : State) : Option Code :=
  let scen := (List.range 64).any (fun k => [2, 4, 5, 6, 8, 9].contains (s.scenState k))
  let caps := (List.range s.variant.caps).any (fun n => s.acquiring n || (s.trc n).startAt.isSome || !(s.trc n).held.isEmpty)
  let dma := !s.dma.chunks.isEmpty || (List.range 16).any (fun q => (List.range 64).any (fun i => s.slotOut q i))
  let cmds := !s.dma.commits.isEmpty || s.dma.frame.isSome || s.plates.cmd.isSome
    || (List.range 20).any (fun g => s.hasGraver g && (s.fb (gBase g) GRV_TABLE_STATUS_PENDING || s.fb (gBase g) GRV_TABLE_STATUS_SYNCING))
  let tests := s.fb (base pMEMC) MEMC_STATUS_REINIT || s.mifs.any (fun i => s.mifState i == 3) || s.fb (base pSPAD) SPAD_TEST_STATUS_BUSY
    || (List.range s.variant.gens).any (fun n => s.fb (base (pGEN n)) GEN_PROOF_STATUS_TESTING) || s.fb pwrB PWR_LOOP_STATUS_BUSY
  let soon := s.scheds.any (fun e => match e.at_ with | some t => decide (t < s.now + 300000000) | none => false)
  if s.restState ≠ 0 || scen || caps || dma || cmds || tests || soon || !s.portUp (s.fg pwrB PWR_REST_CFG_PORT) then some .state
  else if !s.atelier then some .firmwareBusy
  else if !s.trust.started then some .state
  else none

/-- Rest is reached (R534, R536): GF and CF stop, memories are held, Atelier is halted, the other port goes DOWN. -/
def State.restReached (s : State) : State :=
  if s.restState ≠ 1 then s
  else
    let t := (s.setRest 2).count pwrB PWR_REST_COUNT_COUNT
    let t := t.unalign.stopGf.stopCf
    let t := (List.range s.variant.caps).foldl (fun u n => (u.fs (base (pCAP n)) CAP_CAP_STATUS_CLOCK_VALID 0)) t
    let t := (t.setSpadMode 4).fs (base pDEV) DEV_FW_STATUS_ATELIER_READY 0
    let t := t.fs (base pTRUST) TRUST_FW_ATELIER_STATE 2
    let other := 1 - s.fg pwrB PWR_REST_CFG_PORT
    let t := (t.portDown other).fs (base (pLINK other)) LINK_STATUS_LOS 1 |>.fs (base (pLINK other)) LINK_STATUS_ALIGNED 0
    t.notifyAll (t.note pPWR 1 0)

/-- A wake with its cause, 1 HOST, 2 SCHEDULE, 3 TRIGGER or 4 SYNC, and its tick W (R537, R539, R540): only from ENTERING or
REST. -/
def State.wake (s : State) (cause w : Nat) : State :=
  if s.restState ≠ 1 ∧ s.restState ≠ 2 then s
  else
    let t := ({ s with now := max s.now w }.setRest 3).fs pwrB PWR_REST_STATUS_LAST_WAKE cause
    let t := t.wr64 (pwrB + PWR_LAST_WAKE_TIME) w
    let t := if s.spadMode = 4 then t.setSpadMode 3 else t
    ((t.genAcquire .wake).capAcquire .wake).showGlide

/-- Full service is back at W + 40 ms (R539). -/
def State.awake (s : State) : State :=
  if s.restState ≠ 3 then s
  else
    let w := s.rd64 (pwrB + PWR_LAST_WAKE_TIME)
    let t := { s with now := max s.now (w + 120000000) }
    let t := (t.synthDone false).synthDone true
    let t := if t.spadMode = 3 then t.setSpadMode 0 else t
    let t := (t.setRest 0).fs (base pDEV) DEV_FW_STATUS_ATELIER_READY 1
    let t := (t.fs (base pTRUST) TRUST_FW_ATELIER_STATE 0).jFlush
    let t := if t.fg (base pTHERM) THERM_STATE_STATE = 3 then
        (List.range s.variant.caps).foldl (fun u n => u.fs (base (pCAP n)) CAP_CAP_STATUS_CLOCK_VALID 0) t.stopCf else t
    let t := (List.range s.variant.gens).foldl (fun u n => if (u.gen n).settling then u else u.unmute n .clock) t
    t.notifyAll { (t.note pPWR 1 (1 + 256 * s.fg pwrB PWR_REST_STATUS_LAST_WAKE)) with time := w }

/-- The earliest fixed T of a PENDING entry (R537, R538). -/
def State.nextDue (s : State) : Option Nat :=
  (s.scheds.filterMap (·.at_)).foldl (fun m t => match m with | some u => some (min u t) | none => some t) none

/-- PWR.REST_CMD written (R492, R536, R537): ENTER by the owner of the CLK page, WAKE by every session. -/
def State.restCmd (s : State) (k : Nat) (w : Word) : Act :=
  let enter : Bool := getF w PWR_REST_CMD_ENTER == 1
  if enter && !s.owns k pCLK then .error .owner
  else match (if enter then s.restFails else none) with
    | some c => .error c
    | none =>
      let t := if enter then s.setRest 1 else s
      .ok (if getF w PWR_REST_CMD_WAKE = 1 then t.wake 1 t.now else t)

/-! ### Thermal states (R541 to R544) -/

/-- The counter of the thermal state `st`. -/
def thermCount (st : Nat) : Field :=
  match st with
  | 1 => THERM_WARN_COUNT_COUNT
  | 2 => THERM_THROTTLE_COUNT_COUNT
  | _ => THERM_SHUTDOWN_COUNT_COUNT

/-- SHUTDOWN is entered (R542): THERMAL mutes every generate channel, and every acquisition ends with cause CLOCK. -/
def State.thermOff (s : State) (sensor : Nat) : State :=
  let t := (List.range s.variant.gens).foldl (fun u n => u.mute n .thermal) s.unalign
  let t := (List.range s.variant.caps).foldl (fun u n => (u.acqCut n).fs (base (pCAP n)) CAP_CAP_STATUS_CLOCK_VALID 0) t
  let t := t.stopCf
  (t.pageFault pTHERM 0x0901 sensor).journal pTHERM 0x0901 sensor

/-- SHUTDOWN is left (R542): the tiles are powered, the proof dividers re-phased, CF restarts, THERMAL is lifted. -/
def State.thermOn (s : State) : State :=
  let t := if 2 ≤ s.restState ∨ s.fb (base pCLK) CLK_PAGE_STATUS_CAP_ACQ then s
    else (List.range s.variant.caps).foldl (fun u n => u.fs (base (pCAP n)) CAP_CAP_STATUS_CLOCK_VALID 1) s.startCf
  (List.range s.variant.gens).foldl (fun u n => (if s.fb (base pCLK) CLK_PAGE_STATUS_GF_VALID then u.alignProof n else u).unmute n .thermal) t

/-- The threshold of a thermal state in 1/16 °C (R541). -/
def thermLimit (st : Nat) : Int := 16 * (90 + 10 * st)

/-- A reading with which the state can have come from `old` to `st`: at or above the threshold of the state risen to, or at or below the
threshold of the state fallen from less 5 °C (R541); that it has stayed there for 1 s is what the command says. -/
def thermFits (old st : Nat) (temp : Int) : Bool :=
  if old < st then decide (thermLimit st ≤ temp) else decide (temp ≤ thermLimit (st + 1) - 80)

/-- Sensor `i` is fitted: the tiles of the generate converters are one to four channels (spec/19_power_thermal_faults.md, Thermal states). -/
def State.hasSensor (s : State) (i : Nat) : Bool := decide (i < 4 + s.variant.gens / 4)

/-- The thermal state becomes `st`, judged on the reading `temp` of `sensor` (R541, R542). -/
def State.thermTo (s : State) (st sensor temp : Nat) : State :=
  let b := base pTHERM
  let old := s.fg b THERM_STATE_STATE
  let t := ((s.fs b THERM_STATE_HOTTEST sensor).fs b THERM_JUNCTION_TEMP temp).fs b THERM_SENSOR_TEMP temp (sensor % 8)
  let t := if sext 16 (t.fg b THERM_PEAK_TEMP) < sext 16 temp then t.fs b THERM_PEAK_TEMP temp else t
  if st = old ∨ 3 < st ∨ !thermFits old st (sext 16 temp) then t
  else
    let entered := if old < st then (List.range (st + 1)).filter (fun i => decide (old < i)) else [st].filter (fun i => decide (1 ≤ i))
    let t := entered.foldl (fun u i => u.count b (thermCount i)) (t.fs b THERM_STATE_STATE st)
    let t := t.notifyAll (t.note pTHERM 0 (old + 4 * st + 256 * (sensor % 16)) (temp % 65536))
    let t := if old < st then t.publish 5 else t
    let t := t.sourceTo 5 (decide (1 ≤ st))
    if st = 3 then t.thermOff sensor else if old = 3 then t.thermOn else t

/-- A thermal trip (R543). -/
def State.thermTrip (s : State) (sensor : Nat) : State :=
  (s.jWrite { time := s.now, hours := s.hours, page := pTHERM, code := 0x0902, detail := sensor % 256, boots := s.trust.boots }).moduleReset 4

/-- The baseplate has stayed outside, or within, 0 to 70 °C for 1 s (R544). -/
def State.baseplate (s : State) (out : Bool) (temp : Nat) : State :=
  let b := base pTHERM
  let t := s.fs b THERM_BASEPLATE_TEMP temp
  if s.fb b THERM_STATE_BASE_OUT = out ∨ out ≠ decide (sext 16 temp < 0 ∨ 70 * 16 < sext 16 temp) then t
  else (t.fs b THERM_STATE_BASE_OUT (b2n out)).notifyAll (s.note pTHERM 1 (b2n out) (temp % 65536))

/-! ### The capture loopback test (R546) -/

/-- PWR.LOOP_CMD written by session `k`. -/
def State.loopCmd (s : State) (k : Nat) (w : Word) : Act :=
  let n := getF w PWR_LOOP_CMD_CHANNEL
  if getF w PWR_LOOP_CMD_GO = 0 then .ok s
  else if s.variant.caps ≤ n then .error .address
  else if !s.owns k (pCAP n) then .error .owner
  else if s.acquiring n || s.armedUses (pCAP n) then .error .locked
  else if !s.fb (base (pCAP n)) HDR_PAGE_CTRL_EN || !s.fb (base (pCAP n)) CAP_CAP_STATUS_SETTLED || s.restState != 0 then .error .state
  else if s.fb pwrB PWR_LOOP_STATUS_BUSY then .error .busy
  else .ok ({ (((s.fs pwrB PWR_LOOP_STATUS_CHANNEL n).fs pwrB PWR_LOOP_STATUS_BUSY 1)) with power := { s.power with loopBy := k, loopAt := s.now } })

/-- The test ends, 10 ms after it began, with its amplitude error in 1/256 dB and its timing error in 25 fs. -/
def State.loopEnds (s : State) (ampl time : Int) : State :=
  if !s.fb pwrB PWR_LOOP_STATUS_BUSY then s
  else
    let s := { s with now := max s.now (s.power.loopAt + 30000000) }
    let pass := decide (-128 ≤ ampl ∧ ampl ≤ 128 ∧ -200 ≤ time ∧ time ≤ 200)
    let outcome := if pass then 1 else 2
    let t := (s.fs pwrB PWR_LOOP_STATUS_BUSY 0).fs pwrB PWR_LOOP_STATUS_OUTCOME outcome
    let t := (t.fs pwrB PWR_LOOP_RESULT_TIME_ERR (ofSigned 16 time)).fs pwrB PWR_LOOP_RESULT_AMPL_ERR (ofSigned 16 ampl)
    t.notifyTo s.power.loopBy (s.note pPWR 2 (s.fg pwrB PWR_LOOP_STATUS_CHANNEL + 16 * outcome) (ofSigned 16 ampl + 65536 * ofSigned 16 time))

/-- A register of the PWR page written by session `k` (R550). -/
def State.pwrReg (s : State) (k off : Nat) (w : Word) : Act :=
  if off = PWR_FEED_CTRL then s.feedCtrl k w
  else if off = PWR_REST_CMD then s.restCmd k w
  else if off = PWR_LOOP_CMD then s.loopCmd k w
  else if off = PWR_CNT_CLEAR then .ok (s.clearCounts w.toNat 0 [pwrB + 0x080, pwrB + 0x084])
  else .ok (s.plain k (pwrB + off) w)

/-- A register of the THERM page written by session `k` (R551). -/
def State.thermReg (s : State) (off : Nat) (w : Word) : State :=
  if off = THERM_CNT_CLEAR then
    let b := base pTHERM
    let t := s.clearCounts (bits w.toNat 2 0) 0 [b + 0x080, b + 0x084, b + 0x088]
    if getF w THERM_CNT_CLEAR_PEAK = 1 then t.fs b THERM_PEAK_TEMP 0 else t
  else s

/-! ### The time base (R5) -/

/-- One tick of the time base (R336, R339), with what the scenario and schedule unit takes in it. -/
def State.tick (s : State) : State :=
  if 0 < s.clk.hold ∧ s.clk.heldAt = s.now then s.updClk (fun k => { k with hold := k.hold - 1 })
  else { s with now := (s.now + 1) % 2 ^ 64 }.corrections.timeBeat.settled.ownSettled.resetFalls

/-! ### The commands -/

/-- FEED_CHANGE (R528, R530). -/
def execFeedChange (f volts ma : Nat) (s : State) : Host.Outcome State Fault Refusal :=
  if f < 2 then .next (s.feedTo f (volts % 65536) (ma % 65536)) else .fault .noSuchBlock

/-- FEED_ISOLATE (R531). -/
def execFeedIsolate (o : Org) (isolate0 isolate1 : Bool) (s : State) : Host.Outcome State Fault Refusal :=
  let w := BitVec.ofNat 32 (b2n isolate0 + 2 * b2n isolate1)
  .next (s.hostReg o (pwrB + PWR_FEED_CTRL) w (fun t => t.feedCtrl o.sess w))

/-- FEED_HIGH_REJOIN (R530). -/
def execFeedHighRejoin (f : Nat) (s : State) : Host.Outcome State Fault Refusal :=
  if f < 2 then .next (s.feedRejoins f) else .fault .noSuchBlock

/-- POWER_FAIL (R532). -/
def execPowerFail (s : State) : Host.Outcome State Fault Refusal := .next s.powerFails

/-- REST_ENTER (R536). -/
def execRestEnter (o : Org) (s : State) : Host.Outcome State Fault Refusal :=
  .next (s.hostReg o (pwrB + PWR_REST_CMD) 1#32 (fun t => t.restCmd o.sess 1#32))

/-- REST_ENTERED (R536). -/
def execRestEntered (s : State) : Host.Outcome State Fault Refusal := .next s.restReached

/-- REST_WAKE (R537). -/
def execRestWake (o : Org) (s : State) : Host.Outcome State Fault Refusal :=
  .next (s.hostReg o (pwrB + PWR_REST_CMD) 2#32 (fun t => t.restCmd o.sess 2#32))

/-- REST_SCHEDULE_WAKE (R537, R538). -/
def execRestScheduleWake (s : State) : Host.Outcome State Fault Refusal :=
  .next (match s.nextDue with
    | some t => s.wake 2 (t - 123000000)
    | none => s)

/-- REST_WAKE_DONE (R539). -/
def execRestWakeDone (s : State) : Host.Outcome State Fault Refusal := .next s.awake

/-- THERM_STATE (R541, R542). -/
def execThermState (st sensor temp : Nat) (s : State) : Host.Outcome State Fault Refusal :=
  if s.hasSensor sensor then .next (s.thermTo st sensor temp) else .fault .noSuchBlock

/-- THERMAL_TRIP (R543). -/
def execThermalTrip (sensor : Nat) (s : State) : Host.Outcome State Fault Refusal :=
  if s.hasSensor sensor then .next (s.thermTrip sensor) else .fault .noSuchBlock

/-- BASEPLATE_RANGE (R544). -/
def execBaseplateRange (out : Bool) (temp : Nat) (s : State) : Host.Outcome State Fault Refusal := .next (s.baseplate out temp)

/-- LOOP_CMD_GO (R546). -/
def execLoopCmdGo (o : Org) (ch : Nat) (s : State) : Host.Outcome State Fault Refusal :=
  let w := BitVec.ofNat 32 (256 + ch % 4)
  .next (s.hostReg o (pwrB + PWR_LOOP_CMD) w (fun t => t.loopCmd o.sess w))

/-- CAP_LOOP_DONE (R546). -/
def execCapLoopDone (ampl time : Int) (s : State) : Host.Outcome State Fault Refusal := .next (s.loopEnds ampl time)

/-- PORT_DOWN (R447): the live port going DOWN in Rest wakes the module with cause HOST (R540). -/
def execPortDown (port : Nat) (los : Bool) (s : State) : Host.Outcome State Fault Refusal :=
  let t := (s.fs (linkBase port) LINK_STATUS_LOS (b2n los)).fs (linkBase port) LINK_STATUS_ALIGNED 0
  let was := s.portUp (port % 2)
  let t := t.portDown (port % 2)
  onPort2 port (if was ∧ s.restState = 2 ∧ port % 2 = s.fg pwrB PWR_REST_CFG_PORT then t.wake 1 t.now else t)

/-- TRIG_IN_EDGE (R190, R191): an accepted edge of a kind selected on an input that wakes the module does so (R537). -/
def execTrigInEdge (k : Nat) (rising : Bool) (ticks frac : Nat) (s : State) : Host.Outcome State Fault Refusal :=
  let t := s.trigEdge k rising ticks frac
  onTrig k (if bit (s.fg pwrB PWR_REST_CFG_WAKE_TRIG) k && s.edgeSelected k rising then t.wake 3 t.now else t)

/-- SYNC_PUBLISH (R345): channel 2 or 3 publishes in tick t_pub, which in Rest wakes the module where its line is selected
(R537). -/
def execSyncPublish (line : Nat) (s : State) : Host.Outcome State Fault Refusal :=
  let t := s.symbolOut (line % 2)
  let fires : Bool := s.clk.sync.due.any (fun d => d.1 == line % 2)
  .next (if fires && bit (s.fg pwrB PWR_REST_CFG_WAKE_SYNC) (line % 2) then t.wake 4 t.now else t)

end Sys2Proof.Machine
end

