-- ==== Sys2Proof/Machine/Registers.lean ====
section
/-! DEFINITION. Sys2Proof/Machine/Registers.lean: one host read or write of a register of any page: what the register shows, the
effect its own rule gives it, the counter clears, and the shadowed pairs (spec/17_register_map.md, R482 to R496). -/
namespace Sys2Proof.Machine
open Sys2Proof

/-! ### What a register shows -/

/-- What the CHn registers of XH page `i` show at an offset (R309, R315). -/
def State.xhLive (s : State) (i off : Nat) : Option Word :=
  if 0x100 ≤ off ∧ off < 0x500 then
    let c := 64 * i + (off - 0x100) / 16
    if off % 16 = 8 then some (s.chStatLive c)
    else if s.chAttr c = 2 then some 0#32
    else none
  else none

/-- The frames that session `k` owns (R445). -/
def State.framesOwned (s : State) (k : Nat) : Nat := (s.frames.filter (fun f => f.2 == k && s.frameAvail f.1)).length

/-- Live registers of the DATU page, as session `k` reads them (R422, R445). -/
def State.datuLive (s : State) (k off : Nat) : Option Word :=
  if off = DATU_FRAME_STATUS then
    some (setF (s.rd (sbase k pDATU + DATU_FRAME_STATUS)) DATU_FRAME_STATUS_BUSY (b2n s.dma.frame.isSome))
  else if off = DATU_FRAMES_OWNED then some (BitVec.ofNat 32 (s.framesOwned k))
  else none

/-- Live registers of the TRUST page, as session `k` reads them (R521, R523, R526). -/
def State.trustLive (s : State) (k off : Nat) : Option Word :=
  if 0x080 ≤ off ∧ off < 0x0A0 then
    some (BitVec.ofNat 32 (s.jWord (s.fg (sbase k pTRUST) TRUST_JOURNAL_SEL_INDEX) ((off - 0x080) / 4)))
  else if 0x400 ≤ off ∧ off < 0x500 then
    some (BitVec.ofNat 32 (((s.trust.settings.map (fun l => l.getD ((off - 0x400) / 4) 0))).getD 0))
  else none

/-- Live registers of a GEN page (R73, R228). -/
def State.genLive' (s : State) (n off : Nat) : Option Word :=
  if off = GEN_PROOF_STATUS then some (s.proofStatusLive n) else s.genLive n off

/-- Registers whose value no command decides: the measured input power (R533), and the counters of arbitration and of hazard
waits, whose cycles no command carries (R386, R405; assumption log, entry 99). Each read of one asks for a fresh free value. -/
def openRead (kind : PageKind) (off : Nat) : Bool :=
  match kind with
  | .pwr => off == PWR_INPUT_POWER
  | .mif => off == MIF_HAZARD_WAIT_COUNT
  | .spad => off == SPAD_CONFLICT_STALL_COUNT
  | _ => false

/-- What a register shows where it is not what it stores; none where it is. -/
def State.live (s : State) (k : Nat) (kind : PageKind) (i off : Nat) : Option Word :=
  if off < 0x040 then none
  else match kind with
    | .trust => s.trustLive k off
    | .time => s.timeLive off
    | .xh => s.xhLive i off
    | .gen => s.genLive' i off
    | .pat =>
      if off = PAT_PIN_LEVEL then some (s.pinLevel i)
      else if i = 0 ∧ off = TRG_TRIG_STATUS then some s.trigStatusLive
      else none
    | .cap => s.capLive i off
    | .strm => s.strmLive i off
    | .sten => if off = STEN_LATENCY then some (s.stenLatency i) else none
    | .cal =>
      if 0x100 ≤ off ∧ off < 0x200 ∧ off % 16 = 4 then some (s.calStatusLive false ((off - 0x100) / 16))
      else if 0x200 ≤ off ∧ off < 0x240 ∧ off % 16 = 4 then some (s.calStatusLive true ((off - 0x200) / 16))
      else none
    | .memc => match s.admitLive off with
      | some w => some w
      | none => s.panicLive off
    | .pwr => if off = PWR_INPUT_POWER then some (BitVec.ofNat 32 (s.free 0x533 % 65536)) else none
    | .mif => if off = MIF_HAZARD_WAIT_COUNT then some (BitVec.ofNat 32 (s.free 0x386)) else none
    | .spad =>
      if off = SPAD_BANK_PINNED then some (BitVec.ofNat 32 s.pinnedMask)
      else if off = SPAD_CONFLICT_STALL_COUNT then some (BitVec.ofNat 32 (s.free 0x405))
      else none
    | .datu => s.datuLive k off
    | .xport => s.xportLive k off
    | .note => s.noteLive k off
    | .scen => s.scenLive k off
    | .sched => s.schedLive k off
    | _ => none

/-- The word that session `k` finds at register address `a`, shadows apart: 0 on an absent page, at a reserved offset, and for
an absent instance (R481, R482, R484). -/
def State.peek (s : State) (k a : Nat) : Word :=
  match pageOf s.variant (pageNo a) with
  | none => 0#32
  | some (kind, i) =>
    if (fieldsAt kind i (a % 0x1000)).isEmpty || absentWord s.variant kind (a % 0x1000) then 0#32
    else match s.live k kind i (a % 0x1000) with
      | some w => w
      | none => s.rd (s.keyFor k a)

/-! ### Shadowed pairs (R494, R495) -/

/-- A field of access code SH. -/
def Field.isSh (f : Field) : Bool := f.acc == .sho || f.acc == .shw || f.acc == .shwa

/-- A writable field of access code SH. -/
def Field.isShw (f : Field) : Bool := f.acc == .shw || f.acc == .shwa

/-- The word at register address `a` is half of a shadowed pair. -/
def State.inPair (s : State) (a : Nat) : Bool :=
  match pageOf s.variant (pageNo a) with
  | none => false
  | some (kind, i) => (fieldsAt kind i (a % 0x1000)).any Field.isSh

/-- The word at register address `a` is half of a writable shadowed pair. -/
def State.inPairW (s : State) (a : Nat) : Bool :=
  match pageOf s.variant (pageNo a) with
  | none => false
  | some (kind, i) => (fieldsAt kind i (a % 0x1000)).any Field.isShw

/-- The word at `a` is a further word latched with a pair: the fraction of PAT0.TRIG_IN_TIMEk (R494). -/
def latchedWith (a : Nat) : Bool := decide (base (pPAT 0) + 0x440 ≤ a ∧ a < base (pPAT 0) + 0x480 ∧ a % 16 = 8)

/-- Words latched into session `k`'s read shadow. -/
def State.latch' (s : State) (k : Nat) (l : List (Nat × Word)) : State :=
  s.updSes k (fun q => { q with readShadow := l ++ q.readShadow.filter (fun e => !l.any (fun x => x.1 == e.1)) })

/-- What session `k`'s read shadow holds for the word at `a`. -/
def State.shadowOf (s : State) (k a : Nat) : Word := (((s.ses k).readShadow.find? (fun e => e.1 == a)).map (·.2)).getD 0#32

/-- The state as a read of the register at `a` finds it: what the scenario and schedule unit takes, and what the acquisitions begin and end,
by the present tick is done on the pages that show it. -/
def State.upToDate (s : State) (a : Nat) : State :=
  if pageNo a = pSCEN ∨ pageNo a = pSCHED ∨ (0x060 ≤ pageNo a ∧ pageNo a < 0x06C) then s.settled else s

/-- A read of the register at `a` by session `k` (R19, R494): the word, and the state after. In Rest only the pages of R535
answer. -/
def State.regReadIn (s : State) (k a : Nat) : Except Code (Word × State) :=
  match pageOf s.variant (pageNo a) with
  | none => .ok (0#32, s)
  | some (kind, i) =>
    if 2 ≤ s.restState ∧ !s.restServes kind i then .error .state
    else if s.inPair a then
      if a % 8 = 0 then
        let more := if latchedWith (a + 8) then [(a + 8, s.peek k (a + 8))] else []
        .ok (s.peek k a, s.latch' k ((a + 4, s.peek k (a + 4)) :: more))
      else .ok (s.shadowOf k a, s)
    else if latchedWith a && kind == .pat then .ok (s.shadowOf k a, s)
    else if a = base (pPAT 0) + TRG_TRIG_IN_MERGED ∨ a = base (pPAT 0) + TRG_TRIG_CNT then .ok (s.peek k a, s.wr a 0#32)
    else if openRead kind (a % 0x1000) then .ok (s.peek k a, s.bump)
    else .ok (s.peek k a, s)

/-- A read of the register at `a` by session `k`. -/
def State.regRead (s : State) (k a : Nat) : Except Code (Word × State) := (s.upToDate a).regReadIn k a

/-! ### Counter clears -/

/-- `n` keys of counters from `b`, one word each. -/
def countersFrom (b n : Nat) : List Nat := (List.range n).map (fun i => b + 4 * i)

/-- MARKER_MERGE cleared by GENn.CNT_CLEAR; bits 3 and 4 of `again` are its two counts. -/
def State.markerClear (s : State) (b w again : Nat) : State :=
  if bit w 3 then s.wr (b + GEN_MARKER_MERGE) (BitVec.ofNat 32 (b2n (bit again 3) + 65536 * b2n (bit again 4))) else s

/-- The word `w` written to a counter-clear register of page `p` by session `k`; `again` has the bits of counters incremented in
the same cycle, which are left at 1 (R70). None where the register clears no counter. -/
def State.cntClear (s : State) (k p : Nat) (kind : PageKind) (i off w again : Nat) : Option Act :=
  let b := base p
  let at_ := fun (first n : Nat) => some (Except.ok (s.clearCounts (w % 2 ^ n) again (countersFrom (b + first) n)))
  match kind with
  | .gen =>
    if off = GEN_CNT_CLEAR then
      some (.ok ((s.clearCounts (w % 8) again [b + GEN_CLIP_COUNT, b + GEN_FILL_COUNT, b + GEN_UNDERRUN_COUNT]).markerClear b w again))
    else if off = GRV_SEQ_CNT_CLEAR then at_ 0x160 8
    else if off = GEN_PROOF_CNT_CLEAR then
      let t := s.clearCounts (w % 128) again (countersFrom (b + 0x224) 7)
      some (.ok (if bit w 8 then t.wr (b + GEN_STEN_WORST) 0#32 else t))
    else if off = GEN_STYLUS_CTRL then
      let t := s.plain k (b + GEN_STYLUS_CTRL) (BitVec.ofNat 32 w)
      some (.ok (t.clearCounts (if bit w 2 then 3 else 0) again [b + GEN_STYLUS_LIMIT_COUNT, b + GEN_STYLUS_LATE_COUNT]))
    else none
  | .pat => if off = PAT_CNT_CLEAR then at_ 0x0A0 4 else if off = GRV_SEQ_CNT_CLEAR then at_ 0x160 8 else none
  | .cap => if off = CAP_CNT_CLEAR then at_ 0x140 7 else none
  | .strm => if off = STRM_CNT_CLEAR then at_ 0x0C0 6 else none
  | .sten => if off = STEN_CNT_CLEAR then at_ 0x080 6 else none
  | .clk => if off = CLK_CNT_CLEAR then at_ 0x0A0 2 else none
  | .time => if off = TIME_CNT_CLEAR then at_ 0x080 4 else none
  | .sync => if off = SYNC_CNT_CLEAR then at_ 0x060 5 else none
  | .cal => if off = CAL_CNT_CLEAR then at_ 0x060 4 else none
  | .memc => if off = MEMC_PORT_CLEAR then some (.ok (if bit w 0 then s.portClear else s)) else none
  | .mif => if off = MIF_CNT_CLEAR then at_ 0x060 5 else none
  | .spad => if off = SPAD_CNT_CLEAR then at_ 0x060 5 else none
  | .dma => if off = DMA_CNT_CLEAR then at_ 0x044 2 else none
  | .scen => if off = SCEN_CNT_CLEAR then at_ SCEN_EVT_UNUSED_COUNT 1 else none
  | .pwr => if off = PWR_CNT_CLEAR then at_ 0x080 2 else none
  | .therm =>
    if off = THERM_CNT_CLEAR then
      let t := s.clearCounts (w % 8) again (countersFrom (b + 0x080) 3)
      some (.ok (if getF (BitVec.ofNat 32 w) THERM_CNT_CLEAR_PEAK = 1 then t.fs b THERM_PEAK_TEMP 0 else t))
    else none
  | .link => if off = LINK_CNT_CLEAR then some (.ok (s.linkClear i w again)) else none
  | .xport => if off = XPORT_CNT_CLEAR then some (s.xportClear k w again) else none
  | .note => if off = NOTE_CNT_CLEAR then some (.ok (s.noteClear k w again)) else none
  | _ => none

/-! ### The effect of a write (R490, order 6) -/

/-- A Graver register of page `p` written (R110, R137, R142); the rest are plain or subscriptions. -/
def State.grvReg (s : State) (k g off : Nat) (w : Word) : Act :=
  if off = GRV_TABLE_CFG then s.capacityWrite g (getF w GRV_TABLE_CFG_CAPACITY)
  else if off = GRV_COMMIT_CMD then s.commitCmd g (getF w GRV_COMMIT_CMD_CANCEL == 1) (getF w GRV_COMMIT_CMD_GO == 1)
  else s.subWrite k (gBase g + off) w

/-- A register of GENn written; what the proof ADC brought a self-test or a snapshot that it ends is free (assumption log, entry 146). -/
def State.genReg (s : State) (k n off : Nat) (w : Word) : Act :=
  if 0x100 ≤ off ∧ off < 0x200 then s.grvReg k n off w
  else if off = GEN_MUTE_CTRL then .ok (s.muteWrite n (getF w GEN_MUTE_CTRL_SET == 1) (getF w GEN_MUTE_CTRL_CLEAR == 1) false)
  else if off = GEN_CHAIN_CTRL then .ok (s.chainWrite k n w)
  else if off = GEN_STEN_CFG ∨ off = GEN_STEN_RMS ∨ off = GEN_STEN_PEAK then .ok (s.stenWrite k n off w)
  else if off = GEN_TEST_CMD then
    let t := if getF w GEN_TEST_CMD_ABORT = 1 then s.testEnd n [] true else s
    if getF w GEN_TEST_CMD_GO = 1 then t.testGo n else .ok t
  else if off = GEN_SNAP_CMD then
    let t := if getF w GEN_SNAP_CMD_FREEZE = 1 then s.snapFreeze n [] else s
    .ok (if getF w GEN_SNAP_CMD_RUN = 1 then t.snapRun n else t)
  else if off = GEN_PROOF_FAULT then .ok (s.proofFaultClear n (w.toNat % 8) false)
  else if off = GEN_IDLE_CODE ∨ off = GEN_PROOF_CTRL then .ok (s.chainPlain k n off w)
  else .ok (s.plain k (base (pGEN n) + off) w)

/-- A register of PATg written. -/
def State.patReg (s : State) (k g off : Nat) (w : Word) : Act :=
  if 0x100 ≤ off ∧ off < 0x200 then s.grvReg k (16 + g) off w
  else if off = PAT_GROUP_CFG then .ok (s.groupCfgWrite k g w)
  else if off = PAT_LANE_FAULT then
    .ok ((s.faultClear false g (getF w PAT_LANE_FAULT_OVERCURRENT) 0 true).faultClear false g (getF w PAT_LANE_FAULT_CONTENTION) 0 false)
  else if 0x060 ≤ off ∧ off < 0x0A0 ∧ off % 8 = 0 then s.laneCfgWrite k g ((off - 0x060) / 8) w
  else if g = 0 ∧ 0x410 ≤ off ∧ off < 0x430 ∧ off % 8 = 0 then s.trigOutCfg k ((off - 0x410) / 8) w
  else if g = 0 ∧ off = TRG_TRIG_STATUS then
    .ok ((s.faultClear true g (bits w.toNat 19 12) 0 true).faultClear true g (bits w.toNat 23 20 * 16) 0 false)
  else s.subWrite k (base (pPAT g) + off) w

/-- A register of STRMn written. -/
def State.strmWrite (s : State) (k n off : Nat) (w : Word) : Act :=
  if off = STRM_ACQ_CMD then
    let s := s.capDue n
    let t := if getF w STRM_ACQ_CMD_STOP = 1 then s.acqStop n else s
    if getF w STRM_ACQ_CMD_START = 1 then t.acqStart n else .ok t
  else if off = STRM_RING_CTRL then s.ringEnable n (getF w STRM_RING_CTRL_EN == 1)
  else if off = STRM_ACCT_LATCH then .ok (if w.toNat % 2 = 1 then s.acctLatch n else s)
  else s.strmReg k n off w

/-- A register of an XH page written (R292, R293, R297, R309, R310, R313). -/
def State.xhReg (s : State) (k i off : Nat) (w : Word) : Act :=
  let a := base (pXH i) + off
  if i = 0 ∧ off = XH_CHAN_CMD then s.chanCmd k (getF w XH_CHAN_CMD_OP) (getF w XH_CHAN_CMD_TARGET)
  else if i = 0 ∧ off = XH_INJECT then s.injectOp k (w.toNat % 256)
  else if 0x080 ≤ off ∧ off < 0x0C0 then
    if off % 16 = 0 then
      s.groupWrite k (4 * i + (off - 0x080) / 16) (getF w (XH_GRP_CTRL_ENABLE) == 1) (getF w (XH_GRP_CTRL_DISABLE) == 1)
    else s.subWrite k a w
  else if 0x100 ≤ off ∧ off < 0x500 then
    let c := 64 * i + (off - 0x100) / 16
    if off % 16 = 0 then s.chCfg k c w
    else if off % 16 = 4 then
      if s.chOwner c ≠ k then .error .owner else if s.chAttr c = 2 then .error .secure else .ok (s.plain k a w)
    else .ok (s.plain k a w)
  else .ok (s.plain k a w)

/-- A register of the DMA page written (R431, R433, R441). -/
def State.dmaReg (s : State) (k off : Nat) (w : Word) : Act :=
  if 0x100 ≤ off ∧ off < 0x200 then
    let q := (off - 0x100) / 16
    if off % 16 = 4 then s.queueCmd k q (getF w DMA_Q_CMD_OP)
    else if off % 16 = 8 then s.tailTo k q (getF w DMA_Q_RING_TAIL)
    else if s.qOwner q ≠ k then .error .owner
    else .ok (s.plain k (base pDMA + off) w)
  else .ok (s.plain k (base pDMA + off) w)

/-- A register of the DATU page written (R84, R422, R428, R430). -/
def State.datuReg (s : State) (k off : Nat) (w : Word) : Act :=
  if off = DATU_XLAT_CMD then s.xlatCmd k (getF w DATU_XLAT_CMD_CANCEL == 1) (getF w DATU_XLAT_CMD_COMMIT == 1)
  else if off = DATU_FRAME_CMD then s.frameCmd k (getF w DATU_FRAME_CMD_OP) (getF w DATU_FRAME_CMD_COUNT)
  else if off = DATU_PLATE_CMD then s.plateCmd k (getF w DATU_PLATE_CMD_PLATE) (getF w DATU_PLATE_CMD_OP)
  else .ok (s.plain k (base pDATU + off) w)

/-- The effect of a write of `w`, found good, at offset `off` of page `p`, a page of kind `kind` and instance `i`, by session
`k`. Whether a staged image reads back (R516) is a free value here. -/
def State.regEffect (s : State) (k p : Nat) (kind : PageKind) (i off : Nat) (w : Word) : Act :=
  if off = 0x00C then s.pageCtrl p w none
  else if off < 0x040 then .ok (s.plain k (base p + off) w)
  else match s.cntClear k p kind i off w.toNat 0 with
    | some r => r
    | none => match kind with
      | .dev => if off = DEV_RESET_CMD then s.resetCmd w else .ok (s.plain k (base p + off) w)
      | .trust =>
        if off = TRUST_CMD then s.bump.trustCmd k (getF w TRUST_CMD_OP) (s.free 0x516 % 2 == 1) else .ok (s.plain k (base p + off) w)
      | .pwr => s.pwrReg k off w
      | .therm => .ok (s.thermReg off w)
      | .clk => s.clkReg k off w
      | .time => if off = TIME_PPS_CFG then s.ppsMode k w else .ok (s.plain k (base p + off) w)
      | .sync => if off = SYNC_TX_A_SUB ∨ off = SYNC_TX_B_SUB then s.subWrite k (base p + off) w else s.syncReg k off w
      | .xh => s.xhReg k i off w
      | .gen => s.genReg k i off w
      | .pat => s.patReg k i off w
      | .cap =>
        if off = CAP_IN_CFG then .ok (s.inCfgWrite k i w)
        else if 0x100 ≤ off ∧ off < 0x118 then s.trigCfg k i (base p + off) w
        else s.capReg k i off w
      | .strm => s.strmWrite k i off w
      | .sten => s.stencilReg k i off w
      | .cal =>
        if off = CAL_CMD then
          s.calCmd k (getF w CAL_CMD_OP) (getF w CAL_CMD_MODE == 1) (getF w CAL_CMD_PARTS) (getF w CAL_CMD_SCOPE_GEN) (getF w CAL_CMD_SCOPE_CAP)
        else .ok (s.plain k (base p + off) w)
      | .memc => if off = MEMC_CFG then s.memcCfg w else .ok (s.plain k (base p + off) w)
      | .mif => if off = MIF_CMD ∧ getF w MIF_CMD_RETRAIN = 1 then s.retrain i else .ok (s.plain k (base p + off) w)
      | .spad =>
        if off = SPAD_TEST_CMD ∧ getF w SPAD_TEST_CMD_GO = 1 then s.bankTest (getF w SPAD_TEST_CMD_BANK) else .ok (s.plain k (base p + off) w)
      | .dma => s.dmaReg k off w
      | .datu => s.datuReg k off w
      | .link => s.linkReg k i off w
      | .xport => s.xportReg k off w
      | .note => .ok (s.plain k (base p + off) w)
      | .scen => if off = SCEN_CMD then s.scenCmd k (getF w SCEN_CMD_OP) (getF w SCEN_CMD_SCEN) else .ok (s.plain k (base p + off) w)
      | .sched => if off = SCHED_CMD then s.schedCmd k (getF w SCHED_CMD_OP) (getF w SCHED_CMD_ENTRY) else .ok (s.plain k (base p + off) w)

/-- A pair of low word address `a` takes both its words (R266, R329, R495). -/
def State.pairEffect (s : State) (k a : Nat) (lo hi : Word) : Act :=
  let v := join64 lo.toNat hi.toNat
  if a = base pCLK + CLK_GEN_RATE then s.rateWrite false v
  else if a = base pCLK + CLK_CAP_RATE then s.rateWrite true v
  else if 0x064 ≤ pageNo a ∧ pageNo a < 0x068 ∧ a % 0x1000 = STRM_RING_SIZE then s.ringSizeWrite (pageNo a - 0x064) v
  else .ok ((s.plain k a lo).plain k (a + 4) hi)

/-- The outcome of an access: what is left where it was refused is the state `s`. -/
def Act.done (s : State) (r : Act) : Code × State :=
  match r with
  | .ok t => (.ok, t)
  | .error c => (c, s)

/-- A write of `w` to the register at `a` by session `k`: judged, and then in force (R490 to R496). The high word of a writable
pair goes to the write shadow; the low word commits the pair and leaves the shadow empty either way. -/
def State.regWrite (s : State) (k a : Nat) (w : Word) : Code × State :=
  match pageOf s.variant (pageNo a) with
  | none => (.address, s)
  | some (kind, i) =>
    if s.inPairW a then
      if a % 8 = 4 then
        Act.done s (do
          s.judgeHead k a
          .ok (s.updSes k (fun q => { q with writeShadow := (a, w) :: q.writeShadow.filter (fun e => e.1 != a) })))
      else
        let hi := (((s.ses k).writeShadow.find? (fun e => e.1 == a + 4)).map (·.2)).getD (s.rd (s.keyFor k (a + 4)))
        let t := s.updSes k (fun q => { q with writeShadow := q.writeShadow.filter (fun e => e.1 != a + 4) })
        Act.done t (do
          t.judge k a w
          t.judge k (a + 4) hi
          t.pairEffect k a w hi)
    else
      Act.done s (do
        s.judge k a w
        s.regEffect k (pageNo a) kind i (a % 0x1000) w)

end Sys2Proof.Machine
end

