-- ==== Sys2Proof/Machine/Messages.lean ====
section
/-! DEFINITION. Sys2Proof/Machine/Messages.lean: one host read or write of any device address (spec/17_register_map.md, R480,
R481; spec/15_dma_translation.md, R423; spec/14_scratchpad.md, R400, R580), and the messages READ, WRITE, BULK, CLOSE,
PULL_DATA and PULL_ERR (spec/16_host_link_transport.md, R460 to R465, R473). -/
namespace Sys2Proof.Machine
open Sys2Proof

/-! ### Table windows (R480) -/

/-- The consumer whose accounting record holds address `a` (R308). -/
def acctCode (a : Nat) : Nat := (a - 0x08680000) / 4096 * 256 + (a - 0x08680000) % 4096 / 64

/-- A word written to an accounting record: only its flags take a write, and only from the consumer's owner (R308). -/
def State.acctWrite (s : State) (k a : Nat) (w : Word) : Act :=
  let c := acctCode a
  if !s.consumerOk c then .error .address
  else if a % 64 ≠ 0x30 then .ok s
  else if s.consumerOwner c ≠ k then .error .owner
  else .ok (s.stw a (s.ldw a - (s.ldw a &&& (w.toNat &&& 3))))

/-- Address `a` lies in a range of R480 beyond the register pages. -/
def inWindows (a : Nat) : Bool :=
  [(0x01000000, 0x06000000), (0x08000000, 0x08604000), (0x08610000, 0x08618000), (0x08620000, 0x08624000),
   (0x08640000, 0x08648000), (0x08660000, 0x08668000), (0x08680000, 0x08689000), (0x08700000, 0x08750000),
   (0x08780000, 0x08795000), (0x087A0000, 0x087B5000), (0x087C0000, 0x087D5000), (0x08800000, 0x08810000),
   (0x08900000, 0x08A80800), (0x09000000, 0x0E400000)].any (fun r => decide (r.1 ≤ a ∧ a < r.2))

/-- Address `a` lies in the scratchpad or DRAM range of R480. -/
def inMemory (a : Nat) : Bool := decide (spadBase ≤ a ∧ a < 0x108000000) || decide (dramBase ≤ a ∧ a < 2 ^ 48)

/-- A word written to a table window by session `k`, by the rules of its chapter; a read-only range refuses it with ADDRESS. -/
def State.windowWrite (s : State) (k a : Nat) (w : Word) : Act :=
  if 0x01000000 ≤ a ∧ a < 0x06000000 then s.shadowWrite k a w
  else if 0x08000000 ≤ a ∧ a < 0x08200000 then s.dirWrite k a w
  else if 0x08200000 ≤ a ∧ a < 0x08600000 then s.descWrite k a w
  else if 0x08600000 ≤ a ∧ a < 0x08604000 then s.plateWrite k a w
  else if 0x08620000 ≤ a ∧ a < 0x08624000 then s.scenWrite k a w
  else if 0x08640000 ≤ a ∧ a < 0x08648000 then s.schedWrite k a w
  else if 0x08680000 ≤ a ∧ a < 0x08689000 then s.acctWrite k a w
  else if 0x08700000 ≤ a ∧ a < 0x08750000 then s.maskWrite k a w
  else if 0x087A0000 ≤ a ∧ a < 0x087B5000 then .ok (s.stw (sesMem k a) w.toNat)
  else if 0x08800000 ≤ a ∧ a < 0x08810000 then s.slotWrite k a w
  else .error .address

/-- Four bytes of the frame owner maps, from the frame numbered `f` (R423). -/
def State.ownerWord (s : State) (f : Nat) : Nat :=
  s.frameByte f + 256 * s.frameByte (f + 1) + 65536 * s.frameByte (f + 2) + 2 ^ 24 * s.frameByte (f + 3)

/-- Coefficient word `o` of the window of the proof model sets (R205). -/
def State.modelWord (s : State) (o : Nat) : Nat :=
  let n := o / 0x800
  let m := o % 0x800 / 0xC0
  let k := o % 0x800 % 0xC0 / 4
  if n < s.variant.gens ∧ m < 8 then s.ldw (coefAddr n m k) else 0

/-- The word that session `k` finds at address `a` of a table window (R481, R493); while a residual snapshot records, its buffer
is a free value (R225), and the filter coefficients are those of R585. -/
def State.windowPeek (s : State) (k a : Nat) : Word :=
  if 0x08610000 ≤ a ∧ a < 0x08618000 then (filterRead (a - 0x08610000))
  else if 0x08660000 ≤ a ∧ a < 0x08668000 then BitVec.ofNat 32 (s.modelWord (a - 0x08660000))
  else if 0x08780000 ≤ a ∧ a < 0x087B5000 then BitVec.ofNat 32 (s.ldw (sesMem k a))
  else if 0x087C0000 ≤ a ∧ a < 0x087D5000 then BitVec.ofNat 32 (s.calWord a)
  else if 0x08900000 ≤ a ∧ a < 0x08A80000 then BitVec.ofNat 32 (s.ownerWord (dramBase / 65536 + (a - 0x08900000)))
  else if 0x08A80000 ≤ a ∧ a < 0x08A80800 then BitVec.ofNat 32 (s.ownerWord (spadBase / 65536 + (a - 0x08A80000)))
  else if 0x0E000000 ≤ a ∧ a < 0x0E400000 ∧ s.fb (base (pGEN ((a - 0x0E000000) / 0x40000))) GEN_SNAP_STATUS_RECORDING then
    BitVec.ofNat 32 (s.free a)
  else BitVec.ofNat 32 (s.ldw a)

/-! ### Scratchpad and DRAM (R377, R400, R413, R418, R423) -/

/-- What refuses session `k` an access to the 64 bytes that hold the memory address `a`. -/
def State.memGate (s : State) (k a : Nat) (write : Bool) : Except Code Unit :=
  if dramBase ≤ a ∧ (s.fb (base pMEMC) MEMC_STATUS_REINIT ∨ (s.dramDecode a).isNone) then .error .address
  else if a < dramBase ∧ (!s.inGeneral a ∨ s.bankFailed (bankOf a)) then .error .address
  else if s.frameOwner (a / 65536) ≠ k then .error .owner
  else if write ∧ s.protectedAt k a then .error .locked
  else if dramBase ≤ a then .ok ()
  else match s.spadGate (bankOf a) with
    | some c => .error c
    | none => .ok ()

/-- A read of the word at `a` finds an uncorrectable line or block (R379, R411); without DRAM ECC none is found there. -/
def State.eccAt (s : State) (a : Nat) : Bool := (decide (a < dramBase) || s.fb (base pMEMC) MEMC_CFG_ECC_EN) && s.badLine a

/-- The read that a write of less than a code word, or of less than a DRAM block, needs meets an uncorrectable one (R380,
R580). -/
def State.mergeBad (s : State) (a : Nat) : Bool :=
  if dramBase ≤ a then s.eccAt a else s.badWords.contains (a / 8 * 8)

/-! ### One word, and one line -/

/-- A read of the word at `a` by session `k`. -/
def State.wordRead (s : State) (k a : Nat) : Except Code (Word × State) :=
  if a < 0x01000000 then s.regRead k a
  else if !inWindows a && !inMemory a then .error .address
  else if 2 ≤ s.restState then .error .state
  else if inMemory a then do
    s.memGate k a false
    if s.eccAt a then .error .ecc else .ok (BitVec.ofNat 32 (s.ldw a), s)
  else if s.eccAt a then .error .ecc
  else if 0x08680000 ≤ a ∧ a < 0x08689000 ∧ a % 64 < 0x30 then
    if a % 8 = 0 then .ok (s.windowPeek k a, s.latch' k [(a + 4, s.windowPeek k (a + 4))]) else .ok (s.shadowOf k a, s)
  else .ok (s.windowPeek k a, if 0x0E000000 ≤ a ∧ a < 0x0E400000 then s.bump else s)

/-- A write of a word at an address beyond the register pages by session `k`. -/
def State.farWrite (s : State) (k a : Nat) (w : Word) : Act :=
  if !inWindows a && !inMemory a then .error .address
  else if 2 ≤ s.restState then .error .state
  else if s.retired then .error .owner
  else if inMemory a then do
    s.memGate k a true
    if s.mergeBad a then .error .ecc else .ok ((s.noteRewrite a 4).stw a w.toNat)
  else match s.windowWrite k a w with
    | .error c => .error c
    | .ok t => if s.mergeBad a then .error .ecc else .ok t

/-- A write of a word at any device address by session `k`. -/
def State.wordWrite (s : State) (k a : Nat) (w : Word) : Code × State :=
  if a < 0x01000000 then s.regWrite k a w else Act.done s (s.farWrite k a w)

/-- The words of a line of 64 bytes written to a table window, judged in ascending order: those before the first refused word
are written together, and that word is named (R461, R580). `i` words are done; `prev` is the state before the last of them. -/
def State.windowLine (s prev : State) (k a i : Nat) : List Word → Option (Code × Nat) × State
  | [] => (none, s.heal a 64)
  | w :: ws =>
    match s.windowWrite k (a + 4 * i) w with
    | .ok t => State.windowLine t s k a (i + 1) ws
    | .error c =>
      if i % 2 = 1 ∧ s.mergeBad (a + 4 * (i - 1)) then (some (.ecc, a + 4 * (i - 1)), prev.heal a (4 * (i - 1)))
      else (some (c, a + 4 * i), s.heal a (4 * i))

/-- Bytes as 32-bit words, the first byte least significant. -/
def toWords : List Byte → List Word
  | a :: b :: c :: d :: t => BitVec.ofNat 32 (a.toNat + 256 * b.toNat + 65536 * c.toNat + 2 ^ 24 * d.toNat) :: toWords t
  | _ => []

/-- A line of 64 bytes written at `a` by session `k`: the refusal and the address it names, if any, and the state after. -/
def State.lineWrite (s : State) (k a : Nat) (bs : List Byte) : Option (Code × Nat) × State :=
  if !inWindows a && !inMemory a then (some (.address, a), s)
  else if 2 ≤ s.restState then (some (.state, a), s)
  else if s.retired then (some (.owner, a), s)
  else if inMemory a then
    match s.memGate k a true with
    | .error c => (some (c, a), s)
    | .ok _ => (none, ((s.noteRewrite a 64).stBytes a bs).heal a 64)
  else s.windowLine s k a 0 (toWords bs)

/-! ### The commands of a session (R460 to R462) -/

/-- `n` words read in ascending order: the outcome, the words, and the state after. -/
def State.readWords (s : State) (k a : Nat) : Nat → List Word → Code × List Word × State
  | 0, acc => (.ok, acc.reverse, s)
  | n + 1, acc =>
    match s.wordRead k a with
    | .ok (w, t) => State.readWords t k (a + 4) n (w :: acc)
    | .error c => (c, acc.reverse, s.hostEcc c a)

/-- Words written in ascending order, stopping at the first refusal: the outcome, the words carried out, and the state after. -/
def State.writeWords (s : State) (k a done : Nat) : List Word → Code × Nat × State
  | [] => (.ok, done, s)
  | w :: ws =>
    match s.wordWrite k a w with
    | (.ok, t) => State.writeWords t k (a + 4) (done + 1) ws
    | (c, t) => (c, done, t.hostEcc c a)

/-- Lines written in ascending order, `n` at most, stopping at the first refusal: the outcome with the address it names, the
lines carried out, and the state after. -/
def State.writeLines (s : State) (k a done : Nat) : Nat → List Byte → Option (Code × Nat) × Nat × State
  | 0, _ => (none, done, s)
  | n + 1, bs =>
    match s.lineWrite k a (bs.take 64) with
    | (none, t) => State.writeLines t k (a + 64) (done + 1) n (bs.drop 64)
    | (some r, t) => (some r, done, t.hostEcc r.1 r.2)

/-- The report of a write command: `c` at `addr` after `done` words or lines. -/
def State.writeReport (s : State) (k seq : Nat) (posted : Bool) (c : Code) (done addr : Nat) : State :=
  if posted then (if c = .ok then s.returnCredit k else s.postedFail k seq c done addr)
  else s.respond k seq c done (if c = .ok then 0 else addr) []

/-- A READ of `n` words at `a` carried out and answered. -/
def State.readCmd (s : State) (k seq a n : Nat) : State :=
  if a % 4 ≠ 0 ∨ n = 0 ∨ 256 < n ∨ 2 ^ 48 ≤ a then s.respond k seq .format 0 a []
  else
    let r := s.readWords k a n []
    r.2.2.respond k seq r.1 r.2.1.length (if r.1 = .ok then 0 else a + 4 * r.2.1.length) r.2.1

/-- A WRITE of words at `a` carried out and reported. -/
def State.writeCmd (s : State) (k seq : Nat) (posted : Bool) (a : Nat) (ws : List Word) : State :=
  if a % 4 ≠ 0 ∨ ws.length = 0 ∨ 64 < ws.length ∨ 2 ^ 48 ≤ a then s.writeReport k seq posted .format 0 a
  else
    let r := s.writeWords k a 0 ws
    r.2.2.writeReport k seq posted r.1 r.2.1 (a + 4 * r.2.1)

/-- A BULK of bytes at `a` carried out and reported. -/
def State.bulkCmd (s : State) (k seq : Nat) (posted : Bool) (a : Nat) (bs : List Byte) : State :=
  if a % 64 ≠ 0 ∨ bs.length = 0 ∨ bs.length % 64 ≠ 0 ∨ 8192 < bs.length ∨ 2 ^ 48 ≤ a then s.writeReport k seq posted .format 0 a
  else
    let r := s.writeLines k a 0 (bs.length / 64) bs
    match r.1 with
    | none => r.2.2.writeReport k seq posted .ok r.2.1 0
    | some (c, f) => r.2.2.writeReport k seq posted c r.2.1 f

/-- A message of session `k` carried out in its turn. -/
def State.carryOut (s : State) (k seq : Nat) (m : HostMsg) : State :=
  if !s.isOpen k then s
  else match m with
    | .read a n => s.readCmd k seq a n
    | .write posted a ws => s.writeCmd k seq posted a ws
    | .bulk posted a bs => s.bulkCmd k seq posted a bs
    | .close => s.closeSession k
    | m => s.pullReply k m

/-- A reliable message of the host arrives (R454, R455). -/
def State.arrives (s : State) (h : Hdr) (m : HostMsg) : State :=
  s.onMsg h (fun t => t.takeRel h.sess h.seq m (fun u q x => u.carryOut h.sess q x))

/-! ### One register at a time -/

/-- One host write of a word, reported (R461, R462). -/
def State.hostWord (s : State) (o : Org) (a : Nat) (w : Word) : State :=
  if !s.isOpen o.sess then s.count (base pXPORT) XPORT_DISCARD_COUNT_COUNT
  else if a % 4 ≠ 0 then s.writeReport o.sess o.seq o.posted .format 0 a
  else
    let r := s.wordWrite o.sess a w
    (r.2.hostEcc r.1 a).writeReport o.sess o.seq o.posted r.1 (if r.1 = .ok then 1 else 0) a

/-- One host read of a word, answered (R461). -/
def State.hostFetch (s : State) (o : Org) (a : Nat) : State :=
  if s.isOpen o.sess then s.readCmd o.sess o.seq a 1 else s.count (base pXPORT) XPORT_DISCARD_COUNT_COUNT

/-! ### The commands -/

/-- REGISTER_WRITE (R490 to R492, R579). -/
def execRegisterWrite (o : Org) (addr : Nat) (w : Word) (s : State) : Host.Outcome State Fault Refusal := .next (s.hostWord o addr w)

/-- SHADOW_LOW_READ (R494). -/
def execShadowLowRead (o : Org) (addr : Nat) (s : State) : Host.Outcome State Fault Refusal := .next (s.hostFetch o addr)

/-- SHADOW_HIGH_WRITE (R495). -/
def execShadowHighWrite (o : Org) (addr : Nat) (w : Word) (s : State) : Host.Outcome State Fault Refusal := .next (s.hostWord o addr w)

/-- SHADOW_LOW_WRITE (R495). -/
def execShadowLowWrite (o : Org) (addr : Nat) (w : Word) (s : State) : Host.Outcome State Fault Refusal := .next (s.hostWord o addr w)

/-- CLEAR_ON_READ (R19, R200). -/
def execClearOnRead (o : Org) (addr : Nat) (s : State) : Host.Outcome State Fault Refusal := .next (s.hostFetch o addr)

/-- COUNTER_CLEAR (R70): `coincident` has the bits of the counters incremented in the same cycle. -/
def execCounterClear (o : Org) (addr : Nat) (mask coincident : Word) (s : State) : Host.Outcome State Fault Refusal :=
  .next (s.hostReg o addr mask (fun t => match pageOf t.variant (pageNo addr) with
    | none => .error .address
    | some (kind, i) => match t.cntClear o.sess (pageNo addr) kind i (addr % 0x1000) mask.toNat coincident.toNat with
      | some r => r
      | none => t.regEffect o.sess (pageNo addr) kind i (addr % 0x1000) mask))

/-- NOTICE_RAW_CLEAR (R16, R489): a bit that the hardware sets in the same cycle stays 1. -/
def execNoticeRawClear (o : Org) (page : Nat) (mask coincident : Word) (s : State) : Host.Outcome State Fault Refusal :=
  .next (s.hostReg o (base page + 0x018) mask (fun t =>
    let u := t.plain o.sess (base page + 0x018) mask
    .ok (u.wr (sbase o.sess page + 0x018) (u.rd (sbase o.sess page + 0x018) ||| coincident))))

/-- READ (R460, R461). -/
def execRead (h : Hdr) (addr count : Nat) (s : State) : Host.Outcome State Fault Refusal := .next (s.arrives h (.read addr count))

/-- WRITE (R460 to R462). -/
def execWrite (h : Hdr) (posted : Bool) (addr : Nat) (data : List Word) (s : State) : Host.Outcome State Fault Refusal :=
  .next (s.arrives h (.write posted addr data))

/-- BULK (R460 to R462). -/
def execBulk (h : Hdr) (posted : Bool) (addr : Nat) (data : List Byte) (s : State) : Host.Outcome State Fault Refusal :=
  .next (s.arrives h (.bulk posted addr data))

/-- CLOSE (R463, R473). -/
def execClose (h : Hdr) (s : State) : Host.Outcome State Fault Refusal := .next (s.arrives h .close)

/-- PULL_DATA (R465). -/
def execPullData (h : Hdr) (tag : Nat) (data : List Byte) (s : State) : Host.Outcome State Fault Refusal :=
  .next (s.arrives h (.pullData tag data))

/-- PULL_ERR (R465). -/
def execPullErr (h : Hdr) (tag reason : Nat) (s : State) : Host.Outcome State Fault Refusal := .next (s.arrives h (.pullErr tag reason))

/-- HOST_MEMORY_ACCESS (R400, R423). -/
def execHostMemoryAccess (h : Hdr) (a : MemAccess) (s : State) : Host.Outcome State Fault Refusal :=
  .next (match a with
    | .read addr n => s.arrives h (.read addr n)
    | .write posted addr ws => s.arrives h (.write posted addr ws)
    | .bulk posted addr bs => s.arrives h (.bulk posted addr bs))

/-- SPAD_COLLISION (R408, R409): the lower-priority write of the word `w` at `addr`, a host's where `host` says so, meets another.
The small configurations drop it and answer a host's with COLLISION; the EA-1640 carries it out in the next cycle. Another
source repeats its write. -/
def execSpadCollision (host : Bool) (o : Org) (addr : Nat) (w : Word) (s : State) : Host.Outcome State Fault Refusal :=
  .next (if s.variant.small then
    let t := s.count (base pSPAD) SPAD_COLLISION_COUNT_COUNT
    if !host then t
    else if s.isOpen o.sess then t.writeReport o.sess o.seq o.posted .collision 0 addr
    else t.count (base pXPORT) XPORT_DISCARD_COUNT_COUNT
  else
    let t := s.count (base pSPAD) SPAD_SERIAL_COUNT_COUNT
    if host then t.hostWord o addr w else t)

/-! ### Arrivals and uncorrectable blocks -/

/-- The plan step of Graver `g` acts on an event on channel `c` (R124, R125). -/
def State.stepActs (s : State) (g c : Nat) : Bool :=
  let e := s.entryNow g
  s.playing g && (((e.advance == 1 || e.advance == 2) && e.advEvt == c)
    || (List.range 4).any (fun j => (e.jumps.getD j { target := 0, clr := false, evt := 0 }).evt == c
      && !bit (s.fg (gBase g) GRV_JUMP_CTRL_SLOT_MASK) j))

/-- A jump of the plan step of Graver `g` is about to arrive, which its jump cancel would veto (R126). -/
def State.jumpComes (s : State) (g : Nat) : Bool :=
  s.playing g && s.xh.crossing.any (fun e => e.consumer == 0x200 + g && (List.range 4).any (fun j =>
    ((s.entryNow g).jumps.getD j { target := 0, clr := false, evt := 0 }).evt == e.chan && !bit (s.fg (gBase g) GRV_JUMP_CTRL_SLOT_MASK) j))

/-- What consumer `code` does with a delivered event on channel `c` (R307); a Graver's jump or advance is a happening of its own. -/
def State.consume (s : State) (code c : Nat) : State :=
  let m := code % 256
  match code / 256 with
  | 1 => if s.jumpComes m then s else s.overrun code
  | 2 => if s.stepActs m c then s else (s.count (gBase m) GRV_EVT_UNUSED_COUNT_COUNT).overrun code
  | 3 => if (s.trigEvent m).1 then (s.trigEvent m).2 else (s.trigEvent m).2.overrun code
  | 4 => if (s.trigArrive m).1 then (s.trigArrive m).2 else (s.trigArrive m).2.overrun code
  | 5 => s.groupSet m true
  | 6 => if m = 0 then s else s.groupSet m false
  | 7 => if (s.startEvent m).1 then (s.startEvent m).2 else s.startUnused m
  | 8 => if (s.syncTransmit m).1 then (s.syncTransmit m).2 else (s.syncTransmit m).2.overrun code
  | _ => s

/-- Whether `e` is on its way to `code` on channel `c`. -/
def Crossing.is (e : Crossing) (code c : Nat) : Bool := e.consumer == code && e.chan == c

/-- The first `n` events on their way to `code` on channel `c` taken out of the crossing. -/
def takeCrossings (code c : Nat) : Nat → List Crossing → List Crossing
  | 0, l => l
  | _, [] => []
  | n + 1, e :: l => if e.is code c then takeCrossings code c n l else e :: takeCrossings code c (n + 1) l

/-- The event crossing to `code` on channel `c` taken out of the crossing, and `n` more that arrive with it and are merged
(R305, R581): the state after and how many were merged. -/
def State.crossed (s : State) (code c n : Nat) : State × Nat :=
  let mine := (s.xh.crossing.filter (fun e => e.is code c)).length
  ({ s with xh := { s.xh with crossing := takeCrossings code c (min mine (n + 1)) s.xh.crossing } }, min (mine - 1) n)

/-- The domain of a consumer has cycles (R581): Gravers are in GF, capture triggers in CF, every other consumer in TB. -/
def State.domainRuns (s : State) (code : Nat) : Bool :=
  match code / 256 with
  | 1 | 2 => s.fb (base pCLK) CLK_PAGE_STATUS_GF_VALID
  | 3 => s.fb (base pCLK) CLK_PAGE_STATUS_CF_VALID
  | _ => true

/-- The earliest tick at which an event on channel `c` published or judged at tick `p` is at a consumer: 3 ticks after the fabric tick, and
at once on an unclocked path (R303, R304). -/
def State.reachTick (s : State) (c p : Nat) : Nat := if s.unclocked c then p else p + 3

/-- An event on channel `c` arrives at consumer `code` (R304 to R307); on an unclocked path the group, the ownership rule and the
gate are judged now. -/
def State.arrival (s : State) (code c n : Nat) : State :=
  let r := s.crossed code c n
  if !s.xh.crossing.any (fun e => e.is code c) then s
  else
    let t := r.1.mergeCount code r.2
    let mine := (t.subsOf code).filter (fun e => e.1 == c)
    if t.unclocked c && !t.grpAt (c / 16) (t.now - 3) then
      let t := t.suppress code 0x10
      if t.xh.crossing.any (fun e => e.chan == c) then t else t.setGrp (c / 16) XH_GRP_SUPP_COUNT (satInc (t.grpF (c / 16) XH_GRP_SUPP_COUNT))
    else if t.unclocked c && !t.ownRule c code then t.suppress code 0x28
    else if t.unclocked c && mine.all (fun e => e.2 != 0 && !t.gateLevel c e.2) then t.suppress code 0x18
    else (t.acct code 0x00).consume code c

/-- The oldest event on channel `c` on its way to consumer `code` arrives in its time (R303), unless the consumer's domain stands still, where
it waits in the crossing (R581). -/
def State.arriveIn (s : State) (code c n : Nat) : State :=
  match s.xh.crossing.find? (fun e => e.is code c) with
  | some e => if s.domainRuns code then (s.moveTo (s.reachTick c e.at_)).arrival code c n else s
  | none => s

/-- The event longest on its way to consumer `code` arrives. -/
def State.arriveAt (s : State) (code : Nat) : State :=
  match s.xh.crossing.find? (fun e => e.consumer == code) with
  | some e => s.arriveIn code e.chan 0
  | none => s

/-- EVENT_FABRIC_TICK (R303, R305, R306, R311): 3 ticks after the publication at the earliest. -/
def execEventFabricTick (c merged : Nat) (s : State) : Host.Outcome State Fault Refusal :=
  .next (match s.waitingOn c with
    | p :: _ => (s.moveTo (p + 3)).fabricTick c merged
    | [] => s)

/-- EVENT_ARRIVAL (R303 to R307, R581). -/
def execEventArrival (consumer c merged : Nat) (s : State) : Host.Outcome State Fault Refusal := .next (s.arriveIn consumer c merged)

/-- LEVEL_HOLD_EXPIRY (R296): HOLD_TICKS after the last event. -/
def execLevelHoldExpiry (c : Nat) (s : State) : Host.Outcome State Fault Refusal :=
  .next (match s.xh.levels.reverse.find? (fun m => m.chan == c && !m.level) with
    | some m => if c < 256 ∧ s.chF c XH_CH_CFG_LEVEL_MODE = 2 then s.moveTo m.at_ else s
    | none => s)

/-- A group's state changed by a write of its owner or by an event that arrives at its control consumer (R302). -/
def State.groupBy (s : State) (w : GroupBy) (grp : Nat) (enable : Bool) : State :=
  match w with
  | .write o => s.hostReg o (base (pXH (grp / 4)) + XH_GRP_CTRL (grp % 4)) (if enable then 1#32 else 2#32)
      (fun t => t.groupWrite o.sess grp enable (!enable))
  | .event => if 16 ≤ grp then s else s.arriveAt ((if enable then 0x500 else 0x600) + grp)

/-- GROUP_ENABLE (R302). -/
def execGroupEnable (w : GroupBy) (grp : Nat) (s : State) : Host.Outcome State Fault Refusal := .next (s.groupBy w grp true)

/-- GROUP_DISABLE (R302). -/
def execGroupDisable (w : GroupBy) (grp : Nat) (s : State) : Host.Outcome State Fault Refusal :=
  .next (s.groupBy w grp false)

/-- START_EVENT (R156, R158): the event on START_EVT that is longest on its way to scenario `k`'s start consumer arrives. -/
def execStartEvent (k : Nat) (s : State) : Host.Outcome State Fault Refusal := .next (s.arriveAt (0x700 + k % 64))

/-- The ring block that channel `n` was to send next is not sent: it is accounted as a delivery gap, with no credit used and none
returned (R267, R379). -/
def State.gapUnsent (s : State) (n : Nat) : State :=
  let k := s.owner (pSTRM n)
  match (s.trc n).held.find? (fun h => !h.sent) with
  | some h =>
    let f : Flight := { chan := n, acq := h.acq, blk := h.seq, raw := h.raw, firstC := h.firstC, time := h.time, sentAt := s.now }
    if s.isOpen k then
      (s.gapBlock k f).fs (sbase k pXPORT) XPORT_RETURNED_COUNT (s.fg (sbase k pXPORT) XPORT_RETURNED_COUNT)
    else s.freeBlock f false
  | none => s

/-- MEM_ECC (R379): the block at `a` reads uncorrectable for requester `req`, instance `inst`; a ring reader's is not sent. -/
def execMemEcc (a req inst : Nat) (s : State) : Host.Outcome State Fault Refusal :=
  .next (if (s.dramDecode a).isSome && s.fb (base pMEMC) MEMC_CFG_ECC_EN then
    let t := (s.markBad a).memUe a req inst
    if req = 4 then t.gapUnsent (inst % 4) else t
  else s)

end Sys2Proof.Machine
end

