-- ==== Sys2Proof/Machine/Playing.lean ====
section
/-! DEFINITION. Sys2Proof/Machine/Playing.lean: the happenings of the stroke plan (R115, R117, R124, R140, R144), with the
pre-emption point (R161) and the end of the scenario (R160) that each may bring. -/
namespace Sys2Proof.Machine
open Sys2Proof

/-- Graver `g` has planned a stroke: what awaits it takes the stroke where it is a pre-emption point, and a scenario whose
members have all ended ends. -/
def State.afterPoint (s : State) (g : Nat) : State :=
  let t := if s.handDue g then s.takePoint g else s
  t.scenEnds (t.grv g).scen

/-- The pass end at which a READY commit takes effect (R140), or is withdrawn by a pre-emption there (R142). -/
def State.commitLands (s : State) (g : Nat) : State :=
  if s.playing g && s.fb (gBase g) GRV_TABLE_STATUS_READY then s.passEnd g (0, 0) else s

/-! ### The commands -/

/-- GRAVER_JUMP (R124, R125, R127, R145). -/
def execGraverJump (g slot strokes : Nat) (others : List Nat) (filled : Nat × Nat) (s : State) : Host.Outcome State Fault Refusal :=
  s.onGraver g ((s.jump g slot strokes others filled).afterPoint g)

/-- EVENT_CUT_ADVANCE (R115, R124). -/
def execEventCutAdvance (g strokes : Nat) (others : List Nat) (filled : Nat × Nat) (s : State) : Host.Outcome State Fault Refusal :=
  s.onGraver g (if s.playing g && (s.entryNow g).advance == 2 then
    (s.advanceStep g strokes others [(s.entryNow g).advEvt] filled true).afterPoint g else s)

/-- TIME_ADVANCE (R117, R124). -/
def execTimeAdvance (g : Nat) (filled : Nat × Nat) (s : State) : Host.Outcome State Fault Refusal :=
  s.onGraver g ((s.timeStep g filled).afterPoint g)

/-- PASS_END (R115, R118). -/
def execPassEnd (g : Nat) (filled : Nat × Nat) (s : State) : Host.Outcome State Fault Refusal :=
  s.onGraver g ((s.passEnd g filled).afterPoint g)

/-- TABLE_ECC (R144). -/
def execTableEcc (g step strokes : Nat) (s : State) : Host.Outcome State Fault Refusal :=
  s.onGraver g ((s.tableEcc g step strokes).afterPoint g)

/-- COMMIT_TAKES_EFFECT (R140). -/
def execCommitTakesEffect (g : Nat) (s : State) : Host.Outcome State Fault Refusal :=
  s.onGraver g ((s.commitLands g).afterPoint g)

end Sys2Proof.Machine
end

