-- ==== Sys2Proof/Machine/Dispatch.lean ====
section
/-! DEFINITION. Sys2Proof/Machine/Dispatch.lean: which definition gives each command its meaning. -/
namespace Sys2Proof.Machine
open Sys2Proof

def exec (i : Instr) (s : State) : Host.Outcome State Fault Refusal :=
  match i with
  | .registerWrite o addr w => Sys2Proof.Machine.execRegisterWrite o addr w s
  | .shadowLowRead o addr => Sys2Proof.Machine.execShadowLowRead o addr s
  | .shadowHighWrite o addr w => Sys2Proof.Machine.execShadowHighWrite o addr w s
  | .shadowLowWrite o addr w => Sys2Proof.Machine.execShadowLowWrite o addr w s
  | .clearOnRead o addr => Sys2Proof.Machine.execClearOnRead o addr s
  | .counterClear o addr mask coincident => Sys2Proof.Machine.execCounterClear o addr mask coincident s
  | .noticeRawClear o page mask coincident => Sys2Proof.Machine.execNoticeRawClear o page mask coincident s
  | .openReq r => Sys2Proof.Machine.execOpenReq r s
  | .openProof port openId nh mac rmac => Sys2Proof.Machine.execOpenProof port openId nh mac rmac s
  | .openProofTimeout openId => Sys2Proof.Machine.execOpenProofTimeout openId s
  | .close h => Sys2Proof.Machine.execClose h s
  | .read h addr count => Sys2Proof.Machine.execRead h addr count s
  | .write h posted addr data => Sys2Proof.Machine.execWrite h posted addr data s
  | .bulk h posted addr data => Sys2Proof.Machine.execBulk h posted addr data s
  | .ack h => Sys2Proof.Machine.execAck h s
  | .bareAckSend sess => Sys2Proof.Machine.execBareAckSend sess s
  | .retransmit sess seq => Sys2Proof.Machine.execRetransmit sess seq s
  | .credit h grant => Sys2Proof.Machine.execCredit h grant s
  | .heartbeat h => Sys2Proof.Machine.execHeartbeat h s
  | .pullData h tag data => Sys2Proof.Machine.execPullData h tag data s
  | .pullErr h tag reason => Sys2Proof.Machine.execPullErr h tag reason s
  | .pullTimeout sess tag => Sys2Proof.Machine.execPullTimeout sess tag s
  | .stream ch => Sys2Proof.Machine.execStream ch s
  | .streamAck h entries => Sys2Proof.Machine.execStreamAck h entries s
  | .streamBlockDeadline sess ch acq blk => Sys2Proof.Machine.execStreamBlockDeadline sess ch acq blk s
  | .deliveryGap sess ch => Sys2Proof.Machine.execDeliveryGap sess ch s
  | .notice sess => Sys2Proof.Machine.execNotice sess s
  | .leaseExpiry sess => Sys2Proof.Machine.execLeaseExpiry sess s
  | .graceExpiry sess => Sys2Proof.Machine.execGraceExpiry sess s
  | .claimPage o page => Sys2Proof.Machine.execClaimPage o page s
  | .releasePage o page => Sys2Proof.Machine.execReleasePage o page s
  | .portDown port los => Sys2Proof.Machine.execPortDown port los s
  | .portUp port => Sys2Proof.Machine.execPortUp port s
  | .portBypass o port on => Sys2Proof.Machine.execPortBypass o port on s
  | .arpFrame port f => Sys2Proof.Machine.execArpFrame port f s
  | .ndpFrame port f => Sys2Proof.Machine.execNdpFrame port f s
  | .icmpEcho port v6 dst src len => Sys2Proof.Machine.execIcmpEcho port v6 dst src len s
  | .dhcpMessage port f => Sys2Proof.Machine.execDhcpMessage port f s
  | .dhcpLeaseTimer port t => Sys2Proof.Machine.execDhcpLeaseTimer port t s
  | .moduleResetCmd o key go => Sys2Proof.Machine.execModuleResetCmd o key go s
  | .moduleReset cause => Sys2Proof.Machine.execModuleReset cause s
  | .boot goodA goodB damaged => Sys2Proof.Machine.execBoot goodA goodB damaged s
  | .blockEnable o page en => Sys2Proof.Machine.execBlockEnable o page en s
  | .blockReady page => Sys2Proof.Machine.execBlockReady page s
  | .blockPark o page park => Sys2Proof.Machine.execBlockPark o page park s
  | .blockReset o page => Sys2Proof.Machine.execBlockReset o page s
  | .blockResetDone page => Sys2Proof.Machine.execBlockResetDone page s
  | .faultClr o page coincident => Sys2Proof.Machine.execFaultClr o page coincident s
  | .muteSet o n => Sys2Proof.Machine.execMuteSet o n s
  | .muteClear o n proofToo => Sys2Proof.Machine.execMuteClear o n proofToo s
  | .outputSettled n => Sys2Proof.Machine.execOutputSettled n s
  | .fill g cause first missing before after => Sys2Proof.Machine.execFill g cause first missing before after s
  | .stylusSlotLoad n desc late => Sys2Proof.Machine.execStylusSlotLoad n desc late s
  | .graverJump g slot strokes others filled => Sys2Proof.Machine.execGraverJump g slot strokes others filled s
  | .jumpCancelEvent g slot byMask => Sys2Proof.Machine.execJumpCancelEvent g slot byMask s
  | .eventCutAdvance g strokes others filled => Sys2Proof.Machine.execEventCutAdvance g strokes others filled s
  | .advanceLatch g => Sys2Proof.Machine.execAdvanceLatch g s
  | .timeAdvance g filled => Sys2Proof.Machine.execTimeAdvance g filled s
  | .passEnd g filled => Sys2Proof.Machine.execPassEnd g filled s
  | .tableEcc g step strokes => Sys2Proof.Machine.execTableEcc g step strokes s
  | .markerEdge n k cycle => Sys2Proof.Machine.execMarkerEdge n k cycle s
  | .jcacheFillDone g set slot => Sys2Proof.Machine.execJcacheFillDone g set slot s
  | .commitGo o g => Sys2Proof.Machine.execCommitGo o g s
  | .commitCancel o g => Sys2Proof.Machine.execCommitCancel o g s
  | .commitCheckDone g => Sys2Proof.Machine.execCommitCheckDone g s
  | .commitReady g => Sys2Proof.Machine.execCommitReady g s
  | .commitTakesEffect g => Sys2Proof.Machine.execCommitTakesEffect g s
  | .shadowResyncDone g => Sys2Proof.Machine.execShadowResyncDone g s
  | .shadowWindowWrite o addr w => Sys2Proof.Machine.execShadowWindowWrite o addr w s
  | .tableCapacityWrite o g capacity => Sys2Proof.Machine.execTableCapacityWrite o g capacity s
  | .directoryWrite o addr w => Sys2Proof.Machine.execDirectoryWrite o addr w s
  | .descriptorWrite o addr w => Sys2Proof.Machine.execDescriptorWrite o addr w s
  | .plateRecordWrite o addr w => Sys2Proof.Machine.execPlateRecordWrite o addr w s
  | .plateClaim o plate => Sys2Proof.Machine.execPlateClaim o plate s
  | .platePin o plate => Sys2Proof.Machine.execPlatePin o plate s
  | .plateUnpin o plate => Sys2Proof.Machine.execPlateUnpin o plate s
  | .plateRelease o plate => Sys2Proof.Machine.execPlateRelease o plate s
  | .plateDone => Sys2Proof.Machine.execPlateDone s
  | .scenRecordWrite o addr w => Sys2Proof.Machine.execScenRecordWrite o addr w s
  | .arm o k => Sys2Proof.Machine.execArm o k s
  | .armDone k => Sys2Proof.Machine.execArmDone k s
  | .start o k => Sys2Proof.Machine.execStart o k s
  | .stop o k => Sys2Proof.Machine.execStop o k s
  | .stopBoundary o k => Sys2Proof.Machine.execStopBoundary o k s
  | .park o k => Sys2Proof.Machine.execPark o k s
  | .resume o k => Sys2Proof.Machine.execResume o k s
  | .disarm o k => Sys2Proof.Machine.execDisarm o k s
  | .disarmDone k => Sys2Proof.Machine.execDisarmDone k s
  | .cancel o k => Sys2Proof.Machine.execCancel o k s
  | .scenRelease o k => Sys2Proof.Machine.execScenRelease o k s
  | .actionTime k => Sys2Proof.Machine.execActionTime k s
  | .startEvent k => Sys2Proof.Machine.execStartEvent k s
  | .schedEntryWrite o addr w => Sys2Proof.Machine.execSchedEntryWrite o addr w s
  | .submit o entry => Sys2Proof.Machine.execSubmit o entry s
  | .remove o entry => Sys2Proof.Machine.execRemove o entry s
  | .schedDue entry => Sys2Proof.Machine.execSchedDue entry s
  | .schedExtrapolate entry => Sys2Proof.Machine.execSchedExtrapolate entry s
  | .laneFormatSettled g => Sys2Proof.Machine.execLaneFormatSettled g s
  | .laneOvercurrent p => Sys2Proof.Machine.execLaneOvercurrent p s
  | .laneContention p => Sys2Proof.Machine.execLaneContention p s
  | .overcurrentClear o trig g mask again => Sys2Proof.Machine.execOvercurrentClear o trig g mask again s
  | .contentionClear o trig g mask again => Sys2Proof.Machine.execContentionClear o trig g mask again s
  | .reenableHoldExpiry p => Sys2Proof.Machine.execReenableHoldExpiry p s
  | .trigInEdge k rising ticks frac => Sys2Proof.Machine.execTrigInEdge k rising ticks frac s
  | .trigOutEvent k => Sys2Proof.Machine.execTrigOutEvent k s
  | .trigOutPulseEnd k => Sys2Proof.Machine.execTrigOutPulseEnd k s
  | .windowVerdict n w => Sys2Proof.Machine.execWindowVerdict n w s
  | .overload n dcMv => Sys2Proof.Machine.execOverload n dcMv s
  | .overloadClear o n again => Sys2Proof.Machine.execOverloadClear o n again s
  | .overloadReexamDone n persists dcMv => Sys2Proof.Machine.execOverloadReexamDone n persists dcMv s
  | .proofContention n first samples => Sys2Proof.Machine.execProofContention n first samples s
  | .proofOpen n rl level => Sys2Proof.Machine.execProofOpen n rl level s
  | .testGo o n => Sys2Proof.Machine.execTestGo o n s
  | .testAbort o n samples => Sys2Proof.Machine.execTestAbort o n samples s
  | .proofTestDone n samples => Sys2Proof.Machine.execProofTestDone n samples s
  | .snapRun o n => Sys2Proof.Machine.execSnapRun o n s
  | .snapFreeze o n samples => Sys2Proof.Machine.execSnapFreeze o n samples s
  | .modelTakesEffect n => Sys2Proof.Machine.execModelTakesEffect n s
  | .frontEndSettled n => Sys2Proof.Machine.execFrontEndSettled n s
  | .inputOvervolt n c => Sys2Proof.Machine.execInputOvervolt n c s
  | .protectExit n c => Sys2Proof.Machine.execProtectExit n c s
  | .triggerCandidate n raw => Sys2Proof.Machine.execTriggerCandidate n raw s
  | .triggerRecord n => Sys2Proof.Machine.execTriggerRecord n s
  | .trigConfigWrite o addr w => Sys2Proof.Machine.execTrigConfigWrite o addr w s
  | .avgFactorChange n => Sys2Proof.Machine.execAvgFactorChange n s
  | .acqStart o n => Sys2Proof.Machine.execAcqStart o n s
  | .acqStop o n => Sys2Proof.Machine.execAcqStop o n s
  | .acqBegin n => Sys2Proof.Machine.execAcqBegin n s
  | .rearmInstant n => Sys2Proof.Machine.execRearmInstant n s
  | .recordEnd n => Sys2Proof.Machine.execRecordEnd n s
  | .ringEnable o n en => Sys2Proof.Machine.execRingEnable o n en s
  | .blockClose n raw fifo => Sys2Proof.Machine.execBlockClose n raw fifo s
  | .blockFlush n raw fifo => Sys2Proof.Machine.execBlockFlush n raw fifo s
  | .rateRaise n => Sys2Proof.Machine.execRateRaise n s
  | .rateLower n => Sys2Proof.Machine.execRateLower n s
  | .acctLatch o n => Sys2Proof.Machine.execAcctLatch o n s
  | .tdPassStart n => Sys2Proof.Machine.execTdPassStart n s
  | .tdViolation n raw => Sys2Proof.Machine.execTdViolation n raw s
  | .spectralVerdict n raw => Sys2Proof.Machine.execSpectralVerdict n raw s
  | .stencilMaskWrite o addr w => Sys2Proof.Machine.execStencilMaskWrite o addr w s
  | .eventPublish c prod => Sys2Proof.Machine.execEventPublish c prod s
  | .eventFabricTick c merged => Sys2Proof.Machine.execEventFabricTick c merged s
  | .eventArrival consumer c merged => Sys2Proof.Machine.execEventArrival consumer c merged s
  | .levelHoldExpiry c => Sys2Proof.Machine.execLevelHoldExpiry c s
  | .claim o c => Sys2Proof.Machine.execClaim o c s
  | .release o c => Sys2Proof.Machine.execRelease o c s
  | .setShared o c => Sys2Proof.Machine.execSetShared o c s
  | .setPrivate o c => Sys2Proof.Machine.execSetPrivate o c s
  | .claimGroup o grp => Sys2Proof.Machine.execClaimGroup o grp s
  | .releaseGroup o grp => Sys2Proof.Machine.execReleaseGroup o grp s
  | .groupEnable w grp => Sys2Proof.Machine.execGroupEnable w grp s
  | .groupDisable w grp => Sys2Proof.Machine.execGroupDisable w grp s
  | .inject o c => Sys2Proof.Machine.execInject o c s
  | .producerRegister o c prod => Sys2Proof.Machine.execProducerRegister o c prod s
  | .subscriptionWrite o addr w => Sys2Proof.Machine.execSubscriptionWrite o addr w s
  | .select o => Sys2Proof.Machine.execSelect o s
  | .bypass o => Sys2Proof.Machine.execBypass o s
  | .refLoss => Sys2Proof.Machine.execRefLoss s
  | .lockDeclared => Sys2Proof.Machine.execLockDeclared s
  | .unlock => Sys2Proof.Machine.execUnlock s
  | .refMonitorGate dev => Sys2Proof.Machine.execRefMonitorGate dev s
  | .lockMonGate transitions => Sys2Proof.Machine.execLockMonGate transitions s
  | .refAcquireTimeout => Sys2Proof.Machine.execRefAcquireTimeout s
  | .genRateWrite o rate => Sys2Proof.Machine.execGenRateWrite o rate s
  | .capRateWrite o rate => Sys2Proof.Machine.execCapRateWrite o rate s
  | .synthAcquired cap => Sys2Proof.Machine.execSynthAcquired cap s
  | .glideDone cap => Sys2Proof.Machine.execGlideDone cap s
  | .synthRelock cap => Sys2Proof.Machine.execSynthRelock cap s
  | .sscChange => Sys2Proof.Machine.execSscChange s
  | .ppsCapture ticks frac => Sys2Proof.Machine.execPpsCapture ticks frac s
  | .ppsMissing => Sys2Proof.Machine.execPpsMissing s
  | .ppsModeWrite o mode => Sys2Proof.Machine.execPpsModeWrite o mode s
  | .roleWrite o role => Sys2Proof.Machine.execRoleWrite o role s
  | .join o => Sys2Proof.Machine.execJoin o s
  | .leave o => Sys2Proof.Machine.execLeave o s
  | .measureDone => Sys2Proof.Machine.execMeasureDone s
  | .syncJoined ticks hops total => Sys2Proof.Machine.execSyncJoined ticks hops total s
  | .syncTriggerFrame up crcOk a b => Sys2Proof.Machine.execSyncTriggerFrame up crcOk a b s
  | .syncTimeFrame crcOk ticks lead => Sys2Proof.Machine.execSyncTimeFrame crcOk ticks lead s
  | .syncMeasureFrame crcOk sn => Sys2Proof.Machine.execSyncMeasureFrame crcOk sn s
  | .syncEchoFrame crcOk roundTrip => Sys2Proof.Machine.execSyncEchoFrame crcOk roundTrip s
  | .syncSplitFrame crcOk hop => Sys2Proof.Machine.execSyncSplitFrame crcOk hop s
  | .syncCorrectFrame crcOk at32 c4 => Sys2Proof.Machine.execSyncCorrectFrame crcOk at32 c4 s
  | .syncLinkDown up => Sys2Proof.Machine.execSyncLinkDown up s
  | .syncPublish line => Sys2Proof.Machine.execSyncPublish line s
  | .burnishBoundary => Sys2Proof.Machine.execBurnishBoundary s
  | .estimatorBlock cap n e r b => Sys2Proof.Machine.execEstimatorBlock cap n e r b s
  | .timingBurst cap n gap => Sys2Proof.Machine.execTimingBurst cap n gap s
  | .timingBurstEnd cap n r => Sys2Proof.Machine.execTimingBurstEnd cap n r s
  | .timingCalStarved cap n => Sys2Proof.Machine.execTimingCalStarved cap n s
  | .take o scopeGen scopeCap => Sys2Proof.Machine.execTake o scopeGen scopeCap s
  | .restore o immediate parts => Sys2Proof.Machine.execRestore o immediate parts s
  | .memcCfgWrite o w => Sys2Proof.Machine.execMemcCfgWrite o w s
  | .memReinitDone => Sys2Proof.Machine.execMemReinitDone s
  | .dramTrainingDone rs => Sys2Proof.Machine.execDramTrainingDone rs s
  | .memEcc a req inst => Sys2Proof.Machine.execMemEcc a req inst s
  | .patrolScrub a corrected => Sys2Proof.Machine.execPatrolScrub a corrected s
  | .dramTempPoll temps => Sys2Proof.Machine.execDramTempPoll temps s
  | .retrain o mif => Sys2Proof.Machine.execRetrain o mif s
  | .retrainDone mif r => Sys2Proof.Machine.execRetrainDone mif r s
  | .portPanic p fill => Sys2Proof.Machine.execPortPanic p fill s
  | .mandatoryRefresh mif => Sys2Proof.Machine.execMandatoryRefresh mif s
  | .spadEcc a req inst => Sys2Proof.Machine.execSpadEcc a req inst s
  | .spadPatrol corrected bad => Sys2Proof.Machine.execSpadPatrol corrected bad s
  | .spadCollision host o addr w => Sys2Proof.Machine.execSpadCollision host o addr w s
  | .spadRecoveryDone corrected bad => Sys2Proof.Machine.execSpadRecoveryDone corrected bad s
  | .spadTestGo o bank => Sys2Proof.Machine.execSpadTestGo o bank s
  | .spadTestDone pass => Sys2Proof.Machine.execSpadTestDone pass s
  | .frameClaim o count => Sys2Proof.Machine.execFrameClaim o count s
  | .frameRelease o count => Sys2Proof.Machine.execFrameRelease o count s
  | .frameDone => Sys2Proof.Machine.execFrameDone s
  | .hostMemoryAccess h a => Sys2Proof.Machine.execHostMemoryAccess h a s
  | .commit o => Sys2Proof.Machine.execCommit o s
  | .xlatCancel o => Sys2Proof.Machine.execXlatCancel o s
  | .xlatCheckDone sess => Sys2Proof.Machine.execXlatCheckDone sess s
  | .xlatDone sess => Sys2Proof.Machine.execXlatDone sess s
  | .dmaSlotWrite o addr w => Sys2Proof.Machine.execDmaSlotWrite o addr w s
  | .tailWrite o q tail => Sys2Proof.Machine.execTailWrite o q tail s
  | .queueClaim o q => Sys2Proof.Machine.execQueueClaim o q s
  | .queueRelease o q => Sys2Proof.Machine.execQueueRelease o q s
  | .queueCancel o q => Sys2Proof.Machine.execQueueCancel o q s
  | .dmaResume o q => Sys2Proof.Machine.execDmaResume o q s
  | .dmaAbort o q => Sys2Proof.Machine.execDmaAbort o q s
  | .dmaChunkStart => Sys2Proof.Machine.execDmaChunkStart s
  | .dmaChunkDone chunk => Sys2Proof.Machine.execDmaChunkDone chunk s
  | .lifecycle o => Sys2Proof.Machine.execLifecycle o s
  | .keyLoad o => Sys2Proof.Machine.execKeyLoad o s
  | .alarmClear o => Sys2Proof.Machine.execAlarmClear o s
  | .fwStage o readBackOk => Sys2Proof.Machine.execFwStage o readBackOk s
  | .fwConfirm o => Sys2Proof.Machine.execFwConfirm o s
  | .settingsSave o => Sys2Proof.Machine.execSettingsSave o s
  | .atelierRestart o => Sys2Proof.Machine.execAtelierRestart o s
  | .journalClear o => Sys2Proof.Machine.execJournalClear o s
  | .atelierHeartbeatTimeout => Sys2Proof.Machine.execAtelierHeartbeatTimeout s
  | .atelierTrap memory => Sys2Proof.Machine.execAtelierTrap memory s
  | .atelierRunning => Sys2Proof.Machine.execAtelierRunning s
  | .fwTrialTimeout => Sys2Proof.Machine.execFwTrialTimeout s
  | .tamper lid => Sys2Proof.Machine.execTamper lid s
  | .flashRefresh what => Sys2Proof.Machine.execFlashRefresh what s
  | .hoursUpdate => Sys2Proof.Machine.execHoursUpdate s
  | .feedChange f volts ma => Sys2Proof.Machine.execFeedChange f volts ma s
  | .feedIsolate o isolate0 isolate1 => Sys2Proof.Machine.execFeedIsolate o isolate0 isolate1 s
  | .feedHighRejoin f => Sys2Proof.Machine.execFeedHighRejoin f s
  | .powerFail => Sys2Proof.Machine.execPowerFail s
  | .restEnter o => Sys2Proof.Machine.execRestEnter o s
  | .restEntered => Sys2Proof.Machine.execRestEntered s
  | .restWake o => Sys2Proof.Machine.execRestWake o s
  | .restScheduleWake => Sys2Proof.Machine.execRestScheduleWake s
  | .restWakeDone => Sys2Proof.Machine.execRestWakeDone s
  | .thermState st sensor temp => Sys2Proof.Machine.execThermState st sensor temp s
  | .thermalTrip sensor => Sys2Proof.Machine.execThermalTrip sensor s
  | .baseplateRange out temp => Sys2Proof.Machine.execBaseplateRange out temp s
  | .loopCmdGo o ch => Sys2Proof.Machine.execLoopCmdGo o ch s
  | .capLoopDone ampl time => Sys2Proof.Machine.execCapLoopDone ampl time s
  | .strokeClip n cycle => Sys2Proof.Machine.execStrokeClip n cycle s
  | .adcClip n raw => Sys2Proof.Machine.execAdcClip n raw s
  | .stylusLimit n cycle => Sys2Proof.Machine.execStylusLimit n cycle s
  | .refInPresent present => Sys2Proof.Machine.execRefInPresent present s
  | .syncLinkUp up => Sys2Proof.Machine.execSyncLinkUp up s
  | .tamperInputRestored lid => Sys2Proof.Machine.execTamperInputRestored lid s
  | .spadStartupTestDone failing => Sys2Proof.Machine.execSpadStartupTestDone failing s
  | .duplicateAddressDetection port duplicate => Sys2Proof.Machine.execDuplicateAddressDetection port duplicate s
  | .unsupportedFrame port why => Sys2Proof.Machine.execUnsupportedFrame port why s
  | .discardedMessage port why => Sys2Proof.Machine.execDiscardedMessage port why s

end Sys2Proof.Machine
end

