-- ==== Sys2Proof/WellFormed.lean ====
section
/-! DEFINITION. Sys2Proof/WellFormed.lean: which commands are well formed: every operand that names a thing names one of the
things the largest variant has, and every operand that fills a field fits it. Whether the fitted variant has it, and
whether the sender may do it, the meanings judge. -/
namespace Sys2Proof

/-- A session number (R459). -/
def okSess (k : Nat) : Bool := decide (1 ≤ k ∧ k ≤ 16)
/-- A port (R446). -/
def okPort (p : Nat) : Bool := decide (p < 2)
/-- A page number (R482). -/
def okPage (p : Nat) : Bool := decide (p < 4096)
/-- A device address (R480, R460): 48 bits, a multiple of 4. -/
def okAddr (a : Nat) : Bool := decide (a < 2 ^ 48) && a % 4 == 0
/-- A plate (R82). -/
def okPlate (p : Nat) : Bool := decide (p < 256)
/-- A schedule entry (R167). -/
def okEntry (i : Nat) : Bool := decide (i < 1024)
/-- An event group (R292). -/
def okGroup (g : Nat) : Bool := decide (g < 16)
/-- A scratchpad bank (R398). -/
def okBank (b : Nat) : Bool := decide (b < 32)
/-- A DRAM interface (R372). -/
def okMif (i : Nat) : Bool := decide (i < 6)
/-- A DMA queue (R431). -/
def okQueue (q : Nat) : Bool := decide (q < 16)
/-- A capture channel (R2). -/
def okCap (n : Nat) : Bool := decide (n < 4)
/-- A generate channel (R2). -/
def okGen (n : Nat) : Bool := decide (n < 16)
/-- A channel of the calibration engine: a capture channel where `cap` says so, and a generate channel otherwise. -/
def okChan (cap : Bool) (n : Nat) : Bool := if cap then okCap n else okGen n
/-- A pattern group (R2). -/
def okGroup4 (g : Nat) : Bool := decide (g < 4)
/-- A Graver: 0 to 15 of the generate channels, 16 to 19 of the pattern groups (R108). -/
def okGraver (g : Nat) : Bool := decide (g < 20)
/-- A trigger input or output (R190). -/
def okTrig (k : Nat) : Bool := decide (k < 4)
/-- A scenario (R147). -/
def okScen (k : Nat) : Bool := decide (k < 64)
/-- An event channel (R290). -/
def okChannel (c : Nat) : Bool := decide (c < 256)
/-- A jump slot of a step (R113). -/
def okSlot (j : Nat) : Bool := decide (j < 4)
/-- A temperature sensor (R541). -/
def okSensor (i : Nat) : Bool := decide (i < 8)
/-- A feed (R528). -/
def okFeed (f : Nat) : Bool := decide (f < 2)
/-- Where a single access comes from. -/
def okOrg (o : Org) : Bool := okSess o.sess
/-- A message header (R452). -/
def okHdr (h : Hdr) : Bool := okSess h.sess && okPort h.port && decide (h.token < 2 ^ 64)
/-- A pin driver (R194, R219). -/
def okDriver : DriverPort → Bool
  | .lane g i => okGroup4 g && decide (i < 8)
  | .trigIn k => okTrig k
  | .trigOut k => okTrig k
  | .output n => okGen n
/-- The body of an OPEN_REQ (R457). -/
def okOpen (r : OpenReq) : Bool :=
  okPort r.port && decide (r.hostId < 65536 ∧ r.target < 256 ∧ r.leaseMs < 65536 ∧ r.alt < 2 ^ 128 ∧ r.altUdp < 65536)
/-- Who changes a group's state. -/
def okBy : GroupBy → Bool
  | .write o => okOrg o
  | .event => true
/-- The words of a WRITE (R460). -/
def okWords (l : List Word) : Bool := decide (1 ≤ l.length ∧ l.length ≤ 64)
/-- The bytes of a BULK (R460). -/
def okLine (l : List Byte) : Bool := decide (64 ≤ l.length ∧ l.length ≤ 8192 ∧ l.length % 64 = 0)
/-- The COUNT of a READ (R460). -/
def okCount (n : Nat) : Bool := decide (1 ≤ n ∧ n ≤ 256)
/-- The entries of a STREAM_ACK (R466). -/
def okEntries (l : List AckEntry) : Bool := decide (1 ≤ l.length ∧ l.length ≤ 32) && l.all (fun e => okCap e.chan)
/-- An access to device memory (R460). -/
def okMem : MemAccess → Bool
  | .read a n => okAddr a && okCount n
  | .write _ a l => okAddr a && okWords l
  | .bulk _ a l => okAddr a && okLine l
/-- What a flash refresh rewrites (R520, R522). -/
def okRefresh : Refresh → Bool
  | .record ty => decide (1 ≤ ty ∧ ty ≤ 6)
  | .slot i => decide (i < 2)

/-- A command is well formed. -/
def Instr.wf : Instr → Bool
  | .registerWrite o addr _ => okOrg o && okAddr addr
  | .shadowLowRead o addr => okOrg o && okAddr addr
  | .shadowHighWrite o addr _ => okOrg o && okAddr addr
  | .shadowLowWrite o addr _ => okOrg o && okAddr addr
  | .clearOnRead o addr => okOrg o && okAddr addr
  | .counterClear o addr _ _ => okOrg o && okAddr addr
  | .noticeRawClear o page _ _ => okOrg o && okPage page
  | .openReq r => okOpen r
  | .openProof port _ _ _ _ => okPort port
  | .openProofTimeout _ => true
  | .close h => okHdr h
  | .read h addr count => okHdr h && okAddr addr && okCount count
  | .write h _ addr data => okHdr h && okAddr addr && okWords data
  | .bulk h _ addr data => okHdr h && okAddr addr && okLine data
  | .ack h => okHdr h
  | .bareAckSend sess => okSess sess
  | .retransmit sess _ => okSess sess
  | .credit h _ => okHdr h
  | .heartbeat h => okHdr h
  | .pullData h _ _ => okHdr h
  | .pullErr h _ reason => okHdr h && decide (reason < 256)
  | .pullTimeout sess _ => okSess sess
  | .stream ch => okCap ch
  | .streamAck h entries => okHdr h && okEntries entries
  | .streamBlockDeadline sess ch _ _ => okSess sess && okCap ch
  | .deliveryGap sess ch => okSess sess && okCap ch
  | .notice sess => okSess sess
  | .leaseExpiry sess => okSess sess
  | .graceExpiry sess => okSess sess
  | .claimPage o page => okOrg o && okPage page
  | .releasePage o page => okOrg o && okPage page
  | .portDown port _ => okPort port
  | .portUp port => okPort port
  | .portBypass o port _ => okOrg o && okPort port
  | .arpFrame port _ => okPort port
  | .ndpFrame port _ => okPort port
  | .icmpEcho port _ _ _ _ => okPort port
  | .dhcpMessage port _ => okPort port
  | .dhcpLeaseTimer port _ => okPort port
  | .moduleResetCmd o key _ => okOrg o && decide (key < 65536)
  | .moduleReset cause => decide (1 ≤ cause ∧ cause ≤ 4)
  | .boot _ _ _ => true
  | .blockEnable o page _ => okOrg o && okPage page
  | .blockReady page => okPage page
  | .blockPark o page _ => okOrg o && okPage page
  | .blockReset o page => okOrg o && okPage page
  | .blockResetDone page => okPage page
  | .faultClr o page _ => okOrg o && okPage page
  | .muteSet o n => okOrg o && okGen n
  | .muteClear o n _ => okOrg o && okGen n
  | .outputSettled n => okGen n
  | .fill g _ _ _ _ _ => okGraver g
  | .stylusSlotLoad n _ _ => okGen n
  | .graverJump g slot _ _ _ => okGraver g && okSlot slot
  | .jumpCancelEvent g slot _ => okGraver g && okSlot slot
  | .eventCutAdvance g _ _ _ => okGraver g
  | .advanceLatch g => okGraver g
  | .timeAdvance g _ => okGraver g
  | .passEnd g _ => okGraver g
  | .tableEcc g _ _ => okGraver g
  | .markerEdge n k _ => okGen n && decide (k < 2)
  | .jcacheFillDone g _ slot => okGraver g && decide (slot < 6)
  | .commitGo o g => okOrg o && okGraver g
  | .commitCancel o g => okOrg o && okGraver g
  | .commitCheckDone g => okGraver g
  | .commitReady g => okGraver g
  | .commitTakesEffect g => okGraver g
  | .shadowResyncDone g => okGraver g
  | .shadowWindowWrite o addr _ => okOrg o && okAddr addr
  | .tableCapacityWrite o g capacity => okOrg o && okGraver g && decide (capacity < 65)
  | .directoryWrite o addr _ => okOrg o && okAddr addr
  | .descriptorWrite o addr _ => okOrg o && okAddr addr
  | .plateRecordWrite o addr _ => okOrg o && okAddr addr
  | .plateClaim o plate => okOrg o && okPlate plate
  | .platePin o plate => okOrg o && okPlate plate
  | .plateUnpin o plate => okOrg o && okPlate plate
  | .plateRelease o plate => okOrg o && okPlate plate
  | .plateDone => true
  | .scenRecordWrite o addr _ => okOrg o && okAddr addr
  | .arm o k => okOrg o && okScen k
  | .armDone k => okScen k
  | .start o k => okOrg o && okScen k
  | .stop o k => okOrg o && okScen k
  | .stopBoundary o k => okOrg o && okScen k
  | .park o k => okOrg o && okScen k
  | .resume o k => okOrg o && okScen k
  | .disarm o k => okOrg o && okScen k
  | .disarmDone k => okScen k
  | .cancel o k => okOrg o && okScen k
  | .scenRelease o k => okOrg o && okScen k
  | .actionTime k => okScen k
  | .startEvent k => okScen k
  | .schedEntryWrite o addr _ => okOrg o && okAddr addr
  | .submit o entry => okOrg o && okEntry entry
  | .remove o entry => okOrg o && okEntry entry
  | .schedDue entry => okEntry entry
  | .schedExtrapolate entry => okEntry entry
  | .laneFormatSettled g => okGroup4 g
  | .laneOvercurrent p => okDriver p
  | .laneContention p => okDriver p
  | .overcurrentClear o _ g _ _ => okOrg o && okGroup4 g
  | .contentionClear o _ g _ _ => okOrg o && okGroup4 g
  | .reenableHoldExpiry p => okDriver p
  | .trigInEdge k _ _ frac => okTrig k && decide (frac < 65536)
  | .trigOutEvent k => okTrig k
  | .trigOutPulseEnd k => okTrig k
  | .windowVerdict n _ => okGen n
  | .overload n _ => okGen n
  | .overloadClear o n _ => okOrg o && okGen n
  | .overloadReexamDone n _ _ => okGen n
  | .proofContention n _ _ => okGen n
  | .proofOpen n _ _ => okGen n
  | .testGo o n => okOrg o && okGen n
  | .testAbort o n _ => okOrg o && okGen n
  | .proofTestDone n _ => okGen n
  | .snapRun o n => okOrg o && okGen n
  | .snapFreeze o n _ => okOrg o && okGen n
  | .modelTakesEffect n => okGen n
  | .frontEndSettled n => okCap n
  | .inputOvervolt n _ => okCap n
  | .protectExit n _ => okCap n
  | .triggerCandidate n _ => okCap n
  | .triggerRecord n => okCap n
  | .trigConfigWrite o addr _ => okOrg o && okAddr addr
  | .avgFactorChange n => okCap n
  | .acqStart o n => okOrg o && okCap n
  | .acqStop o n => okOrg o && okCap n
  | .acqBegin n => okCap n
  | .rearmInstant n => okCap n
  | .recordEnd n => okCap n
  | .ringEnable o n _ => okOrg o && okCap n
  | .blockClose n _ _ => okCap n
  | .blockFlush n _ _ => okCap n
  | .rateRaise n => okCap n
  | .rateLower n => okCap n
  | .acctLatch o n => okOrg o && okCap n
  | .tdPassStart n => okCap n
  | .tdViolation n _ => okCap n
  | .spectralVerdict n _ => okCap n
  | .stencilMaskWrite o addr _ => okOrg o && okAddr addr
  | .eventPublish c _ => okChannel c
  | .eventFabricTick c _ => okChannel c
  | .eventArrival _ c _ => okChannel c
  | .levelHoldExpiry c => okChannel c
  | .claim o c => okOrg o && okChannel c
  | .release o c => okOrg o && okChannel c
  | .setShared o c => okOrg o && okChannel c
  | .setPrivate o c => okOrg o && okChannel c
  | .claimGroup o grp => okOrg o && okGroup grp
  | .releaseGroup o grp => okOrg o && okGroup grp
  | .groupEnable w grp => okBy w && okGroup grp
  | .groupDisable w grp => okBy w && okGroup grp
  | .inject o c => okOrg o && okChannel c
  | .producerRegister o c _ => okOrg o && okChannel c
  | .subscriptionWrite o addr _ => okOrg o && okAddr addr
  | .select o => okOrg o
  | .bypass o => okOrg o
  | .refLoss => true
  | .lockDeclared => true
  | .unlock => true
  | .refMonitorGate _ => true
  | .lockMonGate _ => true
  | .refAcquireTimeout => true
  | .genRateWrite o rate => okOrg o && decide (rate < 2 ^ 48)
  | .capRateWrite o rate => okOrg o && decide (rate < 2 ^ 48)
  | .synthAcquired _ => true
  | .glideDone _ => true
  | .synthRelock _ => true
  | .sscChange => true
  | .ppsCapture _ frac => decide (frac < 65536)
  | .ppsMissing => true
  | .ppsModeWrite o mode => okOrg o && decide (mode < 4)
  | .roleWrite o role => okOrg o && decide (role < 4)
  | .join o => okOrg o
  | .leave o => okOrg o
  | .measureDone => true
  | .syncJoined _ _ _ => true
  | .syncTriggerFrame _ _ _ _ => true
  | .syncTimeFrame _ _ _ => true
  | .syncMeasureFrame _ _ => true
  | .syncEchoFrame _ _ => true
  | .syncSplitFrame _ _ => true
  | .syncCorrectFrame _ _ _ => true
  | .syncLinkDown _ => true
  | .syncPublish line => decide (line < 2)
  | .burnishBoundary => true
  | .estimatorBlock cap n _ _ _ => okChan cap n
  | .timingBurst cap n _ => okChan cap n
  | .timingBurstEnd cap n _ => okChan cap n
  | .timingCalStarved cap n => okChan cap n
  | .take o scopeGen scopeCap => okOrg o && decide (scopeGen < 65536) && decide (scopeCap < 16)
  | .restore o _ parts => okOrg o && decide (parts < 8)
  | .memcCfgWrite o _ => okOrg o
  | .memReinitDone => true
  | .dramTrainingDone _ => true
  | .memEcc _ _ _ => true
  | .patrolScrub _ _ => true
  | .dramTempPoll _ => true
  | .retrain o mif => okOrg o && okMif mif
  | .retrainDone mif _ => okMif mif
  | .portPanic p _ => decide (p < 28)
  | .mandatoryRefresh mif => okMif mif
  | .spadEcc _ _ _ => true
  | .spadPatrol _ _ => true
  | .spadCollision _ o addr _ => okOrg o && okAddr addr
  | .spadRecoveryDone _ _ => true
  | .spadTestGo o bank => okOrg o && okBank bank
  | .spadTestDone _ => true
  | .frameClaim o _ => okOrg o
  | .frameRelease o _ => okOrg o
  | .frameDone => true
  | .hostMemoryAccess h a => okHdr h && okMem a
  | .commit o => okOrg o
  | .xlatCancel o => okOrg o
  | .xlatCheckDone sess => okSess sess
  | .xlatDone sess => okSess sess
  | .dmaSlotWrite o addr _ => okOrg o && okAddr addr
  | .tailWrite o q tail => okOrg o && okQueue q && decide (tail < 64)
  | .queueClaim o q => okOrg o && okQueue q
  | .queueRelease o q => okOrg o && okQueue q
  | .queueCancel o q => okOrg o && okQueue q
  | .dmaResume o q => okOrg o && okQueue q
  | .dmaAbort o q => okOrg o && okQueue q
  | .dmaChunkStart => true
  | .dmaChunkDone _ => true
  | .lifecycle o => okOrg o
  | .keyLoad o => okOrg o
  | .alarmClear o => okOrg o
  | .fwStage o _ => okOrg o
  | .fwConfirm o => okOrg o
  | .settingsSave o => okOrg o
  | .atelierRestart o => okOrg o
  | .journalClear o => okOrg o
  | .atelierHeartbeatTimeout => true
  | .atelierTrap _ => true
  | .atelierRunning => true
  | .fwTrialTimeout => true
  | .tamper _ => true
  | .flashRefresh what => okRefresh what
  | .hoursUpdate => true
  | .feedChange f volts ma => okFeed f && decide (volts < 65536) && decide (ma < 65536)
  | .feedIsolate o _ _ => okOrg o
  | .feedHighRejoin f => okFeed f
  | .powerFail => true
  | .restEnter o => okOrg o
  | .restEntered => true
  | .restWake o => okOrg o
  | .restScheduleWake => true
  | .restWakeDone => true
  | .thermState st sensor _ => decide (st < 4) && okSensor sensor
  | .thermalTrip sensor => okSensor sensor
  | .baseplateRange _ _ => true
  | .loopCmdGo o ch => okOrg o && okCap ch
  | .capLoopDone _ _ => true
  | .strokeClip n _ => okGen n
  | .adcClip n _ => okCap n
  | .stylusLimit n _ => okGen n
  | .refInPresent _ => true
  | .syncLinkUp _ => true
  | .tamperInputRestored _ => true
  | .spadStartupTestDone _ => true
  | .duplicateAddressDetection port _ => okPort port
  | .unsupportedFrame port _ => okPort port
  | .discardedMessage port _ => okPort port

end Sys2Proof
end

