-- ==== Sys2Proof/Safety.lean ====
section
/-! DEFINITION. Sys2Proof/Safety.lean: what counts as a safe run of the block, what every step is to keep, and the words the
statements are made of: an accepted access, its answer, and what a command leaves alone. -/
namespace Sys2Proof.Machine
open Sys2Proof

/-! ### What every step keeps -/

/-- The register file is in its canonical form: each register has one home, listed only off its reset value (R478). -/
abbrev State.regsWf (s : State) : Prop := stWf (regReset s.variant) s.regs = true

/-- The memory is in its canonical form. -/
abbrev State.memWf (s : State) : Prop := Memory.wf s.mem

/-- What every step keeps: the stores in canonical form, sixteen session numbers and two ports (R446, R459), and one record an
instance of the largest variant for each engine and port (R2, R108, R147, R190, R341, R345, R372, R383, R431, R514, R528). -/
structure State.Inv (s : State) : Prop where
  regs : s.regsWf
  mem : s.memWf
  frames : stWf (fun _ => 0) s.frames = true
  sess : s.xport.sess.length = 16
  ports : s.xport.ports.length = 2
  gens : s.gens.length = 16
  gravers : s.gravers.length = 20
  scens : s.scens.length = 64
  proofs : s.proofs.length = 16
  tracers : s.tracers.length = 4
  trigOuts : s.lanes.outs.length = 4
  trigIns : s.lanes.lastEdge.length = 4
  syncSlots : s.clk.sync.slots.length = 2
  syncBad : s.clk.sync.bad.length = 2
  cool : s.dram.cool.length = 6
  panics : s.dram.panicAt.length = 28
  taken : s.dma.taken.length = 16
  turn : s.dma.turn.length = 4
  slots : s.trust.slots.length = 2
  feeds : s.power.okAt.length = 2

/-- `n` steps from a state, ended early by a fault or a refusal. -/
def State.run : Nat → State → Host.Outcome State Fault Refusal
  | 0, s => .next s
  | n + 1, s =>
    match Sys2Proof.Machine.step s with
    | .next t => State.run n t
    | r => r

/-- A safe run: no command stops the block. -/
def State.runsSafely (n : Nat) (s : State) : Prop := ∃ t, State.run n s = .next t

/-! ### An access and its answer (R454, R461, R462, R490) -/

/-- A host write of `w` at register address `a` reaches its register: the session is open, and the order of R490 lets it
through. -/
def State.Accepts (s : State) (o : Org) (a : Nat) (w : Word) : Prop :=
  s.isOpen o.sess = true ∧ s.judge o.sess a w = .ok ()

/-- A host write to a table window is carried out: the session is open, and neither Rest nor retirement refuses it (R508,
R535). -/
def State.AcceptsTable (s : State) (o : Org) : Prop := s.isOpen o.sess = true ∧ s.restState < 2 ∧ s.retired = false

/-- A state with the write of one word answered: a RESPONSE with status OK, or, where it was posted, its credit returned. -/
def State.ackWrite (s : State) (o : Org) : State :=
  if o.posted then s.returnCredit o.sess else s.respond o.sess o.seq .ok 1 0 []

/-- A state with the write of one word at `a` refused with `c` and reported, and nothing else changed. -/
def State.turnedAway (s : State) (o : Org) (a : Nat) (c : Code) : State :=
  if o.posted then s.postedFail o.sess o.seq c 0 a else s.respond o.sess o.seq c 0 a []

/-- A message of header `h` passes the checks of R454: its session is open and its lease runs, it carries the token, it came on a
port the session uses, and its LENGTH is right. -/
def State.Hears (s : State) (h : Hdr) : Prop :=
  s.isOpen h.sess = true ∧ s.now < s.leaseEnd h.sess ∧ (s.ses h.sess).token = h.token ∧ s.usesPort h.sess (h.port % 2) = true
    ∧ h.lengthOk = true

/-- Nothing comes by itself up to tick `t`: no command waits in the unit's queues, no entry falls due, and no acquisition is to begin or
to end (R153, R169, R171, R259). -/
structure State.Idle (s : State) (t : Nat) : Prop where
  scenQ : s.unit.scenQ = []
  schedQ : s.unit.schedQ = []
  entries : ∀ e, s.entryDue = some e → t + 3000 < e.2
  caps : ∀ n, (s.trc n).startAt = none ∧ (s.trc n).endAt = none

/-- The unit takes a command of SCEN.CMD as soon as it is written. -/
def State.TakesScen (s : State) : Prop := s.Idle s.now ∧ s.unit.scenFree ≤ s.now

/-- The unit takes a command of SCHED.CMD as soon as it is written. -/
def State.TakesSched (s : State) : Prop := s.Idle s.now ∧ s.unit.schedFree ≤ s.now

/-! ### What a command leaves alone -/

/-- A register that notices write: a session's copy of a PAGE_NOTICE_RAW, or a register of its NOTE page (R469, R489). -/
def noticeKey (j : Nat) : Prop := 0x1000000 ≤ j ∧ (j % 0x1000 = 0x018 ∨ j % 0x1000000 / 0x1000 = pNOTE)

/-- A register of a channel record that an event or a level of the fabric writes: CHn_STAT or CHn_PUB (R290). -/
def chanKey (j : Nat) : Prop := ∃ c, j = chPage c + XH_CH_STAT (c % 64) ∨ j = chPage c + XH_CH_PUB (c % 64)

/-- The count of frames that port `p` has received (R477). -/
def rxKey (p j : Nat) : Prop := j = base (pLINK (p % 2)) + LINK_RX_FRAMES ∨ j = base (pLINK (p % 2)) + LINK_RX_FRAMES + 4

/-- The count of frames that a port has sent (R477). -/
def txKey (j : Nat) : Prop := ∃ p, p < 2 ∧ (j = base (pLINK p) + LINK_TX_FRAMES ∨ j = base (pLINK p) + LINK_TX_FRAMES + 4)

/-- A register that an uncorrectable line of the scratchpad writes (R410, R488). -/
def lineKey (j : Nat) : Prop :=
  j = base pSPAD + SPAD_ECC_UNCORR_COUNT ∨ j = base pSPAD + SPAD_LAST_UE ∨ j = base pSPAD + SPAD_LAST_UE + 4 ∨ j = base pSPAD + 0x01C

/-- Every register but those that `p` names reads in `t` as in `s`. -/
def State.KeepsRegs (s t : State) (p : Nat → Prop) : Prop := ∀ j, ¬ p j → t.rd j = s.rd j

/-- Every byte of memory but those that `p` names reads in `t` as in `s`. -/
def State.KeepsMem (s t : State) (p : Nat → Prop := fun _ => False) : Prop := ∀ a, ¬ p a → t.mb a = s.mb a

/-- Registers but those that `p` names, and all of memory, read in `t` as in `s`. -/
def State.KeepsBut (s t : State) (p : Nat → Prop) : Prop := s.KeepsRegs t p ∧ s.KeepsMem t

/-- A byte address among the `n` from `a`. -/
def within (a n x : Nat) : Prop := a ≤ x ∧ x < a + n

end Sys2Proof.Machine
end

