-- ==== Sys2Proof/Certificates/Slice0/Obligations.lean ====
section
/-! DEFINITION. Sys2Proof/Certificates/Slice0/Obligations.lean: the statements, in the order of OBLIGATIONS.json. A statement about
a command of the host says that the write is accepted (`Accepts`, `AcceptsTable`) and what stands in the state that is then
answered (`ackWrite`); the answer itself is stated once. -/
open Sys2Proof Sys2Proof.Machine

/-- An accepted write of SET sets the HOST cause and no other; an accepted write of CLEAR clears HOST and, unless a proof stencil
sets it in the same cycle or an overload isolates the connector, PROOF; CLOCK stands while the synthesizer acquires lock; MUTED says
whether a cause stands; no other register but those that notices write changes, and no memory. -/
def Obligations.MuteCausesFollowTheHost : Prop :=
  ∀ (s : State) (o : Org) (n : Nat), n < s.variant.gens →
    (s.Accepts o (base (pGEN n) + GEN_MUTE_CTRL) 2#32 →
      ∃ u : State, exec (.muteSet o n) s = .next (u.ackWrite o) ∧ bit (u.causes n) 0 = true
        ∧ (∀ i, 0 < i → i < 4 → i ≠ 2 → bit (u.causes n) i = bit (s.causes n) i)
        ∧ bit (u.causes n) 2 = (bit (s.causes n) 2 || s.fb (base pCLK) CLK_PAGE_STATUS_GEN_ACQ)
        ∧ u.fb (base (pGEN n)) GEN_MUTE_CTRL_MUTED = true
        ∧ s.KeepsBut u (fun j => j = base (pGEN n) + GEN_MUTE_CTRL ∨ noticeKey j))
    ∧ ∀ proofToo, s.Accepts o (base (pGEN n) + GEN_MUTE_CTRL) 4#32 →
      ∃ u : State, exec (.muteClear o n proofToo) s = .next (u.ackWrite o) ∧ bit (u.causes n) 0 = false
        ∧ bit (u.causes n) 1 = (proofToo || (bit (s.causes n) 1 && s.fb (base (pGEN n)) GEN_PROOF_FAULT_ISOLATED))
        ∧ bit (u.causes n) 2 = (bit (s.causes n) 2 || s.fb (base pCLK) CLK_PAGE_STATUS_GEN_ACQ)
        ∧ bit (u.causes n) 3 = bit (s.causes n) 3
        ∧ u.fb (base (pGEN n)) GEN_MUTE_CTRL_MUTED = (u.causes n != 0)
        ∧ s.KeepsBut u (fun j => j = base (pGEN n) + GEN_MUTE_CTRL ∨ noticeKey j)

/-- A stroke of which the amplitude scale limits a sample counts in CLIP_COUNT, and no other stroke; a fill episode counts its strokes in FILL_COUNT, with those an interpolated segment adds on
either side, and an underrun also in UNDERRUN_COUNT; a stroke of which the Stylus output is limited counts in LIMIT_COUNT and sets
LIMIT, and no other stroke; the counters saturate; an output stage that has settled loses the CLOCK mute cause unless the synthesizer acquires. What each leaves alone. -/
def Obligations.ChannelEventsAreCounted : Prop :=
  ∀ (s : State) (n : Nat), n < s.variant.gens →
    (∀ cycle, s.strokeHas n cycle (fun j r older later => (s.scaled n cycle j r older later).2) = true →
      ∃ t : State, exec (.strokeClip n cycle) s = .next t
      ∧ t.fg (base (pGEN n)) GEN_CLIP_COUNT_COUNT = satAdd 0xFFFFFFFF (s.fg (base (pGEN n)) GEN_CLIP_COUNT_COUNT) 1
      ∧ s.KeepsBut t (fun j => j = base (pGEN n) + GEN_CLIP_COUNT ∨ noticeKey j))
    ∧ (∀ cycle, s.strokeHas n cycle (fun j r older later => (s.scaled n cycle j r older later).2) = false →
      exec (.strokeClip n cycle) s = .next s)
    ∧ (∀ cycle, s.strokeHas n cycle (fun j r _ _ => (s.stylusAt n cycle j r).2) = true →
      ∃ t : State, exec (.stylusLimit n cycle) s = .next t
      ∧ t.fg (base (pGEN n)) GEN_STYLUS_LIMIT_COUNT_COUNT = satAdd 0xFFFFFFFF (s.fg (base (pGEN n)) GEN_STYLUS_LIMIT_COUNT_COUNT) 1
      ∧ t.fg (base (pGEN n)) GEN_STYLUS_STATUS_LIMIT = 1
      ∧ s.KeepsBut t (fun j => j = base (pGEN n) + GEN_STYLUS_LIMIT_COUNT ∨ j = base (pGEN n) + GEN_STYLUS_STATUS))
    ∧ (∀ cycle, s.strokeHas n cycle (fun j r _ _ => (s.stylusAt n cycle j r).2) = false → exec (.stylusLimit n cycle) s = .next s)
    ∧ (∀ cause first missing before after, ∃ t : State, exec (.fill n cause first missing before after) s = .next t
      ∧ t.fg (base (pGEN n)) GEN_FILL_COUNT_COUNT
        = satAdd 0xFFFFFFFF (s.fg (base (pGEN n)) GEN_FILL_COUNT_COUNT) (s.fillSpan n first missing before after).2
      ∧ t.fg (base (pGEN n)) GEN_UNDERRUN_COUNT_COUNT
        = (if cause = .underrun then satAdd 0xFFFFFFFF (s.fg (base (pGEN n)) GEN_UNDERRUN_COUNT_COUNT) missing
          else s.fg (base (pGEN n)) GEN_UNDERRUN_COUNT_COUNT)
      ∧ s.KeepsBut t (fun j => j = base (pGEN n) + GEN_FILL_COUNT ∨ j = base (pGEN n) + GEN_UNDERRUN_COUNT ∨ noticeKey j))
    ∧ ((s.gen n).settling = true → s.fb (base pCLK) CLK_PAGE_STATUS_GEN_ACQ = false →
      ∃ t : State, exec (.outputSettled n) s = .next t ∧ bit (t.causes n) 2 = false
        ∧ (∀ i, i ≠ 2 → i < 4 → bit (t.causes n) i = bit (s.causes n) i)
        ∧ s.KeepsBut t (fun j => j = base (pGEN n) + GEN_MUTE_CTRL ∨ noticeKey j))

/-- A session that no other session's OWNER shuts out and no armed scenario's reference locks writes a word of a directory record or
of a descriptor: the writable bits are taken, OWNER becomes the session, and KIND (for a descriptor VERSION) written as 0 releases
it; no register changes and no byte outside the written word and the record's owner word. A record of another session refuses with
OWNER, and a referenced one with LOCKED.
That ownership is judged before the lock is the model's reading (assumption log, entry 117). -/
def Obligations.RecordsAreClaimedByTheirFirstWriter : Prop :=
  ∀ (s : State) (o : Org) (w : Word), s.AcceptsTable o →
    (∀ r i, r < 65536 → i < 6 →
      let a := dirAddr r + 4 * i
      let own := dirAddr r + 0x18
      (s.mbits own 7 0 = 0 ∨ s.mbits own 7 0 = o.sess) → s.mbits own 23 8 = 0 →
      ∃ u : State, exec (.directoryWrite o a w) s = .next (u.ackWrite o) ∧ u.ldw a = maskIn (s.ldw a) w.toNat (dirMask (4 * i))
        ∧ u.mbits own 7 0 = (if i = 0 ∧ w.toNat % 4 = 0 then 0 else o.sess)
        ∧ u.mbits own 31 8 = s.mbits own 31 8
        ∧ s.KeepsRegs u (fun _ => False) ∧ s.KeepsMem u (fun x => within a 4 x ∨ within own 4 x))
    ∧ (∀ r i, r < 65536 → i < 8 →
      let own := dirAddr r + 0x18
      (s.mbits own 7 0 ≠ 0 → s.mbits own 7 0 ≠ o.sess →
        exec (.directoryWrite o (dirAddr r + 4 * i) w) s = .next (s.turnedAway o (dirAddr r + 4 * i) .owner))
      ∧ (s.mbits own 7 0 = o.sess → s.mbits own 23 8 ≠ 0 →
        exec (.directoryWrite o (dirAddr r + 4 * i) w) s = .next (s.turnedAway o (dirAddr r + 4 * i) .locked)))
    ∧ (∀ d i, d < 16384 → i < 64 → i ≠ 3 →
      let a := descAddr d + 4 * i
      let own := descAddr d + 0x0C
      (s.mbits own 7 0 = 0 ∨ s.mbits own 7 0 = o.sess) → s.mbits own 23 8 = 0 →
      ∃ u : State, exec (.descriptorWrite o a w) s = .next (u.ackWrite o) ∧ u.ldw a = maskIn (s.ldw a) w.toNat (descMask (4 * i))
        ∧ u.mbits own 7 0 = (if i = 1 ∧ w.toNat % 256 = 0 then 0 else o.sess)
        ∧ u.mbits own 31 8 = s.mbits own 31 8
        ∧ s.KeepsRegs u (fun _ => False) ∧ s.KeepsMem u (fun x => within a 4 x ∨ within own 4 x))

/-- The owner of a DEFINED plate writes its record; CLAIM makes a FREE plate DEFINED under the session; PIN records the extents of a
mapped plate and makes it PINNED; UNPIN of an unreferenced plate makes it DEFINED; RELEASE of a DEFINED one zeroes the record; each
sets BUSY and keeps its result OK for PLATE_DONE, which shows it, clears BUSY and ends the command; a command while BUSY stands is
refused.
That the effect comes with the command and not with PLATE_DONE is the model's reading (assumption log, entry 118). -/
def Obligations.PlateCommandsTakeEffect : Prop :=
  ∀ (s : State) (o : Org) (p : Nat), p < 256 →
    (∀ i w, i < 16 → s.AcceptsTable o → s.plateOwner p = o.sess → s.plateState p = 1 → s.plateBusyOn p = false →
      ∃ u : State, exec (.plateRecordWrite o (plateAddr p + 4 * i) w) s = .next (u.ackWrite o)
        ∧ u.ldw (plateAddr p + 4 * i) = maskIn (s.ldw (plateAddr p + 4 * i)) w.toNat (plateMask (4 * i))
        ∧ s.KeepsRegs u (fun _ => False) ∧ s.KeepsMem u (within (plateAddr p + 4 * i) 4))
    ∧ (∀ op, 1 ≤ op → op ≤ 4 → s.Accepts o (base pDATU + DATU_PLATE_CMD) (BitVec.ofNat 32 (op * 2 ^ 28 + p)) →
      s.fb (base pDATU) DATU_PLATE_STATUS_BUSY = false →
      let c := (if op = 1 then Instr.plateClaim o p else if op = 2 then .platePin o p else if op = 3 then .plateUnpin o p
        else .plateRelease o p)
      (s.plateOp o.sess p op).1 = .ok →
      ∃ u : State, exec c s = .next (u.ackWrite o) ∧ u.fb (base pDATU) DATU_PLATE_STATUS_BUSY = true
        ∧ u.plates.cmd = some { sess := o.sess, plate := p, op := op, result := 0 }
        ∧ u.plateState p = (if op = 2 then 2 else if op = 4 then 0 else 1)
        ∧ (op = 1 → u.plateOwner p = o.sess) ∧ (op = 4 → u.plateOwner p = 0)
        ∧ s.KeepsRegs u (fun j => j = base pDATU + DATU_PLATE_STATUS) ∧ s.KeepsMem u (within (plateAddr p) 64))
    ∧ (∀ op, 1 ≤ op → op ≤ 4 → s.Accepts o (base pDATU + DATU_PLATE_CMD) (BitVec.ofNat 32 (op * 2 ^ 28 + p)) →
      s.fb (base pDATU) DATU_PLATE_STATUS_BUSY = true →
      (if op = 1 then exec (.plateClaim o p) s else if op = 2 then exec (.platePin o p) s else if op = 3 then exec (.plateUnpin o p) s
        else exec (.plateRelease o p) s) = .next (s.turnedAway o (base pDATU + DATU_PLATE_CMD) .busy))
    ∧ (∀ c, s.plates.cmd = some c → c.plate < 256 → c.result < 256 → 1 ≤ c.sess →
      ∃ t : State, exec .plateDone s = .next t ∧ t.plates.cmd = none ∧ t.fb (base pDATU) DATU_PLATE_STATUS_BUSY = false
        ∧ t.fg (base pDATU) DATU_PLATE_STATUS_PLATE = c.plate ∧ t.fg (base pDATU) DATU_PLATE_STATUS_RESULT = c.result
        ∧ s.KeepsBut t (fun j => j = base pDATU + DATU_PLATE_STATUS ∨ noticeKey j))

/-- A word written to the shadow window of an owned page within capacity is stored with its reserved bits 0; a CAPACITY the pool
holds clears both copies of the table and its version; GO on a Graver that armed scenarios use sets PENDING, and is BUSY while a
commit is pending or the shadow resynchronises; CANCEL of a pending commit clears PENDING and READY and records CANCELLED. -/
def Obligations.TableWritesAndCommitCommands : Prop :=
  ∀ (s : State) (o : Org) (g : Nat), s.hasGraver g = true →
    (∀ off w, off < 0x400000 → off % 4 = 0 → s.AcceptsTable o → s.owns o.sess (gPage g) = true →
      s.fb (gBase g) GRV_TABLE_STATUS_PENDING = false → s.fb (gBase g) GRV_TABLE_STATUS_SYNCING = false →
      off < 64 * s.steps g →
      ∃ u : State, exec (.shadowWindowWrite o (shadowWin g + off) w) s = .next (u.ackWrite o)
        ∧ u.ldw (shadowWin g + off) = w.toNat &&& (if off % 64 = 0 then 0x0FF7FFFF else if off % 64 = 0x0C then 0xFFFF00FF
            else if 0x14 ≤ off % 64 ∧ off % 64 ≤ 0x20 then 0xFFFF01FF else 0xFFFFFFFF)
        ∧ s.KeepsRegs u (fun _ => False) ∧ s.KeepsMem u (within (shadowWin g + off) 4))
    ∧ (∀ c, 1 ≤ c → c ≤ 64 → s.Accepts o (gBase g + GRV_TABLE_CFG) (BitVec.ofNat 32 c) →
      c ≠ s.fg (gBase g) GRV_TABLE_CFG_CAPACITY →
      ((List.range 20).filter (fun h => s.hasGraver h)).foldl (fun n h => n + s.fg (gBase h) GRV_TABLE_CFG_CAPACITY) 0
        - s.fg (gBase g) GRV_TABLE_CFG_CAPACITY + c ≤ s.variant.poolUnits →
      ∃ u : State, exec (.tableCapacityWrite o g c) s = .next (u.ackWrite o) ∧ u.fg (gBase g) GRV_TABLE_CFG_CAPACITY = c
        ∧ u.fg (gBase g) GRV_TABLE_VERSION_VERSION = 0
        ∧ (∀ x, within (shadowWin g) 0x400000 x ∨ within (commWin g) 0x400000 x → u.mb x = memDefault x)
        ∧ s.KeepsRegs u (fun j => j = gBase g + GRV_TABLE_CFG ∨ j = gBase g + GRV_TABLE_VERSION)
        ∧ s.KeepsMem u (fun x => within (shadowWin g) 0x400000 x ∨ within (commWin g) 0x400000 x))
    ∧ (s.Accepts o (gBase g + GRV_COMMIT_CMD) 1#32 →
      (s.fb (gBase g) GRV_TABLE_STATUS_PENDING = false → s.fb (gBase g) GRV_TABLE_STATUS_SYNCING = false →
        (s.armedOn g).isEmpty = false →
        ∃ u : State, exec (.commitGo o g) s = .next (u.ackWrite o) ∧ u.fb (gBase g) GRV_TABLE_STATUS_PENDING = true
          ∧ s.KeepsBut u (fun j => j = gBase g + GRV_TABLE_STATUS))
      ∧ (s.fb (gBase g) GRV_TABLE_STATUS_PENDING = true ∨ s.fb (gBase g) GRV_TABLE_STATUS_SYNCING = true →
        exec (.commitGo o g) s = .next (s.turnedAway o (gBase g + GRV_COMMIT_CMD) .busy)))
    ∧ (s.Accepts o (gBase g + GRV_COMMIT_CMD) 2#32 → s.fb (gBase g) GRV_TABLE_STATUS_PENDING = true → (s.armedOn g) = [] →
      ∃ u : State, exec (.commitCancel o g) s = .next (u.ackWrite o) ∧ u.fb (gBase g) GRV_TABLE_STATUS_PENDING = false
        ∧ u.fb (gBase g) GRV_TABLE_STATUS_READY = false
        ∧ u.fg (gBase g) GRV_TABLE_STATUS_LAST_RESULT = Code.cancelled.num
        ∧ s.KeepsBut u (fun j => j = gBase g + GRV_TABLE_STATUS ∨ noticeKey j))

/-- A pending commit whose check finds a failing step is refused with its code and clears PENDING; a checked commit that is filled
becomes READY on a playing Graver; a READY commit takes effect at a pass start of a playing Graver with nothing awaiting it and no TIME
step due, where the sequence goes on: the new version is in force, PENDING and READY clear, SYNCING begins, and the tables exchange; the
resynchronisation ends with the shadow a copy of the committed table; the slot that fills next sets its bit, and no other does. -/
def Obligations.CommitStages : Prop :=
  ∀ (s : State) (g : Nat), s.hasGraver g = true →
    (∀ r, s.fb (gBase g) GRV_TABLE_STATUS_PENDING = true → (s.grv g).checked = false →
      s.tableFails (s.owner (gPage g)) g (shadowWin g)
        (s.fg (gBase g) GRV_COMMIT_ENTRY_ENTRY :: (s.armedOn g).map (fun k => s.entryOf k g)) = some r →
      ∃ t : State, exec (.commitCheckDone g) s = .next t ∧ t.fb (gBase g) GRV_TABLE_STATUS_PENDING = false
        ∧ t.fg (gBase g) GRV_TABLE_STATUS_LAST_RESULT = r.code.num
        ∧ (r.code ≠ .ecc → s.KeepsBut t (fun j => j = gBase g + GRV_TABLE_STATUS ∨ noticeKey j))
        ∧ s.KeepsBut t (fun j => j = gBase g + GRV_TABLE_STATUS ∨ noticeKey j ∨ lineKey j))
    ∧ (s.fb (gBase g) GRV_TABLE_STATUS_PENDING = true → (s.grv g).checked = true → s.fb (gBase g) GRV_TABLE_STATUS_READY = false →
      s.playing g = true →
      ∃ t : State, exec (.commitReady g) s = .next t ∧ t.fb (gBase g) GRV_TABLE_STATUS_READY = true
        ∧ t.fg (gBase g) GRV_JCACHE_STATUS_COMMIT = 0x3F
        ∧ s.KeepsBut t (fun j => j = gBase g + GRV_TABLE_STATUS ∨ j = gBase g + GRV_JCACHE_STATUS))
    ∧ (s.playing g = true → s.fb (gBase g) GRV_TABLE_STATUS_READY = true → (s.playStrokes g (s.restOfPass g)).handDue g = false →
      s.timeDue g = none → s.badLine (shadowWin g + 64 * s.fg (gBase g) GRV_COMMIT_ENTRY_ENTRY) = false →
      ((s.nextStep g (s.stepNow g) (s.entryNow g)).isSome = true ∨ ((s.grv g).latched = false ∧ (s.entryNow g).repeat_ = 0)) →
      ∃ t : State, exec (.commitTakesEffect g) s = .next (t.afterPoint g)
        ∧ t.fg (gBase g) GRV_TABLE_VERSION_VERSION = s.fg (gBase g) GRV_COMMIT_VERSION_VERSION
        ∧ t.fb (gBase g) GRV_TABLE_STATUS_PENDING = false ∧ t.fb (gBase g) GRV_TABLE_STATUS_READY = false
        ∧ t.fb (gBase g) GRV_TABLE_STATUS_SYNCING = true ∧ t.stepNow g = s.fg (gBase g) GRV_COMMIT_ENTRY_ENTRY
        ∧ (∀ x, x < 0x400000 → t.mb (commWin g + x) = s.mb (shadowWin g + x) ∧ t.mb (shadowWin g + x) = s.mb (commWin g + x)))
    ∧ (s.fb (gBase g) GRV_TABLE_STATUS_SYNCING = true →
      ∃ t : State, exec (.shadowResyncDone g) s = .next t ∧ t.fb (gBase g) GRV_TABLE_STATUS_SYNCING = false
        ∧ (∀ x, x < 0x400000 → t.mb (shadowWin g + x) = s.mb (commWin g + x))
        ∧ s.KeepsRegs t (fun j => j = gBase g + GRV_TABLE_STATUS) ∧ s.KeepsMem t (within (shadowWin g) 0x400000))
    ∧ (∀ set slot, s.nextFill g ≠ some (set, slot) → exec (.jcacheFillDone g set slot) s = .next s)
    ∧ (∀ slot, s.nextFill g = some (.active, slot) →
      ∃ t : State, exec (.jcacheFillDone g .active slot) s = .next t ∧ bit (t.fg (gBase g) GRV_JCACHE_STATUS_ACTIVE) slot = true
        ∧ (∀ i, i ≠ slot → bit (t.fg (gBase g) GRV_JCACHE_STATUS_ACTIVE) i = bit (s.fg (gBase g) GRV_JCACHE_STATUS_ACTIVE) i)
        ∧ s.KeepsBut t (fun j => j = gBase g + GRV_JCACHE_STATUS))

/-- On a playing Graver with no commit READY and no loop to close: a jump enters its target with pass 0 and counts; an EVENT_CUT or a TIME
step that is due enters the step's successor (entries that read correctly); a pass end that completes no step counts the pass and stays; an advance event latches; a vetoed jump
counts; an uncorrectable entry ends the sequence. `afterPoint` is what a pre-emption point and the end of the scenario bring. -/
def Obligations.GraverMovesBetweenSteps : Prop :=
  ∀ (s : State) (g : Nat), s.hasGraver g = true → s.playing g = true → s.fb (gBase g) GRV_TABLE_STATUS_READY = false →
    (∀ slot strokes others filled, slot < 4 →
      ((s.entryNow g).jumps.getD slot { target := 0, clr := false, evt := 0 }).evt ≠ 0 →
      bit (s.fg (gBase g) GRV_JUMP_CTRL_SLOT_MASK) slot = false →
      s.badLine (commWin g + 64 * ((s.entryNow g).jumps.getD slot { target := 0, clr := false, evt := 0 }).target) = false →
      ∃ t : State, exec (.graverJump g slot strokes others filled) s = .next (t.afterPoint g)
        ∧ t.stepNow g = ((s.entryNow g).jumps.getD slot { target := 0, clr := false, evt := 0 }).target % 65536
        ∧ t.fg (gBase g) GRV_PASS_NOW_PASS = 0 ∧ t.playing g = true
        ∧ t.fg (gBase g) GRV_JUMP_COUNT_COUNT = satAdd 0xFFFFFFFF (s.fg (gBase g) GRV_JUMP_COUNT_COUNT) 1)
    ∧ (∀ strokes filled next, (s.entryNow g).advance = 2 → (s.entryNow g).loopEnd = false → (s.entryNow g).flowTarget (s.stepNow g) = some next →
      s.badLine (commWin g + 64 * next) = false →
      ∃ t : State, exec (.eventCutAdvance g strokes [] filled) s = .next (t.afterPoint g)
        ∧ t.stepNow g = next % 65536 ∧ t.fg (gBase g) GRV_PASS_NOW_PASS = 0 ∧ t.playing g = true)
    ∧ (∀ filled next n, s.timeDue g = some n → (s.entryNow g).loopEnd = false → (s.entryNow g).flowTarget (s.stepNow g) = some next →
      s.badLine (commWin g + 64 * next) = false →
      ∃ t : State, exec (.timeAdvance g filled) s = .next (t.afterPoint g)
        ∧ t.stepNow g = next % 65536 ∧ t.fg (gBase g) GRV_PASS_NOW_PASS = 0 ∧ t.playing g = true)
    ∧ (∀ filled, (s.entryNow g).advance = 3 → s.timeDue g = none →
      ∃ t : State, exec (.passEnd g filled) s = .next (t.afterPoint g) ∧ t.stepNow g = s.stepNow g ∧ t.playing g = true
        ∧ t.fg (gBase g) GRV_PASS_NOW_PASS = satInc (s.fg (gBase g) GRV_PASS_NOW_PASS)
        ∧ s.KeepsBut t (fun j => j = gBase g + GRV_PASS_NOW))
    ∧ ((s.entryNow g).advance = 1 → (s.grv g).latched = false → s.gravers.length = 20 →
      ∃ t : State, exec (.advanceLatch g) s = .next t ∧ (t.grv g).latched = true ∧ s.KeepsBut t (fun _ => False))
    ∧ (∀ slot, slot < 4 → ((s.entryNow g).jumps.getD slot { target := 0, clr := false, evt := 0 }).evt ≠ 0 →
      bit (s.fg (gBase g) GRV_JUMP_CTRL_SLOT_MASK) slot = false →
      ∃ t : State, exec (.jumpCancelEvent g slot false) s = .next t ∧ t.stepNow g = s.stepNow g
        ∧ t.fg (gBase g) GRV_JUMP_CANCEL_COUNT_COUNT = satAdd 0xFFFFFFFF (s.fg (gBase g) GRV_JUMP_CANCEL_COUNT_COUNT) 1
        ∧ s.KeepsRegs t (fun j => j = gBase g + GRV_JUMP_CANCEL_COUNT) ∧ s.KeepsMem t (within (acctAddr (0x200 + g)) 64))
    ∧ (∀ step strokes, ∃ t : State, exec (.tableEcc g step strokes) s = .next (t.afterPoint g) ∧ t.playing g = false
        ∧ s.KeepsBut t (fun j => j = gBase g + GRV_STEP_NOW ∨ j = gBase g + 0x01C ∨ noticeKey j ∨ chanKey j ∨ lineKey j))

/-- The first word written to a FREE scenario record claims it: DEFINED, owned by the session, every other word at its default; a word
written to a DEFINED record of the session changes that word by its writable bits; another session's record refuses with OWNER and one
beyond DEFINED with LOCKED. A word written to an entry that is not PENDING makes it WRITTEN and the session's, KEY 0 frees it, a PENDING
one refuses with LOCKED. No register changes, and no other byte. -/
def Obligations.ScenarioRecordsAndEntriesAreClaimed : Prop :=
  ∀ (s : State) (o : Org) (w : Word), s.AcceptsTable o →
    (∀ k i, k < 64 → i < 64 → i ≠ 48 →
      ¬ (i = 4 ∧ bits w.toNat 23 22 = 3) → ¬ (i = 5 ∧ s.absentMember w.toNat = true) →
      ¬ (32 ≤ i ∧ i < 48 ∧ s.absentConsumer (w.toNat / 65536) = true) →
      let a := scenAddr k + 4 * i
      (s.scenOwner k = 0 → s.scenState k = 0 →
        ∃ u : State, exec (.scenRecordWrite o a w) s = .next (u.ackWrite o) ∧ u.scenState k = 1 ∧ u.scenOwner k = o.sess
          ∧ u.ldw a = maskIn (if i = 4 then 0x800000 else 0) w.toNat (scenMask (4 * i))
          ∧ (∀ j, j < 64 → j ≠ i → j ≠ 4 → j ≠ 48 → u.ldw (scenAddr k + 4 * j) = 0)
          ∧ s.KeepsRegs u (fun _ => False) ∧ s.KeepsMem u (within (scenAddr k) 256))
      ∧ (s.scenOwner k = o.sess → s.scenState k = 1 →
        ∃ u : State, exec (.scenRecordWrite o a w) s = .next (u.ackWrite o) ∧ u.ldw a = maskIn (s.ldw a) w.toNat (scenMask (4 * i))
          ∧ s.KeepsRegs u (fun _ => False) ∧ s.KeepsMem u (within a 4)))
    ∧ (∀ k i, k < 64 → i < 64 →
      (s.scenOwner k ≠ 0 → s.scenOwner k ≠ o.sess →
        exec (.scenRecordWrite o (scenAddr k + 4 * i) w) s = .next (s.turnedAway o (scenAddr k + 4 * i) .owner))
      ∧ (s.scenOwner k = o.sess → 1 < s.scenState k →
        exec (.scenRecordWrite o (scenAddr k + 4 * i) w) s = .next (s.turnedAway o (scenAddr k + 4 * i) .locked)))
    ∧ (∀ e i, e < 1024 → i < 4 → (s.schedOwner e = 0 ∨ s.schedOwner e = o.sess) →
      let a := schedAddr e + 4 * i
      (s.schedState e = 2 → exec (.schedEntryWrite o a w) s = .next (s.turnedAway o a .locked))
      ∧ (s.schedState e ≠ 2 → i = 0 → bits w.toNat 23 22 = 0 →
        ∃ u : State, exec (.schedEntryWrite o a w) s = .next (u.ackWrite o) ∧ u.schedState e = 0 ∧ u.schedOwner e = 0
          ∧ (∀ j, j < 8 → u.ldw (schedAddr e + 4 * j) = 0)
          ∧ s.KeepsRegs u (fun _ => False) ∧ s.KeepsMem u (within (schedAddr e) 32))
      ∧ (s.schedState e ≠ 2 → (i = 0 → bits w.toNat 23 22 ≠ 0) →
        ∃ u : State, exec (.schedEntryWrite o a w) s = .next (u.ackWrite o) ∧ u.schedState e = 1 ∧ u.schedOwner e = o.sess
          ∧ u.ldw a = (if i = 0 then maskIn (s.ldw a) w.toNat 0x0FC03F00 else w.toNat)
          ∧ s.KeepsRegs u (fun _ => False) ∧ s.KeepsMem u (fun x => within a 4 x ∨ within (schedAddr e + 0x10) 4 x)))

/-- An accepted command of the scenario's owner, in a state from which the action is accepted: ARM whose check finds nothing makes it
ARMING; START makes an ARMED scenario STARTING and RESUME a SUSPENDED one, with the action's time 3,000 ticks ahead; PARK makes a PLAYING one
SUSPENDING and the two stops make it STOPPING; DISARM makes an ARMED one DISARMING; CANCEL of an arm or disarm makes it DEFINED or ARMED;
RELEASE zeroes a DEFINED record. What each leaves alone. An action from another state is answered OK and reported as refused with STATE.
Those are the effects where the unit takes the command at once; one that it cannot take yet waits in the queue, and a full queue refuses it
with BUSY.
The tick at which the unit takes a command is the model's choice (assumption log, entry 40). -/
def Obligations.ScenarioCommandsChangeState : Prop :=
  ∀ (s : State) (o : Org) (k : Nat), s.Inv → k < 64 → s.scenOwner k = o.sess →
    let written (op : Nat) : Prop := s.Accepts o (base pSCEN + SCEN_CMD) (BitVec.ofNat 32 (256 * k + op))
    let cmd (op : Nat) : Prop := written op ∧ s.TakesScen
    let only (u : State) : Prop := s.KeepsRegs u (fun _ => False) ∧ s.KeepsMem u (within (scenAddr k + 0xC0) 4)
      ∧ u.mbits (scenAddr k + 0xC0) 31 4 = s.mbits (scenAddr k + 0xC0) 31 4
    (cmd 1 → s.scenState k = 1 → s.armFails o.sess k = none →
      ∃ u : State, exec (.arm o k) s = .next (u.ackWrite o) ∧ u.scenState k = 2
        ∧ (u.scn k).act.map (fun a => (a.op, a.sess)) = some (1, o.sess)
        ∧ s.KeepsRegs u (fun j => chanKey j ∨ ∃ g, g < 20 ∧ j = gBase g + GRV_JCACHE_STATUS))
    ∧ (cmd 2 → s.scenState k = 3 →
      ∃ u : State, exec (.start o k) s = .next (u.ackWrite o) ∧ u.scenState k = 4
        ∧ (u.scn k).act.map (fun a => (a.op, a.at_, a.waits)) = some (2, s.now + 3000, s.startEvt k != 0) ∧ only u)
    ∧ (cmd 6 → s.scenState k = 7 →
      ∃ u : State, exec (.resume o k) s = .next (u.ackWrite o) ∧ u.scenState k = 4
        ∧ (u.scn k).act.map (fun a => (a.op, a.at_, a.waits)) = some (6, s.now + 3000, s.startEvt k != 0) ∧ only u)
    ∧ (cmd 5 → s.scenState k = 5 →
      ∃ u : State, exec (.park o k) s = .next (u.ackWrite o) ∧ u.scenState k = 6
        ∧ (u.scn k).act.map (fun a => (a.op, a.at_)) = some (5, s.now + 3000) ∧ only u)
    ∧ (cmd 3 → s.scenState k = 5 → (s.scn k).act = none →
      ∃ u : State, exec (.stop o k) s = .next (u.ackWrite o) ∧ u.scenState k = 8
        ∧ (u.scn k).act.map (fun a => (a.op, a.at_)) = some (3, s.now + 3000) ∧ only u)
    ∧ (cmd 4 → s.scenState k = 5 → (s.scn k).act = none →
      ∃ u : State, exec (.stopBoundary o k) s = .next (u.ackWrite o) ∧ u.scenState k = 8
        ∧ (u.scn k).act.map (fun a => (a.op, a.at_)) = some (4, s.now + 3000) ∧ only u)
    ∧ (cmd 7 → s.scenState k = 3 →
      ∃ u : State, exec (.disarm o k) s = .next (u.ackWrite o) ∧ u.scenState k = 9
        ∧ (u.scn k).act.map (fun a => a.op) = some 7 ∧ only u)
    ∧ (cmd 8 → s.scenState k = 2 ∨ s.scenState k = 9 →
      ∃ u : State, exec (.cancel o k) s = .next (u.ackWrite o) ∧ u.scenState k = (if s.scenState k = 2 then 1 else 3)
        ∧ (u.scn k).act = none ∧ u.fg (sbase o.sess pSCEN) SCEN_CMD_STATUS_RESULT = 0
        ∧ u.fg (sbase o.sess pSCEN) SCEN_CMD_STATUS_OP = 8)
    ∧ (cmd 9 → s.scenState k = 1 →
      ∃ u : State, exec (.scenRelease o k) s = .next (u.ackWrite o) ∧ u.scenState k = 0 ∧ u.scenOwner k = 0
        ∧ (∀ x, within (scenAddr k) 256 x → u.mb x = 0#8) ∧ u.fg (sbase o.sess pSCEN) SCEN_CMD_STATUS_RESULT = 0
        ∧ s.KeepsRegs u (fun j => j = sbase o.sess pSCEN + SCEN_CMD_STATUS ∨ noticeKey j)
        ∧ s.KeepsMem u (within (scenAddr k) 256))
    ∧ (cmd 2 → s.scenState k ≠ 3 →
      ∃ u : State, exec (.start o k) s = .next (u.ackWrite o) ∧ u.scenState k = s.scenState k
        ∧ (s.scenState k ≠ 0 → u.mbits (scenAddr k + 0xC0) 15 8 = Code.state.num)
        ∧ u.fg (sbase o.sess pSCEN) SCEN_CMD_STATUS_RESULT = Code.state.num
        ∧ s.KeepsRegs u (fun j => j = sbase o.sess pSCEN + SCEN_CMD_STATUS ∨ noticeKey j)
        ∧ s.KeepsMem u (within (scenAddr k + 0xC0) 4))
    ∧ (written 2 → s.Idle s.now → s.now < s.unit.scenFree →
      ∃ u : State, exec (.start o k) s = .next (u.ackWrite o)
        ∧ u.unit.scenQ = [({ sess := o.sess, op := 2, num := k, since := s.now } : QCmd)]
        ∧ u.scenState k = s.scenState k ∧ (u.scn k).act = (s.scn k).act ∧ s.KeepsBut u (fun _ => False))
    ∧ (written 2 → 16 ≤ s.settled.unit.scenQ.length →
      exec (.start o k) s = .next (s.turnedAway o (base pSCEN + SCEN_CMD) .busy))

/-- The checks of an arm finish: ARMED, its result OK; a disarm finishes: DEFINED; the action time of a START on free members with nothing
ahead of it makes the scenario PLAYING, every member held by it and playing, and START and CMD_STATUS say so; an event on START_EVT, 3
ticks after it was judged, lets the waiting action proceed 96 ticks later; one that nothing awaits counts in EVT_UNUSED_COUNT. Nothing
else comes meanwhile.
That a waiting action is judged once is the model's reading (assumption log, entry 46). -/
def Obligations.ScenariosArmStartAndDisarm : Prop :=
  ∀ (s : State) (k : Nat), s.Inv → k < 64 →
    (∀ a, s.Idle s.now → s.scenState k = 2 → (s.scn k).act = some a → a.src = .command → a.op = 1 → 1 ≤ a.sess → a.sess ≤ 16 → s.scenOwner k = a.sess →
      ∃ t : State, exec (.armDone k) s = .next t ∧ t.scenState k = 3 ∧ (t.scn k).act = none
        ∧ t.mbits (scenAddr k + 0xC0) 15 8 = 0 ∧ t.fg (sbase a.sess pSCEN) SCEN_CMD_STATUS_RESULT = 0
        ∧ t.fg (sbase a.sess pSCEN) SCEN_CMD_STATUS_SCEN = k ∧ t.fg (sbase a.sess pSCEN) SCEN_CMD_STATUS_OP = 1
        ∧ s.KeepsRegs t (fun j => j = sbase a.sess pSCEN + SCEN_CMD_STATUS ∨ noticeKey j
            ∨ ∃ g, g < 20 ∧ j = gBase g + GRV_JCACHE_STATUS)
        ∧ s.KeepsMem t (within (scenAddr k + 0xC0) 4))
    ∧ (s.Idle s.now → s.scenState k = 9 → (s.scn k).act ≠ none →
      ∃ t : State, exec (.disarmDone k) s = .next t ∧ t.scenState k = 1 ∧ (t.scn k).act = none ∧ (t.scn k).saved = [])
    ∧ (∀ a, s.Idle (max s.now a.at_) → s.scenState k = 4 → (s.scn k).act = some a → a.op = 2 → a.src = .command → 1 ≤ a.sess → a.sess ≤ 16 →
      a.waits = false → a.launched = false →
      s.byPrio.filter (s.before k) = [] → (s.scn k).saved = [] → (s.scn k).after = 0 → s.routesOf k = [] → s.capsOf k = [] →
      s.membersOf k ≠ [] → (∀ g, g ∈ s.membersOf k → (s.grv g).scen = 64 ∧ (s.grv g).hand = none
        ∧ s.badLine (commWin g + 64 * s.entryOf k g) = false) → s.fb (base pCLK) CLK_PAGE_STATUS_GF_VALID = true →
      ∃ t : State, exec (.actionTime k) s = .next t ∧ t.scenState k = 5 ∧ (t.scn k).act = none
        ∧ (∀ g, g ∈ s.membersOf k → (t.grv g).scen = k ∧ t.playing g = true ∧ t.stepNow g = s.entryOf k g)
        ∧ t.fg (sbase a.sess pSCEN) SCEN_CMD_STATUS_RESULT = 0 ∧ t.fg (sbase a.sess pSCEN) SCEN_CMD_STATUS_OP = 2)
    ∧ (∀ a e, (s.scn k).act = some a → a.waits = true → s.xh.crossing.find? (fun c => c.consumer == 0x700 + k) = some e →
      s.unclocked e.chan = false → s.Idle (max s.now (e.at_ + 3)) → a.at_ ≤ max s.now (e.at_ + 3) → s.startFails k a = none →
      ∃ t : State, exec (.startEvent k) s = .next t
        ∧ (t.scn k).act = some { a with waits := false, judged := true, at_ := max s.now (e.at_ + 3) + 96 }
        ∧ s.KeepsRegs t (fun _ => False) ∧ s.KeepsMem t (within (acctAddr (0x700 + k)) 64))
    ∧ (∀ e, (s.scn k).act = none → s.xh.crossing.find? (fun c => c.consumer == 0x700 + k) = some e →
      s.unclocked e.chan = false → s.Idle (max s.now (e.at_ + 3)) →
      ∃ t : State, exec (.startEvent k) s = .next t
        ∧ t.fg (base pSCEN) SCEN_EVT_UNUSED_COUNT_COUNT = satAdd 0xFFFFFFFF (s.fg (base pSCEN) SCEN_EVT_UNUSED_COUNT_COUNT) 1
        ∧ s.KeepsRegs t (fun j => j = base pSCEN + SCEN_EVT_UNUSED_COUNT) ∧ s.KeepsMem t (within (acctAddr (0x700 + k)) 64))

/-- SUBMIT that passes its checks makes the entry PENDING, with its device time fixed at once where KEY is DEVICE_TIME; REMOVE of a PENDING
entry that has not fallen due makes it CANCELLED; both report in CMD_STATUS; an entry that falls due issues its START, with its own time as
the action time; an edge 1 ms overdue fixes T from the last edge captured and sets EXTRAPOLATED. What each leaves alone, where the unit
takes the command at once and nothing else comes.
The tick at which the unit takes a command is the model's choice (assumption log, entry 40). -/
def Obligations.ScheduleEntriesIssueActions : Prop :=
  ∀ (s : State) (e : Nat), e < 1024 →
    (∀ o, s.Accepts o (base pSCHED + SCHED_CMD) (BitVec.ofNat 32 (2 ^ 24 + e)) → s.TakesSched →
      (s.submitCheck o.sess e = .ok → (((s.submitDo e).sched e).bind (·.at_)).all (fun t => decide (s.now + 3000 < t)) = true →
        ∃ u : State, exec (.submit o e) s = .next (u.ackWrite o) ∧ u.schedState e = 2 ∧ u.schedOwner e = s.schedOwner e
          ∧ (s.schedKey e = 1 → u.sched e = some { i := e, at_ := some (s.ld (schedAddr e + 4) 8), fell := false })
          ∧ u.fg (sbase o.sess pSCHED) SCHED_CMD_STATUS_RESULT = 0 ∧ u.fg (sbase o.sess pSCHED) SCHED_CMD_STATUS_OP = 1
          ∧ u.fg (sbase o.sess pSCHED) SCHED_CMD_STATUS_ENTRY = e
          ∧ s.KeepsRegs u (fun j => j = sbase o.sess pSCHED + SCHED_CMD_STATUS ∨ noticeKey j)
          ∧ s.KeepsMem u (within (schedAddr e + 0x10) 16))
      ∧ (∀ c, s.submitCheck o.sess e = c → c ≠ .ok →
        ∃ u : State, exec (.submit o e) s = .next (u.ackWrite o) ∧ u.fg (sbase o.sess pSCHED) SCHED_CMD_STATUS_RESULT = c.num
          ∧ s.KeepsBut u (fun j => j = sbase o.sess pSCHED + SCHED_CMD_STATUS ∨ noticeKey j)))
    ∧ (∀ o x, s.Accepts o (base pSCHED + SCHED_CMD) (BitVec.ofNat 32 (2 * 2 ^ 24 + e)) → s.TakesSched → s.schedOwner e = o.sess →
      s.schedState e = 2 → s.sched e = some x → x.fell = false →
      ∃ u : State, exec (.remove o e) s = .next (u.ackWrite o) ∧ u.schedState e = 5 ∧ u.sched e = none
        ∧ u.mbits (schedAddr e + 0x10) 23 16 = Code.cancelled.num
        ∧ u.fg (sbase o.sess pSCHED) SCHED_CMD_STATUS_RESULT = 0 ∧ u.fg (sbase o.sess pSCHED) SCHED_CMD_STATUS_OP = 2
        ∧ s.KeepsRegs u (fun j => j = sbase o.sess pSCHED + SCHED_CMD_STATUS ∨ noticeKey j)
        ∧ s.KeepsMem u (within (schedAddr e + 0x10) 16))
    ∧ (∀ at_, s.scens.length = 64 → s.entryDue = some (e, at_) →
      ({ s with scheds := s.scheds.filter (fun x => x.i != e) } : State).Idle (max s.now (at_ - 3000)) → s.sched e = some { i := e, at_ := some at_, fell := false } → s.schedState e = 2 →
      s.badLine (schedAddr e) = false → s.mbits (schedAddr e) 27 24 = 2 → s.schedOwner e ≠ 0 →
      let k := s.mbits (schedAddr e) 13 8
      s.scenOwner k = s.schedOwner e → s.scenState k = 3 →
      ∃ t : State, exec (.schedDue e) s = .next t ∧ t.scenState k = 4 ∧ t.schedState e = 2
        ∧ (t.scn k).act.map (fun a => (a.op, a.at_, a.src)) = some (2, at_, .entry e) ∧ t.now = max s.now (at_ - 3000)
        ∧ s.KeepsRegs t (fun _ => False) ∧ s.KeepsMem t (within (scenAddr k + 0xC0) 4))
    ∧ (∀ x, s.sched e = some x → x.at_ = none → s.schedKey e = 2 → s.clk.ppsSeen = true → s.lastPps.2 ≤ s.schedSecond e →
      let edge := s.lastPps.1 + (s.schedSecond e - 1 - s.lastPps.2) * 3000000000
      s.Idle (max s.now (edge + 3000000)) →
      max s.now (edge + 3000000) + 3000 < s.lastPps.1 + s.ldw (schedAddr e + 0xC) + (s.schedSecond e - s.lastPps.2) * 3000000000 →
      ∃ t : State, exec (.schedExtrapolate e) s = .next t ∧ t.mbits (schedAddr e + 0x10) 5 5 = 1
        ∧ t.sched e = some { x with at_ := some (s.lastPps.1 + s.ldw (schedAddr e + 0xC)
            + (s.schedSecond e - s.lastPps.2) * 3000000000) }
        ∧ s.KeepsRegs t (fun _ => False) ∧ s.KeepsMem t (within (schedAddr e + 0x10) 4))

/-- Overcurrent on a lane or trigger port sets its fault bit, counts, and takes the driver off; contention sets its bit and counts, and
takes the driver off where POLICY says DISABLE; a 1 written to a fault bit with no new fault in the cycle clears it, and the driver is on
again where no fault holds it and 1 ms has passed; a hold that has run out turns the driver on. What each leaves alone. -/
def Obligations.DriverFaultsAndTheirClearing : Prop :=
  ∀ (s : State) (g i : Nat), g < s.variant.pats → i < 8 →
    let b := base (pPAT g)
    let p := DriverPort.lane g i
    (∃ t : State, exec (.laneOvercurrent p) s = .next t ∧ bit (t.fg b PAT_LANE_FAULT_OVERCURRENT) i = true
      ∧ bit (t.fg b PAT_LANE_FAULT_DISABLED) i = true ∧ (t.offOf p).map (fun d => (d.ovr, d.at_)) = some (true, s.now)
      ∧ t.fg b PAT_OVERCURRENT_COUNT_COUNT = satAdd 0xFFFFFFFF (s.fg b PAT_OVERCURRENT_COUNT_COUNT) 1
      ∧ s.KeepsBut t (fun j => j ∈ [b + PAT_LANE_FAULT, b + PAT_OVERCURRENT_COUNT, b + 0x01C] ∨ noticeKey j))
    ∧ (s.contBit p = false →
      ∃ t : State, exec (.laneContention p) s = .next t ∧ bit (t.fg b PAT_LANE_FAULT_CONTENTION) i = true
        ∧ bit (t.fg b PAT_LANE_FAULT_DISABLED) i = (s.fb b PAT_GROUP_CFG_POLICY || bit (s.fg b PAT_LANE_FAULT_DISABLED) i)
        ∧ t.fg b PAT_CONTENTION_COUNT_COUNT = satAdd 0xFFFFFFFF (s.fg b PAT_CONTENTION_COUNT_COUNT) 1
        ∧ s.KeepsBut t (fun j => j ∈ [b + PAT_LANE_FAULT, b + PAT_CONTENTION_COUNT, b + 0x01C] ∨ noticeKey j))
    ∧ (∀ o mask, mask < 256 →
      (s.Accepts o (b + PAT_LANE_FAULT) (BitVec.ofNat 32 mask) →
        ∃ u : State, exec (.overcurrentClear o false g mask 0) s = .next (u.ackWrite o)
          ∧ (∀ l, l < 8 → bit (u.fg b PAT_LANE_FAULT_OVERCURRENT) l = (bit (s.fg b PAT_LANE_FAULT_OVERCURRENT) l && !bit mask l))
          ∧ (∀ d, bit mask i = true → s.offOf p = some d → d.cont = false → d.at_ + holdTicks ≤ s.now →
              bit (u.fg b PAT_LANE_FAULT_DISABLED) i = false ∧ u.offOf p = none)
          ∧ (∀ d, s.offOf p = some d → d.cont = true →
              bit (u.fg b PAT_LANE_FAULT_DISABLED) i = bit (s.fg b PAT_LANE_FAULT_DISABLED) i)
          ∧ s.KeepsBut u (fun j => j = b + PAT_LANE_FAULT))
      ∧ (s.Accepts o (b + PAT_LANE_FAULT) (BitVec.ofNat 32 (mask * 256)) →
        ∃ u : State, exec (.contentionClear o false g mask 0) s = .next (u.ackWrite o)
          ∧ (∀ l, l < 8 → bit (u.fg b PAT_LANE_FAULT_CONTENTION) l = (bit (s.fg b PAT_LANE_FAULT_CONTENTION) l && !bit mask l))
          ∧ (∀ d, bit mask i = true → s.offOf p = some d → d.ovr = false → d.at_ + holdTicks ≤ s.now →
              bit (u.fg b PAT_LANE_FAULT_DISABLED) i = false ∧ u.offOf p = none)
          ∧ s.KeepsBut u (fun j => j = b + PAT_LANE_FAULT)))
    ∧ (∀ d, s.offOf p = some d → d.ovr = false → d.cont = false →
      ∃ t : State, exec (.reenableHoldExpiry p) s = .next t ∧ t.offOf p = none ∧ t.now = max s.now (d.at_ + holdTicks)
        ∧ bit (t.fg b PAT_LANE_FAULT_DISABLED) i = false ∧ s.KeepsBut t (fun j => j = b + PAT_LANE_FAULT))
    ∧ (∃ t : State, exec (.laneFormatSettled g) s = .next t ∧ t.lanes.settling.contains g = false
        ∧ (∀ h, h ≠ g → t.lanes.settling.contains h = s.lanes.settling.contains h) ∧ s.KeepsBut t (fun _ => False))

/-- A selected edge on a trigger input at least a tick after the last shows its level, its time and fraction, and publishes; one not selected
shows its level alone; a trigger output drives its pulse or changes its level for the oldest delivered event, and ends its pulse;
in a publishing cycle a marker's first rising edge publishes on its channel and each further one counts in MARKER_MERGE; under SOURCE the
channel's level, 3 ticks on, is the level of the trigger input, or of the marker's sample that the cycle belongs to.
That a row names the publishing cycle is the model's form (assumption log, entry 72). -/
def Obligations.TriggersAndMarkers : Prop :=
  ∀ s : State, s.Inv →
    let b := base (pPAT 0)
    (∀ k rising ticks frac, k < 4 → ticks < 2 ^ 64 → frac < 65536 → bit (s.fg (base pPWR) PWR_REST_CFG_WAKE_TRIG) k = false →
      (s.edgeSelected k rising = true → (∀ p, s.lanes.lastEdge.getD k none = some p → p + 65536 ≤ ticks * 65536 + frac) →
        ∃ t : State, exec (.trigInEdge k rising ticks frac) s = .next t ∧ bit (t.fg b TRG_TRIG_STATUS_IN_LEVEL) k = rising
          ∧ t.rd64 (b + TRG_TRIG_IN_TIME k) = ticks ∧ t.fg b TRG_TRIG_IN_TIME_FRAC k = frac
          ∧ (∀ c, s.chanOf (0x900 + k) = some c → 0 < c → c < 256 →
              t.chF c XH_CH_PUB_PUBLISHED = (s.chF c XH_CH_PUB_PUBLISHED + 1) % 2 ^ 32
                ∧ (s.chF c XH_CH_CFG_LEVEL_MODE = 0 → t.levelAt c (t.now + 3) = rising))
          ∧ s.KeepsBut t (fun j => j ∈ [b + TRG_TRIG_STATUS, b + TRG_TRIG_IN_TIME k, b + TRG_TRIG_IN_TIME k + 4,
              b + TRG_TRIG_IN_TIME k + 8] ∨ chanKey j))
      ∧ (s.edgeSelected k rising = false →
        ∃ t : State, exec (.trigInEdge k rising ticks frac) s = .next t ∧ bit (t.fg b TRG_TRIG_STATUS_IN_LEVEL) k = rising
          ∧ s.KeepsBut t (fun j => j = b + TRG_TRIG_STATUS ∨ chanKey j)))
    ∧ (∀ k, k < 4 → (s.trigOut k).due ≠ 0 →
      ∃ t : State, exec (.trigOutEvent k) s = .next t ∧ (t.trigOut k).due = (s.trigOut k).due - 1
        ∧ (t.trigOut k).level = ((s.trigOut k).busy || !(s.trigOut k).level)
        ∧ (∀ h, h ≠ k → t.trigOut h = s.trigOut h) ∧ s.KeepsBut t (fun _ => False))
    ∧ (∀ k, k < 4 → (s.trigOut k).busy = true →
      ∃ t : State, exec (.trigOutPulseEnd k) s = .next t ∧ (t.trigOut k).busy = false ∧ (t.trigOut k).level = false
        ∧ (∀ h, h ≠ k → t.trigOut h = s.trigOut h) ∧ s.KeepsBut t (fun _ => False))
    ∧ (∀ n k c, n < s.variant.gens → k < 2 → s.chanOf ((if k = 0 then 0x200 else 0x300) + n) = some c → 0 < c → c < 256 →
      ∀ cycle,
      let u := s.toGf cycle
      let late := 112 + (7 + s.fg (base (pGEN n)) GEN_DELAY_COARSE) / 8
      ∃ t : State, exec (.markerEdge n k cycle) s = .next t ∧ t.now = u.now
        ∧ t.chF c XH_CH_PUB_PUBLISHED = (s.chF c XH_CH_PUB_PUBLISHED + (if u.markerEdges n k cycle = 0 then 0 else 1)) % 2 ^ 32
        ∧ t.fg (base (pGEN n)) (if k = 0 then GEN_MARKER_MERGE_M0_MERGED else GEN_MARKER_MERGE_M1_MERGED)
          = satAdd 0xFFFF (s.fg (base (pGEN n)) (if k = 0 then GEN_MARKER_MERGE_M0_MERGED else GEN_MARKER_MERGE_M1_MERGED))
              (u.markerEdges n k cycle - 1)
        ∧ (s.chF c XH_CH_CFG_LEVEL_MODE = 0 →
            t.levelAt c (t.now + 3) = (decide (late ≤ cycle) && u.markerBit n k (cycle - late) 7))
        ∧ s.KeepsBut t (fun j => j = chPage c + XH_CH_STAT (c % 64) ∨ j = chPage c + XH_CH_PUB (c % 64)
            ∨ j = base (pGEN n) + GEN_MARKER_MERGE))

/-- A window that a scenario plays whole, with a SKIP sample, counts as skipped and nothing else; one within its limits counts as evaluated
and shows its RMS, its peak and its trim steps; an RMS violation with action MUTE counts, keeps its time and mutes; no other window is
judged. OVERLOAD isolates the output and holds PROOF set; clearing it lets the re-examination begin, which on a healthy load reconnects;
CONT_BLOCKS + 1 blocks over the limit declare CONTENTION, and the hundredth low measurement in a row OPEN: each sets its bit and counts.
What a measurement that does not count does to the run, and the place of a CONTENTION's blocks, are the model's reading (assumption log, entry 161). -/
def Obligations.ProofVerdictsAndFaults : Prop :=
  ∀ (s : State) (n : Nat), s.Inv → n < s.variant.gens →
    let b := base (pGEN n)
    (∀ w, s.winTenure n w = none → exec (.windowVerdict n w) s = .next s)
    ∧ (∀ w e, s.winTenure n w = some e →
      let c := s.stenFor n w.first
      let v := s.toGf (w.first + winCycles c.cfg + 191)
      let l := numbered (8 * w.first) w.samples
      let q := v.residStats n l
      let skipped := l.any (fun x => v.skipAt n x.1) || (getF c.cfg GEN_STEN_CFG_BURNISH_SKIP == 1 && l.any (fun x => v.trimFlagAt n x.1))
      (skipped = true →
        ∃ t : State, exec (.windowVerdict n w) s = .next t
          ∧ t.fg b GEN_WIN_SKIP_COUNT_COUNT = satAdd 0xFFFFFFFF (s.fg b GEN_WIN_SKIP_COUNT_COUNT) 1
          ∧ (t.proof n).runRms = 0 ∧ (t.proof n).runPeak = 0 ∧ s.KeepsBut t (fun j => j = b + GEN_WIN_SKIP_COUNT))
      ∧ (skipped = false → overRms c.rms q.1 w.samples.length = false → overPeak c.peak q.2 = false →
        ∃ t : State, exec (.windowVerdict n w) s = .next t
          ∧ t.fg b GEN_WIN_EVAL_COUNT_COUNT = satAdd 0xFFFFFFFF (s.fg b GEN_WIN_EVAL_COUNT_COUNT) 1
          ∧ t.fg b GEN_STEN_LAST_RMS = min 65535 (rmsOf q.1 w.samples.length) ∧ t.fg b GEN_STEN_LAST_PEAK = q.2
          ∧ t.fg b GEN_WIN_INFO_STEPS = min 255 (s.stepsIn n w.first (winCycles c.cfg))
          ∧ s.KeepsBut t (fun j => j ∈ [b + GEN_STEN_LAST, b + GEN_STEN_WORST, b + GEN_WIN_INFO, b + GEN_WIN_EVAL_COUNT]))
      ∧ (skipped = false → overRms c.rms q.1 w.samples.length = true → getF c.cfg GEN_STEN_CFG_CONSEC = 0 →
        verdictAct c true (overPeak c.peak q.2) = 1 → s.fg b GEN_SNAP_CFG_FREEZE_ON = 0 →
        ∃ t : State, exec (.windowVerdict n w) s = .next t
          ∧ t.fg b GEN_VIOL_RMS_COUNT_COUNT = satAdd 0xFFFFFFFF (s.fg b GEN_VIOL_RMS_COUNT_COUNT) 1
          ∧ t.fg b GEN_WIN_INFO_RMS_VIOL = 1 ∧ t.rd64 (b + GEN_LAST_VIOL_TIME) = s.gfTime w.first / 2 ^ 40 % 2 ^ 64
          ∧ bit (t.causes n) 1 = true ∧ s.KeepsMem t))
    ∧ (∀ dc, dc < 65536 →
      ∃ t : State, exec (.overload n dc) s = .next t ∧ t.fg b GEN_PROOF_FAULT_OVERLOAD = 1 ∧ t.fg b GEN_PROOF_FAULT_ISOLATED = 1
        ∧ bit (t.causes n) 1 = true ∧ t.fg b GEN_FAULT_MEAS_DC_MV = dc
        ∧ t.fg b GEN_OVERLOAD_COUNT_COUNT = satAdd 0xFFFFFFFF (s.fg b GEN_OVERLOAD_COUNT_COUNT) 1
        ∧ s.KeepsBut t (fun j => j ∈ [b + GEN_PROOF_FAULT, b + GEN_FAULT_MEAS, b + GEN_OVERLOAD_COUNT, b + GEN_MUTE_CTRL, b + 0x01C]
            ∨ chanKey j ∨ noticeKey j))
    ∧ (∀ o again, s.Accepts o (b + GEN_PROOF_FAULT) 1#32 →
      ∃ u : State, exec (.overloadClear o n again) s = .next (u.ackWrite o)
        ∧ u.fg b GEN_PROOF_FAULT_OVERLOAD = (if again = true then s.fg b GEN_PROOF_FAULT_OVERLOAD else 0)
        ∧ u.fg b GEN_PROOF_FAULT_ISOLATED = s.fg b GEN_PROOF_FAULT_ISOLATED
        ∧ (∀ d, again = false → s.offOf (.output n) = some d → d.at_ + holdTicks ≤ s.now →
            (u.offOf (.output n)).map (fun d => d.cont) = some true)
        ∧ s.KeepsBut u (fun j => j = b + GEN_PROOF_FAULT ∨ chanKey j))
    ∧ (∀ d dc, s.offOf (.output n) = some d → d.cont = true →
      ∃ t : State, exec (.overloadReexamDone n false dc) s = .next t ∧ t.offOf (.output n) = none
        ∧ t.fg b GEN_PROOF_FAULT_ISOLATED = 0 ∧ t.fg b GEN_FAULT_MEAS_DC_MV = dc % 65536
        ∧ s.KeepsBut t (fun j => j = b + GEN_PROOF_FAULT ∨ j = b + GEN_FAULT_MEAS))
    ∧ (∀ first l r,
      let need := s.fg b GEN_FAULT_CFG_CONT_BLOCKS + 1
      let v := s.toGf (first + 4096 * need + 168)
      v.activeSince n = some r → r ≤ first + 168 → (first + 168 - r) % 4096 = 0 → l.length = 16384 * need →
      (∀ i, i < need → v.blockOver n (numbered (8 * (first + 4096 * i)) ((l.drop (16384 * i)).take 16384)) = true) →
      s.fb b GEN_PROOF_FAULT_CONTENTION = false →
      ∃ t : State, exec (.proofContention n first l) s = .next t ∧ t.fg b GEN_PROOF_FAULT_CONTENTION = 1
        ∧ t.fg b GEN_CONTENTION_COUNT_COUNT = satAdd 0xFFFFFFFF (s.fg b GEN_CONTENTION_COUNT_COUNT) 1
        ∧ bit (t.causes n) 1 = (s.fb b GEN_PROOF_CTRL_CONT_POLICY || bit (s.causes n) 1))
    ∧ (∀ rl level, rl < 65536 →
      (s.proofActive n = false ∨ level ≤ -480 →
        ∃ t : State, exec (.proofOpen n rl level) s = .next t ∧ t.fg b GEN_FAULT_MEAS_RL = rl ∧ s.KeepsBut t (fun j => j = b + GEN_FAULT_MEAS))
      ∧ (s.proofActive n = true → -480 < level → rl < s.fg b GEN_FAULT_CFG_OPEN_RL → s.fb b GEN_PROOF_CTRL_OPEN_EN = true →
        99 ≤ (s.proof n).openRun → s.fb b GEN_PROOF_FAULT_OPEN = false →
        ∃ t : State, exec (.proofOpen n rl level) s = .next t ∧ t.fg b GEN_PROOF_FAULT_OPEN = 1 ∧ t.fg b GEN_FAULT_MEAS_RL = rl
          ∧ t.fg b GEN_OPEN_COUNT_COUNT = satAdd 0xFFFFFFFF (s.fg b GEN_OPEN_COUNT_COUNT) 1))

/-- GO sets TESTING on a channel that no armed scenario uses, ABORT ends the test with outcome ABORTED and its end with PASS or FAIL by the
limits; RUN clears the buffer and records; FREEZE stores the residuals, the oldest at FIRST, and shows FROZEN and
SNAP_TIME. What each leaves alone.
Samples that the row does not bring are free values (assumption log, entry 146). -/
def Obligations.SelfTestsAndSnapshots : Prop :=
  ∀ (s : State) (n : Nat), n < s.variant.gens →
    let b := base (pGEN n)
    (∀ o, s.Accepts o (b + GEN_TEST_CMD) 1#32 → s.armedUses (pGEN n) = false → s.fb b GEN_PROOF_STATUS_TESTING = false →
      s.modelValid n (s.modelSet n) = true → s.causes n = 0 → s.fb b GEN_CHAIN_CTRL_OUT_EN = true →
      s.fb b HDR_PAGE_CTRL_EN = true → s.fb b HDR_PAGE_CTRL_PARK = false →
      ∃ u : State, exec (.testGo o n) s = .next (u.ackWrite o) ∧ u.fg b GEN_PROOF_STATUS_TESTING = 1
        ∧ s.KeepsBut u (fun j => j = b + GEN_PROOF_STATUS))
    ∧ (∀ o l, s.Accepts o (b + GEN_TEST_CMD) 2#32 → s.fb b GEN_PROOF_STATUS_TESTING = true →
      ∃ u : State, exec (.testAbort o n l) s = .next (u.ackWrite o) ∧ u.fg b GEN_PROOF_STATUS_TESTING = 0
        ∧ u.fg b GEN_PROOF_STATUS_TEST_OUTCOME = 3
        ∧ s.KeepsBut u (fun j => j = b + GEN_PROOF_STATUS ∨ j = b + GEN_TEST_RESULT ∨ noticeKey j))
    ∧ (∀ l, s.fb b GEN_PROOF_STATUS_TESTING = true →
      let v : State := { s with now := max s.now (s.testDue n) }
      let x := (v.testSamples n l).filter (fun e => !v.skipAt n e.1)
      let q := v.residStats n x
      let lim := s.fg b GEN_TEST_LIMIT_RMS_LIMIT
      x ≠ [] →
      ∃ t : State, exec (.proofTestDone n l) s = .next t ∧ t.fg b GEN_PROOF_STATUS_TESTING = 0
        ∧ t.fg b GEN_PROOF_STATUS_TEST_OUTCOME
          = (if q.1 ≤ lim * lim * x.length ∧ q.2 ≤ s.fg b GEN_TEST_LIMIT_PEAK_LIMIT then 1 else 2)
        ∧ t.fg b GEN_TEST_RESULT_RMS = min 65535 (rmsOf q.1 x.length) ∧ t.fg b GEN_TEST_RESULT_PEAK = q.2
        ∧ s.KeepsBut t (fun j => j = b + GEN_PROOF_STATUS ∨ j = b + GEN_TEST_RESULT ∨ noticeKey j))
    ∧ (∀ o, s.Accepts o (b + GEN_SNAP_CMD) 1#32 →
      ∃ u : State, exec (.snapRun o n) s = .next (u.ackWrite o) ∧ u.fg b GEN_SNAP_STATUS_RECORDING = 1
        ∧ u.fg b GEN_SNAP_STATUS_FROZEN = 0 ∧ (∀ x, within (snapBuf n) 0x40000 x → u.mb x = 0#8)
        ∧ s.KeepsRegs u (fun j => j = b + GEN_SNAP_STATUS) ∧ s.KeepsMem u (within (snapBuf n) 0x40000))
    ∧ (∀ o l, s.Accepts o (b + GEN_SNAP_CMD) 2#32 → s.fb b GEN_SNAP_STATUS_RECORDING = true →
      let len := 2 ^ s.fg b GEN_SNAP_CFG_LOG2LEN
      let last := 8 * (s.gfNow - 168)
      let count := (last - (s.proof n).snapFrom) / 2
      l.length = min count len →
      ∃ u : State, exec (.snapFreeze o n l) s = .next (u.ackWrite o) ∧ u.fg b GEN_SNAP_STATUS_RECORDING = 0
        ∧ u.fg b GEN_SNAP_STATUS_FROZEN = 1 ∧ u.rd64 (b + GEN_SNAP_TIME) = s.gfTime ((last - 2 * l.length) / 8) / 2 ^ 40 % 2 ^ 64
        ∧ (∀ i (h : i < l.length), u.ldw (snapBuf n + 4 * (((if count ≤ len then 0 else count % len) + i) % len))
            = s.snapWord n (last - 2 * l.length + 2 * i) l[i])
        ∧ s.KeepsRegs u (fun j => j ∈ [b + GEN_SNAP_STATUS, b + GEN_SNAP_TIME, b + GEN_SNAP_TIME + 4] ∨ noticeKey j))

/-- A publication of a registered producer counts in PUBLISHED and awaits its tick, 3 ticks on; there, in an enabled group, it goes to
exactly the consumers that subscribe to it, may see it and whose gate is open; with the group disabled it counts in GRP_SUPP and goes
nowhere; an arrival, 3 ticks after the judgement, counts as delivered, and waits while its consumer's domain stands still; INJECT by the
owner publishes in the next tick and counts; a HOLD that runs out lowers the level. -/
def Obligations.EventsTravelToTheirConsumers : Prop :=
  ∀ (s : State) (c : Nat), 0 < c → c < 256 →
    (∀ prod, prod ≠ 0 → s.chF c XH_CH_CFG_PRODUCER = prod → s.unclocked c = false →
      ∃ t : State, exec (.eventPublish c prod) s = .next t ∧ t.xh.published = s.xh.published ++ [(c, s.now)]
        ∧ t.chF c XH_CH_PUB_PUBLISHED = (s.chF c XH_CH_PUB_PUBLISHED + 1) % 2 ^ 32
        ∧ s.KeepsBut t (fun j => j = chPage c + XH_CH_PUB (c % 64)))
    ∧ (∀ p l, s.waitingOn c = p :: l → s.Idle (max s.now (p + 3)) → s.chF c XH_CH_CFG_LEVEL_MODE = 0 →
      let v : State := { s with now := max s.now (p + 3) }
      let w : State := { v with xh := { v.xh with
        published := takeEvents c 1 s.xh.published, hits := s.xh.hits.filter (fun (e : Nat × Nat) => e.1 != c) ++ [(c, v.now)] } }
      (s.grpF (c / 16) XH_GRP_CTRL_STATE ≠ 0 →
        ∃ t : State, exec (.eventFabricTick c 0) s = .next t ∧ t.now = v.now ∧ t.xh.published = takeEvents c 1 s.xh.published
          ∧ t.xh.crossing = s.xh.crossing ++ (s.consumers.filter (fun k => (s.subsOf k).any (fun e => e.1 == c) && s.ownRule c k
              && (s.subsOf k).any (fun e => e.1 == c && (e.2 == 0 || w.gateLevel c e.2)))).map (fun k => (⟨k, c, v.now⟩ : Crossing))
          ∧ s.KeepsRegs t (fun _ => False) ∧ s.KeepsMem t (within 0x08680000 0x10000))
      ∧ (s.grpF (c / 16) XH_GRP_CTRL_STATE = 0 →
        ∃ t : State, exec (.eventFabricTick c 0) s = .next t ∧ t.xh.crossing = s.xh.crossing
          ∧ t.grpF (c / 16) XH_GRP_SUPP_COUNT = satInc (s.grpF (c / 16) XH_GRP_SUPP_COUNT)
          ∧ s.KeepsRegs t (fun j => j = base (pXH (c / 64)) + XH_GRP_SUPP (c / 16 % 4)) ∧ s.KeepsMem t (within 0x08680000 0x10000)))
    ∧ (s.waitingOn c = [] → exec (.eventFabricTick c 0) s = .next s)
    ∧ (∀ k e, s.Inv → s.consumerOk k = true → s.xh.crossing.find? (fun e => e.is k c) = some e → s.unclocked c = false →
      (s.domainRuns k = false → exec (.eventArrival k c 0) s = .next s)
      ∧ (s.domainRuns k = true → s.Idle (max s.now (e.at_ + 3)) →
        ∃ t : State, exec (.eventArrival k c 0) s = .next t
          ∧ (k / 256 ≠ 3 → t.xh.crossing = takeCrossings k c 1 s.xh.crossing)
          ∧ t.ld (acctAddr k) 8 = (s.ld (acctAddr k) 8 + 1) % 2 ^ 64))
    ∧ (∀ o, s.Accepts o (base (pXH 0) + XH_INJECT) (BitVec.ofNat 32 c) → s.chOwner c = o.sess → s.chAttr c ≠ 2 → s.unclocked c = false →
      ∃ u : State, exec (.inject o c) s = .next (u.ackWrite o) ∧ u.xh.published = s.xh.published ++ [(c, s.now + 1)]
        ∧ u.chF c XH_CH_PUB_PUBLISHED = (s.chF c XH_CH_PUB_PUBLISHED + 1) % 2 ^ 32
        ∧ u.fg (base (pXH 0)) XH_INJECT_COUNT_COUNT = satAdd 0xFFFFFFFF (s.fg (base (pXH 0)) XH_INJECT_COUNT_COUNT) 1
        ∧ s.KeepsBut u (fun j => j = chPage c + XH_CH_PUB (c % 64) ∨ j = base (pXH 0) + XH_INJECT_COUNT))
    ∧ (∀ m, s.chF c XH_CH_CFG_LEVEL_MODE = 2 → s.xh.levels.reverse.find? (fun m => m.chan == c) = some m → m.level = false →
      s.Idle (max s.now m.at_) →
      ∃ t : State, exec (.levelHoldExpiry c) s = .next t ∧ t.now = max s.now m.at_ ∧ t.levelAt c t.now = false
        ∧ s.KeepsBut t (fun _ => False))

/-- With BUSY 0, CLAIM gives an unowned channel of an open or own group to the session, PRIVATE; RELEASE puts an unused channel of the
session at reset; SET_SHARED and SET_PRIVATE change the attribute; CLAIM_GROUP and RELEASE_GROUP change the group's owner; each reports in
the writer's CHAN_CMD_STATUS. A command on a channel that another session owns has result OWNER and changes nothing else.
That a command completes in its row is the model's reading (assumption log, entry 115). -/
def Obligations.ChannelOwnershipCommands : Prop :=
  ∀ (s : State) (o : Org) (x : Nat), s.fb (sbase o.sess (pXH 0)) XH_CHAN_CMD_STATUS_BUSY = false →
    let cmd (op : Nat) : Prop := s.Accepts o (base (pXH 0) + XH_CHAN_CMD) (BitVec.ofNat 32 (op * 2 ^ 24 + x))
    let said (u : State) (op : Nat) (c : Code) : Prop := u.fg (sbase o.sess (pXH 0)) XH_CHAN_CMD_STATUS_RESULT = c.num
      ∧ u.fg (sbase o.sess (pXH 0)) XH_CHAN_CMD_STATUS_OP = op ∧ u.fg (sbase o.sess (pXH 0)) XH_CHAN_CMD_STATUS_TARGET = x
    let but (u : State) (p : Nat → Prop) : Prop :=
      s.KeepsBut u (fun j => p j ∨ j = sbase o.sess (pXH 0) + XH_CHAN_CMD_STATUS ∨ noticeKey j)
    (8 ≤ x → x < 256 → cmd 1 → s.chOwner x = 0 →
      (s.grpF (x / 16) XH_GRP_CTRL_OWNER = 0 ∨ s.grpF (x / 16) XH_GRP_CTRL_OWNER = o.sess) →
      ∃ u : State, exec (.claim o x) s = .next (u.ackWrite o) ∧ u.chOwner x = o.sess ∧ u.chAttr x = 0 ∧ said u 1 .ok
        ∧ but u (fun j => j = chPage x + XH_CH_STAT (x % 64)))
    ∧ (x < 256 → cmd 1 → s.chOwner x ≠ 0 →
      ∃ u : State, exec (.claim o x) s = .next (u.ackWrite o) ∧ said u 1 .owner ∧ but u (fun _ => False))
    ∧ (8 ≤ x → x < 256 → cmd 2 → s.chOwner x = o.sess → s.chF x XH_CH_CFG_PRODUCER = 0 → s.subCount x = 0 → s.chF x XH_CH_STAT_ARM_REFS = 0 →
      ∃ u : State, exec (.release o x) s = .next (u.ackWrite o) ∧ u.chOwner x = 0 ∧ u.chF x XH_CH_PUB_PUBLISHED = 0 ∧ said u 2 .ok
        ∧ but u (within (chPage x + XH_CH_CFG (x % 64)) 16))
    ∧ (x < 256 → cmd 3 → s.chOwner x = o.sess → s.chAttr x ≠ 2 → s.chF x XH_CH_STAT_ARM_REFS = 0 →
      ∃ u : State, exec (.setShared o x) s = .next (u.ackWrite o) ∧ u.chAttr x = 1 ∧ u.chOwner x = o.sess ∧ said u 3 .ok
        ∧ but u (fun j => j = chPage x + XH_CH_STAT (x % 64)))
    ∧ (x < 256 → cmd 4 → s.chOwner x = o.sess → s.chAttr x ≠ 2 → s.chF x XH_CH_STAT_ARM_REFS = 0 → s.foreignSub o.sess x = false →
      ∃ u : State, exec (.setPrivate o x) s = .next (u.ackWrite o) ∧ u.chAttr x = 0 ∧ u.chOwner x = o.sess ∧ said u 4 .ok
        ∧ but u (fun j => j = chPage x + XH_CH_STAT (x % 64)))
    ∧ (0 < x → x < 16 → cmd 5 → s.grpF x XH_GRP_CTRL_OWNER = 0 →
      (∀ i, i < 16 → s.chOwner (16 * x + i) = 0 ∨ s.chOwner (16 * x + i) = o.sess) →
      ∃ u : State, exec (.claimGroup o x) s = .next (u.ackWrite o) ∧ u.grpF x XH_GRP_CTRL_OWNER = o.sess ∧ said u 5 .ok
        ∧ but u (fun j => j = base (pXH (x / 4)) + XH_GRP_CTRL (x % 4)))
    ∧ (0 < x → x < 16 → cmd 6 → s.grpF x XH_GRP_CTRL_OWNER = o.sess →
      s.xh.routes.any (fun r => r.consumer == 0x500 + x || r.consumer == 0x600 + x) = false →
      ∃ u : State, exec (.releaseGroup o x) s = .next (u.ackWrite o) ∧ u.grpF x XH_GRP_CTRL_OWNER = 0
        ∧ u.grpF x XH_GRP_CTRL_STATE = 1 ∧ u.grpF x XH_GRP_EN_SUB_CHANNEL = 0 ∧ u.grpF x XH_GRP_DIS_SUB_CHANNEL = 0 ∧ said u 6 .ok
        ∧ but u (within (base (pXH (x / 4)) + XH_GRP_CTRL (x % 4)) 16))

/-- The owner's write, or an event at the control consumer 3 ticks after its judgement, enables or disables a group, a disable in the same
tick prevailing; group 0 is never disabled by an event. A producer of
the session's own page registers on its clocked channel, which lowers the level; a subscription that passes its checks holds its channel and
gate; one that a route has installed over is refused with LOCKED. -/
def Obligations.GroupsProducersAndSubscriptions : Prop :=
  ∀ (s : State),
    let offNow (g at_ : Nat) : Bool := s.xh.groups.any (fun m => m.grp == g && m.at_ == at_ && !m.enable)
    (∀ o g, g < 16 → s.grpF g XH_GRP_CTRL_OWNER = o.sess →
      (s.Accepts o (base (pXH (g / 4)) + XH_GRP_CTRL (g % 4)) 1#32 →
        ∃ u : State, exec (.groupEnable (.write o) g) s = .next (u.ackWrite o) ∧ u.grpF g XH_GRP_CTRL_STATE = b2n (!offNow g s.now)
          ∧ s.KeepsBut u (fun j => j = base (pXH (g / 4)) + XH_GRP_CTRL (g % 4)))
      ∧ (s.Accepts o (base (pXH (g / 4)) + XH_GRP_CTRL (g % 4)) 2#32 → g ≠ 0 →
        ∃ u : State, exec (.groupDisable (.write o) g) s = .next (u.ackWrite o) ∧ u.grpF g XH_GRP_CTRL_STATE = 0
          ∧ s.KeepsBut u (fun j => j = base (pXH (g / 4)) + XH_GRP_CTRL (g % 4))))
    ∧ (∀ g e, g < 16 → s.unclocked e.chan = false → s.Idle (max s.now (e.at_ + 3)) →
      (s.xh.crossing.find? (fun x => x.consumer == 0x500 + g) = some e →
        ∃ t : State, exec (.groupEnable .event g) s = .next t ∧ t.grpF g XH_GRP_CTRL_STATE = b2n (!offNow g (max s.now (e.at_ + 3)))
          ∧ s.KeepsRegs t (fun j => j = base (pXH (g / 4)) + XH_GRP_CTRL (g % 4)) ∧ s.KeepsMem t (within (acctAddr (0x500 + g)) 64))
      ∧ (s.xh.crossing.find? (fun x => x.consumer == 0x600 + g) = some e →
        ∃ t : State, exec (.groupDisable .event g) s = .next t
          ∧ t.grpF g XH_GRP_CTRL_STATE = (if g = 0 then s.grpF g XH_GRP_CTRL_STATE else 0)
          ∧ s.KeepsRegs t (fun j => j = base (pXH (g / 4)) + XH_GRP_CTRL (g % 4)) ∧ s.KeepsMem t (within (acctAddr (0x600 + g)) 64)))
    ∧ (∀ o c prod pg, 8 ≤ c → c < 256 → prod < 65536 → prod ≠ 0 → prod ≠ s.chF c XH_CH_CFG_PRODUCER →
      s.Accepts o (chPage c + XH_CH_CFG (c % 64)) (setF (s.rd (chPage c + XH_CH_CFG (c % 64))) XH_CH_CFG_PRODUCER prod) →
      s.chOwner c = o.sess → s.chAttr c ≠ 2 → s.producerPage prod = some pg → s.owner pg = o.sess →
      (prod / 256 = 1 ∨ s.chanOf prod = none) → s.unclocked c = false → s.chF c XH_CH_STAT_ARM_REFS = 0 →
      ∃ u : State, exec (.producerRegister o c prod) s = .next (u.ackWrite o) ∧ u.chF c XH_CH_CFG_PRODUCER = prod
        ∧ u.levelAt c u.now = false
        ∧ s.KeepsBut u (fun j => j = chPage c + XH_CH_CFG (c % 64) ∨ j = chPage c + XH_CH_STAT (c % 64)))
    ∧ (∀ o code w, s.consumerAt (subKey code) = some code → s.Accepts o (subKey code) w → code ≠ 0x600 →
      (code / 256 = 5 ∨ code / 256 = 6 → s.consumerOwner code = o.sess) →
      (s.subCheck code (getF w (subField code)) (gateOf code w) = .ok () →
        ∃ u : State, exec (.subscriptionWrite o (subKey code) w) s = .next (u.ackWrite o)
          ∧ getF (u.rd (subKey code)) (subField code) = getF w (subField code)
          ∧ gateOf code (u.rd (subKey code)) = gateOf code w ∧ s.KeepsBut u (fun j => j = subKey code))
      ∧ (∀ e, getF w (subField code) ≠ getF (s.rd (subKey code)) (subField code) →
        s.subCheck code (getF w (subField code)) (gateOf code w) = .error e →
        exec (.subscriptionWrite o (subKey code) w) s = .next (s.turnedAway o (subKey code) e)))

/-- A settled front end shows SETTLED; overvoltage protects the input, counts and faults, and marks an acquisition at its CF cycle; its exit
ends that. Samples are counted for clips by CF cycle, and an acquisition takes them in. Candidates under a closed gate count as gated; under an
open one the earliest outside holdoff is taken and the others count as merged. The oldest taken trigger has its position, type and sub-sample
shown in the cycle that LATENCY names, counts, and leaves; a trigger register written ends any holdoff and measurement.
That samples come with rows and are judged with them is the model's form (assumption log, entry 158). -/
def Obligations.FrontEndsAndTriggers : Prop :=
  ∀ (s : State) (n : Nat), s.Inv → n < s.variant.caps → (s.trc n).startAt = none → (s.trc n).endAt = none →
    let b := base (pCAP n)
    let v := s.trc n
    let marks (t : State) : List (Nat × Nat × Nat) := ((t.trc n).spans.flatMap (·.marks)).map (fun m => (m.type, m.flags, m.c))
    (s.fb b HDR_PAGE_CTRL_EN = true →
      ∃ t : State, exec (.frontEndSettled n) s = .next t ∧ t.fg b CAP_CAP_STATUS_SETTLED = 1 ∧ s.KeepsBut t (fun j => j = b + CAP_CAP_STATUS))
    ∧ (∀ c, ∃ t : State, exec (.inputOvervolt n c) s = .next t ∧ t.fg b CAP_CAP_STATUS_PROTECTED = 1 ∧ t.fg b CAP_CAP_FAULT_OVERVOLT = 1
        ∧ t.fg b CAP_PROTECT_COUNT_COUNT = satAdd 0xFFFFFFFF (s.fg b CAP_PROTECT_COUNT_COUNT) 1
        ∧ marks t = marks s ++ (if s.acquiring n then [(6, 1, s.markCycle n c)] else [])
        ∧ t.now = (if s.acquiring n then max s.now (s.cycTick n (s.markCycle n c / 8)) else s.now)
        ∧ s.KeepsBut t (fun j => j ∈ [b + CAP_CAP_STATUS, b + CAP_CAP_FAULT, b + CAP_PROTECT_COUNT, b + 0x01C] ∨ noticeKey j))
    ∧ (∀ c, s.fb b CAP_CAP_STATUS_PROTECTED = true →
      ∃ t : State, exec (.protectExit n c) s = .next t ∧ t.fg b CAP_CAP_STATUS_PROTECTED = 0
        ∧ marks t = marks s ++ (if s.acquiring n then [(6, 0, s.markCycle n c)] else [])
        ∧ t.now = (if s.acquiring n then max s.now (s.cycTick n (s.markCycle n c / 8)) else s.now)
        ∧ s.KeepsBut t (fun j => j = b + CAP_CAP_STATUS))
    ∧ (∀ raw : List Int, s.fb b HDR_PAGE_CTRL_EN = true →
      let xs := (raw.take (raw.length / 8 * 8)).map (clampI (-2048) 2047)
      let counted (t : State) : Prop := t.fg b CAP_CLIP_COUNT_COUNT = satAdd 0xFFFFFFFF (s.fg b CAP_CLIP_COUNT_COUNT)
            (((List.range (xs.length / 8)).filter (clipCycle xs)).length)
          ∧ s.KeepsBut t (fun j => j = b + CAP_CLIP_COUNT ∨ noticeKey j)
      (s.acquiring n = false → v.c ≤ v.raw.length →
        ∃ t : State, exec (.adcClip n raw) s = .next t ∧ counted t ∧ (t.trc n).raw = v.raw)
      ∧ (s.acquiring n = true → v.pass = none → ¬ (1 ≤ s.fg b CAP_TRIG_CFG_TYPE ∧ s.fg b CAP_TRIG_CFG_TYPE ≤ 6) →
        ∃ t : State, exec (.adcClip n raw) s = .next t ∧ counted t ∧ (t.trc n).raw = v.raw ++ xs ∧ (t.trc n).trigs = v.trigs
          ∧ (xs ≠ [] → t.now = max s.now (s.cycTick n ((v.raw.length + xs.length - 1) / 8)))))
    ∧ (∀ raw : List Int, s.fb b HDR_PAGE_CTRL_EN = true → s.acquiring n = true → v.pass = none → raw.length = 8 → v.raw.length = 8 * (v.seen + 1) →
      (∀ x ∈ raw, -2048 < x ∧ x < 2047) →
      exec (.triggerCandidate n raw) s
        = .next (((s.updTrc n (fun w => { w with raw := w.raw ++ raw })).toCycle n (v.seen + 1)).unitCycle n v.seen))
    ∧ (∀ l : List TrigRec, l ≠ [] →
      (s.trigGate n = false →
        ((s.judgeTriggers n l).trc n).trigs = v.trigs
          ∧ (s.judgeTriggers n l).fg b CAP_TRIG_GATED_COUNT_COUNT = satAdd 0xFFFFFFFF (s.fg b CAP_TRIG_GATED_COUNT_COUNT) l.length
          ∧ s.KeepsBut (s.judgeTriggers n l) (fun j => j = b + CAP_TRIG_GATED_COUNT))
      ∧ (∀ r ∈ l, s.trigGate n = true → s.inHoldoff n r.pos = false → (∀ q ∈ l, s.inHoldoff n q.pos = false → q = r ∨ r.pos < q.pos) →
        ((s.judgeTriggers n l).trc n).lastTrig = some r.pos ∧ ((s.judgeTriggers n l).trc n).trigs = v.trigs ++ [r]
          ∧ (s.judgeTriggers n l).fg b CAP_TRIG_MERGED_COUNT_COUNT
            = satAdd 0xFFFFFFFF (s.fg b CAP_TRIG_MERGED_COUNT_COUNT) ((l.filter (fun q => !s.inHoldoff n q.pos)).length - 1)
          ∧ s.KeepsBut (s.judgeTriggers n l) (fun j => j = b + CAP_TRIG_HOLDOFF_COUNT ∨ j = b + CAP_TRIG_MERGED_COUNT)))
    ∧ (∀ r rest, v.trigs = r :: rest → r.pos / 1024 < 2 ^ 64 → r.type ≤ 8 → s.acqMode n = 0 →
      ∃ t : State, exec (.triggerRecord n) s = .next t ∧ (t.trc n).trigs = rest ∧ t.rd64 (b + CAP_TRIG_POS) = r.pos / 1024
        ∧ t.fg b CAP_TRIG_SUB_SUBSAMPLE = r.pos % 1024 ∧ t.fg b CAP_TRIG_STATUS_TYPE = r.type
        ∧ t.fg b CAP_TRIG_COUNT_COUNT = satAdd 0xFFFFFFFF (s.fg b CAP_TRIG_COUNT_COUNT) 1
        ∧ (marks t).map (·.1) = (marks s).map (·.1) ++ [2]
        ∧ t.now = max s.now (s.cycTick n (r.cyc + s.fg b CAP_LATENCY_TRIG_CF))
        ∧ s.KeepsBut t (fun j => j ∈ [b + CAP_TRIG_POS, b + CAP_TRIG_POS + 4, b + CAP_TRIG_TIME, b + CAP_TRIG_TIME + 4, b + CAP_TRIG_SUB,
            b + CAP_TRIG_WIDTH, b + CAP_TRIG_STATUS, b + CAP_TRIG_COUNT] ∨ chanKey j))
    ∧ (∀ o off w, off ∈ [CAP_TRIG_LEVEL, CAP_TRIG_WINDOW, CAP_TRIG_T1, CAP_TRIG_T2, CAP_TRIG_HOLDOFF] → s.Accepts o (b + off) w →
      min (v.raw.length / 8) (s.capBegun n) ≤ v.seen →
      ∃ u : State, exec (.trigConfigWrite o (b + off) w) s = .next (u.ackWrite o) ∧ (u.trc n).lastTrig = none
        ∧ (u.trc n).unit = TrigUnit.fresh
        ∧ u.rd (b + off) = plainWrite (fieldsAt .cap n off) (s.rd (b + off)) w ∧ s.KeepsBut u (fun j => j = b + off))

/-- START on a ready channel is accepted and begins 3,000 ticks later; at its first cycle both ACQUIRING bits are 1, the number is the next and
counting starts at 0, with the START mark; STOP fixes its end at the first CF cycle at or after 3,000 ticks with cause HOST, and an end that is
fixed is carried out once its cycle has begun; EN written takes the ring's charges and reference, or gives them back; ACCT_LATCH shows the
seven counts of one instant. What each leaves alone. -/
def Obligations.AcquisitionsAndTheRing : Prop :=
  ∀ (s : State) (n : Nat), s.Inv → n < s.variant.caps →
    let b := base (pSTRM n)
    let v := s.trc n
    let plate := s.fg b STRM_RING_PLATE_PLATE
    (∀ o, s.Accepts o (b + STRM_ACQ_CMD) 1#32 → s.armedUses (pCAP n) = false → s.acquiring n = false → v.startAt = none →
      s.fb (base (pCAP n)) HDR_PAGE_CTRL_EN = true → s.fb (base (pCAP n)) HDR_PAGE_CTRL_PARK = false → s.loopOn n = false →
      s.captureFails n = false →
      ∃ u : State, exec (.acqStart o n) s = .next (u.ackWrite o) ∧ (u.trc n).startAt = some (s.now + 3000)
        ∧ s.KeepsBut u (fun _ => False))
    ∧ (∀ at_, v.startAt = some at_ → v.endAt = none → s.fb (base pCLK) CLK_PAGE_STATUS_CF_VALID = true →
      let q := s.cfFrom at_
      let m : State := if s.cfTime q < (s.now + 1) * 2 ^ 40 then s else { s with now := cdiv (s.cfTime q) (2 ^ 40) }
      let p := m.packRest n
      ∃ t : State, exec (.acqBegin n) s = .next t ∧ t.acquiring n = true ∧ t.fg (base (pCAP n)) CAP_CAP_STATUS_ACQUIRING = 1
        ∧ t.fg (base (pCAP n)) CAP_CAP_STATUS_SCENARIO = 0 ∧ t.kNow n = p.floorK n ∧ (t.trc n).acq = (p.trc n).nextAcq
        ∧ (t.trc n).nextAcq = ((p.trc n).nextAcq + 1) % 65536 ∧ (t.trc n).c = 0 ∧ (t.trc n).raw = [] ∧ (t.trc n).cBase = q
        ∧ (t.trc n).startAt = none ∧ t.now = p.now
        ∧ ((t.trc n).spans.flatMap (·.marks)).map (fun k => (k.type, k.c, k.arg32)) = [(1, 0, 0xFFFFFFFF)]
        ∧ p.KeepsBut t (fun j => j ∈ [base (pCAP n) + CAP_AVG_NOW, base (pCAP n) + CAP_CAP_STATUS, b + STRM_ACQ_STATUS]))
    ∧ (∀ o, s.Accepts o (b + STRM_ACQ_CMD) 2#32 → s.acquiring n = true → v.startAt = none → v.endAt = none → v.scen = 64 →
      let e := 8 * (max (s.cfFirst (s.now + 3000)) (v.cBase + s.acquired n / 8) - v.cBase)
      8 * s.capBegun n < e →
      ∃ u : State, exec (.acqStop o n) s = .next (u.ackWrite o) ∧ u.acquiring n = true ∧ (u.trc n).endAt = some (e, 1)
        ∧ s.KeepsBut u (fun _ => False))
    ∧ (∀ e cause, s.acquiring n = true → v.startAt = none → v.endAt = some (e, cause) → cause < 16 → e ≤ 8 * s.capBegun n →
      let t := s.capDue n
      t.acquiring n = false ∧ t.fg (base (pCAP n)) CAP_CAP_STATUS_ACQUIRING = 0 ∧ t.fg b STRM_ACQ_STATUS_END_CAUSE = cause
        ∧ (t.trc n).c = e ∧ (t.trc n).scen = 64 ∧ (t.trc n).tail = v.tail + (e - s.cOfIv n (s.ivOf n e))
        ∧ s.KeepsBut t (fun j => j = base (pCAP n) + CAP_CAP_STATUS ∨ j = b + STRM_ACQ_STATUS ∨ noticeKey j))
    ∧ (v.startAt = none →
      (∀ o, v.endAt = none → s.Accepts o (b + STRM_RING_CTRL) 1#32 → s.ringOn n = false → s.ringFails n = none →
        ∃ u : State, exec (.ringEnable o n true) s = .next (u.ackWrite o) ∧ u.ringOn n = true ∧ (u.trc n).held = [] ∧ (u.trc n).place = 0
          ∧ u.plates.charges = s.chargesWithRing n s.capRate
          ∧ s.KeepsRegs u (fun j => j = b + STRM_RING_CTRL) ∧ s.KeepsMem u (within (plateAddr plate + 0x28) 4))
      ∧ (∀ o, s.Accepts o (b + STRM_RING_CTRL) 0#32 → s.ringOn n = true → s.acquiring n = false →
        ∃ u : State, exec (.ringEnable o n false) s = .next (u.ackWrite o) ∧ u.ringOn n = false ∧ (u.trc n).held = []
          ∧ u.plates.charges = s.plates.charges.filter (fun c => c.holder != 64 + n)
          ∧ s.KeepsRegs u (fun j => j = b + STRM_RING_CTRL) ∧ s.KeepsMem u (within (plateAddr plate + 0x28) 4))
      ∧ (∀ o, v.endAt = none → s.Accepts o (b + STRM_ACCT_LATCH) 1#32 →
        ∃ u : State, exec (.acctLatch o n) s = .next (u.ackWrite o) ∧ u.rd64 (b + STRM_ACQUIRED) = s.acquired n % 2 ^ 64
          ∧ u.rd64 (b + STRM_DELIVERED) = v.delivered % 2 ^ 64 ∧ u.rd64 (b + STRM_PENDING) = s.pendingRaw n % 2 ^ 64
          ∧ u.rd64 (b + STRM_DROPPED) = v.dropped % 2 ^ 64 ∧ u.rd64 (b + STRM_DEAD) = s.deadNow n % 2 ^ 64
          ∧ u.rd64 (b + STRM_TAIL) = v.tail % 2 ^ 64 ∧ u.rd64 (b + STRM_UNDELIVERED) = v.undelivered % 2 ^ 64
          ∧ s.KeepsBut u (within (b + STRM_ACQUIRED) 56)))

/-- A block that is full, ends its span or has been open long enough goes into an enabled ring with room: it is held there, its intervals and
marks leave the packer, and only its 4,096 bytes change; one that is none of these stays open; one that the FIFO refuses, or that finds no free
block, is discarded into an episode. A high fill asks for k + 1 and a low one for k - 1; the change takes effect at its boundary, counted; the
rearm instant arms, and a record in progress ends.
When a block opens, and that rate changes are asked for by rows, are the model's reading (assumption log, entries 79 and 159). -/
def Obligations.BlocksRatesAndRecords : Prop :=
  ∀ (s : State) (n : Nat), s.Inv → n < s.variant.caps → (s.trc n).startAt = none → (s.trc n).endAt = none →
    let b := base (pSTRM n)
    let v := s.trc n
    (∀ (raw : List Int) (p : Span) (l : List Span),
      let r := s.takeRaw n raw
      (r.trc n).spans = p :: l → (r.trc n).gap = none →
      let m := min p.marks.length 63
      let room := blockRoom (r.fg b STRM_ACQ_CFG_FORMAT) (if r.ddcOn n then 2 else 1) m
      let avail := (match p.stop with | some e => min e (r.formed n) | none => r.formed n) - p.idx
      let full : Prop := room < avail ∨ (room = avail ∧ p.stop ≠ some (p.idx + avail)) ∨ m < p.marks.length
      let kept (close count : Nat) (t : State) : Prop := (t.trc n).held.map (fun h => (h.place, h.acq, h.seq, h.raw))
            = (r.trc n).held.map (fun h => (h.place, h.acq, h.seq, h.raw)) ++ [((r.trc n).place, (r.trc n).acq, (r.trc n).seq, r.rawOf n count)]
          ∧ (t.trc n).spans = packed count m (r.trc n).spans ∧ (t.trc n).seq = (r.trc n).seq + 1
          ∧ r.KeepsRegs t (fun _ => False)
          ∧ ((r.samplesBlock n close count (p.marks.take m)).length ≤ 4096 →
            r.KeepsMem t (within (r.plateByte (r.fg b STRM_RING_PLATE_PLATE) (4096 * (r.trc n).place)) 4096))
      let lost (cause count : Nat) (t : State) : Prop := (t.trc n).held = (r.trc n).held
          ∧ (t.trc n).dropped = (r.trc n).dropped + r.rawOf n count
          ∧ (t.trc n).gap.map (fun g => (g.sidx, g.cause, g.lost)) = some (r.nextIdx n, cause, r.rawOf n count)
          ∧ r.KeepsBut t (fun j => j = base (pSTRM n) + STRM_MARK_LOST_COUNT)
      (r.ringFull n = false →
        (full → ∃ t : State, exec (.blockClose n raw false) s = .next t ∧ kept 1 (min room avail) t)
        ∧ (¬ full → p.stop = some (p.idx + avail) → (avail ≠ 0 ∨ p.marks ≠ []) →
          ∃ t : State, exec (.blockClose n raw false) s = .next t ∧ kept p.code avail t)
        ∧ (¬ full → p.stop ≠ some (p.idx + avail) →
          exec (.blockClose n raw false) s = .next r
          ∧ (0 < avail → ∃ t : State, exec (.blockFlush n raw false) s = .next t ∧ kept 2 avail t ∧ t.now = max r.now (r.flushAt n))))
      ∧ (full →
        (∃ t : State, exec (.blockClose n raw true) s = .next t ∧ lost 2 (min room avail) t)
        ∧ (r.ringFull n = true → ∃ t : State, exec (.blockClose n raw false) s = .next t ∧ lost 1 (min room avail) t)))
    ∧ (let k := ((v.kReq).map (·.1)).getD (s.kNow n)
      s.acquiring n = true → s.acqMode n ≠ 2 →
      (k < 16 → s.fillAbove n (s.fg b STRM_WATERMARK_HIGH) = true →
        (∀ at_ fill, v.raised = some (at_, fill) → at_ + 3000 * s.fg b STRM_RATE_TIMING_RAISE_HOLD_US ≤ s.now ∧ fill < v.held.length) →
        ∃ t : State, exec (.rateRaise n) s = .next t ∧ (t.trc n).kReq = some (k + 1, s.cNow n) ∧ (t.trc n).raised = some (s.now, v.held.length)
          ∧ s.KeepsBut t (fun _ => False))
      ∧ (s.floorK n < k → s.fillBelow n (s.fg b STRM_WATERMARK_LOW) = true →
        ∃ t : State, exec (.rateLower n) s = .next t ∧ (t.trc n).kReq = some (k - 1, s.cNow n) ∧ s.KeepsBut t (fun _ => False)))
    ∧ (∀ k c0, v.kReq = some (k, c0) → s.acquiring n = true → k ≠ s.kNow n → k ≤ 16 →
      let c := s.changeAt n k c0
      ∃ t : State, exec (.avgFactorChange n) s = .next t ∧ t.kNow n = k ∧ t.fg (base (pCAP n)) CAP_AVG_NOW_K_NOW = k
        ∧ (t.trc n).kReq = none ∧ (t.trc n).segs = (s.ivOf n c, c, k) :: v.segs ∧ t.now = max s.now (s.cycTick n (c / 8))
        ∧ t.fg b STRM_RATE_UP_COUNT_COUNT = (if s.kNow n < k then satAdd 0xFFFFFFFF (s.fg b STRM_RATE_UP_COUNT_COUNT) 1
            else s.fg b STRM_RATE_UP_COUNT_COUNT)
        ∧ t.fg b STRM_RATE_DOWN_COUNT_COUNT = (if s.kNow n < k then s.fg b STRM_RATE_DOWN_COUNT_COUNT
            else satAdd 0xFFFFFFFF (s.fg b STRM_RATE_DOWN_COUNT_COUNT) 1)
        ∧ s.KeepsBut t (fun j => j ∈ [base (pCAP n) + CAP_AVG_NOW, b + STRM_RATE_UP_COUNT, b + STRM_RATE_DOWN_COUNT] ∨ noticeKey j))
    ∧ (s.acquiring n = true → s.acqMode n = 2 → v.record = none → v.armedC = none → s.fillBelow n (s.fg b STRM_WATERMARK_HIGH) = true →
      let c := s.rearmAt n
      ∃ t : State, exec (.rearmInstant n) s = .next t ∧ (t.trc n).armedC = some c ∧ t.fg b STRM_ACQ_STATUS_REC_ARMED = 1
        ∧ t.rd64 (b + STRM_LAST_DEAD) = (s.cTime n c - s.cTime n v.prevEnd) / 65536 % 2 ^ 64 ∧ t.now = max s.now (s.cycTick n (c / 8))
        ∧ s.KeepsBut t (fun j => j ∈ [b + STRM_ACQ_STATUS, b + STRM_LAST_DEAD, b + STRM_LAST_DEAD + 4]))
    ∧ (∀ start, v.record = some start →
      let c := s.cOfIv n (start + s.fg b STRM_REC_LEN_LEN)
      ∃ t : State, exec (.recordEnd n) s = .next t ∧ (t.trc n).record = none
        ∧ (t.trc n).prevEnd = c ∧ t.now = max s.now (s.cycTick n (c / 8)) ∧ s.KeepsBut t (fun _ => False))

/-- The oldest trigger that waits starts a pass with its anchor and bank, or counts as an overlap while a pass goes on; a PERIODIC pass starts
at its own sample; the first sample beyond a limit is the pass's violation, counted, with its sample number; frames within the mask count and end
a run; a verdict beyond it that makes the run longer than CONSEC is a violation. A vertex of the bank not in force is written by the page's owner; the
bank in force refuses with LOCKED, and a bank that may not be put in force with LIMIT. -/
def Obligations.StencilsJudge : Prop :=
  ∀ (s : State) (n : Nat), s.Inv → n < s.variant.caps → (s.trc n).startAt = none → (s.trc n).endAt = none →
    let b := base (pSTEN n)
    let v := s.trc n
    let shown (t : State) : Option (Int × Nat × Nat × Bool) := (t.trc n).pass.map (fun p => (p.anchor, p.bank, p.taken, p.told))
    (∀ x q rest, s.fb b STEN_TD_CFG_ANCHOR = false → v.tdPend = (x, q) :: rest →
      (v.pass = none →
        ∃ t : State, exec (.tdPassStart n) s = .next t
          ∧ shown t = some ((x : Int) - s.fg b STEN_TD_PRE_VALUE, s.fg b STEN_TD_CFG_BANK, q, false) ∧ (t.trc n).tdPend = rest
          ∧ t.fg b STEN_TD_PASS_COUNT_COUNT = satAdd 0xFFFFFFFF (s.fg b STEN_TD_PASS_COUNT_COUNT) 1
          ∧ s.KeepsBut t (fun j => j = b + STEN_TD_PASS_COUNT))
      ∧ (∀ p, v.pass = some p → (x : Int) - s.fg b STEN_TD_PRE_VALUE < s.passEndAt n p →
        ∃ t : State, exec (.tdPassStart n) s = .next t ∧ (t.trc n).pass = some p ∧ (t.trc n).tdPend = rest
          ∧ t.fg b STEN_TD_OVERLAP_COUNT_COUNT = satAdd 0xFFFFFFFF (s.fg b STEN_TD_OVERLAP_COUNT_COUNT) 1
          ∧ s.KeepsBut t (fun j => j = b + STEN_TD_OVERLAP_COUNT)))
    ∧ (s.fb b STEN_TD_CFG_ANCHOR = true → s.fb b STEN_TD_CFG_EN = true → s.acquiring n = true → v.pass = none →
      let a := s.fg b STEN_TD_PHASE_VALUE + v.tdNext * s.fg b STEN_TD_PERIOD_VALUE
      ∃ t : State, exec (.tdPassStart n) s = .next t ∧ shown t = some ((a : Int), s.fg b STEN_TD_CFG_BANK, 0, false)
        ∧ (t.trc n).tdNext = v.tdNext + 1 ∧ t.now = max s.now (s.cycTick n (a / 8))
        ∧ t.fg b STEN_TD_PASS_COUNT_COUNT = satAdd 0xFFFFFFFF (s.fg b STEN_TD_PASS_COUNT_COUNT) 1
        ∧ s.KeepsBut t (fun j => j = b + STEN_TD_PASS_COUNT))
    ∧ (∀ (raw : List Int) p e l,
      let r := s.takeRaw n raw
      (r.trc n).endAt = none → (r.trc n).pass = some p → p.told = false → r.passViols n p = e :: l → e.1 < 2 ^ 64 →
      r.fb b STEN_TD_CFG_ACT_STOP = false →
      ∃ t : State, exec (.tdViolation n raw) s = .next t ∧ t.rd64 (b + STEN_TD_LAST_C) = e.1
        ∧ t.fg b STEN_TD_VIOL_COUNT_COUNT = satAdd 0xFFFFFFFF (r.fg b STEN_TD_VIOL_COUNT_COUNT) 1
        ∧ shown t = some (p.anchor, p.bank, p.taken, true)
        ∧ t.now = max r.now (r.cycTick n (max (e.1 / 8) p.taken + r.fg b STEN_LATENCY_TD_CF))
        ∧ r.KeepsBut t (fun j => j ∈ [b + STEN_TD_VIOL_COUNT, b + STEN_TD_LAST_C, b + STEN_TD_LAST_C + 4] ∨ chanKey j ∨ noticeKey j))
    ∧ (∀ raw : List Int,
      let r := s.takeRaw n raw
      let f := (r.nextVerdict n).1
      let m := (r.nextVerdict n).2
      let first := (r.frameSpan n f).1
      let levels := r.levels n f m
      (r.trc n).endAt = none → r.fb b STEN_SP_CFG_STREAM_EN = false → r.frameReady n (f + m - 1) = true → (r.spSetAt n first).1 = true →
      let beyond : Prop := ∃ i, ∃ h : i < levels.length, excesses (r.mask n (r.spSetAt n first).2 true) levels[i] i ≠ []
      (¬ beyond →
        ∃ t : State, exec (.spectralVerdict n raw) s = .next t ∧ (t.trc n).spRun = 0 ∧ (t.trc n).spNext = f + m
          ∧ t.fg b STEN_SP_FRAME_COUNT_COUNT = satAdd 0xFFFFFFFF (r.fg b STEN_SP_FRAME_COUNT_COUNT) m
          ∧ r.KeepsBut t (fun j => j = b + STEN_SP_FRAME_COUNT))
      ∧ (beyond → r.fg b STEN_SP_CFG_CONSEC ≤ (r.trc n).spRun → first < 2 ^ 64 → r.fb b STEN_SP_CFG_ACT_STOP = false →
        r.fb b STEN_SP_CFG_ACT_TRIG = false →
        ∃ t : State, exec (.spectralVerdict n raw) s = .next t ∧ (t.trc n).spRun = (r.trc n).spRun + 1 ∧ (t.trc n).spNext = f + m
          ∧ t.fg b STEN_SP_VIOL_COUNT_COUNT = satAdd 0xFFFFFFFF (r.fg b STEN_SP_VIOL_COUNT_COUNT) 1
          ∧ t.rd64 (b + STEN_SP_LAST_C) = first
          ∧ r.KeepsBut t (fun j => j ∈ [b + STEN_SP_FRAME_COUNT, b + STEN_SP_VIOL_COUNT, b + STEN_SP_LAST_C, b + STEN_SP_LAST_C + 4,
              b + STEN_SP_LAST] ∨ chanKey j ∨ noticeKey j)))
    ∧ (∀ o bank i j w, s.AcceptsTable o → s.owns o.sess (pSTEN n) = true → bank < 2 → i < 4096 → j < 2 →
      let a := tdVertex n bank i + 4 * j
      (s.fg b STEN_TD_CFG_BANK ≠ bank →
        ∃ u : State, exec (.stencilMaskWrite o a w) s = .next (u.ackWrite o) ∧ u.ldw a = w.toNat
          ∧ s.KeepsRegs u (fun _ => False) ∧ s.KeepsMem u (within a 4))
      ∧ (s.fg b STEN_TD_CFG_BANK = bank → exec (.stencilMaskWrite o a w) s = .next (s.turnedAway o a .locked)))
    ∧ (∀ o bank i j w, s.AcceptsTable o → s.owns o.sess (pSTEN n) = true → bank < 2 → i < 1024 → j < 2 →
      s.fg b STEN_SP_CFG_BANK ≠ bank →
      ∃ u : State, exec (.stencilMaskWrite o (spVertex n bank i + 4 * j) w) s = .next (u.ackWrite o)
        ∧ u.ldw (spVertex n bank i + 4 * j) = w.toNat
        ∧ s.KeepsRegs u (fun _ => False) ∧ s.KeepsMem u (within (spVertex n bank i + 4 * j) 4))
    ∧ (∀ o w, s.Accepts o (b + STEN_TD_CFG) w →
      let t := (s.plain o.sess (b + STEN_TD_CFG) w).stencilSet n
      t.bankOk n (t.fg b STEN_TD_CFG_BANK) false (t.periodOf n) = false →
      exec (.stencilMaskWrite o (b + STEN_TD_CFG) w) s = .next (s.turnedAway o (b + STEN_TD_CFG) .limit))

/-- SELECT on a present reference goes to ACQUIRING; lock declared switches to LOCKED with cause RETURN; BYPASS, the loss of the input, unlock,
a tenth gate beyond the fault limit and an absent filter each leave LOCKED for the OCXO with their cause: ON_BYPASS, LAST_CAUSE, SWITCH_COUNT
and the level of channel 6 at its consumers 3 ticks later say so. The loss of the input moves no member of a chain; 10 s end
ACQUIRING. What each leaves alone. -/
def Obligations.ReferenceChainSwitches : Prop :=
  ∀ (s : State), s.syncState ≠ 1 → s.syncState ≠ 2 →
    let b := base pCLK
    let switched (t : State) (cause : Nat) : Prop := t.refState = 0 ∧ t.fb b CLK_PAGE_STATUS_ON_BYPASS = true
      ∧ t.fg b CLK_REF_STATUS_LAST_CAUSE = cause ∧ t.levelAt 6 (t.now + 3) = true
      ∧ t.fg b CLK_SWITCH_COUNT_COUNT = satAdd 0xFFFFFFFF (s.fg b CLK_SWITCH_COUNT_COUNT) 1
    let moved (t : State) : Prop :=
      s.KeepsBut t (fun j => j ∈ [b + CLK_PAGE_STATUS, b + CLK_REF_STATUS, b + CLK_SWITCH_COUNT] ∨ chanKey j ∨ noticeKey j)
    (∀ o, s.Accepts o (b + CLK_REF_CMD) 1#32 → s.refState = 0 → s.fb b CLK_REF_STATUS_PRESENT = true →
      s.fb b CLK_REF_STATUS_FILTER_ABSENT = false → s.devBeyond (s.fg b CLK_REF_LIMITS_FAULT_PPB) = false →
      s.fg (base pSYNC) SYNC_CFG_ROLE ≠ 2 →
      ∃ u : State, exec (.select o) s = .next (u.ackWrite o) ∧ u.refState = 1 ∧ s.KeepsBut u (fun j => j = b + CLK_REF_STATUS))
    ∧ (s.refState = 1 → s.fb b CLK_REF_STATUS_FILTER_ABSENT = false →
      ∃ t : State, exec .lockDeclared s = .next t ∧ t.refState = 2 ∧ t.fb b CLK_PAGE_STATUS_ON_BYPASS = false
        ∧ t.fg b CLK_REF_STATUS_LAST_CAUSE = 7 ∧ t.fg b CLK_REF_STATUS_LOCK_HIGH = 1 ∧ t.levelAt 6 (t.now + 3) = false
        ∧ moved t)
    ∧ (∀ o, s.Accepts o (b + CLK_REF_CMD) 2#32 → s.refState = 2 →
      ∃ u : State, exec (.bypass o) s = .next (u.ackWrite o) ∧ switched u 6 ∧ moved u)
    ∧ (s.refState = 2 → s.fg (base pSYNC) SYNC_CFG_ROLE ≠ 2 →
      ∃ t : State, exec .refLoss s = .next t ∧ switched t 1 ∧ t.fg b CLK_REF_STATUS_PRESENT = 0 ∧ moved t)
    ∧ (s.fg (base pSYNC) SYNC_CFG_ROLE = 2 →
      ∃ t : State, exec .refLoss s = .next t ∧ t.refState = s.refState ∧ t.fg b CLK_REF_STATUS_PRESENT = 0
        ∧ s.KeepsBut t (fun j => j = b + CLK_REF_STATUS))
    ∧ (s.refState = 2 → ∃ t : State, exec .unlock s = .next t ∧ switched t 2 ∧ t.fg b CLK_REF_STATUS_LOCK_HIGH = 0 ∧ moved t)
    ∧ (∀ d : Int, d.natAbs < 2 ^ 31 →
      (s.refState = 2 → 9 ≤ s.clk.beyondFault → s.fg b CLK_REF_LIMITS_FAULT_PPB < d.natAbs →
        ∃ t : State, exec (.refMonitorGate (some d)) s = .next t ∧ switched t 3 ∧ sext 32 (t.fg b CLK_REF_DEV_DEV_PPB) = d)
      ∧ (d.natAbs ≤ s.fg b CLK_REF_LIMITS_FAULT_PPB →
        ∃ t : State, exec (.refMonitorGate (some d)) s = .next t ∧ t.refState = s.refState ∧ t.clk.beyondFault = 0
          ∧ sext 32 (t.fg b CLK_REF_DEV_DEV_PPB) = d ∧ s.KeepsBut t (fun j => j = b + CLK_REF_DEV ∨ j = b + CLK_REF_STATUS ∨ noticeKey j)))
    ∧ (∀ n, (n ≤ 1000 → ∃ t : State, exec (.lockMonGate n) s = .next t ∧ t.fg b CLK_LOCK_MON_TRANSITIONS = n
          ∧ s.KeepsBut t (fun j => j = b + CLK_LOCK_MON))
        ∧ (1000 < n → s.refState = 2 → ∃ t : State, exec (.lockMonGate n) s = .next t ∧ t.fg b CLK_REF_STATUS_FILTER_ABSENT = 1
          ∧ switched t 4))
    ∧ (s.refState = 1 → s.clk.sync.correction = none → s.Idle (max s.now (s.clk.acquireAt + 30000000000)) →
      ∃ t : State, exec .refAcquireTimeout s = .next t ∧ t.refState = 0 ∧ t.now = max s.now (s.clk.acquireAt + 30000000000)
        ∧ s.KeepsBut t (fun j => j = b + CLK_REF_STATUS ∨ noticeKey j))
    ∧ (∀ p, ∃ t : State, exec (.refInPresent p) s = .next t ∧ t.fg b CLK_REF_STATUS_PRESENT = b2n p
        ∧ s.KeepsBut t (fun j => j = b + CLK_REF_STATUS))

/-- A DAC rate within its limits with RATE_CFG.MODE 0 is in force, the loop acquires, GF stops and every channel is muted for CLOCK; an ADC rate ends
every acquisition and stops CF; a small change under GLIDE only glides. An acquisition that completes makes its domain valid and takes the
CLOCK cause from settled channels; a slew that ends clears GLIDING; a relock counts and acquires anew; SSC_CHANGE puts QUIET in force. -/
def Obligations.RatesAcquireAndGlide : Prop :=
  ∀ (s : State), s.Inv →
    let b := base pCLK
    (∀ o r, s.Accepts o (b + CLK_GEN_RATE) (BitVec.ofNat 32 r) → 8000000000000 ≤ r → r ≤ 24000000000000 → s.outsFail r s.capRate = false →
      s.fb b CLK_PAGE_STATUS_GEN_ACQ = false → s.clk.genGlide = false →
      (r ≤ s.genRate ∨ s.overPlace (chargesAt s.plates.charges s.genRate r) = none) →
      (s.fb b CLK_RATE_CFG_MODE = false →
        ∃ u : State, exec (.genRateWrite o r) s = .next (u.ackWrite o) ∧ u.genRate = r ∧ u.fb b CLK_PAGE_STATUS_GEN_ACQ = true
          ∧ u.fb b CLK_PAGE_STATUS_GF_VALID = false ∧ u.capRate = s.capRate
          ∧ ∀ n, n < s.variant.gens → bit (u.causes n) 2 = true ∧ u.fg (base (pGEN n)) GEN_PROOF_STATUS_ALIGNED = 0)
      ∧ (s.fb b CLK_RATE_CFG_MODE = true → (max r s.genRate - min r s.genRate) * 1000000 ≤ 50 * s.genRate →
        ∃ u : State, exec (.genRateWrite o r) s = .next (u.ackWrite o) ∧ u.genRate = r ∧ u.clk.genGlide = true
          ∧ u.fb b CLK_PAGE_STATUS_GLIDING = true
          ∧ s.KeepsBut u (fun j => j ∈ [b + CLK_PAGE_STATUS, b + CLK_GEN_RATE, b + CLK_GEN_RATE + 4])))
    ∧ (∀ o r, s.Accepts o (b + CLK_CAP_RATE) (BitVec.ofNat 32 r) → 4000000000000 ≤ r → r ≤ s.capRate → r ≤ 12000000000000 →
      s.outsFail s.genRate r = false → s.fb b CLK_PAGE_STATUS_CAP_ACQ = false → s.clk.capGlide = false → s.fb b CLK_RATE_CFG_MODE = false →
      ∃ u : State, exec (.capRateWrite o r) s = .next (u.ackWrite o) ∧ u.capRate = r ∧ u.fb b CLK_PAGE_STATUS_CAP_ACQ = true
        ∧ u.fb b CLK_PAGE_STATUS_CF_VALID = false ∧ u.genRate = s.genRate ∧ (∀ n, n < s.variant.caps → u.acquiring n = false))
    ∧ ((∀ k a, k < 64 → (s.scn k).act = some a → a.launched = false) →
      (s.fb b CLK_PAGE_STATUS_GEN_ACQ = true → s.clk.genWhy ≠ .wake →
        ∃ t : State, exec (.synthAcquired false) s = .next t ∧ t.fb b CLK_PAGE_STATUS_GEN_ACQ = false
          ∧ t.fb b CLK_PAGE_STATUS_GF_VALID = true
          ∧ (∀ n, n < s.variant.gens → (s.gen n).settling = false → bit (t.causes n) 2 = false)
          ∧ (∀ n, n < s.variant.gens → t.fg (base (pGEN n)) GEN_PROOF_STATUS_ALIGNED = 1) ∧ s.KeepsMem t)
      ∧ (s.fb b CLK_PAGE_STATUS_CAP_ACQ = true →
        ∃ t : State, exec (.synthAcquired true) s = .next t ∧ t.fb b CLK_PAGE_STATUS_CAP_ACQ = false
          ∧ t.fb b CLK_PAGE_STATUS_CF_VALID = true ∧ (∀ n, n < s.variant.caps → t.fg (base (pCAP n)) CAP_CAP_STATUS_CLOCK_VALID = 1)
          ∧ s.KeepsMem t))
    ∧ (s.clk.genGlide = true →
      ∃ t : State, exec (.glideDone false) s = .next t ∧ t.clk.genGlide = false ∧ t.fb b CLK_PAGE_STATUS_GLIDING = s.clk.capGlide
        ∧ s.KeepsBut t (fun j => j = b + CLK_PAGE_STATUS ∨ noticeKey j))
    ∧ (s.clk.capGlide = true →
      ∃ t : State, exec (.glideDone true) s = .next t ∧ t.clk.capGlide = false ∧ t.fb b CLK_PAGE_STATUS_GLIDING = s.clk.genGlide
        ∧ s.KeepsBut t (fun j => j = b + CLK_PAGE_STATUS ∨ noticeKey j))
    ∧ (s.fb b CLK_PAGE_STATUS_GEN_ACQ = false →
      ∃ t : State, exec (.synthRelock false) s = .next t ∧ t.fb b CLK_PAGE_STATUS_GEN_ACQ = true ∧ t.fb b CLK_PAGE_STATUS_GF_VALID = false
        ∧ t.fg b CLK_SYNTH_RELOCK_COUNT_COUNT = satAdd 0xFFFFFFFF (s.fg b CLK_SYNTH_RELOCK_COUNT_COUNT) 1
        ∧ (∀ n, n < s.variant.gens → bit (t.causes n) 2 = true))
    ∧ (∃ t : State, exec .sscChange s = .next t ∧ t.clk.quiet = s.fb b CLK_SSC_CFG_QUIET ∧ s.KeepsBut t (fun _ => False))

/-- The first edge is captured with its time and fraction as edge 0; a later one at least half a second on is numbered by the whole seconds since;
one earlier counts as rejected; a gap counts once in PPS_MISSING; MODE takes its value, ALIGN_ONCE being refused with LOCKED while time is held. -/
def Obligations.PpsEdgesAreCaptured : Prop :=
  ∀ (s : State), s.clk.sync.correction = none →
    let b := base pTIME
    (∀ ticks frac, ticks < 2 ^ 48 → frac < 65536 → s.fg b TIME_PPS_CFG_MODE = 0 → s.Idle (max s.now ticks) →
      (∀ e ∈ s.scheds, e.at_.isSome = true) →
      let prev := s.clk.ppsAt
      let keys := fun j => j ∈ [b + TIME_PPS_TIME, b + TIME_PPS_TIME + 4, b + TIME_PPS_FRAC, b + TIME_PPS_COUNT, b + TIME_PPS_COUNT + 4] ∨ chanKey j
      (s.clk.ppsSeen = false →
        ∃ t : State, exec (.ppsCapture ticks frac) s = .next t ∧ t.lastPps = (ticks, 0) ∧ t.fg b TIME_PPS_FRAC_VALUE = frac
          ∧ t.clk.ppsSeen = true ∧ t.clk.ppsAt = 65536 * ticks + frac ∧ t.now = max s.now ticks ∧ s.KeepsBut t keys)
      ∧ (∀ sec, s.clk.ppsSeen = true → 0 < sec → sec < 1000000 → s.lastPps.2 + sec < 2 ^ 48 → 65536 * ticks + frac = prev + sec * 3000000000 * 65536 →
        ∃ t : State, exec (.ppsCapture ticks frac) s = .next t ∧ t.lastPps = (ticks, s.lastPps.2 + sec) ∧ s.KeepsBut t keys)
      ∧ (s.clk.ppsSeen = true → 65536 * ticks + frac < prev + 1500000000 * 65536 →
        ∃ t : State, exec (.ppsCapture ticks frac) s = .next t ∧ t.lastPps = s.lastPps
          ∧ t.fg b TIME_PPS_REJECT_COUNT_COUNT = satAdd 0xFFFFFFFF (s.fg b TIME_PPS_REJECT_COUNT_COUNT) 1
          ∧ s.KeepsBut t (fun j => j = b + TIME_PPS_REJECT_COUNT)))
    ∧ (let due := max s.now (s.clk.ppsAt / 65536 + 4500000000)
      s.clk.ppsGap = false → s.Idle due →
      ∃ t : State, exec .ppsMissing s = .next t ∧ t.clk.ppsGap = true ∧ t.now = due
        ∧ t.fg b TIME_PPS_MISSING_COUNT_COUNT = satAdd 0xFFFFFFFF (s.fg b TIME_PPS_MISSING_COUNT_COUNT) 1
        ∧ s.KeepsBut t (fun j => j = b + TIME_PPS_MISSING_COUNT ∨ noticeKey j))
    ∧ (∀ o m, m ≤ 2 → s.Accepts o (b + TIME_PPS_CFG) (BitVec.ofNat 32 m) →
      ((m = 1 → s.alignHeld = false) → (m = 2 → s.fg (base pSYNC) SYNC_CFG_ROLE ≠ 2) →
        ∃ u : State, exec (.ppsModeWrite o m) s = .next (u.ackWrite o) ∧ u.fg b TIME_PPS_CFG_MODE = m
          ∧ s.KeepsBut u (fun j => j = b + TIME_PPS_CFG))
      ∧ (m = 1 → s.alignHeld = true → exec (.ppsModeWrite o m) s = .next (s.turnedAway o (b + TIME_PPS_CFG) .locked)))

/-- ROLE is written in state 0 and MASTER starts the bus with a TIME frame; JOIN of a member measures the link with 4,096 MEASURE frames, whose mean gives
UP_DELAY and the cleaner then acquires; lock completes the join: time, HOPS, TOTAL_DELAY and JOINED; LEAVE of a master ends its bus with SPLIT; a link
shows its state. What each leaves alone. -/
def Obligations.SyncChainsFormAndPart : Prop :=
  ∀ (s : State),
    let b := base pSYNC
    let st := fun j => j = b + SYNC_STATUS
    (∀ o r, r ≤ 2 → s.Accepts o (b + SYNC_CFG) (BitVec.ofNat 32 r) → s.syncState = 0 →
      ∃ u : State, exec (.roleWrite o r) s = .next (u.ackWrite o) ∧ u.fg b SYNC_CFG_ROLE = r ∧ u.syncState = (if r = 1 then 5 else 0)
        ∧ u.clk.sync.sent = (if r = 1 then (false, .time s.now (s.fg b SYNC_BUS_LEAD_TICKS)) :: s.clk.sync.sent else s.clk.sync.sent)
        ∧ s.KeepsBut u (fun j => j = b + SYNC_CFG ∨ st j))
    ∧ (∀ o, s.Accepts o (b + SYNC_CMD) 1#32 → s.fg b SYNC_CFG_ROLE = 2 → (s.syncState = 0 ∨ s.syncState = 4) →
      s.fb b SYNC_STATUS_UP_UP = true → s.timeHeld = false →
      ∃ u : State, exec (.join o) s = .next (u.ackWrite o) ∧ u.syncState = 1 ∧ u.clk.sync.sent = (true, .measures 4096) :: s.clk.sync.sent
        ∧ u.clk.sync.echoes = 0 ∧ s.KeepsBut u st)
    ∧ (∀ o, s.Accepts o (b + SYNC_CMD) 2#32 → s.syncState = 5 →
      ∃ u : State, exec (.leave o) s = .next (u.ackWrite o) ∧ u.syncState = 0 ∧ u.clk.sync.waiting = []
        ∧ u.clk.sync.sent = (false, .split 0) :: s.clk.sync.sent ∧ s.KeepsBut u st)
    ∧ (∀ o, s.Accepts o (b + SYNC_CMD) 2#32 → s.syncState = 3 → s.refState = 2 →
      ∃ u : State, exec (.leave o) s = .next (u.ackWrite o) ∧ u.syncState = 0 ∧ u.refState = 0
        ∧ u.fg (base pCLK) CLK_REF_STATUS_LAST_CAUSE = 6)
    ∧ (∀ d, s.syncState = 1 → 0 < s.clk.sync.echoes → (s.clk.sync.roundTrips / s.clk.sync.echoes - 196608) / 2 = d → d < 2 ^ 32 →
      ∃ t : State, exec .measureDone s = .next t ∧ t.fg b SYNC_UP_DELAY_DELAY = d ∧ t.syncState = 2 ∧ t.refState = 1
        ∧ s.KeepsBut t (fun j => st j ∨ j = b + SYNC_UP_DELAY ∨ j = base pCLK + CLK_REF_STATUS))
    ∧ (∀ ticks hops total, hops < 31 → total + s.fg b SYNC_UP_DELAY_DELAY < 2 ^ 32 → s.syncState = 2 → s.refState = 1 →
      s.fb (base pCLK) CLK_REF_STATUS_FILTER_ABSENT = false → ticks + 2 ^ 32 < 2 ^ 64 →
      ∃ t : State, exec (.syncJoined ticks hops total) s = .next t ∧ t.syncState = 3 ∧ t.refState = 2
        ∧ t.now = ticks + (s.fg b SYNC_UP_DELAY_DELAY + 512) / 1024 ∧ t.fg b SYNC_STATUS_HOPS = hops + 1
        ∧ t.fg b SYNC_TOTAL_DELAY_DELAY = total + s.fg b SYNC_UP_DELAY_DELAY ∧ s.KeepsMem t)
    ∧ (∃ t : State, exec (.syncLinkUp true) s = .next t ∧ t.fg b SYNC_STATUS_UP_UP = 1 ∧ s.KeepsBut t st)
    ∧ (∃ t : State, exec (.syncLinkUp false) s = .next t ∧ t.fg b SYNC_STATUS_DOWN_UP = 1 ∧ s.KeepsBut t st)
    ∧ (s.syncState = 3 → s.refState = 2 →
      ∃ t : State, exec (.syncLinkDown true) s = .next t ∧ t.fg b SYNC_STATUS_UP_UP = 0 ∧ t.syncState = 4 ∧ t.refState = 0
        ∧ t.clk.sync.sent = (false, .split (s.fg b SYNC_STATUS_HOPS)) :: s.clk.sync.sent)
    ∧ (∃ t : State, exec (.syncLinkDown false) s = .next t ∧ t.fg b SYNC_STATUS_DOWN_UP = 0 ∧ t.clk.sync.below = false
        ∧ s.KeepsBut t (fun j => st j ∨ noticeKey j))

/-- A frame with a bad CRC is counted and has no other effect, but for the fourth in a row, which takes the link down; a TRIGGER symbol in time is forwarded and due for publication; a TIME frame that agrees gives
BUS_LEAD and is passed on; MEASURE is echoed; an ECHO is timed; SPLIT takes the member out of the chain; CORRECT counts and is passed on; in
tick t_pub the line's channel publishes.
What makes bad frames a row is the model's choice (assumption log, entry 168). -/
def Obligations.SyncFramesReceived : Prop :=
  ∀ (s : State), s.clk.sync.waiting = [] →
    let b := base pSYNC
    let few (up : Bool) : Prop := (s.clk.sync.bad.getD (b2n (!up)) (0, 0)).1 ≠ 3
    let bad (r : Host.Outcome State Fault Refusal) : Prop := ∃ t : State, r = .next t
      ∧ t.fg b SYNC_CRC_COUNT_COUNT = satAdd 0xFFFFFFFF (s.fg b SYNC_CRC_COUNT_COUNT) 1 ∧ s.KeepsBut t (fun j => j = b + SYNC_CRC_COUNT)
    (∀ up x y, few up → bad (exec (.syncTriggerFrame up false x y) s))
    ∧ (∀ x y, (few true → bad (exec (.syncTimeFrame false x y) s) ∧ bad (exec (.syncEchoFrame false x) s) ∧ bad (exec (.syncSplitFrame false x) s)
        ∧ bad (exec (.syncCorrectFrame false x y) s)) ∧ (few false → bad (exec (.syncMeasureFrame false x) s)))
    ∧ (∀ k x, s.clk.sync.bad.getD 0 (0, 0) = (3, k) → s.now ≤ k + 64 → s.fb b SYNC_STATUS_UP_UP = true →
      ∃ t : State, exec (.syncEchoFrame false x) s = .next t ∧ t.fg b SYNC_STATUS_UP_UP = 0
        ∧ t.fg b SYNC_CRC_COUNT_COUNT = satAdd 0xFFFFFFFF (s.fg b SYNC_CRC_COUNT_COUNT) 1)
    ∧ (∀ p, s.syncState = 3 → s.now + 3 ≤ s.fullTime p 24 → s.clk.sync.due = [] → s.clk.sync.outs.contains (0, s.fullTime p 24) = false →
      ∃ t : State, exec (.syncTriggerFrame true true (some p) none) s = .next t ∧ t.clk.sync.due = [(0, s.fullTime p 24)]
        ∧ t.clk.sync.waiting = [{ line := 0, up := false, tpub := s.fullTime p 24, since := s.now, own := false }]
        ∧ s.KeepsBut t (fun _ => False))
    ∧ (∀ ticks lead, s.syncState = 3 → lead < 2 ^ 24 → (ticks + (s.fg b SYNC_UP_DELAY_DELAY + 512) / 1024) % 2 ^ 56 = s.now % 2 ^ 56 →
      ∃ t : State, exec (.syncTimeFrame true ticks lead) s = .next t ∧ t.fg b SYNC_BUS_LEAD_TICKS = lead ∧ t.syncState = 3
        ∧ t.clk.sync.sent = (false, .time s.now lead) :: s.clk.sync.sent ∧ s.KeepsBut t (fun j => j = b + SYNC_BUS_LEAD))
    ∧ (∀ sn, s.syncState = 3 →
      ∃ t : State, exec (.syncMeasureFrame true sn) s = .next t ∧ t.clk.sync.below = true
        ∧ t.clk.sync.sent = (false, .echo (sn % 65536) (s.now + 128)) :: s.clk.sync.sent ∧ s.KeepsBut t (fun _ => False))
    ∧ (∀ r, s.syncState = 1 →
      ∃ t : State, exec (.syncEchoFrame true r) s = .next t ∧ t.clk.sync.echoes = s.clk.sync.echoes + 1
        ∧ t.clk.sync.roundTrips = s.clk.sync.roundTrips + r ∧ s.KeepsBut t (fun _ => False))
    ∧ (∀ hop, s.syncState = 3 → s.refState = 2 →
      ∃ t : State, exec (.syncSplitFrame true hop) s = .next t ∧ t.syncState = 4 ∧ t.refState = 0
        ∧ t.fg (base pCLK) CLK_REF_STATUS_LAST_CAUSE = 5 ∧ t.clk.sync.sent = (false, .split (hop % 32)) :: s.clk.sync.sent)
    ∧ (∀ at32 c4, s.syncState = 3 → s.now < s.fullTime at32 32 →
      ∃ t : State, exec (.syncCorrectFrame true at32 c4) s = .next t ∧ t.clk.sync.correction = some (s.fullTime at32 32, sext 4 c4)
        ∧ t.clk.sync.sent = (false, .correct (s.fullTime at32 32) (sext 4 c4)) :: s.clk.sync.sent
        ∧ t.fg (base pTIME) TIME_SNAP_COUNT_COUNT = satAdd 0xFFFFFFFF (s.fg (base pTIME) TIME_SNAP_COUNT_COUNT) 1
        ∧ s.KeepsBut t (fun j => j = base pTIME + TIME_SNAP_COUNT))
    ∧ (∀ line tpub, line < 2 → s.clk.sync.due = [(line, tpub)] → s.clk.sync.correction = none → s.Idle (max s.now tpub) →
      bit (s.fg (base pPWR) PWR_REST_CFG_WAKE_SYNC) line = false →
      ∃ t : State, exec (.syncPublish line) s = .next t ∧ t.clk.sync.due = [] ∧ t.now = max s.now tpub
        ∧ t.chF (2 + line) XH_CH_PUB_PUBLISHED = (s.chF (2 + line) XH_CH_PUB_PUBLISHED + 1) % 2 ^ 32
        ∧ s.KeepsBut t (fun j => j = chPage (2 + line) + XH_CH_PUB ((2 + line) % 64)))

/-- The next boundary is the next whole multiple of the interval. At it, with no TAKE waiting, each live trim of a clocked channel moves one code toward its target and nothing else in memory changes; a block without
excitation is discarded, and the sixteenth in a row freezes; one accepted short of ACCEPT_N only counts; the one that completes the count moves the
target by the rounded estimate; nothing counts while Atelier is unavailable; a model set that waits is written and counted, from its window on.
That a boundary acts once, and what pauses without Atelier, are the model's reading (assumption log, entries 171 and 177). -/
def Obligations.BurnishStepsAndEstimators : Prop :=
  ∀ (s : State),
    (∀ i, i = 3000 * s.fg (base pCAL) CAL_BURNISH_INTERVAL_US → 0 < i → s.cal.takes = [] → s.clk.sync.correction = none →
      s.Idle (max s.now s.nextBoundary) →
      ∃ t : State, exec .burnishBoundary s = .next t ∧ t.now = max s.now s.nextBoundary
        ∧ (s.cal.skipped = false → s.cal.stepped ≤ s.now → t.now = cdiv s.now i * i) ∧ t.cal.stepped = t.now + 1 ∧ t.cal.skipped = false
        ∧ (∀ cap n, s.hasChan cap n = true → s.xlatorValid cap = true → ∀ a, a ∈ s.liveTrims cap n →
          t.trimTgt a = s.trimTgt a ∧ t.trimCur a = (if s.trimCur a < s.trimTgt a then s.trimCur a + 1
            else if s.trimTgt a < s.trimCur a then s.trimCur a - 1 else s.trimCur a))
        ∧ s.KeepsRegs t (fun j => j = base pCAL + CAL_STEP_COUNT)
        ∧ s.KeepsMem t (fun x => ∃ cap n a, s.hasChan cap n = true ∧ s.xlatorValid cap = true ∧ a ∈ s.liveTrims cap n ∧ within a 4 x))
    ∧ (∀ cap n e r b, s.hasChan cap n = true → s.estTakes cap n e r = true →
      let a := estAddr cap n e r
      ((2 * b.usable < 2 ^ 20 ∨ s.excited cap e b = false) →
        ∃ t : State, exec (.estimatorBlock cap n e r b) s = .next t ∧ (t.estX a).discards = (s.estX a).discards + 1
          ∧ t.estState a = (if 16 ≤ (s.estX a).discards + 1 then 3 else s.estState a)
          ∧ t.fg (base pCAL) CAL_FROZEN_BLOCK_COUNT_COUNT = satAdd 0xFFFFFFFF (s.fg (base pCAL) CAL_FROZEN_BLOCK_COUNT_COUNT) 1
          ∧ s.KeepsRegs t (fun j => j = base pCAL + CAL_FROZEN_BLOCK_COUNT) ∧ s.KeepsMem t (within a 4))
      ∧ (2 ^ 20 ≤ 2 * b.usable → s.excited cap e b = true → s.atelier = false → exec (.estimatorBlock cap n e r b) s = .next s)
      ∧ (2 ^ 20 ≤ 2 * b.usable → s.excited cap e b = true → s.atelier = true →
        (s.estCount a + 1 < s.fg (base pCAL) CAL_EST_CFG_ACCEPT_N →
          ∃ t : State, exec (.estimatorBlock cap n e r b) s = .next t ∧ t.estCount a = s.estCount a + 1
            ∧ t.estState a = (if s.estState a = 2 then 2 else 1) ∧ t.ldw (a + 4) = ofSigned 32 b.est ∧ t.ldw (a + 8) = b.var % 2 ^ 32
            ∧ (t.estX a).discards = 0 ∧ s.KeepsRegs t (fun _ => False) ∧ s.KeepsMem t (within a 12))
        ∧ (∀ o, estTrim cap e r = some o → (cap = true ∨ e ≠ 21) → s.fg (base pCAL) CAL_EST_CFG_ACCEPT_N ≤ s.estCount a + 1 →
          s.cal.atelierGap = none →
          let at_ := (if cap then capCal n else genCal n) + o
          let want := (s.trimTgt at_ : Int) + estRound b.est
          192 ≤ b.est.natAbs → 0 ≤ want → want ≤ (trimMax cap o : Int) →
          ∃ t : State, exec (.estimatorBlock cap n e r b) s = .next t ∧ (t.trimTgt at_ : Int) = want ∧ t.trimCur at_ = s.trimCur at_
            ∧ t.estCount a = 0 ∧ t.estState a = 1 ∧ s.KeepsRegs t (fun _ => False)
            ∧ s.KeepsMem t (fun x => within a 12 x ∨ within at_ 4 x))))
    ∧ (∀ n p, n < s.variant.gens → s.cal.models = [p] → p.gen = n → p.set_ < 8 →
      let c := (s.nextWindow n).getD (s.gfNow - 168)
      ∃ t : State, exec (.modelTakesEffect n) s = .next t ∧ t.cal.models = []
        ∧ (s.nextWindow n ≠ none → t.now = max s.now (cdiv (s.gfTime (c + 168)) (2 ^ 40)))
        ∧ (n < s.proofs.length → ((t.proof n).olds.head?).map (fun o => (o.until_, o.set_)) = some (8 * c, p.set_))
        ∧ (∀ k, k < 48 → t.ldw (coefAddr n p.set_ k) = ofSigned 32 (sext 20 (p.words.getD (4 + k) 0)))
        ∧ t.fg (base (pGEN n)) GEN_PROOF_STATUS_MODEL_VER
          = (s.fg (base (pGEN n)) GEN_PROOF_STATUS_MODEL_VER + 1) % 2 ^ (GEN_PROOF_STATUS_MODEL_VER.hi + 1 - GEN_PROOF_STATUS_MODEL_VER.lo)
        ∧ s.KeepsRegs t (fun j => j = base (pGEN n) + GEN_PROOF_STATUS) ∧ s.KeepsMem t (within (modelAddr n p.set_) 0xE0))

/-- A burst begins in an eligible gap when due; abandoned, or not kept whole by its gap, it counts as abandoned; completed it counts and gives the clock-path delay; STARVED is set by starvation
and announced; TAKE sets BUSY and waits; RESTORE reports the code of its checks, and with the trims part alone moves targets and no current value. -/
def Obligations.TimingBurstsSnapshotsAndRestores : Prop :=
  ∀ (s : State),
    let c := base pCAL
    (∀ cap n gap, s.hasChan cap n = true → s.xlatorValid cap = true → s.gapOk cap n gap = true → s.burstDue cap n gap = true →
      s.cal.bursts.any (fun e => e.1 == chanPage cap n) = false →
      ∃ t : State, exec (.timingBurst cap n gap) s = .next t ∧ t.cal.bursts = (chanPage cap n, s.burstUntil cap n gap) :: s.cal.bursts
        ∧ t.cal.lastReq.find? (fun e => e.1 == chanPage cap n) = some (chanPage cap n, s.now) ∧ s.KeepsBut t (fun _ => False))
    ∧ (∀ cap n e, s.hasChan cap n = true → s.cal.bursts.find? (fun x => x.1 == chanPage cap n) = some e →
      let left := s.cal.bursts.filter (fun x => x.1 != chanPage cap n)
      let u : State := { s with now := max s.now e.2, cal := { s.cal with bursts := left } }
      let abandoned (t : State) : Prop := t.cal.bursts = left
        ∧ t.fg c CAL_BURST_ABANDON_COUNT_COUNT = satAdd 0xFFFFFFFF (s.fg c CAL_BURST_ABANDON_COUNT_COUNT) 1
        ∧ s.KeepsBut t (fun j => j = c + CAL_BURST_ABANDON_COUNT)
      (∃ t : State, exec (.timingBurstEnd cap n .abandoned) s = .next t ∧ abandoned t)
      ∧ (∀ d l, u.burstWhole cap n = false → ∃ t : State, exec (.timingBurstEnd cap n (.completed d l)) s = .next t ∧ abandoned t)
      ∧ (∀ d, d < 2 ^ 32 → u.burstWhole cap n = true →
        ∃ t : State, exec (.timingBurstEnd cap n (.completed d [])) s = .next t ∧ t.cal.bursts = left ∧ t.now = max s.now e.2
          ∧ t.fg c CAL_BURST_COUNT_COUNT = satAdd 0xFFFFFFFF (s.fg c CAL_BURST_COUNT_COUNT) 1
          ∧ (if cap then t.fg c CAL_CAP_CLOCK_PATH_DELAY n = d ∧ t.fg c CAL_CAP_STATUS_STARVED n = 0
            else t.fg c CAL_GEN_CLOCK_PATH_DELAY n = d ∧ t.fg c CAL_GEN_STATUS_STARVED n = 0)
          ∧ t.cal.starving.contains (chanPage cap n) = false
          ∧ s.KeepsBut t (fun j => j = c + CAL_BURST_COUNT ∨ j = c + 0x104 + (if cap then 0x100 else 0) + 16 * n
            ∨ j = c + 0x108 + (if cap then 0x100 else 0) + 16 * n)))
    ∧ (∀ cap n, s.hasChan cap n = true → s.cal.starving.contains (chanPage cap n) = false →
      (if cap then s.fb c CAL_CAP_CTRL_TIMING_EN n else s.fb c CAL_GEN_CTRL_TIMING_EN n) = true →
      let last := ((s.cal.lastBurst.find? (fun e => e.1 == chanPage cap n)).map (·.2)).getD s.cal.began
      ∃ t : State, exec (.timingCalStarved cap n) s = .next t ∧ t.cal.starving = chanPage cap n :: s.cal.starving
        ∧ t.now = max s.now (last + 3000000000 * s.fg c CAL_TIMING_CFG_STARVE_S)
        ∧ (if cap then t.fg c CAL_CAP_STATUS_STARVED n = 1 else t.fg c CAL_GEN_STATUS_STARVED n = 1)
        ∧ s.KeepsBut t (fun j => j = c + 0x104 + (if cap then 0x100 else 0) + 16 * n ∨ noticeKey j))
    ∧ (∀ o sg sc, s.Accepts o (c + CAL_CMD) (BitVec.ofNat 32 (0x10000000 + sc % 16 * 2 ^ 20 + sg % 65536)) →
      s.fb (sbase o.sess pCAL) CAL_CMD_STATUS_BUSY = false →
      ∃ u : State, exec (.take o sg sc) s = .next (u.ackWrite o) ∧ u.cal.takes = s.cal.takes ++ [(o.sess, sg, sc)]
        ∧ u.fg (sbase o.sess pCAL) CAL_CMD_STATUS_BUSY = 1 ∧ s.KeepsBut u (fun j => j = sbase o.sess pCAL + CAL_CMD_STATUS))
    ∧ (∀ o im parts, s.Accepts o (c + CAL_CMD) (BitVec.ofNat 32 (0x20000000 + b2n im * 2 ^ 27 + parts % 8 * 2 ^ 24)) →
      s.fb (sbase o.sess pCAL) CAL_CMD_STATUS_BUSY = false →
      let k := sbase o.sess pCAL
      let ks := fun j => j = k + CAL_CMD_STATUS ∨ noticeKey j
      (s.restoreCheck o.sess im parts ≠ .ok →
        ∃ u : State, exec (.restore o im parts) s = .next (u.ackWrite o)
          ∧ u.fg k CAL_CMD_STATUS_RESULT = (s.restoreCheck o.sess im parts).num ∧ u.fg k CAL_CMD_STATUS_OP = 2 ∧ s.KeepsBut u ks)
      ∧ (s.restoreCheck o.sess false 1 = .ok → im = false → parts = 1 →
        ∃ u : State, exec (.restore o im parts) s = .next (u.ackWrite o) ∧ u.fg k CAL_CMD_STATUS_RESULT = 0 ∧ u.fg k CAL_CMD_STATUS_OP = 2
          ∧ (∀ n, n < s.variant.gens → bit (s.ldw (stageView o.sess + 4)) n = true → ∀ x, x ∈ [0, 4] →
            u.trimTgt (genCal n + x) = s.mbits (stageView o.sess + 0x1000 + 0x1000 * n + x) 15 0 % 4096
              ∧ u.trimCur (genCal n + x) = s.trimCur (genCal n + x))
          ∧ s.KeepsRegs u ks ∧ s.KeepsMem u (within calLive 0x15000)))

/-- A change of MEMC.CFG re-initialises DRAM; training makes a wide-eyed interface READY and fails a narrow one; zeroing over, every DRAM byte reads 0;
an uncorrectable block is counted, located, faulted and announced; the scrub counts corrections; a hot poll doubles refresh; RETRAIN starts and ends;
a refresh that a panic has postponed by 8 intervals is mandatory and counts. What each leaves alone.
From when the allowance of a postponed refresh counts is the model's reading (assumption log, entry 172). -/
def Obligations.DramControllersTrainScrubAndRefresh : Prop :=
  ∀ (s : State), s.Inv →
    let m := base pMEMC
    (∀ o w, s.Accepts o (m + MEMC_CFG) w →
      (w &&& 0x13#32 = s.rd (m + MEMC_CFG) &&& 0x13#32 → exec (.memcCfgWrite o w) s = .next (s.ackWrite o))
      ∧ (w &&& 0x13#32 ≠ s.rd (m + MEMC_CFG) &&& 0x13#32 → s.cfgHeld = true →
        exec (.memcCfgWrite o w) s = .next (s.turnedAway o (m + MEMC_CFG) .state))
      ∧ (w &&& 0x13#32 ≠ s.rd (m + MEMC_CFG) &&& 0x13#32 → s.cfgHeld = false → getF w MEMC_CFG_DATA_RATE = s.fg m MEMC_CFG_DATA_RATE →
        ∃ u : State, exec (.memcCfgWrite o w) s = .next (u.ackWrite o) ∧ u.rd (m + MEMC_CFG) = w &&& 0x13#32
          ∧ u.fg m MEMC_STATUS_REINIT = 1
          ∧ s.KeepsBut u (fun j => j ∈ [m + MEMC_CFG, m + MEMC_STATUS, m + MEMC_USABLE, m + MEMC_USABLE + 4])))
    ∧ (s.fb m MEMC_STATUS_REINIT = true → (∀ i, i < s.variant.mifs → 2 ≤ s.mifState i) →
      ∃ t : State, exec .memReinitDone s = .next t ∧ t.fg m MEMC_STATUS_REINIT = 0
        ∧ (∀ a, dramBase ≤ a → a < 2 ^ 48 → t.mb a = 0) ∧ s.KeepsMem t (fun a => dramBase ≤ a ∧ a < 2 ^ 48) ∧ (∀ f, dramBase ≤ f * 65536 → t.frameOwner f = 0)
        ∧ s.KeepsRegs t (fun j => j = m + MEMC_STATUS ∨ noticeKey j))
    ∧ (∀ r, s.mifState 0 = 1 → r.lanes.length = 8 →
      (26 ≤ narrowest r →
        ∃ t : State, exec (.dramTrainingDone [r]) s = .next t ∧ t.mifState 0 = 2
          ∧ t.fg (base (pMIF 0)) MIF_STATUS_MARGINAL = (if narrowest r < 45 then 1 else 0) ∧ s.KeepsMem t)
      ∧ (narrowest r < 26 →
        ∃ t : State, exec (.dramTrainingDone [r]) s = .next t ∧ t.mifState 0 = 4 ∧ t.fg m MEMC_STATUS_DEGRADED = 1
          ∧ bit (t.fg m MEMC_STATUS_FAILED) 0 = true ∧ s.KeepsMem t))
    ∧ (∀ a i x, s.dramDecode a = some (i, x) → s.fb m MEMC_CFG_ECC_EN = true →
      let b := base (pMIF i)
      let ue := fun j => j ∈ [b + MIF_ECC_UNCORR_COUNT, b + MIF_LAST_UE, b + MIF_LAST_UE + 4, b + 0x01C] ∨ noticeKey j
      (∀ req inst, req ≠ 4 →
        ∃ t : State, exec (.memEcc a req inst) s = .next t ∧ t.badWords.contains (a / 8 * 8) = true
          ∧ t.fg b MIF_ECC_UNCORR_COUNT_COUNT = satAdd 0xFFFFFFFF (s.fg b MIF_ECC_UNCORR_COUNT_COUNT) 1
          ∧ t.rd64 (b + MIF_LAST_UE) = a / 64 * 64 % 2 ^ 64 ∧ (s.fg b HDR_PAGE_FAULT_CODE = 0 → t.fg b HDR_PAGE_FAULT_CODE = 0x0501)
          ∧ s.KeepsBut t ue)
      ∧ (∀ c, s.fg m MEMC_SCRUB_HOURS ≠ 0 → s.fb m MEMC_STATUS_REINIT = false → s.badLine a = false →
        ∃ t : State, exec (.patrolScrub a c) s = .next t
          ∧ t.fg b MIF_ECC_CORR_COUNT_COUNT = satAdd 0xFFFFFFFF (s.fg b MIF_ECC_CORR_COUNT_COUNT) c
          ∧ s.KeepsBut t (fun j => j = b + MIF_ECC_CORR_COUNT)))
    ∧ (∀ d0 d1 : Int, -128 ≤ d0 → d0 < 128 → -128 ≤ d1 → d1 < 128 → (85 < d0 ∨ 85 < d1) →
      ∃ t : State, exec (.dramTempPoll [(d0, d1)]) s = .next t ∧ t.fg (base (pMIF 0)) MIF_STATUS_REFRESH_2X = 1
        ∧ t.dram.cool.getD 0 0 = 0 ∧ sext 8 (t.fg (base (pMIF 0)) MIF_TEMP_DEV0) = d0 ∧ sext 8 (t.fg (base (pMIF 0)) MIF_TEMP_DEV1) = d1
        ∧ s.KeepsBut t (fun j => j = base (pMIF 0) + MIF_STATUS ∨ j = base (pMIF 0) + MIF_TEMP ∨ noticeKey j))
    ∧ (∀ o i, i < s.variant.mifs → s.Accepts o (base (pMIF i) + MIF_CMD) 1#32 → s.mifState i = 2 → s.fb m MEMC_STATUS_REINIT = false →
      s.plates.charges = [] → s.atelier = true →
      ∃ u : State, exec (.retrain o i) s = .next (u.ackWrite o) ∧ u.mifState i = 3 ∧ s.KeepsBut u (fun j => j = base (pMIF i) + MIF_STATUS))
    ∧ (∀ i r, i < s.variant.mifs → s.mifState i = 3 → narrowest r < 26 →
      ∃ t : State, exec (.retrainDone i r) s = .next t ∧ t.mifState i = 2
        ∧ t.fg (base (pMIF i)) MIF_RETRAIN_COUNT_COUNT = satAdd 0xFFFFFFFF (s.fg (base (pMIF i)) MIF_RETRAIN_COUNT_COUNT) 1
        ∧ s.KeepsBut t (fun j => j = base (pMIF i) + MIF_STATUS ∨ j = base (pMIF i) + MIF_RETRAIN_COUNT ∨ noticeKey j))
    ∧ (∀ i, i < s.variant.mifs →
      (s.panicSince i = [] → exec (.mandatoryRefresh i) s = .next s)
      ∧ (∀ t0 l, s.panicSince i = t0 :: l →
        let due := max s.now (l.foldl min t0 + (if s.fb (base (pMIF i)) MIF_STATUS_REFRESH_2X then 46875 else 93750))
        s.Idle due →
        ∃ t : State, exec (.mandatoryRefresh i) s = .next t ∧ t.now = due
          ∧ t.fg (base (pMIF i)) MIF_MAND_REFRESH_COUNT_COUNT = satAdd 0xFFFFFFFF (s.fg (base (pMIF i)) MIF_MAND_REFRESH_COUNT_COUNT) 1
          ∧ s.KeepsBut t (fun j => j = base (pMIF i) + MIF_MAND_REFRESH_COUNT)))

/-- A reader's FIFO below 25 % with data to fetch raises panic, and at 50 % or without such data leaves it, counting its time; an uncorrectable line is counted, located and faulted; the patrol counts
corrections; a collision drops or serialises; the bank test closes, zeroes and reports a bank; the start-up test zeroes the scratchpad. -/
def Obligations.PortsPanicAndTheScratchpadIsTested : Prop :=
  ∀ (s : State), s.Inv →
    let p := base pSPAD
    (∀ q fill, q < 28 → s.rtPort q = true → portWrites q = false → fill ≤ 100 →
      let b := portBase q
      (s.fb b MEMC_PORT_STATUS_PANIC q = false → fill < 25 → s.portNeeds q = true →
        ∃ t : State, exec (.portPanic q fill) s = .next t ∧ t.fg b MEMC_PORT_STATUS_PANIC q = 1 ∧ t.dram.panicAt.getD q none = some s.now
          ∧ t.fg b MEMC_PORT_STATUS_EXTREME_PCT q = min (s.fg b MEMC_PORT_STATUS_EXTREME_PCT q) fill
          ∧ t.fg b MEMC_PORT_PANIC_COUNT_COUNT q = satAdd 0xFFFFFFFF (s.fg b MEMC_PORT_PANIC_COUNT_COUNT q) 1
          ∧ s.KeepsBut t (fun j => j = b + 0x100 + 16 * q ∨ j = b + 0x104 + 16 * q))
      ∧ (∀ t0, s.fb b MEMC_PORT_STATUS_PANIC q = true → (50 ≤ fill ∨ s.portNeeds q = false) → s.dram.panicAt.getD q none = some t0 →
        ∃ t : State, exec (.portPanic q fill) s = .next t ∧ t.fg b MEMC_PORT_STATUS_PANIC q = 0 ∧ t.dram.panicAt.getD q none = none
          ∧ t.fg b MEMC_PORT_PANIC_US_COUNT q = satAdd 0xFFFFFFFF (s.fg b MEMC_PORT_PANIC_US_COUNT q) ((s.now - t0) / 3000)
          ∧ s.KeepsBut t (fun j => j = b + 0x100 + 16 * q ∨ j = b + 0x108 + 16 * q)))
    ∧ (let ue := fun j => j ∈ [p + SPAD_ECC_UNCORR_COUNT, p + SPAD_LAST_UE, p + SPAD_LAST_UE + 4, p + 0x01C] ∨ noticeKey j
      (∀ a req inst, inTables a = false → s.inGeneral a = false → exec (.spadEcc a req inst) s = .next s)
      ∧ (∀ a req inst, (inTables a = true ∨ s.inGeneral a = true) →
        ∃ t : State, exec (.spadEcc a req inst) s = .next t ∧ t.badWords.contains (a / 8 * 8) = true
        ∧ t.fg p SPAD_ECC_UNCORR_COUNT_COUNT = satAdd 0xFFFFFFFF (s.fg p SPAD_ECC_UNCORR_COUNT_COUNT) 1
        ∧ t.rd64 (p + SPAD_LAST_UE) = s.spadLine a / 64 * 64 % 2 ^ 64 ∧ s.KeepsBut t ue)
      ∧ (∀ n, s.badWords.filter inTables = [] → s.spadMode ≠ 4 → ∃ t : State, exec (.spadPatrol n []) s = .next t
        ∧ t.fg p SPAD_ECC_CORR_COUNT_COUNT = satAdd 0xFFFFFFFF (s.fg p SPAD_ECC_CORR_COUNT_COUNT) n
        ∧ s.KeepsBut t (fun j => j = p + SPAD_ECC_CORR_COUNT))
      ∧ (∀ n, s.badWords.filter inTables = [] → s.spadMode = 3 → ∃ t : State, exec (.spadRecoveryDone n []) s = .next t ∧ t.spadMode = 0
        ∧ t.fg p SPAD_ECC_CORR_COUNT_COUNT = satAdd 0xFFFFFFFF (s.fg p SPAD_ECC_CORR_COUNT_COUNT) n
        ∧ s.KeepsBut t (fun j => j = p + SPAD_ECC_CORR_COUNT ∨ j = p + SPAD_STATUS)))
    ∧ (∀ o a w,
      (s.variant.small = true → s.isOpen o.sess = true →
        ∃ u : State, exec (.spadCollision true o a w) s = .next (u.writeReport o.sess o.seq o.posted .collision 0 a)
          ∧ u.fg p SPAD_COLLISION_COUNT_COUNT = satAdd 0xFFFFFFFF (s.fg p SPAD_COLLISION_COUNT_COUNT) 1
          ∧ s.KeepsBut u (fun j => j = p + SPAD_COLLISION_COUNT))
      ∧ (s.variant.small = false →
        ∃ u : State, exec (.spadCollision true o a w) s = .next (u.hostWord o a w)
          ∧ u.fg p SPAD_SERIAL_COUNT_COUNT = satAdd 0xFFFFFFFF (s.fg p SPAD_SERIAL_COUNT_COUNT) 1
          ∧ s.KeepsBut u (fun j => j = p + SPAD_SERIAL_COUNT)))
    ∧ (∀ o b, b < 32 → s.Accepts o (p + SPAD_TEST_CMD) (BitVec.ofNat 32 (256 + b)) →
      (s.generalBank b = true → s.bankFailed b = false → s.bankPinned b = false → s.fb p SPAD_TEST_STATUS_BUSY = false →
        ∃ u : State, exec (.spadTestGo o b) s = .next (u.ackWrite o) ∧ u.fg p SPAD_TEST_STATUS_BUSY = 1 ∧ u.fg p SPAD_TEST_STATUS_BANK = b
          ∧ u.spadMode = 2 ∧ s.KeepsBut u (fun j => j = p + SPAD_TEST_STATUS ∨ j = p + SPAD_STATUS))
      ∧ ((s.generalBank b = false ∨ s.bankFailed b = true ∨ s.bankPinned b = true) →
        exec (.spadTestGo o b) s = .next (s.turnedAway o (p + SPAD_TEST_CMD) .state)))
    ∧ (∀ b pass, s.fb p SPAD_TEST_STATUS_BUSY = true → s.fg p SPAD_TEST_STATUS_BANK = b →
      ∃ t : State, exec (.spadTestDone pass) s = .next t ∧ t.fg p SPAD_TEST_STATUS_BUSY = 0
        ∧ t.fg p SPAD_TEST_STATUS_OUTCOME = (if pass then 1 else 2) ∧ t.spadMode = 0 ∧ (pass = false → t.bankFailed b = true)
        ∧ (∀ x, within (spadBase + 0x400000 * b) 0x400000 x → t.mb x = memDefault x)
        ∧ s.KeepsRegs t (fun j => j ∈ [p + SPAD_TEST_STATUS, p + SPAD_STATUS, p + SPAD_BANK_FAIL, p + 0x01C] ∨ noticeKey j)
        ∧ s.KeepsMem t (within (spadBase + 0x400000 * b) 0x400000))
    ∧ (s.spadMode = 1 →
      ∃ t : State, exec (.spadStartupTestDone []) s = .next t ∧ t.spadMode = 0 ∧ (∀ x, within spadBase 0x8000000 x → t.mb x = 0)
        ∧ s.KeepsRegs t (fun j => j = p + SPAD_STATUS) ∧ s.KeepsMem t (fun x => x < dramBase ∨ 2 ^ 48 ≤ x))

/-- A claim of available frames that no other session owns gives them to the session, zeroing those that were unowned; a release of its frames zeroes and
frees them; FRAME_DONE reports; COMMIT makes a root pending, CANCEL withdraws one unchecked, the check accepts or refuses it with its code, and an
accepted root takes effect when no chunk of the session is in flight, unless a plate pinned meanwhile would lose its pages. What each leaves alone.
That a claim's effect comes with the command and not with FRAME_DONE is the model's reading (assumption log, entry 118). -/
def Obligations.FramesAndRootsChangeHands : Prop :=
  ∀ (s : State),
    let d := base pDATU
    let inFrames (l : List Nat) (x : Nat) : Prop := ∃ f, f ∈ l ∧ within (f * 65536) 65536 x
    (∀ o n, 0 < n → n < 2 ^ 21 → s.dma.frame = none → s.rd64 (sbase o.sess pDATU + DATU_FRAME_BASE) % 65536 = 0 →
      let fs := s.frameList o.sess n
      (s.Accepts o (d + DATU_FRAME_CMD) (BitVec.ofNat 32 (2 ^ 28 + n)) →
        ((∃ f, f ∈ fs ∧ s.frameAvail f = false) →
          ∃ u : State, exec (.frameClaim o n) s = .next (u.ackWrite o) ∧ u.frames = s.frames ∧ s.KeepsBut u (fun _ => False)
            ∧ u.dma.frame = some { sess := o.sess, op := 1, count := n, result := Code.bounds.num })
        ∧ ((∀ f, f ∈ fs → s.frameAvail f = true ∧ (s.frameOwner f = 0 ∨ s.frameOwner f = o.sess)) →
          ∃ u : State, exec (.frameClaim o n) s = .next (u.ackWrite o)
            ∧ u.dma.frame = some { sess := o.sess, op := 1, count := n, result := 0 }
            ∧ (∀ f, u.frameOwner f = (if f ∈ fs then o.sess else s.frameOwner f))
            ∧ (∀ f x, f ∈ fs → s.frameOwner f = 0 → within (f * 65536) 65536 x → u.mb x = 0)
            ∧ s.KeepsRegs u (fun _ => False) ∧ s.KeepsMem u (fun x => ∃ f, f ∈ fs ∧ s.frameOwner f = 0 ∧ within (f * 65536) 65536 x)))
      ∧ (s.Accepts o (d + DATU_FRAME_CMD) (BitVec.ofNat 32 (2 * 2 ^ 28 + n)) →
        (∀ f, f ∈ fs → s.frameOwner f = o.sess ∧ s.tableFrame o.sess f = false ∧ s.mapsFrame (s.rootOf o.sess) f = false ∧ s.underPlate f = false) →
        ∃ u : State, exec (.frameRelease o n) s = .next (u.ackWrite o)
          ∧ u.dma.frame = some { sess := o.sess, op := 2, count := n, result := 0 }
          ∧ (∀ f, u.frameOwner f = (if f ∈ fs then 0 else s.frameOwner f))
          ∧ (∀ x, inFrames fs x → u.mb x = memDefault x) ∧ s.KeepsRegs u (fun _ => False) ∧ s.KeepsMem u (inFrames fs)))
    ∧ (∀ c, s.dma.frame = some c →
      ∃ t : State, exec .frameDone s = .next t ∧ t.dma.frame = none ∧ t.fg (sbase c.sess pDATU) DATU_FRAME_STATUS_RESULT = c.result % 256
        ∧ s.KeepsBut t (fun j => j = sbase c.sess pDATU + DATU_FRAME_STATUS ∨ noticeKey j))
    ∧ (∀ o, s.Accepts o (d + DATU_XLAT_CMD) 1#32 →
      let b := sbase o.sess pDATU
      (s.commitOf o.sess = none →
        ∃ u : State, exec (.commit o) s = .next (u.ackWrite o) ∧ u.fg b DATU_XLAT_STATUS_PENDING = 1
          ∧ u.commitOf o.sess = some ⟨o.sess, s.rd64 (b + DATU_NEW_ROOT) % 2 ^ 48, s.fg b DATU_NEW_VERSION_VERSION, false⟩
          ∧ s.KeepsBut u (fun j => j = b + DATU_XLAT_STATUS))
      ∧ ((s.commitOf o.sess).isSome = true → exec (.commit o) s = .next (s.turnedAway o (d + DATU_XLAT_CMD) .busy)))
    ∧ (∀ o c, s.Accepts o (d + DATU_XLAT_CMD) 2#32 → s.commitOf o.sess = some c →
      let b := sbase o.sess pDATU
      (c.accepted = true → exec (.xlatCancel o) s = .next (s.ackWrite o))
      ∧ (c.accepted = false →
        ∃ u : State, exec (.xlatCancel o) s = .next (u.ackWrite o) ∧ u.commitOf o.sess = none ∧ u.fg b DATU_XLAT_STATUS_PENDING = 0
          ∧ u.fg b DATU_XLAT_STATUS_RESULT = Code.cancelled.num
          ∧ s.KeepsBut u (fun j => j ∈ [b + DATU_XLAT_STATUS, b + DATU_XLAT_ADDR, b + DATU_XLAT_ADDR + 4] ∨ noticeKey j)))
    ∧ (∀ k c, s.commitOf k = some c →
      let b := sbase k pDATU
      (c.accepted = false → s.rootFails c = none →
        ∃ t : State, exec (.xlatCheckDone k) s = .next t ∧ t.commitOf k = some { c with accepted := true } ∧ s.KeepsBut t (fun _ => False))
      ∧ (∀ a block, c.accepted = false → s.rootFails c = some (.ecc, a, block) →
        ∃ t : State, exec (.xlatCheckDone k) s = .next t ∧ t.commitOf k = none ∧ t.fg b DATU_XLAT_STATUS_PENDING = 0
          ∧ t.fg b DATU_XLAT_STATUS_RESULT = Code.ecc.num ∧ t.fg b DATU_XLAT_STATUS_PLATE = 0 ∧ t.rd64 (b + DATU_XLAT_ADDR) = a % 2 ^ 64
          ∧ s.KeepsMem t)
      ∧ (∀ code a plate, c.accepted = false → s.rootFails c = some (code, a, plate) → code ≠ .ecc →
        ∃ t : State, exec (.xlatCheckDone k) s = .next t ∧ t.commitOf k = none ∧ t.fg b DATU_XLAT_STATUS_PENDING = 0
          ∧ t.fg b DATU_XLAT_STATUS_RESULT = code.num ∧ t.fg b DATU_XLAT_STATUS_PLATE = plate % 256
          ∧ t.rd64 (b + DATU_XLAT_ADDR) = a % 2 ^ 64 ∧ t.rd64 (b + DATU_ROOT) = s.rd64 (b + DATU_ROOT)
          ∧ s.KeepsBut t (fun j => j ∈ [b + DATU_XLAT_STATUS, b + DATU_XLAT_ADDR, b + DATU_XLAT_ADDR + 4] ∨ noticeKey j))
      ∧ (∀ a plate, c.accepted = true → s.dma.chunks.any (fun x => x.sess == k) = false → s.pinBroken k c.root = some (a, plate) →
        ∃ t : State, exec (.xlatDone k) s = .next t ∧ t.commitOf k = none ∧ t.fg b DATU_XLAT_STATUS_PENDING = 0
          ∧ t.fg b DATU_XLAT_STATUS_RESULT = Code.pinned.num ∧ t.rd64 (b + DATU_XLAT_ADDR) = a % 2 ^ 64
          ∧ t.rd64 (b + DATU_ROOT) = s.rd64 (b + DATU_ROOT)
          ∧ s.KeepsBut t (fun j => j ∈ [b + DATU_XLAT_STATUS, b + DATU_XLAT_ADDR, b + DATU_XLAT_ADDR + 4] ∨ noticeKey j))
      ∧ (c.accepted = true → s.dma.chunks.any (fun x => x.sess == k) = false → s.pinBroken k c.root = none →
        ∃ t : State, exec (.xlatDone k) s = .next t ∧ t.commitOf k = none ∧ t.rd64 (b + DATU_ROOT) = c.root % 2 ^ 64
          ∧ t.fg b DATU_VERSION_VERSION = c.version % 2 ^ 32 ∧ t.fg b DATU_XLAT_STATUS_RESULT = 0 ∧ t.fg b DATU_XLAT_STATUS_PENDING = 0
          ∧ s.KeepsBut t (fun j => j ∈ [b + DATU_XLAT_STATUS, b + DATU_ROOT, b + DATU_ROOT + 4, b + DATU_VERSION] ∨ noticeKey j)))

/-- A free queue is claimed; its owner writes the slots it has free, moves TAIL to submit, cancels what has not started, resumes or aborts a FAULTED head,
and releases an idle queue; an occupied slot is LOCKED and a TAIL past the ring is BUSY. What each leaves alone. -/
def Obligations.QueuesTakeTheirOwnersCommands : Prop :=
  ∀ (s : State), s.Inv →
    let b := base pDMA
    let keys (q j : Nat) : Prop := j ∈ [b + DMA_Q_RING q, b + DMA_STATUS, b + 0x10C + 16 * q] ∨ noticeKey j
    let ring (q x : Nat) : Prop := within (slotAddr q 0) 4096 x
    (∀ o q, q < 16 → s.Accepts o (b + DMA_Q_CMD q) 1#32 →
      (s.qOwner q = 0 →
        ∃ u : State, exec (.queueClaim o q) s = .next (u.ackWrite o) ∧ u.qOwner q = o.sess ∧ s.KeepsBut u (fun j => j = b + 0x100 + 16 * q))
      ∧ (s.qOwner q ≠ 0 → exec (.queueClaim o q) s = .next (s.turnedAway o (b + DMA_Q_CMD q) .owner)))
    ∧ (∀ o q, q < 16 → s.qOwner q = o.sess →
      (s.Accepts o (b + DMA_Q_CMD q) 2#32 → s.queueBusy q = false →
        ∃ u : State, exec (.queueRelease o q) s = .next (u.ackWrite o) ∧ u.qOwner q = 0 ∧ s.KeepsBut u (fun j => j = b + 0x100 + 16 * q))
      ∧ (s.Accepts o (b + DMA_Q_CMD q) 2#32 → s.queueBusy q = true →
        exec (.queueRelease o q) s = .next (s.turnedAway o (b + DMA_Q_CMD q) .state))
      ∧ (s.Accepts o (b + DMA_Q_CMD q) 3#32 →
        ∃ u : State, exec (.queueCancel o q) s = .next (u.ackWrite o)
          ∧ (∀ i, i ∈ s.slotsOut q → (s.slotState q i = 1 → u.slotState q i = 5 ∧ u.mbits (slotAddr q i + 0x1C) 15 12 = 2
              ∧ u.mbits (slotAddr q i + 0x1C) 23 16 = Code.cancelled.num) ∧ (s.slotState q i ≠ 1 → u.slotState q i = s.slotState q i))
          ∧ s.KeepsRegs u (keys q) ∧ s.KeepsMem u (ring q))
      ∧ (∀ i, s.qHead q = i → s.queueBusy q = true → s.slotState q i = 4 →
        (s.Accepts o (b + DMA_Q_CMD q) 4#32 →
          ∃ u : State, exec (.dmaResume o q) s = .next (u.ackWrite o) ∧ u.slotState q i = 2
            ∧ u.dma.taken.getD q 0 = s.ldw (slotAddr q i + 0x20) ∧ s.KeepsRegs u (keys q) ∧ s.KeepsMem u (within (slotAddr q i + 0x1C) 4))
        ∧ (s.Accepts o (b + DMA_Q_CMD q) 5#32 →
          ∃ u : State, exec (.dmaAbort o q) s = .next (u.ackWrite o) ∧ u.slotState q i = 5 ∧ u.mbits (slotAddr q i + 0x1C) 15 12 = 3
            ∧ u.qHead q ≠ i ∧ s.KeepsRegs u (keys q) ∧ s.KeepsMem u (within (slotAddr q i) 64)))
      ∧ (∀ tail, tail < 64 → s.Accepts o (b + DMA_Q_RING q) (BitVec.ofNat 32 (tail * 2 ^ 24)) →
        let old := s.fg b DMA_Q_RING_TAIL q
        let n := (tail + 64 - old) % 64
        (63 < (old + 64 - s.qHead q) % 64 + n → exec (.tailWrite o q tail) s = .next (s.turnedAway o (b + DMA_Q_RING q) .busy))
        ∧ ((old + 64 - s.qHead q) % 64 + n ≤ 63 →
          ∃ u : State, exec (.tailWrite o q tail) s = .next (u.ackWrite o) ∧ u.fg b DMA_Q_RING_TAIL q = tail ∧ u.qHead q = s.qHead q
            ∧ (∀ j, j < n → u.slotState q ((old + j) % 64) = 1 ∧ u.ldw (slotAddr q ((old + j) % 64) + 0x20) = 0)
            ∧ s.KeepsRegs u (keys q)
            ∧ s.KeepsMem u (fun x => ∃ j, j < n ∧ within (slotAddr q ((old + j) % 64) + 0x1C) 28 x))))
    ∧ (∀ o a w, 0x08800000 ≤ a → a < 0x08810000 → a % 4 = 0 → s.AcceptsTable o →
      let q := (a - 0x08800000) / 0x1000
      let i := (a - 0x08800000) % 0x1000 / 64
      (s.qOwner q ≠ o.sess → exec (.dmaSlotWrite o a w) s = .next (s.turnedAway o a .owner))
      ∧ (s.qOwner q = o.sess → s.slotOut q i = true → exec (.dmaSlotWrite o a w) s = .next (s.turnedAway o a .locked))
      ∧ (s.qOwner q = o.sess → s.slotOut q i = false →
        ∃ u : State, exec (.dmaSlotWrite o a w) s = .next (u.ackWrite o)
          ∧ (a % 64 ∈ [0x04, 0x08, 0x0C, 0x10, 0x18] → u.ldw a = w.toNat)
          ∧ s.KeepsRegs u (fun _ => False) ∧ s.KeepsMem u (within a 4)))

/-- With no chunk in flight the engine starts the first chunk of the queue it serves next; a FILL chunk that finishes stores its pattern and advances DONE, and
completes its descriptor where that was the last; a chunk with a fault, or whose destination was locked meanwhile, stores nothing and leaves the slot
FAULTED. What each leaves alone. -/
def Obligations.ChunksStartAndFinish : Prop :=
  ∀ (s : State), s.Inv →
    let b := base pDMA
    let dmaKey (j : Nat) : Prop := (∃ q, q < 16 ∧ (j = b + DMA_Q_RING q ∨ j = b + 0x10C + 16 * q)) ∨ j ∈ [b + DMA_STATUS, b + DMA_PREEMPT_COUNT, b + DMA_FAULT_COUNT]
      ∨ noticeKey j
    (∀ q, s.dma.chunks = [] → s.nextQueue = some q → s.slotState q (s.qHead q) = 1 →
      let d := s.descAt q (s.qHead q)
      (d.bad = false → d.op = 3 →
        ∃ t : State, exec .dmaChunkStart s = .next t ∧ t.slotState q (s.qHead q) = 2 ∧ t.dma.taken.getD q 0 = (d.chunk 0).2
          ∧ (∃ c, t.dma.chunks = [c] ∧ c.q = q ∧ c.slot = s.qHead q ∧ c.sess = s.qOwner q ∧ c.to_ = d.dst + (d.chunk 0).1
            ∧ c.len = (d.chunk 0).2 ∧ c.src = .fill d.src ∧ c.fin = false ∧ c.dead = false)
          ∧ s.KeepsRegs t dmaKey ∧ s.KeepsMem t (within 0x08800000 0x10000))
      ∧ (d.bad = true →
        ∃ t : State, exec .dmaChunkStart s = .next t ∧ t.slotState q (s.qHead q) = 5 ∧ t.dma.chunks = []
          ∧ t.mbits (slotAddr q (s.qHead q) + 0x1C) 23 16 = Code.limit.num
          ∧ s.KeepsRegs t dmaKey ∧ s.KeepsMem t (within 0x08800000 0x10000)))
    ∧ (∀ c w, s.dma.chunks = [c] → c.q < 16 → c.slot < 64 → c.fin = false → c.dead = false → s.chunkHeld c = false → c.src = .fill w →
      dramBase ≤ c.dst → s.dma.stopping = [] →
      let a := slotAddr c.q c.slot
      (c.fault = none → s.protectedAt c.sess c.dst = true →
        ∃ t : State, exec (.dmaChunkDone 0) s = .next t ∧ t.dma.chunks = [] ∧ t.slotState c.q c.slot = 4 ∧ t.mbits (a + 0x1C) 27 24 = 2
          ∧ s.KeepsRegs t dmaKey ∧ s.KeepsMem t (within a 64))
      ∧ (c.fault = none → s.protectedAt c.sess c.dst = false → s.ldw (a + 0x20) + c.len < 2 ^ 32 →
        ∃ t : State, exec (.dmaChunkDone 0) s = .next t ∧ t.dma.chunks = [] ∧ t.ldw (a + 0x20) = s.ldw (a + 0x20) + c.len
          ∧ (∀ j, j < c.len → t.mb (c.dst + j) = BitVec.ofNat 8 (w / 256 ^ (j % 8)))
          ∧ t.slotState c.q c.slot = (if (s.descAt c.q c.slot).len ≤ s.ldw (a + 0x20) + c.len then 5 else s.slotState c.q c.slot)
          ∧ t.fg b DMA_Q_DONE_COUNT_COUNT c.q = (if (s.descAt c.q c.slot).len ≤ s.ldw (a + 0x20) + c.len
              then (s.fg b DMA_Q_DONE_COUNT_COUNT c.q + 1) % 2 ^ 32 else s.fg b DMA_Q_DONE_COUNT_COUNT c.q)
          ∧ s.KeepsRegs t dmaKey ∧ s.KeepsMem t (fun x => within c.dst c.len x ∨ within a 64 x))
      ∧ (∀ r x, c.fault = some (r, x) → r < 16 → r ≠ 3 →
        ∃ t : State, exec (.dmaChunkDone 0) s = .next t ∧ t.dma.chunks = [] ∧ t.slotState c.q c.slot = 4
          ∧ t.mbits (a + 0x1C) 27 24 = r ∧ t.ld (a + 0x28) 8 = x % 2 ^ 64
          ∧ t.fg b DMA_FAULT_COUNT_COUNT = satAdd 0xFFFFFFFF (s.fg b DMA_FAULT_COUNT_COUNT) 1
          ∧ s.KeepsRegs t dmaKey ∧ s.KeepsMem t (within a 64)))

/-- A message that R454 lets through renews the lease and frees what it acknowledges; a later GRANT is taken and a stale one is not; a heartbeat is echoed with
the time and what is left of the lease; an answer to a pull in its turn gives the chunk its bytes, one of the wrong length or a PULL_ERR makes it fault
REMOTE, as a timeout 10 ms after its first sending does; a repeated reliable message is counted and acknowledged. -/
def Obligations.MessagesOfASessionAreTaken : Prop :=
  (∀ (s : State) (h : Hdr), s.Inv → s.Hears h → ∃ u : State, exec (.ack h) s = .next u ∧
    let b := sbase h.sess pXPORT
    (u.now = s.now ∧ u.isOpen h.sess = true ∧ (u.ses h.sess).lastMsgAt = s.now ∧ (u.ses h.sess).rxNext = (s.ses h.sess).rxNext)
    ∧ (s.dual h.sess = false → (s.ses h.sess).waiting = [] → (s.ses h.sess).notices = [] →
      (u.ses h.sess).unacked = (s.ses h.sess).unacked.filter (fun r => decide (min h.ack ((s.ses h.sess).txNext - 1) < r.seq))
        ∧ (∀ k, 1 ≤ k → k ≠ h.sess → u.ses k = s.ses k) ∧ s.KeepsBut u (rxKey h.port))
    ∧ (∀ g,
      ((g % 2 ^ 32 + 2 ^ 32 - u.fg b XPORT_GRANT_COUNT) % 2 ^ 32 < 2 ^ 31 →
        ∃ t : State, exec (.credit h g) s = .next t ∧ t.fg b XPORT_GRANT_COUNT = g % 2 ^ 32 ∧ u.KeepsBut t (fun j => j = b + XPORT_GRANT))
      ∧ (2 ^ 31 ≤ (g % 2 ^ 32 + 2 ^ 32 - u.fg b XPORT_GRANT_COUNT) % 2 ^ 32 → exec (.credit h g) s = .next u))
    ∧ (∃ t : State, exec (.heartbeat h) s = .next t ∧ u.KeepsBut t txKey
        ∧ (t.xport.sent.head?.map Sent.msg) = some (.heartbeatEcho s.now ((s.now + 3000000 * u.fg b XPORT_LEASE_LEASE_MS - s.now) / 3000)))
    ∧ (h.seq < (u.ses h.sess).rxNext →
      ∃ t : State, exec (.pullErr h 0 0) s = .next t ∧ t.dma = u.dma ∧ (t.xport.sent.head?.map Sent.msg) = some .ack
        ∧ t.fg b XPORT_DUP_COUNT_COUNT = satAdd 0xFFFFFFFF (u.fg b XPORT_DUP_COUNT_COUNT) 1
        ∧ u.KeepsBut t (fun j => txKey j ∨ j = b + XPORT_DUP_COUNT))
    ∧ (∀ c tag o, u.dma.chunks = [c] → c.src = .pull tag o none → c.sess = h.sess → c.fault = none → c.fin = false →
      h.seq = (u.ses h.sess).rxNext → (u.ses h.sess).held = [] →
      (∀ data, data.length = c.len →
        ∃ t : State, exec (.pullData h tag data) s = .next t ∧ t.dma.chunks = [{ c with src := .pull tag o (some data) }]
          ∧ (t.ses h.sess).rxNext = h.seq + 1 ∧ u.KeepsBut t (fun _ => False))
      ∧ (∀ data, data.length ≠ c.len →
        ∃ t : State, exec (.pullData h tag data) s = .next t ∧ t.dma.chunks = [{ c with fault := some (4, o) }])
      ∧ (∀ reason, ∃ t : State, exec (.pullErr h tag reason) s = .next t ∧ t.dma.chunks = [{ c with fault := some (4, o) }]
          ∧ (t.ses h.sess).rxNext = h.seq + 1 ∧ u.KeepsBut t (fun _ => False))))
  ∧ (∀ (s : State) c tag o first, s.dma.chunks = [c] → c.src = .pull tag o none → c.fault = none → c.fin = false →
      (s.ses c.sess).pulls = [(tag, first)] →
      ∃ t : State, exec (.pullTimeout c.sess tag) s = .next t ∧ t.dma.chunks = [{ c with fault := some (4, o) }]
        ∧ t.now = max s.now (first + 30000000) ∧ s.KeepsBut t (fun _ => False))

/-- In its turn a READ of readable DRAM answers its words, a WRITE or a BULK of unprotected frames of the session stores them and nothing else and is answered,
one that R460 does not allow is answered FORMAT, HOST_MEMORY_ACCESS is each of the three, and CLOSE of a session without estate frees its number. -/
def Obligations.ReadsWritesAndBulksOfDram : Prop :=
  ∀ (s : State) (h : Hdr), s.Inv → s.Hears h → ∃ u : State, exec (.ack h) s = .next u ∧
    (h.seq = (u.ses h.sess).rxNext → (u.ses h.sess).held = [] → (u.ses h.sess).waiting = [] →
      let v := u.updSes h.sess (fun q => { q with rxNext := h.seq + 1 })
      let mine (a n : Nat) : Prop := dramBase ≤ a ∧ a + n ≤ 2 ^ 48 ∧ v.fb (base pMEMC) MEMC_STATUS_REINIT = false
        ∧ ∀ i, i < n → (v.dramDecode (a + i)).isSome = true ∧ v.frameOwner ((a + i) / 65536) = h.sess
      let free : Prop := v.restState < 2 ∧ v.retired = false ∧ v.rootOf h.sess = 0 ∧ v.dma.commits = [] ∧ v.plates.extents = []
      (∀ a n, a % 4 = 0 → 0 < n → n ≤ 256 → mine a (4 * n) → v.restState < 2 → v.badWords = [] →
        exec (.read h a n) s = .next (v.respond h.sess h.seq .ok n 0 ((List.range n).map (fun i => BitVec.ofNat 32 (v.ldw (a + 4 * i)))))
          ∧ exec (.hostMemoryAccess h (.read a n)) s = exec (.read h a n) s)
      ∧ (∀ a n, (a % 4 ≠ 0 ∨ n = 0 ∨ 256 < n ∨ 2 ^ 48 ≤ a) → exec (.read h a n) s = .next (v.respond h.sess h.seq .format 0 a []))
      ∧ (∀ posted a ws, a % 4 = 0 → 0 < ws.length → ws.length ≤ 64 → mine a (4 * ws.length) → free → v.badWords = [] →
        ∃ t : State, exec (.write h posted a ws) s = .next (t.writeReport h.sess h.seq posted .ok ws.length (a + 4 * ws.length))
          ∧ exec (.hostMemoryAccess h (.write posted a ws)) s = exec (.write h posted a ws) s
          ∧ (∀ i, i < ws.length → t.ldw (a + 4 * i) = (ws.getD i 0).toNat) ∧ t.xport = v.xport
          ∧ v.KeepsRegs t (fun _ => False) ∧ v.KeepsMem t (within a (4 * ws.length)))
      ∧ (∀ posted a bs, a % 64 = 0 → 0 < bs.length → bs.length % 64 = 0 → bs.length ≤ 8192 → mine a bs.length → free →
        ∃ t : State, exec (.bulk h posted a bs) s = .next (t.writeReport h.sess h.seq posted .ok (bs.length / 64) 0)
          ∧ exec (.hostMemoryAccess h (.bulk posted a bs)) s = exec (.bulk h posted a bs) s
          ∧ (∀ i, i < bs.length → t.mb (a + i) = bs.getD i 0) ∧ (∀ w, w % 8 = 0 → (w ∈ t.badWords ↔ w ∈ v.badWords ∧ ¬ (a ≤ w ∧ w + 8 ≤ a + bs.length)))
          ∧ t.xport = v.xport ∧ v.KeepsRegs t (fun _ => False) ∧ v.KeepsMem t (within a bs.length))
      ∧ (∀ posted a bs, (a % 64 ≠ 0 ∨ bs.length = 0 ∨ bs.length % 64 ≠ 0 ∨ 8192 < bs.length ∨ 2 ^ 48 ≤ a) →
        exec (.bulk h posted a bs) s = .next (v.writeReport h.sess h.seq posted .format 0 a))
      ∧ (u.hasEstate h.sess = false → (u.ses h.sess).flights = [] → u.Idle u.now → u.xport.ownQ = [] →
        ∃ t : State, exec (.close h) s = .next t ∧ t.ses h.sess = Sess.fresh ∧ (t.xport.sent.head?.map Sent.msg) = some .closed
          ∧ u.KeepsBut t (fun j => txKey j ∨ noticeKey j)))

/-- OPEN_REQ is answered by a challenge with a fresh nonce, and beyond 16 it fails; a proof that R458 admits opens its number and is answered OPEN_DONE, one it
refuses is answered with its code; a challenge lapses; a lease that ends frees a number without estate; grace makes an orphan claimable; a command of page
ownership waits while Signet is not free, and else an unowned page is claimed, an owned one refused, and an idle one released.
The tick at which Signet takes a command of page ownership is the model's choice (assumption log, entry 114). -/
def Obligations.SessionsOpenAndEnd : Prop :=
  ∀ (s : State), s.Inv →
    let x := base pXPORT
    (∀ r : OpenReq, s.fb (base pDEV) DEV_FW_STATUS_SIGNET_READY = true → s.xport.auth = [] →
      let live := s.xport.challenges.filter (fun c => decide (s.now ≤ c.sentAt + 300000000))
      (live.length < 16 →
        ∃ t : State, exec (.openReq r) s = .next t
          ∧ t.xport.challenges = live ++ [⟨s.xport.openIds + 1, s.free 0x457 % 2 ^ 256, r, s.now⟩] ∧ t.xport.openIds = s.xport.openIds + 1
          ∧ (t.xport.sent.head?.map Sent.msg) = some (.challenge (s.xport.openIds + 1) (s.free 0x457 % 2 ^ 256) s.serial)
          ∧ t.fresh = s.fresh + 1 ∧ t.xport.sess = s.xport.sess ∧ s.KeepsBut t (fun j => rxKey r.port j ∨ txKey j))
      ∧ (16 ≤ live.length →
        ∃ t : State, exec (.openReq r) s = .next t ∧ t.fg x XPORT_OPEN_FAIL_COUNT_COUNT = satAdd 0xFFFFFFFF (s.fg x XPORT_OPEN_FAIL_COUNT_COUNT) 1
          ∧ t.xport = s.xport ∧ s.KeepsBut t (fun j => rxKey r.port j ∨ j = x + XPORT_OPEN_FAIL_COUNT)))
    ∧ (∀ c nh m rm, s.xport.challenges = [c] → s.now ≤ c.sentAt + 300000000 →
      let v : State := { s.rxFrame c.req.port with xport := { s.xport with challenges := [] } }
      (∀ e, v.verdictOpen c nh m rm = .error e →
        ∃ t : State, exec (.openProof c.req.port c.openId nh m rm) s = .next t ∧ t.xport.sess = s.xport.sess ∧ t.xport.challenges = []
          ∧ (t.xport.sent.head?.map Sent.msg) = some (.openDone c.openId e.num 0 0 0)
          ∧ s.KeepsBut t (fun j => rxKey c.req.port j ∨ txKey j ∨ j = x + XPORT_OPEN_FAIL_COUNT))
      ∧ (∀ key k, v.verdictOpen c nh m rm = .ok (key, k) → (s.ses k).st = .free → 1 ≤ k → k ≤ 16 →
        ∃ t : State, exec (.openProof c.req.port c.openId nh m rm) s = .next t ∧ t.isOpen k = true ∧ t.xport.challenges = []
          ∧ (t.ses k).hostId = c.req.hostId ∧ (t.ses k).lastMsgAt = s.now ∧ t.fg (sbase k pXPORT) XPORT_SESSION_NUMBER = k
          ∧ t.fg (sbase k pXPORT) XPORT_LEASE_LEASE_MS = min 60000 (max 10 c.req.leaseMs) ∧ t.fg (sbase k pXPORT) XPORT_GRANT_COUNT = 0
          ∧ (∀ q, 1 ≤ q → q ≠ k → (t.ses q).st = (s.ses q).st)))
    ∧ (∀ i c, s.xport.challenges = [c] → c.openId = i →
      ∃ t : State, exec (.openProofTimeout i) s = .next t ∧ t.xport.challenges = [] ∧ t.now = max s.now (c.sentAt + 300000000)
        ∧ s.KeepsBut t (fun _ => False))
    ∧ (∀ k, s.isOpen k = true → s.hasEstate k = false → (s.ses k).flights = [] → s.Idle (max s.now (s.leaseEnd k)) → s.xport.ownQ = [] →
      ∃ t : State, exec (.leaseExpiry k) s = .next t ∧ t.ses k = Sess.fresh ∧ t.now = max s.now (s.leaseEnd k) ∧ s.KeepsBut t noticeKey)
    ∧ (∀ k, 1 ≤ k → k ≤ 16 → (s.ses k).st = .orphan →
      ∃ t : State, exec (.graceExpiry k) s = .next t ∧ (t.ses k).st = .claimable
        ∧ t.now = max s.now ((s.ses k).orphanAt + 3000000000 * s.fg (sbase k pXPORT) XPORT_LEASE_GRACE_S) ∧ s.KeepsBut t noticeKey)
    ∧ (∀ o p, s.fb (sbase o.sess pXPORT) XPORT_OWN_STATUS_BUSY = false →
      let status := fun j => j = sbase o.sess pXPORT + XPORT_OWN_STATUS ∨ noticeKey j
      (p ∈ s.ownable → s.now < s.xport.ownFree → s.Accepts o (x + XPORT_OWN_CMD) (BitVec.ofNat 32 (2 ^ 28 + p)) →
        ∃ u : State, exec (.claimPage o p) s = .next (u.ackWrite o) ∧ u.xport.ownQ = s.xport.ownQ ++ [⟨o.sess, 1, p, s.now⟩]
          ∧ u.fg (sbase o.sess pXPORT) XPORT_OWN_STATUS_BUSY = 1 ∧ s.KeepsBut u (fun j => j = sbase o.sess pXPORT + XPORT_OWN_STATUS))
      ∧ (s.xport.ownQ = [] → s.xport.ownFree ≤ s.now → p ∈ s.ownable → s.Accepts o (x + XPORT_OWN_CMD) (BitVec.ofNat 32 (2 ^ 28 + p)) →
        (s.owner p = 0 →
          ∃ u : State, exec (.claimPage o p) s = .next (u.ackWrite o) ∧ u.owner p = o.sess
            ∧ u.fg (sbase o.sess pXPORT) XPORT_OWN_STATUS_RESULT = 0 ∧ s.KeepsBut u (fun j => j = base p + 0x008 ∨ status j))
        ∧ (s.owner p ≠ 0 →
          ∃ u : State, exec (.claimPage o p) s = .next (u.ackWrite o) ∧ u.owner p = s.owner p
            ∧ u.fg (sbase o.sess pXPORT) XPORT_OWN_STATUS_RESULT = Code.owner.num ∧ s.KeepsBut u status))
      ∧ (s.xport.ownQ = [] → s.xport.ownFree ≤ s.now → p ∈ s.ownable → s.Accepts o (x + XPORT_OWN_CMD) (BitVec.ofNat 32 (2 * 2 ^ 28 + p)) →
        s.owner p = o.sess →
        ((s.armedUses p || s.pageAcquires p || s.pageOnFabric p) = false →
          ∃ u : State, exec (.releasePage o p) s = .next (u.ackWrite o) ∧ u.owner p = 0
            ∧ u.fg (sbase o.sess pXPORT) XPORT_OWN_STATUS_RESULT = 0 ∧ s.KeepsBut u (fun j => j = base p + 0x008 ∨ status j))
        ∧ ((s.armedUses p || s.pageAcquires p || s.pageOnFabric p) = true →
          ∃ u : State, exec (.releasePage o p) s = .next (u.ackWrite o) ∧ u.owner p = o.sess
            ∧ u.fg (sbase o.sess pXPORT) XPORT_OWN_STATUS_RESULT = Code.locked.num ∧ s.KeepsBut u status)))

/-- A bare ACK carries the last SEQ taken; a resend comes RETX_US after the last sending; a stream block uses a credit, is confirmed or refused by a STREAM_ACK, and
becomes a gap at its deadline; a run of gaps is reported; queued notices travel 64 at a time; a port goes down, comes up and is bypassed. -/
def Obligations.TheModuleSendsAndItsPortsChange : Prop :=
  ∀ (s : State), s.Inv →
    (∀ k, s.isOpen k = true →
      ∃ t : State, exec (.bareAckSend k) s = .next t ∧ s.KeepsBut t txKey ∧ t.xport.sent.tail = s.xport.sent
        ∧ t.xport.sent.head?.map (fun m => (m.port, m.sess, m.seq, m.ack, m.credits, m.retry, m.msg))
          = some (s.curPort k, k, 0, (s.ses k).rxNext - 1, (s.ses k).creditsOut % 65536, false, .ack)
        ∧ t.xport.sent.head?.map (fun m => (m.dest, m.udp)) = some (if s.curPort k = (s.ses k).homePort
            then ((s.ses k).openAddr, (s.ses k).openUdp) else ((s.ses k).alt, (s.ses k).altUdp)))
    ∧ (∀ k r, s.isOpen k = true → s.dual k = false → (s.ses k).unacked = [r] →
      ∃ t : State, exec (.retransmit k r.seq) s = .next t ∧ t.now = max s.now (r.sentAt + s.retxTicks)
        ∧ (t.ses k).unacked = [{ r with sentAt := t.now, resends := r.resends + 1 }]
        ∧ (t.xport.sent.head?.map (fun m => (m.sess, m.seq, m.retry, m.msg))) = some (k, r.seq, true, r.msg)
        ∧ t.fg (sbase k pXPORT) XPORT_RETX_COUNT_COUNT = satAdd 0xFFFFFFFF (s.fg (sbase k pXPORT) XPORT_RETX_COUNT_COUNT) 1
        ∧ s.KeepsBut t (fun j => txKey j ∨ j = sbase k pXPORT + XPORT_RETX_COUNT))
    ∧ (∀ n k b, n < s.variant.caps → (s.trc n).startAt = none → (s.trc n).endAt = none → s.owner (pSTRM n) = k → s.isOpen k = true →
      (s.trc n).held = [b] → b.sent = false → 0 < s.streamCredit k → s.streamTurn k n = true →
      ∃ t : State, exec (.stream n) s = .next t ∧ (t.trc n).held = [{ b with sent := true }]
        ∧ (t.ses k).flights = (s.ses k).flights ++ [⟨n, b.acq, b.seq, b.raw, b.firstC, b.time, s.now⟩] ∧ (t.ses k).turn = n
        ∧ (t.xport.sent.head?.map Sent.msg) = some (.stream n b.acq b.seq)
        ∧ t.fg (sbase k pXPORT) XPORT_SENT_COUNT = (s.fg (sbase k pXPORT) XPORT_SENT_COUNT + 1) % 2 ^ 32
        ∧ s.KeepsBut t (fun j => txKey j ∨ j = sbase k pXPORT + XPORT_SENT))
    ∧ (∀ n, n < s.variant.caps → (s.trc n).startAt = none → (s.trc n).endAt = none →
      (s.streamCredit (s.owner (pSTRM n)) = 0 ∨ s.streamTurn (s.owner (pSTRM n)) n = false) → exec (.stream n) s = .next s)
    ∧ (∀ h f, s.Hears h → ∃ u : State, exec (.ack h) s = .next u ∧ ((u.ses h.sess).flights = [f] → f.chan < 4 → (u.trc f.chan).gap = none →
      let b := sbase h.sess pXPORT
      (∃ t : State, exec (.streamAck h [⟨f.acq, false, f.chan, 1, f.blk⟩]) s = .next t ∧ (t.ses h.sess).flights = []
        ∧ (t.trc f.chan).held = (u.trc f.chan).held.filter (fun x => !(x.acq == f.acq && x.seq == f.blk))
        ∧ t.fg b XPORT_CONFIRMED_COUNT = (u.fg b XPORT_CONFIRMED_COUNT + 1) % 2 ^ 32 ∧ u.KeepsBut t (fun j => j = b + XPORT_CONFIRMED))
      ∧ (∃ t : State, exec (.streamAck h [⟨f.acq, true, f.chan, 1, f.blk⟩]) s = .next t ∧ (t.ses h.sess).flights = []
        ∧ t.fg b XPORT_RETURNED_COUNT = (u.fg b XPORT_RETURNED_COUNT + 1) % 2 ^ 32
        ∧ t.fg b XPORT_GAP_BLOCK_COUNT_COUNT = satAdd 0xFFFFFFFF (u.fg b XPORT_GAP_BLOCK_COUNT_COUNT) 1
        ∧ u.KeepsBut t (fun j => j = b + XPORT_RETURNED ∨ j = b + XPORT_GAP_BLOCK_COUNT))))
    ∧ (∀ k f, 1 ≤ k → k ≤ 16 → (s.ses k).flights = [f] → f.chan < 4 → (s.trc f.chan).gap = none →
      let b := sbase k pXPORT
      ((s.ses k).gapRuns = [] →
        ∃ t : State, exec (.streamBlockDeadline k f.chan f.acq f.blk) s = .next t ∧ t.now = max s.now (f.sentAt + 30000000)
          ∧ (t.ses k).flights = [] ∧ (t.ses k).gapRuns = [⟨f.chan, f.acq, f.blk, 1, f.raw, f.firstC, f.time, t.now⟩]
          ∧ t.fg b XPORT_RETURNED_COUNT = (s.fg b XPORT_RETURNED_COUNT + 1) % 2 ^ 32
          ∧ s.KeepsBut t (fun j => j = b + XPORT_RETURNED ∨ j = b + XPORT_GAP_BLOCK_COUNT)))
    ∧ (∀ k r, 1 ≤ k → k ≤ 16 → (s.ses k).gapRuns = [r] →
      ∃ t : State, exec (.deliveryGap k r.chan) s = .next t ∧ (t.ses k).gapRuns = [] ∧ t.now = max s.now (r.begun + 3000000) ∧ s.KeepsBut t noticeKey)
    ∧ (∀ k, s.isOpen k = true → (s.ses k).waiting = [] → (s.ses k).unacked = [] → (s.ses k).notices ≠ [] →
      (∀ r, r ∈ (s.ses k).notices → r.inMsg = none) →
      ∃ t : State, exec (.notice k) s = .next t ∧ s.KeepsBut t txKey
        ∧ (t.xport.sent.head?.map Sent.msg) = some (.notice (((s.ses k).notices.take 64).map (·.nseq)))
        ∧ (t.ses k).txNext = (s.ses k).txNext + 1 ∧ (t.ses k).notices.length = (s.ses k).notices.length)
    ∧ (∀ p los, p < 2 → s.restState = 0 → s.portUp p = true → (∀ k, s.isOpen k = true → s.dual k = false) →
      ∃ t : State, exec (.portDown p los) s = .next t ∧ t.portUp p = false ∧ t.fg (base (pLINK p)) LINK_STATUS_LOS = b2n los
        ∧ t.xport.sent = s.xport.sent ∧ s.KeepsBut t (fun j => j = base (pLINK p) + LINK_STATUS ∨ noticeKey j))
    ∧ (∀ p, p < 2 → s.portUp p = false → s.fb (linkBase p) LINK_STATUS_BYPASSED = false → s.v4Mode p = 0 → s.v6Mode p = 0 →
      (∀ k, s.isOpen k = true → s.dual k = false) →
      ∃ t : State, exec (.portUp p) s = .next t ∧ t.portUp p = true ∧ t.fg (base (pLINK p)) LINK_STATUS_ALIGNED = 1
        ∧ s.KeepsBut t (fun j => j = base (pLINK p) + LINK_STATUS ∨ noticeKey j))
    ∧ (∀ o p, p < 2 → s.Accepts o (linkBase p + LINK_CTRL) (setF (s.rd (linkBase p + LINK_CTRL)) LINK_CTRL_BYPASS 1) →
      s.fb (linkBase p) LINK_CTRL_BYPASS = false →
      (s.portUp (1 - p) = false → exec (.portBypass o p true) s = .next (s.turnedAway o (linkBase p + LINK_CTRL) .locked))
      ∧ (s.portUp (1 - p) = true → (∀ k, s.isOpen k = true → s.dual k = false) →
        ∃ u : State, exec (.portBypass o p true) s = .next (u.ackWrite o) ∧ u.fb (linkBase p) LINK_CTRL_BYPASS = true ∧ u.portUp p = false
          ∧ u.fg (linkBase p) LINK_STATUS_BYPASSED = 1
          ∧ s.KeepsBut u (fun j => j = linkBase p + LINK_CTRL ∨ j = linkBase p + LINK_STATUS ∨ noticeKey j)))

/-- An ARP request for the port's address in force is answered and its sender learned; a solicitation for the link-local address is answered; an echo request is
answered; an offer is requested and an acknowledgement puts the address in force; the lease is renewed at half; a tentative address found unique is in force; what
is outside R448 counts as RX_DISCARD, and a datagram R454 rejects as DISCARD_COUNT. -/
def Obligations.TheNetworkLayerAnswers : Prop :=
  ∀ (s : State) (p : Nat), s.Inv → p < 2 →
    let b := linkBase p
    let rx := rxKey p
    let disc := fun j => rxKey p j ∨ j = b + LINK_RX_DISCARD ∨ j = b + LINK_RX_DISCARD + 4
    let sent (t : State) (m : Msg) : Prop := t.xport.sent.tail = s.xport.sent
      ∧ t.xport.sent.head?.map (fun x => (x.port, x.sess, x.seq, x.msg, x.dest)) = some (p, 0, 0, m, m.dest)
    let dropped (r : Host.Outcome State Fault Refusal) : Prop := ∃ t : State, r = .next t ∧ t.xport = s.xport ∧ s.KeepsBut t disc
      ∧ t.rd64 (b + LINK_RX_DISCARD) = (s.rd64 (b + LINK_RX_DISCARD) + 1) % 2 ^ 64
      ∧ t.rd64 (b + LINK_RX_FRAMES) = (s.rd64 (b + LINK_RX_FRAMES) + 1) % 2 ^ 64
    (∀ why, dropped (exec (.unsupportedFrame p why) s))
    ∧ (∀ why, ∃ t : State, exec (.discardedMessage p why) s = .next t
        ∧ t.fg (base pXPORT) XPORT_DISCARD_COUNT_COUNT = satAdd 0xFFFFFFFF (s.fg (base pXPORT) XPORT_DISCARD_COUNT_COUNT) 1
        ∧ t.xport = s.xport ∧ s.KeepsBut t (fun j => rx j ∨ j = base pXPORT + XPORT_DISCARD_COUNT))
    ∧ (s.v4Mode p = 0 → ∀ f, dropped (exec (.arpFrame p f) s))
    ∧ (s.v6Mode p = 0 → ∀ f, dropped (exec (.ndpFrame p f) s))
    ∧ (s.v4Mode p ≠ 2 → ∀ f, dropped (exec (.dhcpMessage p f) s))
    ∧ (s.portUp p = true →
      (∀ a m, s.v4Mode p ≠ 0 → s.v4State p = 2 →
        ∃ t : State, exec (.arpFrame p (.request (s.v4Addr p) a m)) s = .next t ∧ sent t (.arpReply a m) ∧ (a, m) ∈ (t.port p).neighbours
          ∧ s.KeepsBut t (fun j => rx j ∨ txKey j))
      ∧ (∀ a m, s.v6Mode p ≠ 0 →
        ∃ t : State, exec (.ndpFrame p (.solicit (s.linkLocal p) a m)) s = .next t ∧ sent t (.neighborAdvert (s.linkLocal p) a)
          ∧ (a, m) ∈ (t.port p).neighbours ∧ s.KeepsBut t (fun j => rx j ∨ txKey j))
      ∧ (∀ a len, s.v4State p = 2 → len ≤ s.fg b LINK_UDP_MTU →
        ∃ t : State, exec (.icmpEcho p false (s.v4Addr p) a len) s = .next t ∧ sent t (.echoReply a len) ∧ s.KeepsBut t (fun j => rx j ∨ txKey j))
      ∧ (∀ a srv, s.v4Mode p = 2 → s.v4State p = 1 →
        ∃ t : State, exec (.dhcpMessage p (.offer a srv)) s = .next t ∧ sent t (.dhcpRequest a srv) ∧ s.KeepsBut t (fun j => rx j ∨ txKey j))
      ∧ (∀ a srv mask gw lease, s.v4Mode p = 2 → a < 2 ^ 32 → gw < 2 ^ 32 →
        ∃ t : State, exec (.dhcpMessage p (.ack a srv mask gw lease)) s = .next t ∧ t.v4State p = 2 ∧ t.v4Addr p = a
          ∧ t.fg b LINK_V4_GW_ADDR = gw ∧ (t.port p).dhcpLeaseS = lease ∧ (t.port p).dhcpAckAt = s.now
          ∧ (t.xport.sent.head?.map Sent.msg) = some (.gratuitousArp a)
          ∧ s.KeepsBut t (fun j => rx j ∨ txKey j ∨ noticeKey j ∨ j ∈ [b + LINK_STATUS, b + LINK_V4_ADDR, b + LINK_V4_GW]))
      ∧ (s.v4Mode p = 2 → s.v4State p = 2 →
        ∃ t : State, exec (.dhcpLeaseTimer p .half) s = .next t ∧ sent t (.dhcpRequest (s.v4Addr p) (s.port p).dhcpServer)
          ∧ t.now = max s.now ((s.port p).dhcpAckAt + 3000000000 * (s.port p).dhcpLeaseS / 2) ∧ s.KeepsBut t txKey)
      ∧ (s.v4Mode p = 2 → s.v4State p = 2 →
        ∃ t : State, exec (.dhcpLeaseTimer p .sevenEighths) s = .next t ∧ sent t (.dhcpRequest (s.v4Addr p) 0)
          ∧ t.now = max s.now ((s.port p).dhcpAckAt + 3000000000 * (s.port p).dhcpLeaseS * 7 / 8) ∧ s.KeepsBut t txKey)
      ∧ (s.v4Mode p = 2 → s.v4State p = 2 →
        ∃ t : State, exec (.dhcpLeaseTimer p .ended) s = .next t ∧ sent t .dhcpDiscover ∧ t.v4State p = 1 ∧ t.v4Addr p = 0
          ∧ s.KeepsBut t (fun j => txKey j ∨ noticeKey j ∨ j = b + LINK_STATUS ∨ j = b + LINK_V4_ADDR))
      ∧ (s.v4Mode p = 2 →
        ∃ t : State, exec (.dhcpMessage p .nak) s = .next t ∧ sent t .dhcpDiscover ∧ t.v4State p = 1 ∧ t.v4Addr p = 0)
      ∧ (∀ a m, s.v4Mode p ≠ 0 →
        ∃ t : State, exec (.arpFrame p (.reply a m)) s = .next t ∧ (a, m) ∈ (t.port p).neighbours ∧ t.xport.sent = s.xport.sent ∧ s.KeepsBut t rx)
      ∧ (∀ a m, s.v6Mode p ≠ 0 →
        ∃ t : State, exec (.ndpFrame p (.advert a m)) s = .next t ∧ (a, m) ∈ (t.port p).neighbours ∧ t.xport.sent = s.xport.sent ∧ s.KeepsBut t rx)
      ∧ (∀ pre r m, s.v6Mode p = 2 → s.v6State p = 0 → (s.port p).tentative = none →
        ∃ t : State, exec (.ndpFrame p (.routerAdvert pre true r m)) s = .next t ∧ t.v6State p = 1
          ∧ (t.port p).tentative = some (pre % 2 ^ 64 * 2 ^ 64 + eui64 (s.macAddr p)) ∧ (t.port p).router = r
          ∧ s.KeepsBut t (fun j => rx j ∨ txKey j ∨ j = b + LINK_STATUS)))
    ∧ (∀ a, (s.port p).tentative = some a → a < 2 ^ 128 →
      (∃ t : State, exec (.duplicateAddressDetection p false) s = .next t ∧ t.v6State p = 2 ∧ t.v6Addr p = a ∧ (t.port p).tentative = none)
      ∧ (∃ t : State, exec (.duplicateAddressDetection p true) s = .next t ∧ t.v6State p = 3 ∧ t.v6Addr p = 0 ∧ (t.port p).tentative = none))

/-- A write that R490 refuses is reported and changes nothing; each session writes its own NOTICE_MASK and DEV.SCRATCH; a read of the low word of a shadowed pair answers
it and latches the high word, which the next read answers; the high word of a writable pair waits in the shadow and the low word commits both; TRIG_CNT clears on
read; a counter clear leaves a coincident count at 1; NOTICE_RAW clears but for bits set in the same cycle. -/
def Obligations.RegistersAreWrittenReadAndCleared : Prop :=
  ∀ (s : State) (o : Org), s.Inv → s.isOpen o.sess = true →
    (∀ a w c, a < 0x01000000 → a % 4 = 0 → s.inPairW a = false → s.judge o.sess a w = .error c →
      exec (.registerWrite o a w) s = .next (s.turnedAway o a c))
    ∧ (∀ p w, (pageOf s.variant p).isSome = true → s.restState < 2 →
      ∃ u : State, exec (.registerWrite o (base p + 0x014) w) s = .next (u.ackWrite o) ∧ u.rd (sbase o.sess p + 0x014) = w
        ∧ s.KeepsBut u (fun j => j = sbase o.sess p + 0x014))
    ∧ (∀ w, s.fb (base pDEV) HDR_PAGE_CTRL_BUSY = false →
      ∃ u : State, exec (.registerWrite o (base pDEV + DEV_SCRATCH) w) s = .next (u.ackWrite o)
        ∧ u.rd (sbase o.sess pDEV + DEV_SCRATCH) = w ∧ s.KeepsBut u (fun j => j = sbase o.sess pDEV + DEV_SCRATCH))
    ∧ (∀ a, a < 0x01000000 → a % 8 = 0 → s.inPair a = true → s.restState < 2 → s.upToDate a = s →
      ∃ u : State, exec (.shadowLowRead o a) s = .next (u.respond o.sess o.seq .ok 1 0 [s.peek o.sess a])
        ∧ u.shadowOf o.sess (a + 4) = s.peek o.sess (a + 4) ∧ s.KeepsBut u (fun _ => False))
    ∧ (∀ a, a < 0x01000000 → a % 8 = 4 → s.inPair a = true → s.restState < 2 → s.upToDate a = s →
      exec (.shadowLowRead o a) s = .next (s.respond o.sess o.seq .ok 1 0 [s.shadowOf o.sess a]))
    ∧ (∀ a w, a < 0x01000000 → a % 8 = 4 → s.inPairW a = true →
      (s.judgeHead o.sess a = .ok () →
        ∃ u : State, exec (.shadowHighWrite o a w) s = .next (u.ackWrite o) ∧ (u.ses o.sess).writeShadow.find? (fun e => e.1 == a) = some (a, w)
          ∧ s.KeepsBut u (fun _ => False))
      ∧ (∀ c, s.judgeHead o.sess a = .error c → exec (.shadowHighWrite o a w) s = .next (s.turnedAway o a c)))
    ∧ (∀ lo hi, let a := base pDATU + DATU_FRAME_BASE
      s.judgeHead o.sess a = .ok () → s.judgeHead o.sess (a + 4) = .ok () → s.restState = 0 →
      (s.ses o.sess).writeShadow.find? (fun e => e.1 == a + 4) = some (a + 4, hi) →
      ∃ u : State, exec (.shadowLowWrite o a lo) s = .next (u.ackWrite o)
        ∧ u.rd64 (sbase o.sess pDATU + DATU_FRAME_BASE) % 2 ^ 48 = lo.toNat + 2 ^ 32 * (hi.toNat % 2 ^ 16)
        ∧ (u.ses o.sess).writeShadow.find? (fun e => e.1 == a + 4) = none
        ∧ s.KeepsBut u (fun j => j = sbase o.sess pDATU + DATU_FRAME_BASE ∨ j = sbase o.sess pDATU + DATU_FRAME_BASE + 4))
    ∧ (∀ a, a = base (pPAT 0) + TRG_TRIG_IN_MERGED ∨ a = base (pPAT 0) + TRG_TRIG_CNT → s.restState < 2 →
      ∃ u : State, exec (.clearOnRead o a) s = .next (u.respond o.sess o.seq .ok 1 0 [s.peek o.sess a]) ∧ u.rd a = 0#32
        ∧ s.KeepsBut u (fun j => j = a))
    ∧ (∀ p off first n mask again,
      (p, off, first, n) ∈ [(pCLK, CLK_CNT_CLEAR, 0x0A0, 2), (pTIME, TIME_CNT_CLEAR, 0x080, 4), (pSYNC, SYNC_CNT_CLEAR, 0x060, 5),
        (pCAL, CAL_CNT_CLEAR, 0x060, 4), (pSPAD, SPAD_CNT_CLEAR, 0x060, 5), (pDMA, DMA_CNT_CLEAR, 0x044, 2), (pPWR, PWR_CNT_CLEAR, 0x080, 2)] →
      s.Accepts o (base p + off) mask →
      ∃ u : State, exec (.counterClear o (base p + off) mask again) s = .next (u.ackWrite o)
        ∧ (∀ i, i < n → u.rd (base p + first + 4 * i)
            = (if bit mask.toNat i then (if bit again.toNat i then 1#32 else 0#32) else s.rd (base p + first + 4 * i)))
        ∧ s.KeepsBut u (fun j => ∃ i, i < n ∧ j = base p + first + 4 * i))
    ∧ (∀ p mask again, s.Accepts o (base p + 0x018) mask →
      ∃ u : State, exec (.noticeRawClear o p mask again) s = .next (u.ackWrite o)
        ∧ u.rd (sbase o.sess p + 0x018) = ((s.rd (sbase o.sess p + 0x018) &&& ~~~ mask) ||| again)
        ∧ s.KeepsBut u (fun j => j = sbase o.sess p + 0x018))

/-- EN written 0 on a block in no use removes READY, and 1 asks for power, which READY answers; PARK takes its bit; RESET sets BUSY unless the block is held, and its end brings
the page back to reset; FAULT_CLR clears PAGE_FAULT but for a fault of the same cycle; a loaded slot is marked, and one that came late is counted. -/
def Obligations.BlocksAreEnabledParkedAndReset : Prop :=
  ∀ (s : State) (o : Org) (p : Nat), s.Inv →
    let b := base p
    let w := s.rd (b + 0x00C)
    let only (u : State) : Prop := s.KeepsBut u (fun j => j = b + 0x00C)
    (getF w HDR_PAGE_CTRL_RESET = 0 → getF w HDR_PAGE_CTRL_FAULT_CLR = 0 → s.pageIs p PageKind.parkCap = true → s.blockHeld p = false →
      (∀ en, s.Accepts o (b + 0x00C) (setF w HDR_PAGE_CTRL_EN (b2n en)) →
        ∃ u : State, exec (.blockEnable o p en) s = .next (u.ackWrite o) ∧ u.fg b HDR_PAGE_CTRL_EN = b2n en
          ∧ (en = false → s.fb b HDR_PAGE_CTRL_EN = true → u.fg b HDR_PAGE_CTRL_READY = 0)
          ∧ s.KeepsBut u (fun j => j = b + 0x00C ∨ ((0x060 ≤ p ∧ p < 0x064) ∧ j = b + CAP_CAP_STATUS)))
      ∧ (∀ park, s.Accepts o (b + 0x00C) (setF w HDR_PAGE_CTRL_PARK (b2n park)) →
        ∃ u : State, exec (.blockPark o p park) s = .next (u.ackWrite o) ∧ u.fg b HDR_PAGE_CTRL_PARK = b2n park ∧ only u))
    ∧ (s.pageIs p PageKind.parkCap = true → s.blockHeld p = true → s.fb b HDR_PAGE_CTRL_EN = true → getF w HDR_PAGE_CTRL_RESET = 0 →
      s.Accepts o (b + 0x00C) (setF w HDR_PAGE_CTRL_EN 0) → exec (.blockEnable o p false) s = .next (s.turnedAway o (b + 0x00C) .locked))
    ∧ (s.pageIs p PageKind.parkCap = true → s.fb b HDR_PAGE_CTRL_EN = true → s.fb b HDR_PAGE_CTRL_READY = false →
      ∃ t : State, exec (.blockReady p) s = .next t ∧ t.fg b HDR_PAGE_CTRL_READY = 1
        ∧ s.KeepsBut t (fun j => j = b + 0x00C ∨ ((0x040 ≤ p ∧ p < 0x050) ∧ (j = b + GEN_PROOF_STATUS ∨ j = b + GEN_PROOF_LAT))))
    ∧ (s.Accepts o (b + 0x00C) (setF w HDR_PAGE_CTRL_RESET 1) → s.pageIs p PageKind.resetCap = true →
      ((s.blockHeld p || s.commitPends p) = true → exec (.blockReset o p) s = .next (s.turnedAway o (b + 0x00C) .locked))
      ∧ ((s.blockHeld p || s.commitPends p) = false → getF w HDR_PAGE_CTRL_FAULT_CLR = 0 →
        ∃ u : State, exec (.blockReset o p) s = .next (u.ackWrite o) ∧ u.fg b HDR_PAGE_CTRL_BUSY = 1 ∧ only u))
    ∧ (s.pageIs p PageKind.resetCap = true → s.fb b HDR_PAGE_CTRL_BUSY = true →
      ((0x040 ≤ p ∧ p < 0x050) → bit (s.causes (p - 0x040)) 2 = false ∧ bit (s.causes (p - 0x040)) 3 = false) →
      ((0x060 ≤ p ∧ p < 0x064) → s.packRest (capOf p) = s) →
      ∃ t : State, exec (.blockResetDone p) s = .next t ∧ t.fg b HDR_PAGE_CTRL_BUSY = 0 ∧ t.rd (b + 0x01C) = 0#32
        ∧ (∀ off, 0x040 ≤ off → off < 0x1000 → (off ≠ GRV_TABLE_CFG ∨ 0x054 ≤ p) → t.rd (b + off) = regReset s.variant (b + off))
        ∧ (p < 0x054 → t.rd (b + GRV_TABLE_CFG) = s.rd (b + GRV_TABLE_CFG))
        ∧ s.KeepsBut t (fun j => within b 0x1000 j ∨ noticeKey j))
    ∧ (getF w HDR_PAGE_CTRL_RESET = 0 → s.Accepts o (b + 0x00C) (setF w HDR_PAGE_CTRL_FAULT_CLR 1) →
      (∃ u : State, exec (.faultClr o p none) s = .next (u.ackWrite o) ∧ u.rd (b + 0x01C) = 0#32 ∧ s.KeepsBut u (fun j => j = b + 0x01C))
      ∧ (∀ code detail, 0 < code → code < 65536 → detail < 256 →
        ∃ u : State, exec (.faultClr o p (some (code, detail))) s = .next (u.ackWrite o) ∧ u.fg b HDR_PAGE_FAULT_CODE = code
          ∧ u.fg b HDR_PAGE_FAULT_DETAIL = detail ∧ u.fg b HDR_PAGE_FAULT_MORE = 0 ∧ s.KeepsBut u (fun j => j = b + 0x01C)))
    ∧ (∀ n desc late, n < s.variant.gens →
      ((s.gen n).late = none →
        ∃ t : State, exec (.stylusSlotLoad n desc late) s = .next t
          ∧ (t.gen n).slots = (s.gen n).slots.map (fun e => if e.1 = desc then (desc, true) else e) ∧ s.KeepsBut t (fun _ => False))
      ∧ (∀ step time, (s.gen n).late = some (desc, step, time) → 0 < late →
        ∃ t : State, exec (.stylusSlotLoad n desc late) s = .next t ∧ (t.gen n).late = none
          ∧ (t.gen n).lates = (time, late) :: (s.gen n).lates
          ∧ t.fg (base (pGEN n)) GEN_STYLUS_LATE_COUNT_COUNT = satAdd 0xFFFFFFFF (s.fg (base (pGEN n)) GEN_STYLUS_LATE_COUNT_COUNT) late
          ∧ t.fg (base (pGEN n)) GEN_STYLUS_STATUS_LATE = 1
          ∧ s.KeepsBut t (fun j => j = base (pGEN n) + GEN_STYLUS_LATE_COUNT ∨ j = base (pGEN n) + GEN_STYLUS_STATUS ∨ noticeKey j)))

/-- A TRUST command that is refused leaves its code in CMD_STATUS and changes nothing else; LIFECYCLE, KEY_LOAD and ALARM_CLEAR take a good bundle; FW_STAGE writes the slot
not running and puts it on trial; FW_CONFIRM ends the trial; SETTINGS_SAVE keeps 64 words; ATELIER_RESTART halts Atelier; JOURNAL_CLEAR empties the journal.
That a command is whole in its row is the model's reading (assumption log, entry 150). -/
def Obligations.TrustCommandsEnd : Prop :=
  ∀ (s : State) (o : Org), s.Inv → s.trust.recovery = false → (∀ k, 1 ≤ k → k ≤ 16 → s.fb (sbase k pTRUST) TRUST_CMD_STATUS_BUSY = false) →
    let b := base pTRUST
    let c := sbase o.sess pTRUST
    let ok (n : Nat) : Prop := s.Accepts o (b + TRUST_CMD) (BitVec.ofNat 32 (n * 2 ^ 28))
    let ended (r : Host.Outcome State Fault Refusal) (n : Nat) (u : State) : Prop :=
      r = .next (u.ackWrite o) ∧ u.fg c TRUST_CMD_STATUS_RESULT = 0 ∧ u.fg c TRUST_CMD_STATUS_OP = n
    (∀ n i e, (n, i) ∈ [(1, Instr.lifecycle o), (2, .keyLoad o), (3, .alarmClear o), (4, .fwStage o true), (5, .fwConfirm o), (6, .settingsSave o),
        (7, .atelierRestart o), (8, .journalClear o)] → ok n → s.trustOp o.sess n true = .error e → e ≠ .ok →
      ∃ u : State, exec i s = .next (u.ackWrite o) ∧ u.fg c TRUST_CMD_STATUS_RESULT = e.num ∧ u.fg c TRUST_CMD_STATUS_OP = n ∧ u.trust = s.trust
        ∧ s.KeepsBut u (fun j => j = c + TRUST_CMD_STATUS ∨ noticeKey j))
    ∧ (∀ x, s.bundle o.sess = .ok x →
      (ok 1 → s.alarm = false → lifecycleOk s.lifecycle x.target = true → 17 < s.fg b TRUST_LIFECYCLE_EPOCHS_LEFT →
        ∃ u : State, ended (exec (.lifecycle o) s) 1 u ∧ u.lifecycle = x.target ∧ u.trust.keys = (if x.target = 4 then [] else x.keys)
          ∧ u.fg b TRUST_BUNDLE_CTR_VALUE = x.counter ∧ u.fg b TRUST_LIFECYCLE_EPOCHS_LEFT = s.fg b TRUST_LIFECYCLE_EPOCHS_LEFT - 1
          ∧ u.trust.resetDue = (if x.target = 4 then some (3, s.now + 30000000) else s.trust.resetDue) ∧ s.KeepsMem u)
      ∧ (ok 2 → s.lifecycle ≠ 2 → s.lifecycle ≠ 4 →
        ∃ u : State, ended (exec (.keyLoad o) s) 2 u ∧ u.trust.keys = x.keys ∧ u.trust.flashKeys = x.keys ∧ u.trust.flashEpoch = s.trust.epoch
          ∧ u.fg b TRUST_KEYS_VALUE = x.keys.length + 1 ∧ u.fg b TRUST_BUNDLE_CTR_VALUE = x.counter
          ∧ s.KeepsBut u (fun j => j ∈ [c + TRUST_CMD_STATUS, b + TRUST_KEYS, b + TRUST_BUNDLE_CTR] ∨ noticeKey j))
      ∧ (ok 3 → s.alarm = true → s.inTamper = false →
        ∃ u : State, ended (exec (.alarmClear o) s) 3 u ∧ u.alarm = false ∧ u.levelAt 7 (u.now + 3) = false ∧ u.trust.keys = x.keys
          ∧ s.KeepsBut u (fun j => j ∈ [c + TRUST_CMD_STATUS, b + TRUST_KEYS, b + TRUST_BUNDLE_CTR, b + TRUST_LIFECYCLE] ∨ chanKey j ∨ noticeKey j)))
    ∧ (∀ a n, s.trustSrc o.sess = a → s.fg c TRUST_LENGTH_BYTES = n → s.permits o.sess 1 = true → 256 ≤ n → n ≤ 16777216 → s.ownBytes o.sess a n = true →
      s.ldw a = 0x45534657 → s.ldw (a + 4) = 1 → s.ldw (a + 0x10) = n → s.ldw (a + 0x1C) ≤ 3 → bit s.trust.revoked (s.ldw (a + 0x1C)) = false →
      Config.signatureOk ((s.bytesAt a n).map (·.toNat)) = true → s.fg b TRUST_FW_SEC_MIN ≤ s.ldw (a + 0xC) → ok 4 →
      (∃ u : State, ended (exec (.fwStage o true) s) 4 u ∧ (u.slot (1 - s.running)).good = true
          ∧ ((u.slot (1 - s.running)).image.map (·.content)) = some (s.ld a n) ∧ u.slot s.running = s.slot s.running
          ∧ u.fg b TRUST_FW_PREFERRED = 1 - s.running ∧ u.fg b TRUST_FW_TRIAL = 1
          ∧ s.KeepsBut u (fun j => j = c + TRUST_CMD_STATUS ∨ j = b + TRUST_FW ∨ noticeKey j))
      ∧ (∃ u : State, exec (.fwStage o false) s = .next (u.ackWrite o) ∧ u.fg c TRUST_CMD_STATUS_RESULT = Code.flash.num ∧ u.trust = s.trust
          ∧ s.KeepsBut u (fun j => j = c + TRUST_CMD_STATUS ∨ noticeKey j)))
    ∧ (∀ m, (s.slot s.running).image = some m → m.secVersion < 256 → s.permits o.sess 1 = true → s.fb b TRUST_FW_TRIAL = true → ok 5 →
      ∃ u : State, ended (exec (.fwConfirm o) s) 5 u ∧ u.fg b TRUST_FW_TRIAL = 0 ∧ u.fg b TRUST_FW_SEC_MIN = max m.secVersion (s.fg b TRUST_FW_SEC_MIN)
        ∧ u.fg b TRUST_FW_PREFERRED = s.fg b TRUST_FW_PREFERRED
        ∧ s.KeepsBut u (fun j => j = c + TRUST_CMD_STATUS ∨ j = b + TRUST_FW ∨ noticeKey j))
    ∧ (let a := s.trustSrc o.sess
      let l := (List.range 64).map (fun i => s.ldw (a + 4 * i))
      s.permits o.sess 2 = true → s.ownBytes o.sess a 256 = true → s.settingsBad l = false →
      (bits (l.getD 2 0) 1 1 = s.fg b TRUST_TAMPER_LOOP_EN ∨ s.lifecycle = 1 ∨ s.lifecycle = 3) → ok 6 →
      ∃ u : State, ended (exec (.settingsSave o) s) 6 u ∧ u.trust.settings = some l ∧ u.fg b TRUST_TAMPER_LOOP_EN = bits (l.getD 2 0) 1 1
        ∧ s.KeepsBut u (fun j => j = c + TRUST_CMD_STATUS ∨ j = b + TRUST_TAMPER ∨ noticeKey j))
    ∧ (s.permits o.sess 1 = true → s.fb (base pDEV) DEV_FW_STATUS_SIGNET_READY = true → s.fg b TRUST_FW_ATELIER_STATE = 0 → s.restState < 2 →
      s.fb b TRUST_FW_TRIAL = false → ok 7 →
      ∃ u : State, ended (exec (.atelierRestart o) s) 7 u ∧ u.atelier = false ∧ u.fg b TRUST_FW_ATELIER_STATE = 1 ∧ u.trust.restarting = some 2
        ∧ s.KeepsBut u (fun j => j ∈ [c + TRUST_CMD_STATUS, b + TRUST_FW, base pDEV + DEV_FW_STATUS] ∨ noticeKey j))
    ∧ (s.permits o.sess 2 = true → s.lifecycle = 3 → ok 8 →
      ∃ u : State, ended (exec (.journalClear o) s) 8 u ∧ u.trust.journal = [] ∧ s.KeepsBut u (fun j => j = c + TRUST_CMD_STATUS ∨ noticeKey j))

/-- A missed heartbeat or a trap halts Atelier, the third in 600 s for good; running again it is counted; a trial not confirmed falls back; a tamper of a watched input wipes the
keys, burns an epoch and stands as the alarm; flash is refreshed after 35,064 hours; RESET_CMD makes a reset due; a module reset ends every session, empties memory
and keeps what is in flash; boot runs a valid image. -/
def Obligations.AtelierTamperAndBoot : Prop :=
  ∀ (s : State), s.Inv →
    let b := base pTRUST
    let d := base pDEV
    (s.atelier = true → s.fb d DEV_FW_STATUS_SIGNET_READY = true → s.fg b TRUST_FW_ATELIER_STATE = 0 → s.restState < 2 → s.fb b TRUST_FW_TRIAL = false →
      let times := s.trust.restarts.filter (fun t => decide (s.now < t + 1800000000000))
      let down (r : Host.Outcome State Fault Refusal) : Prop := ∃ t : State, r = .next t ∧ t.atelier = false
        ∧ t.fg b TRUST_FW_ATELIER_STATE = (if times.length < 2 then 1 else 2)
        ∧ t.trust.restarts = s.now :: times ∧ (2 ≤ times.length → s.fg b HDR_PAGE_FAULT_CODE = 0 → t.fg b HDR_PAGE_FAULT_CODE = 0x0A03)
        ∧ s.KeepsBut t (fun j => j ∈ [d + DEV_FW_STATUS, b + TRUST_FW, b + 0x01C, b + TRUST_JOURNAL_HEAD] ∨ noticeKey j)
      down (exec .atelierHeartbeatTimeout s) ∧ down (exec (.atelierTrap false) s) ∧ down (exec (.atelierTrap true) s))
    ∧ (∀ cause, s.fb d DEV_FW_STATUS_SIGNET_READY = true → s.fg b TRUST_FW_ATELIER_STATE = 1 → s.trust.recovery = false → s.restState < 2 →
      s.trust.damaged = [] → s.trust.held = [] → s.trust.restarting = some cause →
      ∃ t : State, exec .atelierRunning s = .next t ∧ t.atelier = true ∧ t.fg b TRUST_FW_ATELIER_STATE = 0 ∧ t.trust.restarting = none
        ∧ t.fg d DEV_ATELIER_RESTARTS_COUNT = satAdd 0xFFFFFFFF (s.fg d DEV_ATELIER_RESTARTS_COUNT) 1
        ∧ s.KeepsBut t (fun j => j ∈ [d + DEV_FW_STATUS, d + DEV_ATELIER_RESTARTS, b + TRUST_FW] ∨ noticeKey j))
    ∧ (s.fb d DEV_FW_STATUS_SIGNET_READY = true → s.fg b TRUST_FW_ATELIER_STATE = 1 → s.trust.recovery = false → s.restState < 2 →
      s.trust.damaged = [] → s.trust.held = [] → s.trust.restarting = none →
      ∃ t : State, exec .atelierRunning s = .next t ∧ t.atelier = true ∧ t.fg b TRUST_FW_ATELIER_STATE = 0
        ∧ (∀ i, i < s.variant.mifs → t.mifState i = (if s.mifState i = 0 then 1 else s.mifState i))
        ∧ s.KeepsBut t (fun j => j = d + DEV_FW_STATUS ∨ j = b + TRUST_FW ∨ ∃ i, i < s.variant.mifs ∧ j = base (pMIF i) + MIF_STATUS))
    ∧ (s.onTrial = false → exec .fwTrialTimeout s = .next s)
    ∧ (s.onTrial = true →
      ∃ t : State, exec .fwTrialTimeout s = .next t
        ∧ t.now = max s.now (if s.atelier then s.trust.readyAt + 1800000000000 else s.trust.signetAt + 30000000000) ∧ t.fg b TRUST_FW_PREFERRED = 1 - s.running ∧ t.fg b TRUST_FW_TRIAL = 0
        ∧ t.trust.resetDue = some (3, t.now) ∧ t.trust.nextFallback = some (if s.atelier then 2 else 1) ∧ s.KeepsBut t (fun j => j = b + TRUST_FW))
    ∧ (∀ lid, s.openList = [] → (lid = true ∨ s.fb b TRUST_TAMPER_LOOP_EN = true) → 17 < s.fg b TRUST_LIFECYCLE_EPOCHS_LEFT →
      s.fb d DEV_FW_STATUS_SIGNET_READY = true →
      ∃ t : State, exec (.tamper lid) s = .next t ∧ t.alarm = true ∧ t.trust.keys = [] ∧ t.trust.tamperAt = s.now
        ∧ t.fg b TRUST_TAMPER_LAST_CAUSE = (if lid then 2 else 1) ∧ t.fg b TRUST_LIFECYCLE_EPOCHS_LEFT = s.fg b TRUST_LIFECYCLE_EPOCHS_LEFT - 1
        ∧ t.levelAt 7 (t.now + 3) = true ∧ (s.fg b HDR_PAGE_FAULT_CODE = 0 → t.fg b HDR_PAGE_FAULT_CODE = 0x0A04)
        ∧ t.fg (base pSPAD) SPAD_WIPE_COUNT_COUNT = satAdd (2 ^ (SPAD_WIPE_COUNT_COUNT.hi + 1 - SPAD_WIPE_COUNT_COUNT.lo) - 1)
          (s.fg (base pSPAD) SPAD_WIPE_COUNT_COUNT) 1
        ∧ (∀ k, (t.ses k).lapsed = (s.ses k).lapsed ∨ (t.ses k).lapsed = true) ∧ s.KeepsMem t)
    ∧ (s.fb b TRUST_TAMPER_LOOP_EN = false →
      ∃ t : State, exec (.tamper false) s = .next t ∧ t.fg b TRUST_TAMPER_LOOP_BROKEN = 1 ∧ t.trust = s.trust ∧ s.KeepsBut t (fun j => j = b + TRUST_TAMPER))
    ∧ (∃ t : State, exec (.tamperInputRestored true) s = .next t ∧ t.fg b TRUST_TAMPER_LID_OPEN = 0 ∧ s.KeepsBut t (fun j => j = b + TRUST_TAMPER))
    ∧ (∃ t : State, exec (.tamperInputRestored false) s = .next t ∧ t.fg b TRUST_TAMPER_LOOP_BROKEN = 0 ∧ s.KeepsBut t (fun j => j = b + TRUST_TAMPER))
    ∧ (∀ i m, s.atelier = true → i < 2 → (s.slot i).image = some m → s.slotValid (1 - i) = true →
      ∃ t : State, exec (.flashRefresh (.slot i)) s = .next t ∧ s.KeepsBut t (fun _ => False) ∧ (t.slot i).image = some m
        ∧ (t.slot i).hours = (if (s.slot i).hours + 35064 ≤ s.hours then s.hours else (s.slot i).hours))
    ∧ (∀ r, s.atelier = true → s.trust.records = [r] → r.hours + 35064 ≤ s.hours →
      ∃ t : State, exec (.flashRefresh (.record r.type)) s = .next t ∧ t.trust.records = [⟨r.type, r.seq + 1, s.hours⟩] ∧ s.KeepsBut t (fun _ => False))
    ∧ (∃ t : State, exec .hoursUpdate s = .next t ∧ t.hours = satAdd 0xFFFFFFFF s.hours 1 ∧ s.KeepsBut t (fun j => j = b + TRUST_HOURS))
    ∧ (∀ o key, key < 65536 → s.Accepts o (d + DEV_RESET_CMD) (BitVec.ofNat 32 (key * 65536 + 1)) →
      (key = 0xB007 →
        ∃ u : State, exec (.moduleResetCmd o key true) s = .next (u.ackWrite o) ∧ u.trust.resetDue = some (2, s.now + 3000000) ∧ s.KeepsBut u (fun _ => False))
      ∧ (key ≠ 0xB007 → exec (.moduleResetCmd o key true) s = .next (s.turnedAway o (d + DEV_RESET_CMD) .format)))
    ∧ (∀ cause, cause ≠ 1 → cause ≠ 4 → s.trust.resetDue.map (·.1) ≠ some cause → exec (.moduleReset cause) s = .next s)
    ∧ (∀ cause, cause < 16 → (cause = 1 ∨ cause = 4 ∨ s.trust.resetDue.map (·.1) = some cause) → s.trust.settings = none →
      ∃ t : State, exec (.moduleReset cause) s = .next t ∧ t.fg d DEV_RESET_INFO_CAUSE = cause ∧ t.now = 0 ∧ t.xport = Xport.fresh ∧ t.mem = []
        ∧ t.frames = [] ∧ t.trust.keys = [] ∧ t.trust.journal = s.trust.journal ∧ t.trust.slots = s.trust.slots ∧ t.openList = []
        ∧ (∀ j, j ∉ [d + DEV_RESET_INFO, b + TRUST_FW, base pPWR + PWR_FEED_STATUS] →
          t.rd j = (if persistent j then s.rd j else regReset s.variant j)))
    ∧ (∀ goodA goodB damaged, (s.fb d DEV_FW_STATUS_SIGNET_READY = true ∨ s.tooHot = true) → exec (.boot goodA goodB damaged) s = .next s)
    ∧ (∀ goodA goodB damaged m p, s.fb d DEV_FW_STATUS_SIGNET_READY = false → s.tooHot = false → s.fg b TRUST_FW_PREFERRED = p →
      (s.slot p).image = some m → (if p = 0 then goodA else goodB) = true → s.fg b TRUST_FW_SEC_MIN ≤ m.secVersion → m.keyIndex < 4 →
      bit s.trust.revoked m.keyIndex = false → s.trust.tamperLeft = false → m.version < 2 ^ 24 →
      ∃ t : State, exec (.boot goodA goodB damaged) s = .next t ∧ t.fb d DEV_FW_STATUS_SIGNET_READY = true ∧ t.trust.recovery = false
        ∧ t.running = p ∧ (t.rd (d + DEV_FW_SIGNET)).toNat = m.version * 256 + p ∧ t.trust.boots = s.trust.boots + 1
        ∧ t.trust.keys = (if s.trust.flashEpoch = s.trust.epoch then s.trust.flashKeys else []) ∧ t.fg b TRUST_FLASH_RECORDS_BAD = damaged.length % 65536
        ∧ s.KeepsBut t (fun j => j ∈ [d + DEV_FW_STATUS, d + DEV_FW_SIGNET, d + DEV_FW_ATELIER, b + TRUST_FW, b + TRUST_FLASH, b + TRUST_KEYS]))
    ∧ (∀ goodA goodB, s.fb d DEV_FW_STATUS_SIGNET_READY = false → s.tooHot = false → (s.slot 0).image = none → (s.slot 1).image = none → s.trust.tamperLeft = false →
      ∃ t : State, exec (.boot goodA goodB []) s = .next t ∧ t.fb d DEV_FW_STATUS_SIGNET_READY = true ∧ t.trust.recovery = true ∧ t.trust.keys = [])

/-- A feed takes its state and readings, and a change of importance is counted and told; an isolation that would leave no feed is LOCKED; a HIGH feed rejoins; a power failure is
journalled and resets the module; the loopback test starts on an idle channel of the session and ends with PASS within its limits. -/
def Obligations.FeedsChangeAndTheLoopbackTestRuns : Prop :=
  ∀ (s : State), s.Inv →
    let p := base pPWR
    let meas (f : Nat) : Nat := if f = 0 then p + 0x044 else p + 0x048
    (∀ f volts ma, f < 2 → volts < 65536 → ma < 65536 →
      let st := feedState volts
      ∃ t : State, exec (.feedChange f volts ma) s = .next t ∧ t.feed f = st ∧ t.feedVolts f = volts ∧ t.feed (1 - f) = s.feed (1 - f)
        ∧ t.fg p PWR_FEED_CHANGE_COUNT_COUNT = (if st ≠ s.feed f ∧ (s.feed f = 2 ∨ st = 2 ∨ s.feed (1 - f) ≠ 2)
            then satAdd 0xFFFFFFFF (s.fg p PWR_FEED_CHANGE_COUNT_COUNT) 1 else s.fg p PWR_FEED_CHANGE_COUNT_COUNT)
        ∧ (st = s.feed f → s.KeepsBut t (fun j => j = p + PWR_FEED_STATUS ∨ j = meas f))
        ∧ s.KeepsBut t (fun j => j ∈ [p + PWR_FEED_STATUS, meas f, p + PWR_FEED_CHANGE_COUNT, p + 0x01C, base pTRUST + TRUST_JOURNAL_HEAD] ∨ noticeKey j))
    ∧ (∀ o i0 i1, s.Accepts o (p + PWR_FEED_CTRL) (BitVec.ofNat 32 (b2n i0 + 2 * b2n i1)) →
      let left := (s.feed 0 = 2 ∧ i0 = false ∧ 0 ∉ s.power.high) ∨ (s.feed 1 = 2 ∧ i1 = false ∧ 1 ∉ s.power.high)
      let cuts := (i0 = true ∧ s.fb p PWR_FEED_CTRL_ISOLATE0 = false) ∨ (i1 = true ∧ s.fb p PWR_FEED_CTRL_ISOLATE1 = false)
      (cuts → ¬ left → exec (.feedIsolate o i0 i1) s = .next (s.turnedAway o (p + PWR_FEED_CTRL) .locked))
      ∧ ((¬ cuts ∨ left) →
        ∃ u : State, exec (.feedIsolate o i0 i1) s = .next (u.ackWrite o) ∧ u.fb p PWR_FEED_CTRL_ISOLATE0 = i0 ∧ u.fb p PWR_FEED_CTRL_ISOLATE1 = i1
          ∧ (i0 = true → u.isolated 0 = true) ∧ (i1 = true → u.isolated 1 = true)
          ∧ s.KeepsBut u (fun j => j = p + PWR_FEED_CTRL ∨ j = p + PWR_FEED_STATUS)))
    ∧ (∀ f, f < 2 →
      (s.feed f = 2 → s.power.high.contains f = true → ∃ t : State, exec (.feedHighRejoin f) s = .next t ∧ f ∉ t.power.high
        ∧ t.now = max s.now (s.power.okAt.getD f 0 + 300000000) ∧ s.KeepsBut t (fun j => j = p + PWR_FEED_STATUS))
      ∧ ((s.feed f ≠ 2 ∨ s.power.high.contains f = false) → exec (.feedHighRejoin f) s = .next s))
    ∧ (s.trust.lost = 0 → s.trust.settings = none →
      ∃ t : State, exec .powerFail s = .next t ∧ t.fg (base pDEV) DEV_RESET_INFO_CAUSE = 1 ∧ t.openList = [] ∧ t.mem = []
        ∧ t.trust.journal = (⟨s.now, s.hours, pPWR, 0x0803, 0, s.trust.boots⟩ :: s.trust.journal).take 4096)
    ∧ (∀ o n, n < s.variant.caps → s.Accepts o (p + PWR_LOOP_CMD) (BitVec.ofNat 32 (256 + n)) → s.owns o.sess (pCAP n) = true →
      ((s.acquiring n || s.armedUses (pCAP n)) = true → exec (.loopCmdGo o n) s = .next (s.turnedAway o (p + PWR_LOOP_CMD) .locked))
      ∧ ((s.acquiring n || s.armedUses (pCAP n)) = false → s.fb (base (pCAP n)) HDR_PAGE_CTRL_EN = true →
        s.fb (base (pCAP n)) CAP_CAP_STATUS_SETTLED = true → s.restState = 0 → s.fb p PWR_LOOP_STATUS_BUSY = false →
        ∃ u : State, exec (.loopCmdGo o n) s = .next (u.ackWrite o) ∧ u.fg p PWR_LOOP_STATUS_BUSY = 1 ∧ u.fg p PWR_LOOP_STATUS_CHANNEL = n
          ∧ u.power.loopBy = o.sess ∧ u.power.loopAt = s.now ∧ s.KeepsBut u (fun j => j = p + PWR_LOOP_STATUS)))
    ∧ (∀ ampl time : Int, s.fb p PWR_LOOP_STATUS_BUSY = true → ampl.natAbs < 32768 → time.natAbs < 32768 →
      ∃ t : State, exec (.capLoopDone ampl time) s = .next t ∧ t.now = max s.now (s.power.loopAt + 30000000) ∧ t.fg p PWR_LOOP_STATUS_BUSY = 0
        ∧ t.fg p PWR_LOOP_STATUS_OUTCOME = (if ampl.natAbs ≤ 128 ∧ time.natAbs ≤ 200 then 1 else 2)
        ∧ sext 16 (t.fg p PWR_LOOP_RESULT_AMPL_ERR) = ampl ∧ sext 16 (t.fg p PWR_LOOP_RESULT_TIME_ERR) = time
        ∧ s.KeepsBut t (fun j => j = p + PWR_LOOP_STATUS ∨ j = p + PWR_LOOP_RESULT ∨ noticeKey j))

/-- ENTER of the CLK owner is refused by its conditions or begins; REST stops GF and CF and holds memory; WAKE, or the next schedule entry, wakes with its cause; the wake ends in
service; a thermal state is counted and told, SHUTDOWN mutes every channel; a trip is journalled and resets; the baseplate's range is told.
What THERM_STATE says of the time a reading has stood is the model's form (assumption log, entry 110). -/
def Obligations.RestAndThermalStates : Prop :=
  ∀ (s : State), s.Inv →
    let p := base pPWR
    let h := base pTHERM
    (∀ o, s.Accepts o (p + PWR_REST_CMD) 1#32 →
      (s.owns o.sess pCLK = false → exec (.restEnter o) s = .next (s.turnedAway o (p + PWR_REST_CMD) .owner))
      ∧ (∀ c, s.owns o.sess pCLK = true → s.restFails = some c → exec (.restEnter o) s = .next (s.turnedAway o (p + PWR_REST_CMD) c))
      ∧ (s.owns o.sess pCLK = true → s.restFails = none →
        ∃ u : State, exec (.restEnter o) s = .next (u.ackWrite o) ∧ u.restState = 1 ∧ s.KeepsBut u (fun j => j = p + PWR_REST_STATUS)))
    ∧ (s.restState = 1 →
      ∃ t : State, exec .restEntered s = .next t ∧ t.restState = 2 ∧ t.fb (base pCLK) CLK_PAGE_STATUS_GF_VALID = false
        ∧ t.fb (base pCLK) CLK_PAGE_STATUS_CF_VALID = false ∧ t.spadMode = 4 ∧ t.atelier = false ∧ t.portUp (1 - s.fg p PWR_REST_CFG_PORT) = false
        ∧ t.fg p PWR_REST_COUNT_COUNT = satAdd 0xFFFFFFFF (s.fg p PWR_REST_COUNT_COUNT) 1
        ∧ (∀ n, n < s.variant.caps → t.fg (base (pCAP n)) CAP_CAP_STATUS_CLOCK_VALID = 0)
        ∧ (∀ n, n < s.variant.gens → t.fg (base (pGEN n)) GEN_PROOF_STATUS_ALIGNED = 0))
    ∧ (∀ o, s.Accepts o (p + PWR_REST_CMD) 2#32 →
      (s.restState = 0 → exec (.restWake o) s = .next (s.ackWrite o))
      ∧ ((s.restState = 1 ∨ s.restState = 2) →
        ∃ u : State, exec (.restWake o) s = .next (u.ackWrite o) ∧ u.restState = 3 ∧ u.fg p PWR_REST_STATUS_LAST_WAKE = 1
          ∧ u.rd64 (p + PWR_LAST_WAKE_TIME) = s.now % 2 ^ 64 ∧ u.now = s.now))
    ∧ (∀ w, s.restState = 2 → s.nextDue = some w →
      ∃ t : State, exec .restScheduleWake s = .next t ∧ t.restState = 3 ∧ t.fg p PWR_REST_STATUS_LAST_WAKE = 2
        ∧ t.rd64 (p + PWR_LAST_WAKE_TIME) = (w - 123000000) % 2 ^ 64 ∧ t.now = max s.now (w - 123000000))
    ∧ (s.nextDue = none → exec .restScheduleWake s = .next s)
    ∧ (s.restState = 3 →
      ∃ t : State, exec .restWakeDone s = .next t ∧ t.restState = 0 ∧ t.atelier = true ∧ t.fg (base pTRUST) TRUST_FW_ATELIER_STATE = 0
        ∧ (s.spadMode = 3 → t.spadMode = 0))
    ∧ (∀ sensor temp, s.hasSensor sensor = true → temp < 65536 → ∀ st,
      (st = s.fg h THERM_STATE_STATE ∨ thermFits (s.fg h THERM_STATE_STATE) st (sext 16 temp) = false) →
      ∃ t : State, exec (.thermState st sensor temp) s = .next t ∧ t.fg h THERM_STATE_STATE = s.fg h THERM_STATE_STATE
        ∧ t.fg h THERM_JUNCTION_TEMP = temp ∧ t.fg h THERM_SENSOR_TEMP sensor = temp
        ∧ s.KeepsBut t (fun j => j ∈ [h + THERM_STATE, h + THERM_JUNCTION, h + THERM_PEAK, h + 0x050 + 4 * sensor]))
    ∧ (∀ sensor temp, s.hasSensor sensor = true → temp < 65536 → s.fg h THERM_STATE_STATE = 0 →
      (100 * 16 ≤ sext 16 temp → ∃ t : State, exec (.thermState 1 sensor temp) s = .next t ∧ t.fg h THERM_STATE_STATE = 1 ∧ t.levelAt 5 (t.now + 3) = true
        ∧ t.fg h THERM_WARN_COUNT_COUNT = satAdd 0xFFFFFFFF (s.fg h THERM_WARN_COUNT_COUNT) 1 ∧ s.KeepsMem t)
      ∧ (120 * 16 ≤ sext 16 temp → ∃ t : State, exec (.thermState 3 sensor temp) s = .next t ∧ t.fg h THERM_STATE_STATE = 3
        ∧ t.fg h THERM_SHUTDOWN_COUNT_COUNT = satAdd 0xFFFFFFFF (s.fg h THERM_SHUTDOWN_COUNT_COUNT) 1
        ∧ (∀ n, n < s.variant.gens → bit (t.causes n) 3 = true) ∧ t.fb (base pCLK) CLK_PAGE_STATUS_CF_VALID = false))
    ∧ (∀ sensor, s.hasSensor sensor = true → s.trust.lost = 0 → s.trust.settings = none →
      ∃ t : State, exec (.thermalTrip sensor) s = .next t ∧ t.fg (base pDEV) DEV_RESET_INFO_CAUSE = 4 ∧ t.openList = []
        ∧ t.trust.journal = (⟨s.now, s.hours, pTHERM, 0x0902, sensor, s.trust.boots⟩ :: s.trust.journal).take 4096)
    ∧ (∀ out temp, temp < 65536 →
      ∃ t : State, exec (.baseplateRange out temp) s = .next t
        ∧ t.fg h THERM_STATE_BASE_OUT = (if out = decide (sext 16 temp < 0 ∨ 70 * 16 < sext 16 temp) then b2n out else s.fg h THERM_STATE_BASE_OUT)
        ∧ t.fg h THERM_BASEPLATE_TEMP = temp
        ∧ s.KeepsBut t (fun j => j = h + THERM_STATE ∨ j = h + THERM_BASEPLATE ∨ noticeKey j))

/-- With a command at the front, a step is that command's effect on the state whose queue is the rest. -/
def Obligations.AStepRunsTheFrontCommand : Prop :=
  ∀ (s : State) (c : Instr) (rest : List Instr), step { s with pending := c :: rest } = exec c { s with pending := rest }

/-- With nothing waiting and nothing due (no correction of time, TIME frame, module reset, command of page ownership, entry, queued command of the unit or acquisition), a step advances
device time by one tick, modulo 2^64, and changes nothing else; a tick in which device time is held only counts down what remains to be held. That an empty queue lets a tick pass is the
model's choice (assumption log, entry 6). -/
def Obligations.AnEmptyQueueLetsATickPass : Prop :=
  ∀ (s : State), s.pending = [] →
    (let now := (s.now + 1) % 2 ^ 64
    (s.clk.hold = 0 ∨ s.clk.heldAt ≠ s.now) → (∀ e, s.clk.sync.correction = some e → now < e.1) → s.Idle now
      → (s.fg (base pSYNC) SYNC_STATUS_STATE ≠ 5 ∨ now < s.clk.sync.timeAt) → (s.xport.ownQ = [] ∨ now < s.xport.ownFree)
      → (∀ e, s.trust.resetDue = some e → now < e.2) → step s = .next { s with now := now })
    ∧ (0 < s.clk.hold → s.clk.heldAt = s.now → step s = .next { s with clk := { s.clk with hold := s.clk.hold - 1 } })

/-- No word spells a command, and the state with a table word's command put in front is the state. -/
def Obligations.NoTableWordSpellsACommand : Prop :=
  ∀ (s : State) (nbits w : Nat), decodeTableWord nbits w = none ∧ s.withFetchWord nbits w = s

/-- The invariant of `Obligations.EveryStepKeepsTheInvariant` holds at reset. -/
def Obligations.TheInvariantHoldsAtReset : Prop := State.reset.Inv

/-- Whatever command stands in front, a step from a state that meets the invariant answers a state that meets it: the register file, the memory and the frame map
keep their canonical form, there are sixteen session numbers, two ports, and one record for each engine. -/
def Obligations.EveryStepKeepsTheInvariant : Prop := ∀ (s t : State), s.Inv → step s = .next t → t.Inv

/-- Whatever a command does, the module stays the variant it is, and the queue of commands is left to the step. -/
def Obligations.CommandsLeaveVariantAndQueue : Prop :=
  ∀ (c : Instr) (s t : State), exec c s = .next t → t.variant = s.variant ∧ t.pending = s.pending

/-- On an ordinary page that is served, every write of a session that PAGE_OWNER does not name is judged OWNER, the page unowned or not, save of the session's own
notice registers; the write is reported so, and no register and no byte of memory changes. -/
def Obligations.OrdinaryPagesTakeWritesOfTheirOwnersOnly : Prop :=
  ∀ (s : State) (o : Org) (a : Nat) (w : Word), s.isOpen o.sess = true → a < 0x01000000 → a % 4 = 0 → s.restState < 2 →
    a % 0x1000 ≠ 0x014 → a % 0x1000 ≠ 0x018 → s.pageIs (pageNo a) PageKind.ordinary = true →
    (s.owner (pageNo a) ≠ o.sess →
      s.judge o.sess a w = .error .owner
      ∧ ∃ u : State, exec (.registerWrite o a w) s = .next (u.turnedAway o a .owner) ∧ s.KeepsBut u (fun _ => False))
    ∧ (s.judge o.sess a w = .ok () → s.owner (pageNo a) = o.sess)

/-- Where the variant has no block on a page, a read of any of its words answers 0, and a write is refused, an acknowledged one by an error response and a posted one by WRITE_FAILED;
nothing else changes. -/
def Obligations.AbsentPagesReadZeroAndRefuseWrites : Prop :=
  ∀ (s : State) (o : Org) (a : Nat) (w : Word), s.isOpen o.sess = true → a < 0x01000000 → a % 4 = 0 → pageOf s.variant (pageNo a) = none →
    exec (.shadowLowRead o a) s = .next (s.respond o.sess o.seq .ok 1 0 [0#32])
    ∧ (o.posted = false → exec (.registerWrite o a w) s = .next (s.respond o.sess o.seq .address 0 a []))
    ∧ (o.posted = true →
      ∃ u : State, exec (.registerWrite o a w) s = .next u
        ∧ u.fg (sbase o.sess pXPORT) XPORT_POSTED_FAIL_COUNT_COUNT = satAdd 0xFFFFFFFF (s.fg (sbase o.sess pXPORT) XPORT_POSTED_FAIL_COUNT_COUNT) 1
        ∧ bit (u.fg (sbase o.sess pNOTE) HDR_PAGE_NOTICE_RAW_RAW) 1 = true
        ∧ s.KeepsBut u (fun j => j = sbase o.sess pXPORT + XPORT_POSTED_FAIL_COUNT ∨ noticeKey j))

/-- Above the implemented range a read is answered ADDRESS with no data, a write of a word or of a line is refused with ADDRESS, and nothing is stored. -/
def Obligations.ScratchpadAboveTheRangeIsRefused : Prop :=
  ∀ (s : State) (o : Org) (a : Nat), s.isOpen o.sess = true → a % 4 = 0 → spadBase + s.variant.banks * 0x400000 ≤ a → a < 0x108000000 →
    s.restState < 2 → s.retired = false →
    exec (.shadowLowRead o a) s = .next (s.respond o.sess o.seq .address 0 a [])
    ∧ (∀ w, exec (.registerWrite o a w) s = .next (s.turnedAway o a .address))
    ∧ (∀ bs, s.lineWrite o.sess a bs = (some (.address, a), s))

/-- A posted write command that stops short with `c` at an address after `done` words or lines is counted, sets WRITE_FAILED in the session's RAW, and queues the notice with its four
arguments where it is not masked; its credit returns. A posted WRITE or BULK whose shape R460 does not allow is such a command, with FORMAT. -/
def Obligations.PostedWritesThatStopShortAreTold : Prop :=
  (∀ (s : State) k seq c done addr, s.Inv → s.isOpen k = true → c ≠ Code.ok →
    let u := s.writeReport k seq true c done addr
    let n : Notice := ⟨pNOTE, 1, s.now, seq, c.num * 2 ^ 24 + done % 65536, addr % 2 ^ 32, addr / 2 ^ 32⟩
    u.fg (sbase k pXPORT) XPORT_POSTED_FAIL_COUNT_COUNT = satAdd 0xFFFFFFFF (s.fg (sbase k pXPORT) XPORT_POSTED_FAIL_COUNT_COUNT) 1
    ∧ bit (u.fg (sbase k pNOTE) HDR_PAGE_NOTICE_RAW_RAW) 1 = true ∧ (u.ses k).creditsOut = (s.ses k).creditsOut + 1
    ∧ (bit (s.fg (sbase k pNOTE) HDR_PAGE_NOTICE_MASK_MASK) 1 = true → (s.ses k).notices.length < 1024 →
      (u.ses k).notices = (s.ses k).withNotice s.now (s.fg (sbase k pNOTE) NOTE_NEXT_NSEQ_VALUE) (s.formOf n))
    ∧ u.xport.sent = s.xport.sent ∧ s.KeepsBut u (fun j => j = sbase k pXPORT + XPORT_POSTED_FAIL_COUNT ∨ noticeKey j))
  ∧ (∀ (s : State) (h : Hdr) a ws bs, s.Inv → s.Hears h → a % 4 ≠ 0 → ∃ u : State, exec (.ack h) s = .next u ∧
    (h.seq = (u.ses h.sess).rxNext → (u.ses h.sess).held = [] → (u.ses h.sess).waiting = [] →
      let v := u.updSes h.sess (fun q => { q with rxNext := h.seq + 1 })
      exec (.write h true a ws) s = .next (v.writeReport h.sess h.seq true .format 0 a)
      ∧ exec (.bulk h true a bs) s = .next (v.writeReport h.sess h.seq true .format 0 a)))

/-- Outside the handshake a message whose VERSION or TYPE is wrong, whose session is not open, whose token is wrong or whose port the session does not use only counts in
XPORT.DISCARD_COUNT; one that fails only by its LENGTH only counts in the session's. -/
def Obligations.MessagesThatFailTheirChecksAreDiscarded : Prop :=
  ∀ (s : State) (h : Hdr), s.Inv →
    let x := base pXPORT
    let only (r : Host.Outcome State Fault Refusal) (p b : Nat) (f : Field) : Prop := ∃ t : State, r = .next t ∧ t.xport = s.xport
      ∧ t.fg b f = satAdd 0xFFFFFFFF (s.fg b f) 1 ∧ s.KeepsBut t (fun j => rxKey p j ∨ j = b + f.off)
    let each (b : Nat) (f : Field) : Prop := ∀ g a n posted ws bs es,
      only (exec (.close h) s) h.port b f ∧ only (exec (.read h a n) s) h.port b f ∧ only (exec (.write h posted a ws) s) h.port b f
      ∧ only (exec (.bulk h posted a bs) s) h.port b f ∧ only (exec (.ack h) s) h.port b f ∧ only (exec (.credit h g) s) h.port b f
      ∧ only (exec (.heartbeat h) s) h.port b f ∧ only (exec (.pullData h g bs) s) h.port b f ∧ only (exec (.pullErr h g n) s) h.port b f
      ∧ only (exec (.streamAck h es) s) h.port b f ∧ only (exec (.hostMemoryAccess h (.read a n)) s) h.port b f
    (∀ p why, p < 2 → only (exec (.discardedMessage p why) s) p x XPORT_DISCARD_COUNT_COUNT)
    ∧ (s.isOpen h.sess = false → each x XPORT_DISCARD_COUNT_COUNT)
    ∧ (s.isOpen h.sess = true → s.now < s.leaseEnd h.sess →
      (((s.ses h.sess).token ≠ h.token ∨ s.usesPort h.sess (h.port % 2) = false) → each x XPORT_DISCARD_COUNT_COUNT)
      ∧ ((s.ses h.sess).token = h.token → s.usesPort h.sess (h.port % 2) = true → h.lengthOk = false →
        each (sbase h.sess pXPORT) XPORT_DISCARD_COUNT_S_COUNT))

/-- A high word written goes to the session's write shadow, checked under orders 1 to 4 alone, and changes nothing else; a low word commits the pair with the shadow's high word, or with the
register's where the shadow is empty, judged as a whole; refused, neither word changes; either way the shadow is then empty, as it is when a session opens. -/
def Obligations.WritablePairsCommitTogether : Prop :=
  ∀ (s : State) (o : Org) (a : Nat), s.Inv → s.isOpen o.sess = true → a < 0x01000000 →
    (∀ w, a % 8 = 4 → s.inPairW a = true →
      (s.judgeHead o.sess a = .ok () →
        exec (.shadowHighWrite o a w) s = .next ((s.updSes o.sess (fun q => { q with writeShadow := (a, w) :: q.writeShadow.filter (fun e => e.1 != a) })).ackWrite o))
      ∧ (∀ c, s.judgeHead o.sess a = .error c → exec (.shadowHighWrite o a w) s = .next (s.turnedAway o a c)))
    ∧ (∀ lo, a % 8 = 0 → s.inPairW a = true →
      let hi := (((s.ses o.sess).writeShadow.find? (fun e => e.1 == a + 4)).map (·.2)).getD (s.rd (s.keyFor o.sess (a + 4)))
      let t := s.updSes o.sess (fun q => { q with writeShadow := q.writeShadow.filter (fun e => e.1 != a + 4) })
      ((t.ses o.sess).writeShadow.find? (fun e => e.1 == a + 4) = none)
      ∧ (∀ c, (t.judge o.sess a lo = .error c ∨ (t.judge o.sess a lo = .ok () ∧ t.judge o.sess (a + 4) hi = .error c)
            ∨ (t.judge o.sess a lo = .ok () ∧ t.judge o.sess (a + 4) hi = .ok () ∧ t.pairEffect o.sess a lo hi = .error c ∧ c ≠ .ok)) →
          exec (.shadowLowWrite o a lo) s = .next (t.turnedAway o a c))
      ∧ (t.judge o.sess a lo = .ok () → t.judge o.sess (a + 4) hi = .ok () →
          (∀ u : State, t.pairEffect o.sess a lo hi = .ok u → exec (.shadowLowWrite o a lo) s = .next (u.ackWrite o))
          ∧ (a ≠ base pCLK + CLK_GEN_RATE → a ≠ base pCLK + CLK_CAP_RATE → ¬ (0x064 ≤ pageNo a ∧ pageNo a < 0x068 ∧ a % 0x1000 = STRM_RING_SIZE) →
            t.pairEffect o.sess a lo hi = .ok ((t.plain o.sess a lo).plain o.sess (a + 4) hi))))
    ∧ (∀ c k x, 1 ≤ k → k ≤ 16 → ((s.openNumber c k x).ses k).writeShadow = [])

/-- At reset: every NOTICE_MASK is all ones, GEN_RATE, INTERVAL_US, RETX_US and the lease hold their Reset values, no page is owned, no session is open,
scratchpad and DRAM read 0 and the trims their nominal codes. The bytes no rule gives are the model's choice (assumption log, entries 7 and 24). -/
def Obligations.ResetLeavesTheStatedValues : Prop :=
  let s := State.reset
  (∀ k, 1 ≤ k → k ≤ 16 → s.isOpen k = false ∧ s.rd (sbase k pNOTE + 0x014) = 0xFFFFFFFF#32 ∧ s.rd (sbase k pCLK + 0x018) = 0#32)
  ∧ s.rd (base pCLK + 0x018) = 0#32 ∧ s.owner pCLK = 0 ∧ s.owner (pGEN 0) = 0
  ∧ s.fg (base pCAL) CAL_BURNISH_INTERVAL_US = 0x3E8 ∧ s.fg (base pXPORT) XPORT_RETX_RETX_US = 0xC8
  ∧ s.fg (sbase 1 pXPORT) XPORT_LEASE_LEASE_MS = 10 ∧ s.fg (sbase 1 pXPORT) XPORT_LEASE_GRACE_S = 10
  ∧ s.fg (base pTHERM) THERM_LIMITS_WARN = 0x64 ∧ s.fg (base pTHERM) THERM_LIMITS_TRIP = 0x7D ∧ s.pending = []
  ∧ (∀ a, spadBase ≤ a → s.mb a = 0) ∧ s.trimCur (genCal 0) = 2048 ∧ s.trimTgt (genCal 0) = 2048 ∧ s.trimCur (capCal 0) = 512

/-- A command that is no host access and names a channel, a group, a port, a Graver or an interface beyond the variant's faults with noSuchBlock. That it faults is the model's
choice (assumption log, entry 17): the hardware has no such happening. -/
def Obligations.HappeningsOfAbsentBlocksFault : Prop :=
  ∀ (s : State) (n : Nat),
    let no (c : Instr) : Prop := exec c s = .fault .noSuchBlock
    (s.variant.gens ≤ n → no (.outputSettled n) ∧ (∀ d l, no (.stylusSlotLoad n d l)) ∧ (∀ d, no (.timingBurst false n d)) ∧ no (.modelTakesEffect n))
    ∧ (s.variant.caps ≤ n → no (.stream n) ∧ (∀ d, no (.timingBurst true n d)) ∧ no (.timingCalStarved true n))
    ∧ (s.variant.mifs ≤ n → no (.mandatoryRefresh n) ∧ (∀ r, no (.retrainDone n r)))
    ∧ (2 ≤ n → no (.portUp n) ∧ (∀ b, no (.portDown n b)) ∧ (∀ w, no (.unsupportedFrame n w)) ∧ (∀ a b, no (.feedChange n a b)))
    ∧ (28 ≤ n → ∀ f, no (.portPanic n f)) ∧ (s.hasSensor n = false → no (.thermalTrip n) ∧ ∀ st temp, no (.thermState st n temp))
    ∧ (pageOf s.variant n = none → no (.blockReady n) ∧ no (.blockResetDone n))

/-- An answered command's RESPONSE is sent with the next SEQ and kept until acknowledged, and returns the credit; with 1,024 unacknowledged it waits; a posted one sends nothing and returns
its credit. A notice sets its bit in RAW and is queued, counted as masked, or counted as lost. -/
def Obligations.AnswersAndNoticesReachTheirSessions : Prop :=
  ∀ (s : State) (k : Nat), s.Inv → s.isOpen k = true →
    (∀ seq c done addr data,
      let m := Msg.response seq c.num done addr data
      let u := s.respond k seq c done addr data
      ((s.ses k).unacked.length < 1024 →
        (u.xport.sent.head?.map (fun x => (x.port, x.sess, x.seq, x.ack, x.credits, x.retry, x.msg)))
            = some (s.curPort k, k, (s.ses k).txNext, (s.ses k).rxNext - 1, ((s.ses k).creditsOut + 1) % 65536, false, m)
        ∧ (u.xport.sent.head?.map (fun x => (x.dest, x.udp))) = some (if s.curPort k = (s.ses k).homePort then ((s.ses k).openAddr, (s.ses k).openUdp)
            else ((s.ses k).alt, (s.ses k).altUdp))
        ∧ u.xport.sent.tail = s.xport.sent
        ∧ (u.ses k).txNext = (s.ses k).txNext + 1 ∧ (u.ses k).creditsOut = (s.ses k).creditsOut + 1
        ∧ (u.ses k).unacked = (s.ses k).unacked ++ [⟨(s.ses k).txNext, m, s.now, s.now, 0⟩] ∧ s.KeepsBut u txKey)
      ∧ (1024 ≤ (s.ses k).unacked.length →
        (u.ses k).waiting = (s.ses k).waiting ++ [m] ∧ u.xport.sent = s.xport.sent ∧ (u.ses k).creditsOut = (s.ses k).creditsOut
          ∧ s.KeepsBut u (fun _ => False)))
    ∧ (∀ o : Org, o.sess = k → o.posted = true →
      (((s.ackWrite o).ses k).creditsOut = (s.ses k).creditsOut + 1 ∧ (s.ackWrite o).xport.sent = s.xport.sent ∧ s.KeepsBut (s.ackWrite o) (fun _ => False)))
    ∧ (∀ n : Notice, n.code < 32 → n.page < 4096 → n.page ≠ pNOTE →
      let u := s.notifyTo k n
      let masked := bit (s.fg (sbase k n.page) HDR_PAGE_NOTICE_MASK_MASK) n.code = false
      bit (u.fg (sbase k n.page) HDR_PAGE_NOTICE_RAW_RAW) n.code = true
      ∧ (masked → (u.ses k).notices = (s.ses k).notices
          ∧ u.fg (sbase k pNOTE) NOTE_MASKED_COUNT_VALUE = satAdd 0xFFFFFFFF (s.fg (sbase k pNOTE) NOTE_MASKED_COUNT_VALUE) 1)
      ∧ (¬ masked → (s.ses k).notices.length < 1024 →
          (u.ses k).notices = (s.ses k).withNotice s.now (s.fg (sbase k pNOTE) NOTE_NEXT_NSEQ_VALUE) (s.formOf n)
          ∧ ((s.ses k).later s.now (s.formOf n) = [] →
            (u.ses k).notices = (s.ses k).notices ++ [⟨s.fg (sbase k pNOTE) NOTE_NEXT_NSEQ_VALUE, s.formOf n, none, s.now⟩])
          ∧ u.fg (sbase k pNOTE) NOTE_NEXT_NSEQ_VALUE = (s.fg (sbase k pNOTE) NOTE_NEXT_NSEQ_VALUE + 1) % 2 ^ 32)
      ∧ (¬ masked → 1024 ≤ (s.ses k).notices.length → (u.ses k).notices = (s.ses k).notices
          ∧ u.fg (sbase k pNOTE) NOTE_LOST_PENDING_VALUE = (s.fg (sbase k pNOTE) NOTE_LOST_PENDING_VALUE + 1) % 2 ^ 32)
      ∧ s.KeepsBut u noticeKey)
end

