-- ==== Sys2Proof/Laws/State.lean ====
section
/-! SUPPORT. Sys2Proof/Laws/State.lean: what each update of the state leaves in each field. -/
namespace Sys2Proof.Machine
open Sys2Proof

section
variable (s : State) (key : Nat) (w : Word)
@[simp] theorem State.wr_variant : (s.wr key w).variant = s.variant := rfl
@[simp] theorem State.wr_regs : (s.wr key w).regs = stSet (regReset s.variant) s.regs key w := rfl
@[simp] theorem State.wr_mem : (s.wr key w).mem = s.mem := rfl
@[simp] theorem State.wr_now : (s.wr key w).now = s.now := rfl
@[simp] theorem State.wr_fresh : (s.wr key w).fresh = s.fresh := rfl
@[simp] theorem State.wr_xport : (s.wr key w).xport = s.xport := rfl
@[simp] theorem State.wr_gens : (s.wr key w).gens = s.gens := rfl
@[simp] theorem State.wr_plates : (s.wr key w).plates = s.plates := rfl
@[simp] theorem State.wr_gravers : (s.wr key w).gravers = s.gravers := rfl
@[simp] theorem State.wr_scens : (s.wr key w).scens = s.scens := rfl
@[simp] theorem State.wr_scheds : (s.wr key w).scheds = s.scheds := rfl
@[simp] theorem State.wr_unit : (s.wr key w).unit = s.unit := rfl
@[simp] theorem State.wr_lanes : (s.wr key w).lanes = s.lanes := rfl
@[simp] theorem State.wr_proofs : (s.wr key w).proofs = s.proofs := rfl
@[simp] theorem State.wr_tracers : (s.wr key w).tracers = s.tracers := rfl
@[simp] theorem State.wr_xh : (s.wr key w).xh = s.xh := rfl
@[simp] theorem State.wr_clk : (s.wr key w).clk = s.clk := rfl
@[simp] theorem State.wr_cal : (s.wr key w).cal = s.cal := rfl
@[simp] theorem State.wr_dram : (s.wr key w).dram = s.dram := rfl
@[simp] theorem State.wr_dma : (s.wr key w).dma = s.dma := rfl
@[simp] theorem State.wr_trust : (s.wr key w).trust = s.trust := rfl
@[simp] theorem State.wr_badWords : (s.wr key w).badWords = s.badWords := rfl
@[simp] theorem State.wr_frames : (s.wr key w).frames = s.frames := rfl
@[simp] theorem State.wr_power : (s.wr key w).power = s.power := rfl
@[simp] theorem State.wr_pending : (s.wr key w).pending = s.pending := rfl
@[simp] theorem State.wr_mb (x : Nat) : (s.wr key w).mb x = s.mb x := rfl
@[simp] theorem State.wr_ses (j : Nat) : (s.wr key w).ses j = s.ses j := rfl
end

section
variable (s : State) (p : Nat → Bool)
@[simp] theorem State.dropRegs_variant : (s.dropRegs p).variant = s.variant := rfl
@[simp] theorem State.dropRegs_regs : (s.dropRegs p).regs = stDrop p s.regs := rfl
@[simp] theorem State.dropRegs_mem : (s.dropRegs p).mem = s.mem := rfl
@[simp] theorem State.dropRegs_now : (s.dropRegs p).now = s.now := rfl
@[simp] theorem State.dropRegs_fresh : (s.dropRegs p).fresh = s.fresh := rfl
@[simp] theorem State.dropRegs_xport : (s.dropRegs p).xport = s.xport := rfl
@[simp] theorem State.dropRegs_gens : (s.dropRegs p).gens = s.gens := rfl
@[simp] theorem State.dropRegs_plates : (s.dropRegs p).plates = s.plates := rfl
@[simp] theorem State.dropRegs_gravers : (s.dropRegs p).gravers = s.gravers := rfl
@[simp] theorem State.dropRegs_scens : (s.dropRegs p).scens = s.scens := rfl
@[simp] theorem State.dropRegs_scheds : (s.dropRegs p).scheds = s.scheds := rfl
@[simp] theorem State.dropRegs_unit : (s.dropRegs p).unit = s.unit := rfl
@[simp] theorem State.dropRegs_lanes : (s.dropRegs p).lanes = s.lanes := rfl
@[simp] theorem State.dropRegs_proofs : (s.dropRegs p).proofs = s.proofs := rfl
@[simp] theorem State.dropRegs_tracers : (s.dropRegs p).tracers = s.tracers := rfl
@[simp] theorem State.dropRegs_xh : (s.dropRegs p).xh = s.xh := rfl
@[simp] theorem State.dropRegs_clk : (s.dropRegs p).clk = s.clk := rfl
@[simp] theorem State.dropRegs_cal : (s.dropRegs p).cal = s.cal := rfl
@[simp] theorem State.dropRegs_dram : (s.dropRegs p).dram = s.dram := rfl
@[simp] theorem State.dropRegs_dma : (s.dropRegs p).dma = s.dma := rfl
@[simp] theorem State.dropRegs_trust : (s.dropRegs p).trust = s.trust := rfl
@[simp] theorem State.dropRegs_badWords : (s.dropRegs p).badWords = s.badWords := rfl
@[simp] theorem State.dropRegs_frames : (s.dropRegs p).frames = s.frames := rfl
@[simp] theorem State.dropRegs_power : (s.dropRegs p).power = s.power := rfl
@[simp] theorem State.dropRegs_pending : (s.dropRegs p).pending = s.pending := rfl
@[simp] theorem State.dropRegs_mb (x : Nat) : (s.dropRegs p).mb x = s.mb x := rfl
@[simp] theorem State.dropRegs_ses (j : Nat) : (s.dropRegs p).ses j = s.ses j := rfl
end

section
variable (s : State) (a : Nat) (b : Byte)
@[simp] theorem State.setMb_variant : (s.setMb a b).variant = s.variant := rfl
@[simp] theorem State.setMb_regs : (s.setMb a b).regs = s.regs := rfl
@[simp] theorem State.setMb_mem : (s.setMb a b).mem = stSet memDefault s.mem a b := rfl
@[simp] theorem State.setMb_now : (s.setMb a b).now = s.now := rfl
@[simp] theorem State.setMb_fresh : (s.setMb a b).fresh = s.fresh := rfl
@[simp] theorem State.setMb_xport : (s.setMb a b).xport = s.xport := rfl
@[simp] theorem State.setMb_gens : (s.setMb a b).gens = s.gens := rfl
@[simp] theorem State.setMb_plates : (s.setMb a b).plates = s.plates := rfl
@[simp] theorem State.setMb_gravers : (s.setMb a b).gravers = s.gravers := rfl
@[simp] theorem State.setMb_scens : (s.setMb a b).scens = s.scens := rfl
@[simp] theorem State.setMb_scheds : (s.setMb a b).scheds = s.scheds := rfl
@[simp] theorem State.setMb_unit : (s.setMb a b).unit = s.unit := rfl
@[simp] theorem State.setMb_lanes : (s.setMb a b).lanes = s.lanes := rfl
@[simp] theorem State.setMb_proofs : (s.setMb a b).proofs = s.proofs := rfl
@[simp] theorem State.setMb_tracers : (s.setMb a b).tracers = s.tracers := rfl
@[simp] theorem State.setMb_xh : (s.setMb a b).xh = s.xh := rfl
@[simp] theorem State.setMb_clk : (s.setMb a b).clk = s.clk := rfl
@[simp] theorem State.setMb_cal : (s.setMb a b).cal = s.cal := rfl
@[simp] theorem State.setMb_dram : (s.setMb a b).dram = s.dram := rfl
@[simp] theorem State.setMb_dma : (s.setMb a b).dma = s.dma := rfl
@[simp] theorem State.setMb_trust : (s.setMb a b).trust = s.trust := rfl
@[simp] theorem State.setMb_badWords : (s.setMb a b).badWords = s.badWords := rfl
@[simp] theorem State.setMb_frames : (s.setMb a b).frames = s.frames := rfl
@[simp] theorem State.setMb_power : (s.setMb a b).power = s.power := rfl
@[simp] theorem State.setMb_pending : (s.setMb a b).pending = s.pending := rfl
@[simp] theorem State.setMb_rd (j : Nat) : (s.setMb a b).rd j = s.rd j := rfl
@[simp] theorem State.setMb_ses (j : Nat) : (s.setMb a b).ses j = s.ses j := rfl
end

section
variable (s : State) (a n : Nat)
@[simp] theorem State.zero_variant : (s.zero a n).variant = s.variant := rfl
@[simp] theorem State.zero_regs : (s.zero a n).regs = s.regs := rfl
@[simp] theorem State.zero_mem : (s.zero a n).mem = stDrop (fun x => decide (a ≤ x ∧ x < a + n)) s.mem := rfl
@[simp] theorem State.zero_now : (s.zero a n).now = s.now := rfl
@[simp] theorem State.zero_fresh : (s.zero a n).fresh = s.fresh := rfl
@[simp] theorem State.zero_xport : (s.zero a n).xport = s.xport := rfl
@[simp] theorem State.zero_gens : (s.zero a n).gens = s.gens := rfl
@[simp] theorem State.zero_plates : (s.zero a n).plates = s.plates := rfl
@[simp] theorem State.zero_gravers : (s.zero a n).gravers = s.gravers := rfl
@[simp] theorem State.zero_scens : (s.zero a n).scens = s.scens := rfl
@[simp] theorem State.zero_scheds : (s.zero a n).scheds = s.scheds := rfl
@[simp] theorem State.zero_unit : (s.zero a n).unit = s.unit := rfl
@[simp] theorem State.zero_lanes : (s.zero a n).lanes = s.lanes := rfl
@[simp] theorem State.zero_proofs : (s.zero a n).proofs = s.proofs := rfl
@[simp] theorem State.zero_tracers : (s.zero a n).tracers = s.tracers := rfl
@[simp] theorem State.zero_xh : (s.zero a n).xh = s.xh := rfl
@[simp] theorem State.zero_clk : (s.zero a n).clk = s.clk := rfl
@[simp] theorem State.zero_cal : (s.zero a n).cal = s.cal := rfl
@[simp] theorem State.zero_dram : (s.zero a n).dram = s.dram := rfl
@[simp] theorem State.zero_dma : (s.zero a n).dma = s.dma := rfl
@[simp] theorem State.zero_trust : (s.zero a n).trust = s.trust := rfl
@[simp] theorem State.zero_badWords : (s.zero a n).badWords = s.badWords := rfl
@[simp] theorem State.zero_frames : (s.zero a n).frames = s.frames := rfl
@[simp] theorem State.zero_power : (s.zero a n).power = s.power := rfl
@[simp] theorem State.zero_pending : (s.zero a n).pending = s.pending := rfl
@[simp] theorem State.zero_rd (j : Nat) : (s.zero a n).rd j = s.rd j := rfl
@[simp] theorem State.zero_ses (j : Nat) : (s.zero a n).ses j = s.ses j := rfl
end

section
variable (s : State)
@[simp] theorem State.bump_variant : (s.bump).variant = s.variant := rfl
@[simp] theorem State.bump_regs : (s.bump).regs = s.regs := rfl
@[simp] theorem State.bump_mem : (s.bump).mem = s.mem := rfl
@[simp] theorem State.bump_now : (s.bump).now = s.now := rfl
@[simp] theorem State.bump_fresh : (s.bump).fresh = s.fresh + 1 := rfl
@[simp] theorem State.bump_xport : (s.bump).xport = s.xport := rfl
@[simp] theorem State.bump_gens : (s.bump).gens = s.gens := rfl
@[simp] theorem State.bump_plates : (s.bump).plates = s.plates := rfl
@[simp] theorem State.bump_gravers : (s.bump).gravers = s.gravers := rfl
@[simp] theorem State.bump_scens : (s.bump).scens = s.scens := rfl
@[simp] theorem State.bump_scheds : (s.bump).scheds = s.scheds := rfl
@[simp] theorem State.bump_unit : (s.bump).unit = s.unit := rfl
@[simp] theorem State.bump_lanes : (s.bump).lanes = s.lanes := rfl
@[simp] theorem State.bump_proofs : (s.bump).proofs = s.proofs := rfl
@[simp] theorem State.bump_tracers : (s.bump).tracers = s.tracers := rfl
@[simp] theorem State.bump_xh : (s.bump).xh = s.xh := rfl
@[simp] theorem State.bump_clk : (s.bump).clk = s.clk := rfl
@[simp] theorem State.bump_cal : (s.bump).cal = s.cal := rfl
@[simp] theorem State.bump_dram : (s.bump).dram = s.dram := rfl
@[simp] theorem State.bump_dma : (s.bump).dma = s.dma := rfl
@[simp] theorem State.bump_trust : (s.bump).trust = s.trust := rfl
@[simp] theorem State.bump_badWords : (s.bump).badWords = s.badWords := rfl
@[simp] theorem State.bump_frames : (s.bump).frames = s.frames := rfl
@[simp] theorem State.bump_power : (s.bump).power = s.power := rfl
@[simp] theorem State.bump_pending : (s.bump).pending = s.pending := rfl
@[simp] theorem State.bump_rd (j : Nat) : (s.bump).rd j = s.rd j := rfl
@[simp] theorem State.bump_mb (x : Nat) : (s.bump).mb x = s.mb x := rfl
@[simp] theorem State.bump_ses (j : Nat) : (s.bump).ses j = s.ses j := rfl
end

section
variable (s : State) (k : Nat) (f : Sess → Sess)
@[simp] theorem State.updSes_variant : (s.updSes k f).variant = s.variant := rfl
@[simp] theorem State.updSes_regs : (s.updSes k f).regs = s.regs := rfl
@[simp] theorem State.updSes_mem : (s.updSes k f).mem = s.mem := rfl
@[simp] theorem State.updSes_now : (s.updSes k f).now = s.now := rfl
@[simp] theorem State.updSes_fresh : (s.updSes k f).fresh = s.fresh := rfl
@[simp] theorem State.updSes_xport : (s.updSes k f).xport = { s.xport with sess := if k = 0 then s.xport.sess else s.xport.sess.modify (k - 1) f } := rfl
@[simp] theorem State.updSes_gens : (s.updSes k f).gens = s.gens := rfl
@[simp] theorem State.updSes_plates : (s.updSes k f).plates = s.plates := rfl
@[simp] theorem State.updSes_gravers : (s.updSes k f).gravers = s.gravers := rfl
@[simp] theorem State.updSes_scens : (s.updSes k f).scens = s.scens := rfl
@[simp] theorem State.updSes_scheds : (s.updSes k f).scheds = s.scheds := rfl
@[simp] theorem State.updSes_unit : (s.updSes k f).unit = s.unit := rfl
@[simp] theorem State.updSes_lanes : (s.updSes k f).lanes = s.lanes := rfl
@[simp] theorem State.updSes_proofs : (s.updSes k f).proofs = s.proofs := rfl
@[simp] theorem State.updSes_tracers : (s.updSes k f).tracers = s.tracers := rfl
@[simp] theorem State.updSes_xh : (s.updSes k f).xh = s.xh := rfl
@[simp] theorem State.updSes_clk : (s.updSes k f).clk = s.clk := rfl
@[simp] theorem State.updSes_cal : (s.updSes k f).cal = s.cal := rfl
@[simp] theorem State.updSes_dram : (s.updSes k f).dram = s.dram := rfl
@[simp] theorem State.updSes_dma : (s.updSes k f).dma = s.dma := rfl
@[simp] theorem State.updSes_trust : (s.updSes k f).trust = s.trust := rfl
@[simp] theorem State.updSes_badWords : (s.updSes k f).badWords = s.badWords := rfl
@[simp] theorem State.updSes_frames : (s.updSes k f).frames = s.frames := rfl
@[simp] theorem State.updSes_power : (s.updSes k f).power = s.power := rfl
@[simp] theorem State.updSes_pending : (s.updSes k f).pending = s.pending := rfl
@[simp] theorem State.updSes_rd (j : Nat) : (s.updSes k f).rd j = s.rd j := rfl
@[simp] theorem State.updSes_mb (x : Nat) : (s.updSes k f).mb x = s.mb x := rfl
end

section
variable (s : State) (p : Nat) (f : Port → Port)
@[simp] theorem State.updPort_variant : (s.updPort p f).variant = s.variant := rfl
@[simp] theorem State.updPort_regs : (s.updPort p f).regs = s.regs := rfl
@[simp] theorem State.updPort_mem : (s.updPort p f).mem = s.mem := rfl
@[simp] theorem State.updPort_now : (s.updPort p f).now = s.now := rfl
@[simp] theorem State.updPort_fresh : (s.updPort p f).fresh = s.fresh := rfl
@[simp] theorem State.updPort_xport : (s.updPort p f).xport = { s.xport with ports := s.xport.ports.modify (p % 2) f } := rfl
@[simp] theorem State.updPort_gens : (s.updPort p f).gens = s.gens := rfl
@[simp] theorem State.updPort_plates : (s.updPort p f).plates = s.plates := rfl
@[simp] theorem State.updPort_gravers : (s.updPort p f).gravers = s.gravers := rfl
@[simp] theorem State.updPort_scens : (s.updPort p f).scens = s.scens := rfl
@[simp] theorem State.updPort_scheds : (s.updPort p f).scheds = s.scheds := rfl
@[simp] theorem State.updPort_unit : (s.updPort p f).unit = s.unit := rfl
@[simp] theorem State.updPort_lanes : (s.updPort p f).lanes = s.lanes := rfl
@[simp] theorem State.updPort_proofs : (s.updPort p f).proofs = s.proofs := rfl
@[simp] theorem State.updPort_tracers : (s.updPort p f).tracers = s.tracers := rfl
@[simp] theorem State.updPort_xh : (s.updPort p f).xh = s.xh := rfl
@[simp] theorem State.updPort_clk : (s.updPort p f).clk = s.clk := rfl
@[simp] theorem State.updPort_cal : (s.updPort p f).cal = s.cal := rfl
@[simp] theorem State.updPort_dram : (s.updPort p f).dram = s.dram := rfl
@[simp] theorem State.updPort_dma : (s.updPort p f).dma = s.dma := rfl
@[simp] theorem State.updPort_trust : (s.updPort p f).trust = s.trust := rfl
@[simp] theorem State.updPort_badWords : (s.updPort p f).badWords = s.badWords := rfl
@[simp] theorem State.updPort_frames : (s.updPort p f).frames = s.frames := rfl
@[simp] theorem State.updPort_power : (s.updPort p f).power = s.power := rfl
@[simp] theorem State.updPort_pending : (s.updPort p f).pending = s.pending := rfl
@[simp] theorem State.updPort_rd (j : Nat) : (s.updPort p f).rd j = s.rd j := rfl
@[simp] theorem State.updPort_mb (x : Nat) : (s.updPort p f).mb x = s.mb x := rfl
end

section
variable (s : State) (n : Nat) (f : Gen → Gen)
@[simp] theorem State.updGen_variant : (s.updGen n f).variant = s.variant := rfl
@[simp] theorem State.updGen_regs : (s.updGen n f).regs = s.regs := rfl
@[simp] theorem State.updGen_mem : (s.updGen n f).mem = s.mem := rfl
@[simp] theorem State.updGen_now : (s.updGen n f).now = s.now := rfl
@[simp] theorem State.updGen_fresh : (s.updGen n f).fresh = s.fresh := rfl
@[simp] theorem State.updGen_xport : (s.updGen n f).xport = s.xport := rfl
@[simp] theorem State.updGen_gens : (s.updGen n f).gens = s.gens.modify n f := rfl
@[simp] theorem State.updGen_plates : (s.updGen n f).plates = s.plates := rfl
@[simp] theorem State.updGen_gravers : (s.updGen n f).gravers = s.gravers := rfl
@[simp] theorem State.updGen_scens : (s.updGen n f).scens = s.scens := rfl
@[simp] theorem State.updGen_scheds : (s.updGen n f).scheds = s.scheds := rfl
@[simp] theorem State.updGen_unit : (s.updGen n f).unit = s.unit := rfl
@[simp] theorem State.updGen_lanes : (s.updGen n f).lanes = s.lanes := rfl
@[simp] theorem State.updGen_proofs : (s.updGen n f).proofs = s.proofs := rfl
@[simp] theorem State.updGen_tracers : (s.updGen n f).tracers = s.tracers := rfl
@[simp] theorem State.updGen_xh : (s.updGen n f).xh = s.xh := rfl
@[simp] theorem State.updGen_clk : (s.updGen n f).clk = s.clk := rfl
@[simp] theorem State.updGen_cal : (s.updGen n f).cal = s.cal := rfl
@[simp] theorem State.updGen_dram : (s.updGen n f).dram = s.dram := rfl
@[simp] theorem State.updGen_dma : (s.updGen n f).dma = s.dma := rfl
@[simp] theorem State.updGen_trust : (s.updGen n f).trust = s.trust := rfl
@[simp] theorem State.updGen_badWords : (s.updGen n f).badWords = s.badWords := rfl
@[simp] theorem State.updGen_frames : (s.updGen n f).frames = s.frames := rfl
@[simp] theorem State.updGen_power : (s.updGen n f).power = s.power := rfl
@[simp] theorem State.updGen_pending : (s.updGen n f).pending = s.pending := rfl
@[simp] theorem State.updGen_rd (j : Nat) : (s.updGen n f).rd j = s.rd j := rfl
@[simp] theorem State.updGen_mb (x : Nat) : (s.updGen n f).mb x = s.mb x := rfl
@[simp] theorem State.updGen_ses (j : Nat) : (s.updGen n f).ses j = s.ses j := rfl
end

section
variable (s : State) (g : Nat) (f : Graver → Graver)
@[simp] theorem State.updGrv_variant : (s.updGrv g f).variant = s.variant := rfl
@[simp] theorem State.updGrv_regs : (s.updGrv g f).regs = s.regs := rfl
@[simp] theorem State.updGrv_mem : (s.updGrv g f).mem = s.mem := rfl
@[simp] theorem State.updGrv_now : (s.updGrv g f).now = s.now := rfl
@[simp] theorem State.updGrv_fresh : (s.updGrv g f).fresh = s.fresh := rfl
@[simp] theorem State.updGrv_xport : (s.updGrv g f).xport = s.xport := rfl
@[simp] theorem State.updGrv_gens : (s.updGrv g f).gens = s.gens := rfl
@[simp] theorem State.updGrv_plates : (s.updGrv g f).plates = s.plates := rfl
@[simp] theorem State.updGrv_gravers : (s.updGrv g f).gravers = s.gravers.modify g f := rfl
@[simp] theorem State.updGrv_scens : (s.updGrv g f).scens = s.scens := rfl
@[simp] theorem State.updGrv_scheds : (s.updGrv g f).scheds = s.scheds := rfl
@[simp] theorem State.updGrv_unit : (s.updGrv g f).unit = s.unit := rfl
@[simp] theorem State.updGrv_lanes : (s.updGrv g f).lanes = s.lanes := rfl
@[simp] theorem State.updGrv_proofs : (s.updGrv g f).proofs = s.proofs := rfl
@[simp] theorem State.updGrv_tracers : (s.updGrv g f).tracers = s.tracers := rfl
@[simp] theorem State.updGrv_xh : (s.updGrv g f).xh = s.xh := rfl
@[simp] theorem State.updGrv_clk : (s.updGrv g f).clk = s.clk := rfl
@[simp] theorem State.updGrv_cal : (s.updGrv g f).cal = s.cal := rfl
@[simp] theorem State.updGrv_dram : (s.updGrv g f).dram = s.dram := rfl
@[simp] theorem State.updGrv_dma : (s.updGrv g f).dma = s.dma := rfl
@[simp] theorem State.updGrv_trust : (s.updGrv g f).trust = s.trust := rfl
@[simp] theorem State.updGrv_badWords : (s.updGrv g f).badWords = s.badWords := rfl
@[simp] theorem State.updGrv_frames : (s.updGrv g f).frames = s.frames := rfl
@[simp] theorem State.updGrv_power : (s.updGrv g f).power = s.power := rfl
@[simp] theorem State.updGrv_pending : (s.updGrv g f).pending = s.pending := rfl
@[simp] theorem State.updGrv_rd (j : Nat) : (s.updGrv g f).rd j = s.rd j := rfl
@[simp] theorem State.updGrv_mb (x : Nat) : (s.updGrv g f).mb x = s.mb x := rfl
@[simp] theorem State.updGrv_ses (j : Nat) : (s.updGrv g f).ses j = s.ses j := rfl
end

section
variable (s : State) (k : Nat) (f : ScenX → ScenX)
@[simp] theorem State.updScn_variant : (s.updScn k f).variant = s.variant := rfl
@[simp] theorem State.updScn_regs : (s.updScn k f).regs = s.regs := rfl
@[simp] theorem State.updScn_mem : (s.updScn k f).mem = s.mem := rfl
@[simp] theorem State.updScn_now : (s.updScn k f).now = s.now := rfl
@[simp] theorem State.updScn_fresh : (s.updScn k f).fresh = s.fresh := rfl
@[simp] theorem State.updScn_xport : (s.updScn k f).xport = s.xport := rfl
@[simp] theorem State.updScn_gens : (s.updScn k f).gens = s.gens := rfl
@[simp] theorem State.updScn_plates : (s.updScn k f).plates = s.plates := rfl
@[simp] theorem State.updScn_gravers : (s.updScn k f).gravers = s.gravers := rfl
@[simp] theorem State.updScn_scens : (s.updScn k f).scens = s.scens.modify k f := rfl
@[simp] theorem State.updScn_scheds : (s.updScn k f).scheds = s.scheds := rfl
@[simp] theorem State.updScn_unit : (s.updScn k f).unit = s.unit := rfl
@[simp] theorem State.updScn_lanes : (s.updScn k f).lanes = s.lanes := rfl
@[simp] theorem State.updScn_proofs : (s.updScn k f).proofs = s.proofs := rfl
@[simp] theorem State.updScn_tracers : (s.updScn k f).tracers = s.tracers := rfl
@[simp] theorem State.updScn_xh : (s.updScn k f).xh = s.xh := rfl
@[simp] theorem State.updScn_clk : (s.updScn k f).clk = s.clk := rfl
@[simp] theorem State.updScn_cal : (s.updScn k f).cal = s.cal := rfl
@[simp] theorem State.updScn_dram : (s.updScn k f).dram = s.dram := rfl
@[simp] theorem State.updScn_dma : (s.updScn k f).dma = s.dma := rfl
@[simp] theorem State.updScn_trust : (s.updScn k f).trust = s.trust := rfl
@[simp] theorem State.updScn_badWords : (s.updScn k f).badWords = s.badWords := rfl
@[simp] theorem State.updScn_frames : (s.updScn k f).frames = s.frames := rfl
@[simp] theorem State.updScn_power : (s.updScn k f).power = s.power := rfl
@[simp] theorem State.updScn_pending : (s.updScn k f).pending = s.pending := rfl
@[simp] theorem State.updScn_rd (j : Nat) : (s.updScn k f).rd j = s.rd j := rfl
@[simp] theorem State.updScn_mb (x : Nat) : (s.updScn k f).mb x = s.mb x := rfl
@[simp] theorem State.updScn_ses (j : Nat) : (s.updScn k f).ses j = s.ses j := rfl
end

section
variable (s : State) (n : Nat) (f : Proof → Proof)
@[simp] theorem State.updProof_variant : (s.updProof n f).variant = s.variant := rfl
@[simp] theorem State.updProof_regs : (s.updProof n f).regs = s.regs := rfl
@[simp] theorem State.updProof_mem : (s.updProof n f).mem = s.mem := rfl
@[simp] theorem State.updProof_now : (s.updProof n f).now = s.now := rfl
@[simp] theorem State.updProof_fresh : (s.updProof n f).fresh = s.fresh := rfl
@[simp] theorem State.updProof_xport : (s.updProof n f).xport = s.xport := rfl
@[simp] theorem State.updProof_gens : (s.updProof n f).gens = s.gens := rfl
@[simp] theorem State.updProof_plates : (s.updProof n f).plates = s.plates := rfl
@[simp] theorem State.updProof_gravers : (s.updProof n f).gravers = s.gravers := rfl
@[simp] theorem State.updProof_scens : (s.updProof n f).scens = s.scens := rfl
@[simp] theorem State.updProof_scheds : (s.updProof n f).scheds = s.scheds := rfl
@[simp] theorem State.updProof_unit : (s.updProof n f).unit = s.unit := rfl
@[simp] theorem State.updProof_lanes : (s.updProof n f).lanes = s.lanes := rfl
@[simp] theorem State.updProof_proofs : (s.updProof n f).proofs = s.proofs.modify n f := rfl
@[simp] theorem State.updProof_tracers : (s.updProof n f).tracers = s.tracers := rfl
@[simp] theorem State.updProof_xh : (s.updProof n f).xh = s.xh := rfl
@[simp] theorem State.updProof_clk : (s.updProof n f).clk = s.clk := rfl
@[simp] theorem State.updProof_cal : (s.updProof n f).cal = s.cal := rfl
@[simp] theorem State.updProof_dram : (s.updProof n f).dram = s.dram := rfl
@[simp] theorem State.updProof_dma : (s.updProof n f).dma = s.dma := rfl
@[simp] theorem State.updProof_trust : (s.updProof n f).trust = s.trust := rfl
@[simp] theorem State.updProof_badWords : (s.updProof n f).badWords = s.badWords := rfl
@[simp] theorem State.updProof_frames : (s.updProof n f).frames = s.frames := rfl
@[simp] theorem State.updProof_power : (s.updProof n f).power = s.power := rfl
@[simp] theorem State.updProof_pending : (s.updProof n f).pending = s.pending := rfl
@[simp] theorem State.updProof_rd (j : Nat) : (s.updProof n f).rd j = s.rd j := rfl
@[simp] theorem State.updProof_mb (x : Nat) : (s.updProof n f).mb x = s.mb x := rfl
@[simp] theorem State.updProof_ses (j : Nat) : (s.updProof n f).ses j = s.ses j := rfl
end

section
variable (s : State) (n : Nat) (f : Tracer → Tracer)
@[simp] theorem State.updTrc_variant : (s.updTrc n f).variant = s.variant := rfl
@[simp] theorem State.updTrc_regs : (s.updTrc n f).regs = s.regs := rfl
@[simp] theorem State.updTrc_mem : (s.updTrc n f).mem = s.mem := rfl
@[simp] theorem State.updTrc_now : (s.updTrc n f).now = s.now := rfl
@[simp] theorem State.updTrc_fresh : (s.updTrc n f).fresh = s.fresh := rfl
@[simp] theorem State.updTrc_xport : (s.updTrc n f).xport = s.xport := rfl
@[simp] theorem State.updTrc_gens : (s.updTrc n f).gens = s.gens := rfl
@[simp] theorem State.updTrc_plates : (s.updTrc n f).plates = s.plates := rfl
@[simp] theorem State.updTrc_gravers : (s.updTrc n f).gravers = s.gravers := rfl
@[simp] theorem State.updTrc_scens : (s.updTrc n f).scens = s.scens := rfl
@[simp] theorem State.updTrc_scheds : (s.updTrc n f).scheds = s.scheds := rfl
@[simp] theorem State.updTrc_unit : (s.updTrc n f).unit = s.unit := rfl
@[simp] theorem State.updTrc_lanes : (s.updTrc n f).lanes = s.lanes := rfl
@[simp] theorem State.updTrc_proofs : (s.updTrc n f).proofs = s.proofs := rfl
@[simp] theorem State.updTrc_tracers : (s.updTrc n f).tracers = s.tracers.modify n f := rfl
@[simp] theorem State.updTrc_xh : (s.updTrc n f).xh = s.xh := rfl
@[simp] theorem State.updTrc_clk : (s.updTrc n f).clk = s.clk := rfl
@[simp] theorem State.updTrc_cal : (s.updTrc n f).cal = s.cal := rfl
@[simp] theorem State.updTrc_dram : (s.updTrc n f).dram = s.dram := rfl
@[simp] theorem State.updTrc_dma : (s.updTrc n f).dma = s.dma := rfl
@[simp] theorem State.updTrc_trust : (s.updTrc n f).trust = s.trust := rfl
@[simp] theorem State.updTrc_badWords : (s.updTrc n f).badWords = s.badWords := rfl
@[simp] theorem State.updTrc_frames : (s.updTrc n f).frames = s.frames := rfl
@[simp] theorem State.updTrc_power : (s.updTrc n f).power = s.power := rfl
@[simp] theorem State.updTrc_pending : (s.updTrc n f).pending = s.pending := rfl
@[simp] theorem State.updTrc_rd (j : Nat) : (s.updTrc n f).rd j = s.rd j := rfl
@[simp] theorem State.updTrc_mb (x : Nat) : (s.updTrc n f).mb x = s.mb x := rfl
@[simp] theorem State.updTrc_ses (j : Nat) : (s.updTrc n f).ses j = s.ses j := rfl
end

section
variable (s : State) (f : Cal → Cal)
@[simp] theorem State.updCal_variant : (s.updCal f).variant = s.variant := rfl
@[simp] theorem State.updCal_regs : (s.updCal f).regs = s.regs := rfl
@[simp] theorem State.updCal_mem : (s.updCal f).mem = s.mem := rfl
@[simp] theorem State.updCal_now : (s.updCal f).now = s.now := rfl
@[simp] theorem State.updCal_fresh : (s.updCal f).fresh = s.fresh := rfl
@[simp] theorem State.updCal_xport : (s.updCal f).xport = s.xport := rfl
@[simp] theorem State.updCal_gens : (s.updCal f).gens = s.gens := rfl
@[simp] theorem State.updCal_plates : (s.updCal f).plates = s.plates := rfl
@[simp] theorem State.updCal_gravers : (s.updCal f).gravers = s.gravers := rfl
@[simp] theorem State.updCal_scens : (s.updCal f).scens = s.scens := rfl
@[simp] theorem State.updCal_scheds : (s.updCal f).scheds = s.scheds := rfl
@[simp] theorem State.updCal_unit : (s.updCal f).unit = s.unit := rfl
@[simp] theorem State.updCal_lanes : (s.updCal f).lanes = s.lanes := rfl
@[simp] theorem State.updCal_proofs : (s.updCal f).proofs = s.proofs := rfl
@[simp] theorem State.updCal_tracers : (s.updCal f).tracers = s.tracers := rfl
@[simp] theorem State.updCal_xh : (s.updCal f).xh = s.xh := rfl
@[simp] theorem State.updCal_clk : (s.updCal f).clk = s.clk := rfl
@[simp] theorem State.updCal_cal : (s.updCal f).cal = f s.cal := rfl
@[simp] theorem State.updCal_dram : (s.updCal f).dram = s.dram := rfl
@[simp] theorem State.updCal_dma : (s.updCal f).dma = s.dma := rfl
@[simp] theorem State.updCal_trust : (s.updCal f).trust = s.trust := rfl
@[simp] theorem State.updCal_badWords : (s.updCal f).badWords = s.badWords := rfl
@[simp] theorem State.updCal_frames : (s.updCal f).frames = s.frames := rfl
@[simp] theorem State.updCal_power : (s.updCal f).power = s.power := rfl
@[simp] theorem State.updCal_pending : (s.updCal f).pending = s.pending := rfl
@[simp] theorem State.updCal_rd (j : Nat) : (s.updCal f).rd j = s.rd j := rfl
@[simp] theorem State.updCal_mb (x : Nat) : (s.updCal f).mb x = s.mb x := rfl
@[simp] theorem State.updCal_ses (j : Nat) : (s.updCal f).ses j = s.ses j := rfl
end

section
variable (s : State) (f : Clk → Clk)
@[simp] theorem State.updClk_variant : (s.updClk f).variant = s.variant := rfl
@[simp] theorem State.updClk_regs : (s.updClk f).regs = s.regs := rfl
@[simp] theorem State.updClk_mem : (s.updClk f).mem = s.mem := rfl
@[simp] theorem State.updClk_now : (s.updClk f).now = s.now := rfl
@[simp] theorem State.updClk_fresh : (s.updClk f).fresh = s.fresh := rfl
@[simp] theorem State.updClk_xport : (s.updClk f).xport = s.xport := rfl
@[simp] theorem State.updClk_gens : (s.updClk f).gens = s.gens := rfl
@[simp] theorem State.updClk_plates : (s.updClk f).plates = s.plates := rfl
@[simp] theorem State.updClk_gravers : (s.updClk f).gravers = s.gravers := rfl
@[simp] theorem State.updClk_scens : (s.updClk f).scens = s.scens := rfl
@[simp] theorem State.updClk_scheds : (s.updClk f).scheds = s.scheds := rfl
@[simp] theorem State.updClk_unit : (s.updClk f).unit = s.unit := rfl
@[simp] theorem State.updClk_lanes : (s.updClk f).lanes = s.lanes := rfl
@[simp] theorem State.updClk_proofs : (s.updClk f).proofs = s.proofs := rfl
@[simp] theorem State.updClk_tracers : (s.updClk f).tracers = s.tracers := rfl
@[simp] theorem State.updClk_xh : (s.updClk f).xh = s.xh := rfl
@[simp] theorem State.updClk_clk : (s.updClk f).clk = f s.clk := rfl
@[simp] theorem State.updClk_cal : (s.updClk f).cal = s.cal := rfl
@[simp] theorem State.updClk_dram : (s.updClk f).dram = s.dram := rfl
@[simp] theorem State.updClk_dma : (s.updClk f).dma = s.dma := rfl
@[simp] theorem State.updClk_trust : (s.updClk f).trust = s.trust := rfl
@[simp] theorem State.updClk_badWords : (s.updClk f).badWords = s.badWords := rfl
@[simp] theorem State.updClk_frames : (s.updClk f).frames = s.frames := rfl
@[simp] theorem State.updClk_power : (s.updClk f).power = s.power := rfl
@[simp] theorem State.updClk_pending : (s.updClk f).pending = s.pending := rfl
@[simp] theorem State.updClk_rd (j : Nat) : (s.updClk f).rd j = s.rd j := rfl
@[simp] theorem State.updClk_mb (x : Nat) : (s.updClk f).mb x = s.mb x := rfl
@[simp] theorem State.updClk_ses (j : Nat) : (s.updClk f).ses j = s.ses j := rfl
end

section
variable (s : State) (f : Dram → Dram)
@[simp] theorem State.updDram_variant : (s.updDram f).variant = s.variant := rfl
@[simp] theorem State.updDram_regs : (s.updDram f).regs = s.regs := rfl
@[simp] theorem State.updDram_mem : (s.updDram f).mem = s.mem := rfl
@[simp] theorem State.updDram_now : (s.updDram f).now = s.now := rfl
@[simp] theorem State.updDram_fresh : (s.updDram f).fresh = s.fresh := rfl
@[simp] theorem State.updDram_xport : (s.updDram f).xport = s.xport := rfl
@[simp] theorem State.updDram_gens : (s.updDram f).gens = s.gens := rfl
@[simp] theorem State.updDram_plates : (s.updDram f).plates = s.plates := rfl
@[simp] theorem State.updDram_gravers : (s.updDram f).gravers = s.gravers := rfl
@[simp] theorem State.updDram_scens : (s.updDram f).scens = s.scens := rfl
@[simp] theorem State.updDram_scheds : (s.updDram f).scheds = s.scheds := rfl
@[simp] theorem State.updDram_unit : (s.updDram f).unit = s.unit := rfl
@[simp] theorem State.updDram_lanes : (s.updDram f).lanes = s.lanes := rfl
@[simp] theorem State.updDram_proofs : (s.updDram f).proofs = s.proofs := rfl
@[simp] theorem State.updDram_tracers : (s.updDram f).tracers = s.tracers := rfl
@[simp] theorem State.updDram_xh : (s.updDram f).xh = s.xh := rfl
@[simp] theorem State.updDram_clk : (s.updDram f).clk = s.clk := rfl
@[simp] theorem State.updDram_cal : (s.updDram f).cal = s.cal := rfl
@[simp] theorem State.updDram_dram : (s.updDram f).dram = f s.dram := rfl
@[simp] theorem State.updDram_dma : (s.updDram f).dma = s.dma := rfl
@[simp] theorem State.updDram_trust : (s.updDram f).trust = s.trust := rfl
@[simp] theorem State.updDram_badWords : (s.updDram f).badWords = s.badWords := rfl
@[simp] theorem State.updDram_frames : (s.updDram f).frames = s.frames := rfl
@[simp] theorem State.updDram_power : (s.updDram f).power = s.power := rfl
@[simp] theorem State.updDram_pending : (s.updDram f).pending = s.pending := rfl
@[simp] theorem State.updDram_rd (j : Nat) : (s.updDram f).rd j = s.rd j := rfl
@[simp] theorem State.updDram_mb (x : Nat) : (s.updDram f).mb x = s.mb x := rfl
@[simp] theorem State.updDram_ses (j : Nat) : (s.updDram f).ses j = s.ses j := rfl
end

section
variable (s : State) (f : Dma → Dma)
@[simp] theorem State.updDma_variant : (s.updDma f).variant = s.variant := rfl
@[simp] theorem State.updDma_regs : (s.updDma f).regs = s.regs := rfl
@[simp] theorem State.updDma_mem : (s.updDma f).mem = s.mem := rfl
@[simp] theorem State.updDma_now : (s.updDma f).now = s.now := rfl
@[simp] theorem State.updDma_fresh : (s.updDma f).fresh = s.fresh := rfl
@[simp] theorem State.updDma_xport : (s.updDma f).xport = s.xport := rfl
@[simp] theorem State.updDma_gens : (s.updDma f).gens = s.gens := rfl
@[simp] theorem State.updDma_plates : (s.updDma f).plates = s.plates := rfl
@[simp] theorem State.updDma_gravers : (s.updDma f).gravers = s.gravers := rfl
@[simp] theorem State.updDma_scens : (s.updDma f).scens = s.scens := rfl
@[simp] theorem State.updDma_scheds : (s.updDma f).scheds = s.scheds := rfl
@[simp] theorem State.updDma_unit : (s.updDma f).unit = s.unit := rfl
@[simp] theorem State.updDma_lanes : (s.updDma f).lanes = s.lanes := rfl
@[simp] theorem State.updDma_proofs : (s.updDma f).proofs = s.proofs := rfl
@[simp] theorem State.updDma_tracers : (s.updDma f).tracers = s.tracers := rfl
@[simp] theorem State.updDma_xh : (s.updDma f).xh = s.xh := rfl
@[simp] theorem State.updDma_clk : (s.updDma f).clk = s.clk := rfl
@[simp] theorem State.updDma_cal : (s.updDma f).cal = s.cal := rfl
@[simp] theorem State.updDma_dram : (s.updDma f).dram = s.dram := rfl
@[simp] theorem State.updDma_dma : (s.updDma f).dma = f s.dma := rfl
@[simp] theorem State.updDma_trust : (s.updDma f).trust = s.trust := rfl
@[simp] theorem State.updDma_badWords : (s.updDma f).badWords = s.badWords := rfl
@[simp] theorem State.updDma_frames : (s.updDma f).frames = s.frames := rfl
@[simp] theorem State.updDma_power : (s.updDma f).power = s.power := rfl
@[simp] theorem State.updDma_pending : (s.updDma f).pending = s.pending := rfl
@[simp] theorem State.updDma_rd (j : Nat) : (s.updDma f).rd j = s.rd j := rfl
@[simp] theorem State.updDma_mb (x : Nat) : (s.updDma f).mb x = s.mb x := rfl
@[simp] theorem State.updDma_ses (j : Nat) : (s.updDma f).ses j = s.ses j := rfl
end

section
variable (s : State) (f : Trust → Trust)
@[simp] theorem State.updTrust_variant : (s.updTrust f).variant = s.variant := rfl
@[simp] theorem State.updTrust_regs : (s.updTrust f).regs = s.regs := rfl
@[simp] theorem State.updTrust_mem : (s.updTrust f).mem = s.mem := rfl
@[simp] theorem State.updTrust_now : (s.updTrust f).now = s.now := rfl
@[simp] theorem State.updTrust_fresh : (s.updTrust f).fresh = s.fresh := rfl
@[simp] theorem State.updTrust_xport : (s.updTrust f).xport = s.xport := rfl
@[simp] theorem State.updTrust_gens : (s.updTrust f).gens = s.gens := rfl
@[simp] theorem State.updTrust_plates : (s.updTrust f).plates = s.plates := rfl
@[simp] theorem State.updTrust_gravers : (s.updTrust f).gravers = s.gravers := rfl
@[simp] theorem State.updTrust_scens : (s.updTrust f).scens = s.scens := rfl
@[simp] theorem State.updTrust_scheds : (s.updTrust f).scheds = s.scheds := rfl
@[simp] theorem State.updTrust_unit : (s.updTrust f).unit = s.unit := rfl
@[simp] theorem State.updTrust_lanes : (s.updTrust f).lanes = s.lanes := rfl
@[simp] theorem State.updTrust_proofs : (s.updTrust f).proofs = s.proofs := rfl
@[simp] theorem State.updTrust_tracers : (s.updTrust f).tracers = s.tracers := rfl
@[simp] theorem State.updTrust_xh : (s.updTrust f).xh = s.xh := rfl
@[simp] theorem State.updTrust_clk : (s.updTrust f).clk = s.clk := rfl
@[simp] theorem State.updTrust_cal : (s.updTrust f).cal = s.cal := rfl
@[simp] theorem State.updTrust_dram : (s.updTrust f).dram = s.dram := rfl
@[simp] theorem State.updTrust_dma : (s.updTrust f).dma = s.dma := rfl
@[simp] theorem State.updTrust_trust : (s.updTrust f).trust = f s.trust := rfl
@[simp] theorem State.updTrust_badWords : (s.updTrust f).badWords = s.badWords := rfl
@[simp] theorem State.updTrust_frames : (s.updTrust f).frames = s.frames := rfl
@[simp] theorem State.updTrust_power : (s.updTrust f).power = s.power := rfl
@[simp] theorem State.updTrust_pending : (s.updTrust f).pending = s.pending := rfl
@[simp] theorem State.updTrust_rd (j : Nat) : (s.updTrust f).rd j = s.rd j := rfl
@[simp] theorem State.updTrust_mb (x : Nat) : (s.updTrust f).mb x = s.mb x := rfl
@[simp] theorem State.updTrust_ses (j : Nat) : (s.updTrust f).ses j = s.ses j := rfl
end

section
variable (s : State) (l : List DriverOff)
@[simp] theorem State.setOff_variant : (s.setOff l).variant = s.variant := rfl
@[simp] theorem State.setOff_regs : (s.setOff l).regs = s.regs := rfl
@[simp] theorem State.setOff_mem : (s.setOff l).mem = s.mem := rfl
@[simp] theorem State.setOff_now : (s.setOff l).now = s.now := rfl
@[simp] theorem State.setOff_fresh : (s.setOff l).fresh = s.fresh := rfl
@[simp] theorem State.setOff_xport : (s.setOff l).xport = s.xport := rfl
@[simp] theorem State.setOff_gens : (s.setOff l).gens = s.gens := rfl
@[simp] theorem State.setOff_plates : (s.setOff l).plates = s.plates := rfl
@[simp] theorem State.setOff_gravers : (s.setOff l).gravers = s.gravers := rfl
@[simp] theorem State.setOff_scens : (s.setOff l).scens = s.scens := rfl
@[simp] theorem State.setOff_scheds : (s.setOff l).scheds = s.scheds := rfl
@[simp] theorem State.setOff_unit : (s.setOff l).unit = s.unit := rfl
@[simp] theorem State.setOff_lanes : (s.setOff l).lanes = { s.lanes with off := l } := rfl
@[simp] theorem State.setOff_proofs : (s.setOff l).proofs = s.proofs := rfl
@[simp] theorem State.setOff_tracers : (s.setOff l).tracers = s.tracers := rfl
@[simp] theorem State.setOff_xh : (s.setOff l).xh = s.xh := rfl
@[simp] theorem State.setOff_clk : (s.setOff l).clk = s.clk := rfl
@[simp] theorem State.setOff_cal : (s.setOff l).cal = s.cal := rfl
@[simp] theorem State.setOff_dram : (s.setOff l).dram = s.dram := rfl
@[simp] theorem State.setOff_dma : (s.setOff l).dma = s.dma := rfl
@[simp] theorem State.setOff_trust : (s.setOff l).trust = s.trust := rfl
@[simp] theorem State.setOff_badWords : (s.setOff l).badWords = s.badWords := rfl
@[simp] theorem State.setOff_frames : (s.setOff l).frames = s.frames := rfl
@[simp] theorem State.setOff_power : (s.setOff l).power = s.power := rfl
@[simp] theorem State.setOff_pending : (s.setOff l).pending = s.pending := rfl
@[simp] theorem State.setOff_rd (j : Nat) : (s.setOff l).rd j = s.rd j := rfl
@[simp] theorem State.setOff_mb (x : Nat) : (s.setOff l).mb x = s.mb x := rfl
@[simp] theorem State.setOff_ses (j : Nat) : (s.setOff l).ses j = s.ses j := rfl
end

end Sys2Proof.Machine
end

