-- ==== Sys2Proof/Laws/Store.lean ====
section
/-! SUPPORT. Sys2Proof/Laws/Store.lean: a read after a write, and that every operation keeps the canonical form. -/
namespace Sys2Proof.Machine

variable {α : Type}

theorem stGet_stIns_self (d : Nat → α) (l : List (Nat × α)) (k : Nat) (v : α) : stGet d (stIns l k v) k = v := by
  induction l with
  | nil => simp [stIns, stGet]
  | cons e t ih =>
    obtain ⟨a, x⟩ := e
    simp only [stIns]
    split
    · simp [stGet]
    · split
      · simp [stGet]
      · have : ¬ a = k := by omega
        simp [stGet, this, ih]

theorem stGet_stIns_ne (d : Nat → α) (l : List (Nat × α)) (k j : Nat) (v : α) (h : j ≠ k) :
    stGet d (stIns l k v) j = stGet d l j := by
  have h' : ¬ k = j := fun e => h e.symm
  induction l with
  | nil => simp [stIns, stGet, h']
  | cons e t ih =>
    obtain ⟨a, x⟩ := e
    simp only [stIns]
    split
    · simp [stGet, h']
    · split
      · rename_i e; subst e; simp [stGet, h']
      · simp [stGet, ih]

@[simp] theorem stGet_stDrop (d : Nat → α) (p : Nat → Bool) (l : List (Nat × α)) (k : Nat) :
    stGet d (stDrop p l) k = if p k then d k else stGet d l k := by
  unfold stDrop
  induction l with
  | nil => simp [stGet]
  | cons e t ih =>
    obtain ⟨a, x⟩ := e
    by_cases hp : p a
    · have := ih
      by_cases ha : a = k
      · subst ha; simp [List.filter, hp] at *; simpa using this
      · simp [List.filter, hp, stGet, ha] at *; simpa using this
    · by_cases ha : a = k
      · subst ha; simp [List.filter, hp, stGet]
      · simp only [List.filter, hp, Bool.not_false, stGet, ha, if_false]
        exact ih

section Eq
variable [DecidableEq α]

/-- A read after a write: the value written at the key written, what was there at every other. -/
theorem stGet_stSet (d : Nat → α) (l : List (Nat × α)) (k j : Nat) (v : α) :
    stGet d (stSet d l k v) j = if j = k then v else stGet d l j := by
  unfold stSet
  by_cases hv : v = d k
  · by_cases hj : j = k
    · subst hj; simp [hv]
    · simp [hv, hj]
  · by_cases hj : j = k
    · subst hj; simp [hv, stGet_stIns_self]
    · simp [hv, hj, stGet_stIns_ne]

@[simp] theorem stGet_stSet_self (d : Nat → α) (l : List (Nat × α)) (k : Nat) (v : α) : stGet d (stSet d l k v) k = v := by
  simp [stGet_stSet]

theorem stGet_stSet_ne (d : Nat → α) (l : List (Nat × α)) (k j : Nat) (v : α) (h : j ≠ k) :
    stGet d (stSet d l k v) j = stGet d l j := by
  simp [stGet_stSet, h]
end Eq

/-! ### The canonical form -/

/-- Every key of the list lies above `k`. -/
def stAbove (k : Nat) (l : List (Nat × α)) : Prop := ∀ e ∈ l, k < e.1

theorem stSorted_cons (a : Nat) (v : α) (t : List (Nat × α)) :
    stSorted ((a, v) :: t) = true ↔ stAbove a t ∧ stSorted t = true := by
  induction t generalizing a v with
  | nil => simp [stSorted, stAbove]
  | cons e t ih =>
    obtain ⟨b, w⟩ := e
    have key : stSorted ((a, v) :: (b, w) :: t) = (decide (a < b) && stSorted ((b, w) :: t)) := rfl
    rw [key]
    constructor
    · intro h
      simp only [Bool.and_eq_true, decide_eq_true_eq] at h
      refine ⟨?_, h.2⟩
      intro e he
      rcases List.mem_cons.mp he with rfl | he
      · exact h.1
      · exact Nat.lt_trans h.1 (((ih b w).mp h.2).1 e he)
    · intro h
      simp only [Bool.and_eq_true, decide_eq_true_eq]
      exact ⟨h.1 (b, w) (by simp), h.2⟩

theorem stAbove_stIns {l : List (Nat × α)} {a k : Nat} {v : α} (h : stAbove a l) (hk : a < k) : stAbove a (stIns l k v) := by
  induction l with
  | nil => intro e he; simp [stIns] at he; subst he; exact hk
  | cons e t ih =>
    obtain ⟨b, w⟩ := e
    have ht : stAbove a t := fun e he => h e (by simp [he])
    have hb : a < b := h (b, w) (by simp)
    intro e he
    simp only [stIns] at he
    split at he
    · rcases List.mem_cons.mp he with rfl | he
      · exact hk
      · exact h e he
    · split at he
      · rcases List.mem_cons.mp he with rfl | he
        · exact hk
        · exact ht e he
      · rcases List.mem_cons.mp he with rfl | he
        · exact hb
        · exact ih ht e he

theorem stSorted_stIns {l : List (Nat × α)} {k : Nat} {v : α} (h : stSorted l = true) : stSorted (stIns l k v) = true := by
  induction l with
  | nil => simp [stIns, stSorted]
  | cons e t ih =>
    obtain ⟨b, w⟩ := e
    obtain ⟨hb, ht⟩ := (stSorted_cons b w t).mp h
    simp only [stIns]
    split
    · rename_i hk
      refine (stSorted_cons ..).mpr ⟨?_, h⟩
      intro e he
      rcases List.mem_cons.mp he with rfl | he
      · exact hk
      · exact Nat.lt_trans hk (hb e he)
    · split
      · rename_i _ hk; subst hk; exact (stSorted_cons ..).mpr ⟨hb, ht⟩
      · exact (stSorted_cons ..).mpr ⟨stAbove_stIns hb (by omega), ih ht⟩

theorem stSorted_stDrop {l : List (Nat × α)} (p : Nat → Bool) (h : stSorted l = true) : stSorted (stDrop p l) = true := by
  unfold stDrop
  induction l with
  | nil => simp [stSorted]
  | cons e t ih =>
    obtain ⟨b, w⟩ := e
    obtain ⟨hb, ht⟩ := (stSorted_cons b w t).mp h
    by_cases hp : p b
    · simpa [List.filter, hp] using ih ht
    · simp only [List.filter, hp, Bool.not_false]
      exact (stSorted_cons ..).mpr ⟨fun e he => hb e ((List.mem_filter.mp he).1), ih ht⟩

theorem mem_stIns {l : List (Nat × α)} {k : Nat} {v : α} {e : Nat × α} (h : e ∈ stIns l k v) : e = (k, v) ∨ e ∈ l := by
  induction l with
  | nil => simpa [stIns] using h
  | cons x t ih =>
    obtain ⟨b, w⟩ := x
    simp only [stIns] at h
    split at h
    · simpa using h
    · split at h
      · rcases List.mem_cons.mp h with h | h
        · exact .inl h
        · exact .inr (by simp [h])
      · rcases List.mem_cons.mp h with h | h
        · exact .inr (by simp [h])
        · rcases ih h with h | h
          · exact .inl h
          · exact .inr (by simp [h])

theorem stGet_above {d : Nat → α} {l : List (Nat × α)} {k : Nat} (h : stAbove k l) : stGet d l k = d k := by
  induction l with
  | nil => rfl
  | cons e t ih =>
    obtain ⟨b, w⟩ := e
    have hb : k < b := h (b, w) (by simp)
    have : ¬ b = k := by omega
    simp only [stGet, this, if_false]
    exact ih (fun e he => h e (by simp [he]))

section Wf
variable [DecidableEq α]

theorem stWf_iff (d : Nat → α) (l : List (Nat × α)) :
    stWf d l = true ↔ stSorted l = true ∧ ∀ e ∈ l, e.2 ≠ d e.1 := by
  simp [stWf]

theorem stWf_nil (d : Nat → α) : stWf d ([] : List (Nat × α)) = true := by simp [stWf, stSorted]

/-- A write keeps the canonical form. -/
theorem stSet_wf {d : Nat → α} {l : List (Nat × α)} (k : Nat) (v : α) (h : stWf d l = true) : stWf d (stSet d l k v) = true := by
  obtain ⟨hs, hd⟩ := (stWf_iff d l).mp h
  unfold stSet
  split
  · exact (stWf_iff ..).mpr ⟨stSorted_stDrop _ hs, fun e he => hd e ((List.mem_filter.mp he).1)⟩
  · rename_i hv
    refine (stWf_iff ..).mpr ⟨stSorted_stIns hs, fun e he => ?_⟩
    rcases mem_stIns he with rfl | he
    · exact hv
    · exact hd e he

/-- Taking keys back to what they read unlisted keeps the canonical form. -/
theorem stDrop_wf {d : Nat → α} {l : List (Nat × α)} (p : Nat → Bool) (h : stWf d l = true) : stWf d (stDrop p l) = true := by
  obtain ⟨hs, hd⟩ := (stWf_iff d l).mp h
  exact (stWf_iff ..).mpr ⟨stSorted_stDrop p hs, fun e he => hd e ((List.mem_filter.mp he).1)⟩

/-- Setting a list of cells one after another keeps the canonical form. -/
theorem stSets_wf {d : Nat → α} (es : List (Nat × α)) {l : List (Nat × α)} (h : stWf d l = true) :
    stWf d (es.foldl (fun m e => stSet d m e.1 e.2) l) = true := by
  induction es generalizing l with
  | nil => exact h
  | cons e t ih => exact ih (stSet_wf e.1 e.2 h)

/-- Two lists in canonical form that read alike are one list: equal contents are equal data. -/
theorem stWf_ext {d : Nat → α} {l m : List (Nat × α)} (hl : stWf d l = true) (hm : stWf d m = true)
    (h : ∀ k, stGet d l k = stGet d m k) : l = m := by
  induction l generalizing m with
  | nil =>
    cases m with
    | nil => rfl
    | cons e t =>
      obtain ⟨b, w⟩ := e
      have := h b
      simp [stGet] at this
      exact absurd this.symm (((stWf_iff ..).mp hm).2 (b, w) (by simp))
  | cons e t ih =>
    obtain ⟨a, v⟩ := e
    obtain ⟨hs, hd⟩ := (stWf_iff ..).mp hl
    obtain ⟨ha, ht⟩ := (stSorted_cons ..).mp hs
    have hv : v ≠ d a := hd (a, v) (by simp)
    cases m with
    | nil =>
      have := h a
      simp [stGet] at this
      exact absurd this hv
    | cons e' u =>
      obtain ⟨b, w⟩ := e'
      obtain ⟨hs', hd'⟩ := (stWf_iff ..).mp hm
      obtain ⟨hb, hu⟩ := (stSorted_cons ..).mp hs'
      have hw : w ≠ d b := hd' (b, w) (by simp)
      have hab : a = b := by
        rcases Nat.lt_trichotomy a b with hlt | heq | hgt
        · have hA : stAbove a ((b, w) :: u) := fun e he => by
            rcases List.mem_cons.mp he with rfl | he
            · exact hlt
            · exact Nat.lt_trans hlt (hb e he)
          have := h a
          rw [stGet_above hA] at this
          simp [stGet] at this
          exact absurd this hv
        · exact heq
        · have hA : stAbove b ((a, v) :: t) := fun e he => by
            rcases List.mem_cons.mp he with rfl | he
            · exact hgt
            · exact Nat.lt_trans hgt (ha e he)
          have := h b
          rw [stGet_above hA] at this
          simp [stGet] at this
          exact absurd this.symm hw
      subst hab
      have hvw : v = w := by simpa [stGet] using h a
      subst hvw
      have : t = u := by
        refine ih ((stWf_iff ..).mpr ⟨ht, fun e he => hd e (by simp [he])⟩)
          ((stWf_iff ..).mpr ⟨hu, fun e he => hd' e (by simp [he])⟩) (fun k => ?_)
        by_cases hk : a = k
        · subst hk; rw [stGet_above ha, stGet_above hb]
        · simpa [stGet, hk] using h k
      rw [this]
end Wf

end Sys2Proof.Machine
end

