-- ==== Sys2Proof/Laws/Flags.lean ====
section
/-! SUPPORT. Sys2Proof/Laws/Flags.lean: a field read after a field written, and registers that one write leaves alone. -/
namespace Sys2Proof.Machine
open Sys2Proof

/-! ### Fields of one word -/

theorem getLsbD_maskF (f : Field) (j : Nat) :
    (maskF f).getLsbD j = (decide (j < 32) && decide (f.lo ≤ j) && decide (j - f.lo < f.hi + 1 - f.lo)) := by
  simp only [maskF, BitVec.getLsbD_ofNat, Nat.mul_comm _ (2 ^ f.lo), Nat.testBit_two_pow_mul, Nat.testBit_two_pow_sub_one]
  by_cases h : f.lo ≤ j <;> simp [h]

/-- The bits of a word with field `f` set. -/
theorem getLsbD_setF (w : Word) (f : Field) (v j : Nat) :
    (setF w f v).getLsbD j =
      if f.lo ≤ j ∧ j - f.lo < f.hi + 1 - f.lo then (decide (j < 32) && v.testBit (j - f.lo)) else w.getLsbD j := by
  simp only [setF, BitVec.getLsbD_or, BitVec.getLsbD_and, BitVec.getLsbD_not, getLsbD_maskF, BitVec.getLsbD_ofNat,
    Nat.mul_comm _ (2 ^ f.lo), Nat.testBit_two_pow_mul, Nat.testBit_mod_two_pow]
  by_cases h1 : f.lo ≤ j <;> by_cases h2 : j - f.lo < f.hi + 1 - f.lo <;> by_cases h3 : j < 32 <;>
    simp [h1, h2, h3]
  all_goals exact BitVec.getLsbD_of_ge w j (by omega)

theorem testBit_getF (w : Word) (f : Field) (i : Nat) :
    (getF w f).testBit i = (decide (i < f.hi + 1 - f.lo) && w.getLsbD (f.lo + i)) := by
  simp [getF, Nat.testBit_mod_two_pow, Nat.testBit_div_two_pow, BitVec.getLsbD, Nat.add_comm]

/-- A field reads what was written to it, as far as its width reaches. -/
theorem getF_setF_self (w : Word) (f : Field) (v : Nat) (h : f.hi < 32) :
    getF (setF w f v) f = v % 2 ^ (f.hi + 1 - f.lo) := by
  apply Nat.eq_of_testBit_eq
  intro i
  rw [testBit_getF, getLsbD_setF, Nat.testBit_mod_two_pow]
  by_cases hi : i < f.hi + 1 - f.lo
  · have h1 : f.lo + i < 32 := by omega
    simp [hi, h1]
  · simp [hi]

/-- A field does not change when one that shares no bit with it is written. -/
theorem getF_setF_other (w : Word) (f g : Field) (v : Nat) (h : g.hi < f.lo ∨ f.hi < g.lo) :
    getF (setF w f v) g = getF w g := by
  apply Nat.eq_of_testBit_eq
  intro i
  rw [testBit_getF, testBit_getF, getLsbD_setF]
  by_cases hi : i < g.hi + 1 - g.lo
  · have : ¬ (f.lo ≤ g.lo + i ∧ g.lo + i - f.lo < f.hi + 1 - f.lo) := by omega
    simp [hi, this]
  · simp [hi]

theorem getF_lt (w : Word) (f : Field) : getF w f < 2 ^ (f.hi + 1 - f.lo) := Nat.mod_lt _ (Nat.two_pow_pos _)

/-! ### Registers -/

/-- A register read after a register written. -/
theorem State.rd_wr (s : State) (k j : Nat) (w : Word) : (s.wr k w).rd j = if j = k then w else s.rd j := by
  simp only [State.rd, State.wr_regs, State.wr_variant, stGet_stSet]

@[simp] theorem State.rd_wr_self (s : State) (k : Nat) (w : Word) : (s.wr k w).rd k = w := by simp [State.rd_wr]

theorem State.rd_wr_ne (s : State) (k j : Nat) (w : Word) (h : j ≠ k) : (s.wr k w).rd j = s.rd j := by
  simp [State.rd_wr, h]

@[simp] theorem State.rd_dropRegs (s : State) (p : Nat → Bool) (j : Nat) :
    (s.dropRegs p).rd j = if p j then regReset s.variant j else s.rd j := by
  simp only [State.rd, State.dropRegs_regs, State.dropRegs_variant, stGet_stDrop]

/-- Two writes of one register: the second stands. -/
theorem State.rd_fs (s : State) (b : Nat) (f : Field) (v i j : Nat) :
    (s.fs b f v i).rd j = if j = b + f.off + f.stride * i then setF (s.rd j) f v else s.rd j := by
  unfold State.fs
  rw [State.rd_wr]
  split
  · rename_i h; rw [h]
  · rfl

theorem State.rd_fs_ne (s : State) (b : Nat) (f : Field) (v i j : Nat) (h : j ≠ b + f.off + f.stride * i) :
    (s.fs b f v i).rd j = s.rd j := by
  simp [State.rd_fs, h]

/-- A field of a register reads what was written to it. -/
theorem State.fg_fs_self (s : State) (b : Nat) (f : Field) (v i : Nat) (h : f.hi < 32) :
    (s.fs b f v i).fg b f i = v % 2 ^ (f.hi + 1 - f.lo) := by
  simp [State.fg, State.rd_fs, getF_setF_self _ _ _ h]

/-- A field of another register does not change. -/
theorem State.fg_fs_ne (s : State) (b c : Nat) (f g : Field) (v i j : Nat)
    (h : c + g.off + g.stride * j ≠ b + f.off + f.stride * i) : (s.fs b f v i).fg c g j = s.fg c g j := by
  simp [State.fg, State.rd_fs, h]

/-- Another field of the same register does not change. -/
theorem State.fg_fs_other (s : State) (b c : Nat) (f g : Field) (v i j : Nat) (h : g.hi < f.lo ∨ f.hi < g.lo) :
    (s.fs b f v i).fg c g j = s.fg c g j := by
  simp only [State.fg, State.rd_fs]
  split
  · exact getF_setF_other _ _ _ _ h
  · rfl

/-- A counter counts, and stays at its greatest value. -/
theorem State.fg_count (s : State) (b : Nat) (f : Field) (i : Nat) (h : f.hi < 32) :
    (s.count b f i).fg b f i =
      if s.fg b f i + 1 < 2 ^ (f.hi + 1 - f.lo) - 1 then s.fg b f i + 1 else 2 ^ (f.hi + 1 - f.lo) - 1 := by
  unfold State.count State.countBy
  rw [State.fg_fs_self _ _ _ _ _ h, Nat.mod_eq_of_lt]
  · rfl
  · have : 0 < 2 ^ (f.hi + 1 - f.lo) := Nat.two_pow_pos _
    unfold satAdd
    split <;> omega

theorem State.rd_count_ne (s : State) (b : Nat) (f : Field) (i j : Nat) (h : j ≠ b + f.off + f.stride * i) :
    (s.count b f i).rd j = s.rd j := State.rd_fs_ne _ _ _ _ _ _ h

/-! ### Memory bytes -/

/-- A byte read after a byte written. -/
theorem State.mb_setMb (s : State) (a x : Nat) (b : Byte) : (s.setMb a b).mb x = if x = a then b else s.mb x := by
  simp only [State.mb, State.setMb_mem, stGet_stSet]

/-- Bytes taken back to what they read unwritten. -/
theorem State.mb_zero (s : State) (a n x : Nat) :
    (s.zero a n).mb x = if a ≤ x ∧ x < a + n then memDefault x else s.mb x := by
  simp [State.mb, State.zero_mem]

/-- A store reaches its own bytes alone. -/
theorem State.mb_st_ne (s : State) (a v n x : Nat) (h : x < a ∨ a + n ≤ x) : (s.st a v n).mb x = s.mb x := by
  induction n generalizing s a v with
  | zero => rfl
  | succ n ih =>
    simp only [State.st]
    rw [ih _ _ _ (by omega), State.mb_setMb]
    have : ¬ x = a := by omega
    simp [this]

/-- A load after a store at the same place reads what was stored, as far as its width reaches. -/
theorem State.ld_st_self (s : State) (a v n : Nat) : (s.st a v n).ld a n = v % 256 ^ n := by
  induction n generalizing s a v with
  | zero => simp [State.ld, Nat.mod_one]
  | succ n ih =>
    simp only [State.st, State.ld]
    rw [ih, State.mb_st_ne _ _ _ _ _ (by omega), State.mb_setMb]
    have h256 : v % 256 + 256 * (v / 256 % 256 ^ n) = v % (256 * 256 ^ n) := (Nat.mod_mul ..).symm
    simpa [Nat.pow_succ, Nat.mul_comm (256 ^ n) 256] using h256

/-- A load reads its own bytes alone. -/
theorem State.ld_congr (s t : State) (a n : Nat) (h : ∀ x, a ≤ x → x < a + n → t.mb x = s.mb x) : t.ld a n = s.ld a n := by
  induction n generalizing a with
  | zero => rfl
  | succ n ih =>
    simp only [State.ld]
    rw [h a (by omega) (by omega), ih (a + 1) (fun x h1 h2 => h x (by omega) (by omega))]

/-- A load elsewhere than a store reads what it read before. -/
theorem State.ld_st_ne (s : State) (a v n b m : Nat) (h : b + m ≤ a ∨ a + n ≤ b) : (s.st a v n).ld b m = s.ld b m :=
  State.ld_congr _ _ _ _ (fun x h1 h2 => State.mb_st_ne _ _ _ _ _ (by omega))

@[simp] theorem State.st_regs (s : State) (a v n : Nat) : (s.st a v n).regs = s.regs := by
  induction n generalizing s a v with
  | zero => rfl
  | succ n ih => simp [State.st, ih]

@[simp] theorem State.st_variant (s : State) (a v n : Nat) : (s.st a v n).variant = s.variant := by
  induction n generalizing s a v with
  | zero => rfl
  | succ n ih => simp [State.st, ih]

@[simp] theorem State.st_xport (s : State) (a v n : Nat) : (s.st a v n).xport = s.xport := by
  induction n generalizing s a v with
  | zero => rfl
  | succ n ih => simp [State.st, ih]

@[simp] theorem State.st_rd (s : State) (a v n j : Nat) : (s.st a v n).rd j = s.rd j := by simp [State.rd]

end Sys2Proof.Machine
end

