-- ==== Sys2Proof/Laws/Ops.lean ====
section
/-! SUPPORT. Sys2Proof/Laws/Ops.lean: what the shared operations leave alone: counting, notices, sending and reporting touch the
register file and the transport engine, and nothing else. -/
namespace Sys2Proof.Machine
open Sys2Proof

/-! `fs`: a field set. -/
section
variable (s : State) (b : Nat) (f : Field) (v i : Nat)
@[simp] theorem State.fs_variant : (s.fs b f v i).variant = s.variant := by unfold State.fs; rw [State.wr_variant]
@[simp] theorem State.fs_mem : (s.fs b f v i).mem = s.mem := by unfold State.fs; rw [State.wr_mem]
@[simp] theorem State.fs_now : (s.fs b f v i).now = s.now := by unfold State.fs; rw [State.wr_now]
@[simp] theorem State.fs_fresh : (s.fs b f v i).fresh = s.fresh := by unfold State.fs; rw [State.wr_fresh]
@[simp] theorem State.fs_xport : (s.fs b f v i).xport = s.xport := by unfold State.fs; rw [State.wr_xport]
@[simp] theorem State.fs_gens : (s.fs b f v i).gens = s.gens := by unfold State.fs; rw [State.wr_gens]
@[simp] theorem State.fs_plates : (s.fs b f v i).plates = s.plates := by unfold State.fs; rw [State.wr_plates]
@[simp] theorem State.fs_gravers : (s.fs b f v i).gravers = s.gravers := by unfold State.fs; rw [State.wr_gravers]
@[simp] theorem State.fs_scens : (s.fs b f v i).scens = s.scens := by unfold State.fs; rw [State.wr_scens]
@[simp] theorem State.fs_scheds : (s.fs b f v i).scheds = s.scheds := by unfold State.fs; rw [State.wr_scheds]
@[simp] theorem State.fs_unit : (s.fs b f v i).unit = s.unit := by unfold State.fs; rw [State.wr_unit]
@[simp] theorem State.fs_lanes : (s.fs b f v i).lanes = s.lanes := by unfold State.fs; rw [State.wr_lanes]
@[simp] theorem State.fs_proofs : (s.fs b f v i).proofs = s.proofs := by unfold State.fs; rw [State.wr_proofs]
@[simp] theorem State.fs_tracers : (s.fs b f v i).tracers = s.tracers := by unfold State.fs; rw [State.wr_tracers]
@[simp] theorem State.fs_xh : (s.fs b f v i).xh = s.xh := by unfold State.fs; rw [State.wr_xh]
@[simp] theorem State.fs_clk : (s.fs b f v i).clk = s.clk := by unfold State.fs; rw [State.wr_clk]
@[simp] theorem State.fs_cal : (s.fs b f v i).cal = s.cal := by unfold State.fs; rw [State.wr_cal]
@[simp] theorem State.fs_dram : (s.fs b f v i).dram = s.dram := by unfold State.fs; rw [State.wr_dram]
@[simp] theorem State.fs_dma : (s.fs b f v i).dma = s.dma := by unfold State.fs; rw [State.wr_dma]
@[simp] theorem State.fs_trust : (s.fs b f v i).trust = s.trust := by unfold State.fs; rw [State.wr_trust]
@[simp] theorem State.fs_badWords : (s.fs b f v i).badWords = s.badWords := by unfold State.fs; rw [State.wr_badWords]
@[simp] theorem State.fs_frames : (s.fs b f v i).frames = s.frames := by unfold State.fs; rw [State.wr_frames]
@[simp] theorem State.fs_power : (s.fs b f v i).power = s.power := by unfold State.fs; rw [State.wr_power]
@[simp] theorem State.fs_pending : (s.fs b f v i).pending = s.pending := by unfold State.fs; rw [State.wr_pending]
@[simp] theorem State.fs_mb (x : Nat) : (s.fs b f v i).mb x = s.mb x := by unfold State.mb; rw [State.fs_mem]
@[simp] theorem State.fs_ses (j : Nat) : (s.fs b f v i).ses j = s.ses j := by unfold State.ses; rw [State.fs_xport]
end

/-! `countBy`: a counter raised. -/
section
variable (s : State) (b : Nat) (f : Field) (n i : Nat)
@[simp] theorem State.countBy_variant : (s.countBy b f n i).variant = s.variant := by unfold State.countBy; rw [State.fs_variant]
@[simp] theorem State.countBy_mem : (s.countBy b f n i).mem = s.mem := by unfold State.countBy; rw [State.fs_mem]
@[simp] theorem State.countBy_now : (s.countBy b f n i).now = s.now := by unfold State.countBy; rw [State.fs_now]
@[simp] theorem State.countBy_fresh : (s.countBy b f n i).fresh = s.fresh := by unfold State.countBy; rw [State.fs_fresh]
@[simp] theorem State.countBy_xport : (s.countBy b f n i).xport = s.xport := by unfold State.countBy; rw [State.fs_xport]
@[simp] theorem State.countBy_gens : (s.countBy b f n i).gens = s.gens := by unfold State.countBy; rw [State.fs_gens]
@[simp] theorem State.countBy_plates : (s.countBy b f n i).plates = s.plates := by unfold State.countBy; rw [State.fs_plates]
@[simp] theorem State.countBy_gravers : (s.countBy b f n i).gravers = s.gravers := by unfold State.countBy; rw [State.fs_gravers]
@[simp] theorem State.countBy_scens : (s.countBy b f n i).scens = s.scens := by unfold State.countBy; rw [State.fs_scens]
@[simp] theorem State.countBy_scheds : (s.countBy b f n i).scheds = s.scheds := by unfold State.countBy; rw [State.fs_scheds]
@[simp] theorem State.countBy_unit : (s.countBy b f n i).unit = s.unit := by unfold State.countBy; rw [State.fs_unit]
@[simp] theorem State.countBy_lanes : (s.countBy b f n i).lanes = s.lanes := by unfold State.countBy; rw [State.fs_lanes]
@[simp] theorem State.countBy_proofs : (s.countBy b f n i).proofs = s.proofs := by unfold State.countBy; rw [State.fs_proofs]
@[simp] theorem State.countBy_tracers : (s.countBy b f n i).tracers = s.tracers := by unfold State.countBy; rw [State.fs_tracers]
@[simp] theorem State.countBy_xh : (s.countBy b f n i).xh = s.xh := by unfold State.countBy; rw [State.fs_xh]
@[simp] theorem State.countBy_clk : (s.countBy b f n i).clk = s.clk := by unfold State.countBy; rw [State.fs_clk]
@[simp] theorem State.countBy_cal : (s.countBy b f n i).cal = s.cal := by unfold State.countBy; rw [State.fs_cal]
@[simp] theorem State.countBy_dram : (s.countBy b f n i).dram = s.dram := by unfold State.countBy; rw [State.fs_dram]
@[simp] theorem State.countBy_dma : (s.countBy b f n i).dma = s.dma := by unfold State.countBy; rw [State.fs_dma]
@[simp] theorem State.countBy_trust : (s.countBy b f n i).trust = s.trust := by unfold State.countBy; rw [State.fs_trust]
@[simp] theorem State.countBy_badWords : (s.countBy b f n i).badWords = s.badWords := by unfold State.countBy; rw [State.fs_badWords]
@[simp] theorem State.countBy_frames : (s.countBy b f n i).frames = s.frames := by unfold State.countBy; rw [State.fs_frames]
@[simp] theorem State.countBy_power : (s.countBy b f n i).power = s.power := by unfold State.countBy; rw [State.fs_power]
@[simp] theorem State.countBy_pending : (s.countBy b f n i).pending = s.pending := by unfold State.countBy; rw [State.fs_pending]
@[simp] theorem State.countBy_mb (x : Nat) : (s.countBy b f n i).mb x = s.mb x := by unfold State.mb; rw [State.countBy_mem]
@[simp] theorem State.countBy_ses (j : Nat) : (s.countBy b f n i).ses j = s.ses j := by unfold State.ses; rw [State.countBy_xport]
end

/-! `count`: a counter incremented. -/
section
variable (s : State) (b : Nat) (f : Field) (i : Nat)
@[simp] theorem State.count_variant : (s.count b f i).variant = s.variant := by unfold State.count; rw [State.countBy_variant]
@[simp] theorem State.count_mem : (s.count b f i).mem = s.mem := by unfold State.count; rw [State.countBy_mem]
@[simp] theorem State.count_now : (s.count b f i).now = s.now := by unfold State.count; rw [State.countBy_now]
@[simp] theorem State.count_fresh : (s.count b f i).fresh = s.fresh := by unfold State.count; rw [State.countBy_fresh]
@[simp] theorem State.count_xport : (s.count b f i).xport = s.xport := by unfold State.count; rw [State.countBy_xport]
@[simp] theorem State.count_gens : (s.count b f i).gens = s.gens := by unfold State.count; rw [State.countBy_gens]
@[simp] theorem State.count_plates : (s.count b f i).plates = s.plates := by unfold State.count; rw [State.countBy_plates]
@[simp] theorem State.count_gravers : (s.count b f i).gravers = s.gravers := by unfold State.count; rw [State.countBy_gravers]
@[simp] theorem State.count_scens : (s.count b f i).scens = s.scens := by unfold State.count; rw [State.countBy_scens]
@[simp] theorem State.count_scheds : (s.count b f i).scheds = s.scheds := by unfold State.count; rw [State.countBy_scheds]
@[simp] theorem State.count_unit : (s.count b f i).unit = s.unit := by unfold State.count; rw [State.countBy_unit]
@[simp] theorem State.count_lanes : (s.count b f i).lanes = s.lanes := by unfold State.count; rw [State.countBy_lanes]
@[simp] theorem State.count_proofs : (s.count b f i).proofs = s.proofs := by unfold State.count; rw [State.countBy_proofs]
@[simp] theorem State.count_tracers : (s.count b f i).tracers = s.tracers := by unfold State.count; rw [State.countBy_tracers]
@[simp] theorem State.count_xh : (s.count b f i).xh = s.xh := by unfold State.count; rw [State.countBy_xh]
@[simp] theorem State.count_clk : (s.count b f i).clk = s.clk := by unfold State.count; rw [State.countBy_clk]
@[simp] theorem State.count_cal : (s.count b f i).cal = s.cal := by unfold State.count; rw [State.countBy_cal]
@[simp] theorem State.count_dram : (s.count b f i).dram = s.dram := by unfold State.count; rw [State.countBy_dram]
@[simp] theorem State.count_dma : (s.count b f i).dma = s.dma := by unfold State.count; rw [State.countBy_dma]
@[simp] theorem State.count_trust : (s.count b f i).trust = s.trust := by unfold State.count; rw [State.countBy_trust]
@[simp] theorem State.count_badWords : (s.count b f i).badWords = s.badWords := by unfold State.count; rw [State.countBy_badWords]
@[simp] theorem State.count_frames : (s.count b f i).frames = s.frames := by unfold State.count; rw [State.countBy_frames]
@[simp] theorem State.count_power : (s.count b f i).power = s.power := by unfold State.count; rw [State.countBy_power]
@[simp] theorem State.count_pending : (s.count b f i).pending = s.pending := by unfold State.count; rw [State.countBy_pending]
@[simp] theorem State.count_mb (x : Nat) : (s.count b f i).mb x = s.mb x := by unfold State.mb; rw [State.count_mem]
@[simp] theorem State.count_ses (j : Nat) : (s.count b f i).ses j = s.ses j := by unfold State.ses; rw [State.count_xport]
end

/-! `wr64`: a pair set. -/
section
variable (s : State) (key v : Nat)
@[simp] theorem State.wr64_variant : (s.wr64 key v).variant = s.variant := by unfold State.wr64; rw [State.wr_variant, State.wr_variant]
@[simp] theorem State.wr64_mem : (s.wr64 key v).mem = s.mem := by unfold State.wr64; rw [State.wr_mem, State.wr_mem]
@[simp] theorem State.wr64_now : (s.wr64 key v).now = s.now := by unfold State.wr64; rw [State.wr_now, State.wr_now]
@[simp] theorem State.wr64_fresh : (s.wr64 key v).fresh = s.fresh := by unfold State.wr64; rw [State.wr_fresh, State.wr_fresh]
@[simp] theorem State.wr64_xport : (s.wr64 key v).xport = s.xport := by unfold State.wr64; rw [State.wr_xport, State.wr_xport]
@[simp] theorem State.wr64_gens : (s.wr64 key v).gens = s.gens := by unfold State.wr64; rw [State.wr_gens, State.wr_gens]
@[simp] theorem State.wr64_plates : (s.wr64 key v).plates = s.plates := by unfold State.wr64; rw [State.wr_plates, State.wr_plates]
@[simp] theorem State.wr64_gravers : (s.wr64 key v).gravers = s.gravers := by unfold State.wr64; rw [State.wr_gravers, State.wr_gravers]
@[simp] theorem State.wr64_scens : (s.wr64 key v).scens = s.scens := by unfold State.wr64; rw [State.wr_scens, State.wr_scens]
@[simp] theorem State.wr64_scheds : (s.wr64 key v).scheds = s.scheds := by unfold State.wr64; rw [State.wr_scheds, State.wr_scheds]
@[simp] theorem State.wr64_unit : (s.wr64 key v).unit = s.unit := by unfold State.wr64; rw [State.wr_unit, State.wr_unit]
@[simp] theorem State.wr64_lanes : (s.wr64 key v).lanes = s.lanes := by unfold State.wr64; rw [State.wr_lanes, State.wr_lanes]
@[simp] theorem State.wr64_proofs : (s.wr64 key v).proofs = s.proofs := by unfold State.wr64; rw [State.wr_proofs, State.wr_proofs]
@[simp] theorem State.wr64_tracers : (s.wr64 key v).tracers = s.tracers := by unfold State.wr64; rw [State.wr_tracers, State.wr_tracers]
@[simp] theorem State.wr64_xh : (s.wr64 key v).xh = s.xh := by unfold State.wr64; rw [State.wr_xh, State.wr_xh]
@[simp] theorem State.wr64_clk : (s.wr64 key v).clk = s.clk := by unfold State.wr64; rw [State.wr_clk, State.wr_clk]
@[simp] theorem State.wr64_cal : (s.wr64 key v).cal = s.cal := by unfold State.wr64; rw [State.wr_cal, State.wr_cal]
@[simp] theorem State.wr64_dram : (s.wr64 key v).dram = s.dram := by unfold State.wr64; rw [State.wr_dram, State.wr_dram]
@[simp] theorem State.wr64_dma : (s.wr64 key v).dma = s.dma := by unfold State.wr64; rw [State.wr_dma, State.wr_dma]
@[simp] theorem State.wr64_trust : (s.wr64 key v).trust = s.trust := by unfold State.wr64; rw [State.wr_trust, State.wr_trust]
@[simp] theorem State.wr64_badWords : (s.wr64 key v).badWords = s.badWords := by unfold State.wr64; rw [State.wr_badWords, State.wr_badWords]
@[simp] theorem State.wr64_frames : (s.wr64 key v).frames = s.frames := by unfold State.wr64; rw [State.wr_frames, State.wr_frames]
@[simp] theorem State.wr64_power : (s.wr64 key v).power = s.power := by unfold State.wr64; rw [State.wr_power, State.wr_power]
@[simp] theorem State.wr64_pending : (s.wr64 key v).pending = s.pending := by unfold State.wr64; rw [State.wr_pending, State.wr_pending]
@[simp] theorem State.wr64_mb (x : Nat) : (s.wr64 key v).mb x = s.mb x := by unfold State.mb; rw [State.wr64_mem]
@[simp] theorem State.wr64_ses (j : Nat) : (s.wr64 key v).ses j = s.ses j := by unfold State.ses; rw [State.wr64_xport]
end

/-! `inc64`: a 64-bit counter incremented. -/
section
variable (s : State) (key : Nat)
@[simp] theorem State.inc64_variant : (s.inc64 key).variant = s.variant := by unfold State.inc64; rw [State.wr64_variant]
@[simp] theorem State.inc64_mem : (s.inc64 key).mem = s.mem := by unfold State.inc64; rw [State.wr64_mem]
@[simp] theorem State.inc64_now : (s.inc64 key).now = s.now := by unfold State.inc64; rw [State.wr64_now]
@[simp] theorem State.inc64_fresh : (s.inc64 key).fresh = s.fresh := by unfold State.inc64; rw [State.wr64_fresh]
@[simp] theorem State.inc64_xport : (s.inc64 key).xport = s.xport := by unfold State.inc64; rw [State.wr64_xport]
@[simp] theorem State.inc64_gens : (s.inc64 key).gens = s.gens := by unfold State.inc64; rw [State.wr64_gens]
@[simp] theorem State.inc64_plates : (s.inc64 key).plates = s.plates := by unfold State.inc64; rw [State.wr64_plates]
@[simp] theorem State.inc64_gravers : (s.inc64 key).gravers = s.gravers := by unfold State.inc64; rw [State.wr64_gravers]
@[simp] theorem State.inc64_scens : (s.inc64 key).scens = s.scens := by unfold State.inc64; rw [State.wr64_scens]
@[simp] theorem State.inc64_scheds : (s.inc64 key).scheds = s.scheds := by unfold State.inc64; rw [State.wr64_scheds]
@[simp] theorem State.inc64_unit : (s.inc64 key).unit = s.unit := by unfold State.inc64; rw [State.wr64_unit]
@[simp] theorem State.inc64_lanes : (s.inc64 key).lanes = s.lanes := by unfold State.inc64; rw [State.wr64_lanes]
@[simp] theorem State.inc64_proofs : (s.inc64 key).proofs = s.proofs := by unfold State.inc64; rw [State.wr64_proofs]
@[simp] theorem State.inc64_tracers : (s.inc64 key).tracers = s.tracers := by unfold State.inc64; rw [State.wr64_tracers]
@[simp] theorem State.inc64_xh : (s.inc64 key).xh = s.xh := by unfold State.inc64; rw [State.wr64_xh]
@[simp] theorem State.inc64_clk : (s.inc64 key).clk = s.clk := by unfold State.inc64; rw [State.wr64_clk]
@[simp] theorem State.inc64_cal : (s.inc64 key).cal = s.cal := by unfold State.inc64; rw [State.wr64_cal]
@[simp] theorem State.inc64_dram : (s.inc64 key).dram = s.dram := by unfold State.inc64; rw [State.wr64_dram]
@[simp] theorem State.inc64_dma : (s.inc64 key).dma = s.dma := by unfold State.inc64; rw [State.wr64_dma]
@[simp] theorem State.inc64_trust : (s.inc64 key).trust = s.trust := by unfold State.inc64; rw [State.wr64_trust]
@[simp] theorem State.inc64_badWords : (s.inc64 key).badWords = s.badWords := by unfold State.inc64; rw [State.wr64_badWords]
@[simp] theorem State.inc64_frames : (s.inc64 key).frames = s.frames := by unfold State.inc64; rw [State.wr64_frames]
@[simp] theorem State.inc64_power : (s.inc64 key).power = s.power := by unfold State.inc64; rw [State.wr64_power]
@[simp] theorem State.inc64_pending : (s.inc64 key).pending = s.pending := by unfold State.inc64; rw [State.wr64_pending]
@[simp] theorem State.inc64_mb (x : Nat) : (s.inc64 key).mb x = s.mb x := by unfold State.mb; rw [State.inc64_mem]
@[simp] theorem State.inc64_ses (j : Nat) : (s.inc64 key).ses j = s.ses j := by unfold State.ses; rw [State.inc64_xport]
end

/-! `setRaw`: a notice bit set. -/
section
variable (s : State) (k page code : Nat)
@[simp] theorem State.setRaw_variant : (s.setRaw k page code).variant = s.variant := by unfold State.setRaw; rw [State.fs_variant]
@[simp] theorem State.setRaw_mem : (s.setRaw k page code).mem = s.mem := by unfold State.setRaw; rw [State.fs_mem]
@[simp] theorem State.setRaw_now : (s.setRaw k page code).now = s.now := by unfold State.setRaw; rw [State.fs_now]
@[simp] theorem State.setRaw_fresh : (s.setRaw k page code).fresh = s.fresh := by unfold State.setRaw; rw [State.fs_fresh]
@[simp] theorem State.setRaw_xport : (s.setRaw k page code).xport = s.xport := by unfold State.setRaw; rw [State.fs_xport]
@[simp] theorem State.setRaw_gens : (s.setRaw k page code).gens = s.gens := by unfold State.setRaw; rw [State.fs_gens]
@[simp] theorem State.setRaw_plates : (s.setRaw k page code).plates = s.plates := by unfold State.setRaw; rw [State.fs_plates]
@[simp] theorem State.setRaw_gravers : (s.setRaw k page code).gravers = s.gravers := by unfold State.setRaw; rw [State.fs_gravers]
@[simp] theorem State.setRaw_scens : (s.setRaw k page code).scens = s.scens := by unfold State.setRaw; rw [State.fs_scens]
@[simp] theorem State.setRaw_scheds : (s.setRaw k page code).scheds = s.scheds := by unfold State.setRaw; rw [State.fs_scheds]
@[simp] theorem State.setRaw_unit : (s.setRaw k page code).unit = s.unit := by unfold State.setRaw; rw [State.fs_unit]
@[simp] theorem State.setRaw_lanes : (s.setRaw k page code).lanes = s.lanes := by unfold State.setRaw; rw [State.fs_lanes]
@[simp] theorem State.setRaw_proofs : (s.setRaw k page code).proofs = s.proofs := by unfold State.setRaw; rw [State.fs_proofs]
@[simp] theorem State.setRaw_tracers : (s.setRaw k page code).tracers = s.tracers := by unfold State.setRaw; rw [State.fs_tracers]
@[simp] theorem State.setRaw_xh : (s.setRaw k page code).xh = s.xh := by unfold State.setRaw; rw [State.fs_xh]
@[simp] theorem State.setRaw_clk : (s.setRaw k page code).clk = s.clk := by unfold State.setRaw; rw [State.fs_clk]
@[simp] theorem State.setRaw_cal : (s.setRaw k page code).cal = s.cal := by unfold State.setRaw; rw [State.fs_cal]
@[simp] theorem State.setRaw_dram : (s.setRaw k page code).dram = s.dram := by unfold State.setRaw; rw [State.fs_dram]
@[simp] theorem State.setRaw_dma : (s.setRaw k page code).dma = s.dma := by unfold State.setRaw; rw [State.fs_dma]
@[simp] theorem State.setRaw_trust : (s.setRaw k page code).trust = s.trust := by unfold State.setRaw; rw [State.fs_trust]
@[simp] theorem State.setRaw_badWords : (s.setRaw k page code).badWords = s.badWords := by unfold State.setRaw; rw [State.fs_badWords]
@[simp] theorem State.setRaw_frames : (s.setRaw k page code).frames = s.frames := by unfold State.setRaw; rw [State.fs_frames]
@[simp] theorem State.setRaw_power : (s.setRaw k page code).power = s.power := by unfold State.setRaw; rw [State.fs_power]
@[simp] theorem State.setRaw_pending : (s.setRaw k page code).pending = s.pending := by unfold State.setRaw; rw [State.fs_pending]
@[simp] theorem State.setRaw_mb (x : Nat) : (s.setRaw k page code).mb x = s.mb x := by unfold State.mb; rw [State.setRaw_mem]
@[simp] theorem State.setRaw_ses (j : Nat) : (s.setRaw k page code).ses j = s.ses j := by unfold State.ses; rw [State.setRaw_xport]
end

/-! `queueNotice`: a notice queued. -/
section
variable (s : State) (k : Nat) (n : Notice)
@[simp] theorem State.queueNotice_variant : (s.queueNotice k n).variant = s.variant := by
  unfold State.queueNotice; split
  · rw [State.fs_variant, State.updSes_variant]
  · rw [State.fs_variant]
@[simp] theorem State.queueNotice_mem : (s.queueNotice k n).mem = s.mem := by
  unfold State.queueNotice; split
  · rw [State.fs_mem, State.updSes_mem]
  · rw [State.fs_mem]
@[simp] theorem State.queueNotice_now : (s.queueNotice k n).now = s.now := by
  unfold State.queueNotice; split
  · rw [State.fs_now, State.updSes_now]
  · rw [State.fs_now]
@[simp] theorem State.queueNotice_fresh : (s.queueNotice k n).fresh = s.fresh := by
  unfold State.queueNotice; split
  · rw [State.fs_fresh, State.updSes_fresh]
  · rw [State.fs_fresh]
@[simp] theorem State.queueNotice_gens : (s.queueNotice k n).gens = s.gens := by
  unfold State.queueNotice; split
  · rw [State.fs_gens, State.updSes_gens]
  · rw [State.fs_gens]
@[simp] theorem State.queueNotice_plates : (s.queueNotice k n).plates = s.plates := by
  unfold State.queueNotice; split
  · rw [State.fs_plates, State.updSes_plates]
  · rw [State.fs_plates]
@[simp] theorem State.queueNotice_gravers : (s.queueNotice k n).gravers = s.gravers := by
  unfold State.queueNotice; split
  · rw [State.fs_gravers, State.updSes_gravers]
  · rw [State.fs_gravers]
@[simp] theorem State.queueNotice_scens : (s.queueNotice k n).scens = s.scens := by
  unfold State.queueNotice; split
  · rw [State.fs_scens, State.updSes_scens]
  · rw [State.fs_scens]
@[simp] theorem State.queueNotice_scheds : (s.queueNotice k n).scheds = s.scheds := by
  unfold State.queueNotice; split
  · rw [State.fs_scheds, State.updSes_scheds]
  · rw [State.fs_scheds]
@[simp] theorem State.queueNotice_unit : (s.queueNotice k n).unit = s.unit := by
  unfold State.queueNotice; split
  · rw [State.fs_unit, State.updSes_unit]
  · rw [State.fs_unit]
@[simp] theorem State.queueNotice_lanes : (s.queueNotice k n).lanes = s.lanes := by
  unfold State.queueNotice; split
  · rw [State.fs_lanes, State.updSes_lanes]
  · rw [State.fs_lanes]
@[simp] theorem State.queueNotice_proofs : (s.queueNotice k n).proofs = s.proofs := by
  unfold State.queueNotice; split
  · rw [State.fs_proofs, State.updSes_proofs]
  · rw [State.fs_proofs]
@[simp] theorem State.queueNotice_tracers : (s.queueNotice k n).tracers = s.tracers := by
  unfold State.queueNotice; split
  · rw [State.fs_tracers, State.updSes_tracers]
  · rw [State.fs_tracers]
@[simp] theorem State.queueNotice_xh : (s.queueNotice k n).xh = s.xh := by
  unfold State.queueNotice; split
  · rw [State.fs_xh, State.updSes_xh]
  · rw [State.fs_xh]
@[simp] theorem State.queueNotice_clk : (s.queueNotice k n).clk = s.clk := by
  unfold State.queueNotice; split
  · rw [State.fs_clk, State.updSes_clk]
  · rw [State.fs_clk]
@[simp] theorem State.queueNotice_cal : (s.queueNotice k n).cal = s.cal := by
  unfold State.queueNotice; split
  · rw [State.fs_cal, State.updSes_cal]
  · rw [State.fs_cal]
@[simp] theorem State.queueNotice_dram : (s.queueNotice k n).dram = s.dram := by
  unfold State.queueNotice; split
  · rw [State.fs_dram, State.updSes_dram]
  · rw [State.fs_dram]
@[simp] theorem State.queueNotice_dma : (s.queueNotice k n).dma = s.dma := by
  unfold State.queueNotice; split
  · rw [State.fs_dma, State.updSes_dma]
  · rw [State.fs_dma]
@[simp] theorem State.queueNotice_trust : (s.queueNotice k n).trust = s.trust := by
  unfold State.queueNotice; split
  · rw [State.fs_trust, State.updSes_trust]
  · rw [State.fs_trust]
@[simp] theorem State.queueNotice_badWords : (s.queueNotice k n).badWords = s.badWords := by
  unfold State.queueNotice; split
  · rw [State.fs_badWords, State.updSes_badWords]
  · rw [State.fs_badWords]
@[simp] theorem State.queueNotice_frames : (s.queueNotice k n).frames = s.frames := by
  unfold State.queueNotice; split
  · rw [State.fs_frames, State.updSes_frames]
  · rw [State.fs_frames]
@[simp] theorem State.queueNotice_power : (s.queueNotice k n).power = s.power := by
  unfold State.queueNotice; split
  · rw [State.fs_power, State.updSes_power]
  · rw [State.fs_power]
@[simp] theorem State.queueNotice_pending : (s.queueNotice k n).pending = s.pending := by
  unfold State.queueNotice; split
  · rw [State.fs_pending, State.updSes_pending]
  · rw [State.fs_pending]
@[simp] theorem State.queueNotice_mb (x : Nat) : (s.queueNotice k n).mb x = s.mb x := by unfold State.mb; rw [State.queueNotice_mem]
end

/-! `notifyTo`: a notice raised for one session. -/
section
variable (s : State) (k : Nat) (n : Notice)
@[simp] theorem State.notifyTo_variant : (s.notifyTo k n).variant = s.variant := by
  unfold State.notifyTo; split
  · split
    · rw [State.queueNotice_variant, State.setRaw_variant]
    · rw [State.count_variant, State.setRaw_variant]
  · rfl
  · rw [State.fs_variant, State.setRaw_variant]
@[simp] theorem State.notifyTo_mem : (s.notifyTo k n).mem = s.mem := by
  unfold State.notifyTo; split
  · split
    · rw [State.queueNotice_mem, State.setRaw_mem]
    · rw [State.count_mem, State.setRaw_mem]
  · rfl
  · rw [State.fs_mem, State.setRaw_mem]
@[simp] theorem State.notifyTo_now : (s.notifyTo k n).now = s.now := by
  unfold State.notifyTo; split
  · split
    · rw [State.queueNotice_now, State.setRaw_now]
    · rw [State.count_now, State.setRaw_now]
  · rfl
  · rw [State.fs_now, State.setRaw_now]
@[simp] theorem State.notifyTo_fresh : (s.notifyTo k n).fresh = s.fresh := by
  unfold State.notifyTo; split
  · split
    · rw [State.queueNotice_fresh, State.setRaw_fresh]
    · rw [State.count_fresh, State.setRaw_fresh]
  · rfl
  · rw [State.fs_fresh, State.setRaw_fresh]
@[simp] theorem State.notifyTo_gens : (s.notifyTo k n).gens = s.gens := by
  unfold State.notifyTo; split
  · split
    · rw [State.queueNotice_gens, State.setRaw_gens]
    · rw [State.count_gens, State.setRaw_gens]
  · rfl
  · rw [State.fs_gens, State.setRaw_gens]
@[simp] theorem State.notifyTo_plates : (s.notifyTo k n).plates = s.plates := by
  unfold State.notifyTo; split
  · split
    · rw [State.queueNotice_plates, State.setRaw_plates]
    · rw [State.count_plates, State.setRaw_plates]
  · rfl
  · rw [State.fs_plates, State.setRaw_plates]
@[simp] theorem State.notifyTo_gravers : (s.notifyTo k n).gravers = s.gravers := by
  unfold State.notifyTo; split
  · split
    · rw [State.queueNotice_gravers, State.setRaw_gravers]
    · rw [State.count_gravers, State.setRaw_gravers]
  · rfl
  · rw [State.fs_gravers, State.setRaw_gravers]
@[simp] theorem State.notifyTo_scens : (s.notifyTo k n).scens = s.scens := by
  unfold State.notifyTo; split
  · split
    · rw [State.queueNotice_scens, State.setRaw_scens]
    · rw [State.count_scens, State.setRaw_scens]
  · rfl
  · rw [State.fs_scens, State.setRaw_scens]
@[simp] theorem State.notifyTo_scheds : (s.notifyTo k n).scheds = s.scheds := by
  unfold State.notifyTo; split
  · split
    · rw [State.queueNotice_scheds, State.setRaw_scheds]
    · rw [State.count_scheds, State.setRaw_scheds]
  · rfl
  · rw [State.fs_scheds, State.setRaw_scheds]
@[simp] theorem State.notifyTo_unit : (s.notifyTo k n).unit = s.unit := by
  unfold State.notifyTo; split
  · split
    · rw [State.queueNotice_unit, State.setRaw_unit]
    · rw [State.count_unit, State.setRaw_unit]
  · rfl
  · rw [State.fs_unit, State.setRaw_unit]
@[simp] theorem State.notifyTo_lanes : (s.notifyTo k n).lanes = s.lanes := by
  unfold State.notifyTo; split
  · split
    · rw [State.queueNotice_lanes, State.setRaw_lanes]
    · rw [State.count_lanes, State.setRaw_lanes]
  · rfl
  · rw [State.fs_lanes, State.setRaw_lanes]
@[simp] theorem State.notifyTo_proofs : (s.notifyTo k n).proofs = s.proofs := by
  unfold State.notifyTo; split
  · split
    · rw [State.queueNotice_proofs, State.setRaw_proofs]
    · rw [State.count_proofs, State.setRaw_proofs]
  · rfl
  · rw [State.fs_proofs, State.setRaw_proofs]
@[simp] theorem State.notifyTo_tracers : (s.notifyTo k n).tracers = s.tracers := by
  unfold State.notifyTo; split
  · split
    · rw [State.queueNotice_tracers, State.setRaw_tracers]
    · rw [State.count_tracers, State.setRaw_tracers]
  · rfl
  · rw [State.fs_tracers, State.setRaw_tracers]
@[simp] theorem State.notifyTo_xh : (s.notifyTo k n).xh = s.xh := by
  unfold State.notifyTo; split
  · split
    · rw [State.queueNotice_xh, State.setRaw_xh]
    · rw [State.count_xh, State.setRaw_xh]
  · rfl
  · rw [State.fs_xh, State.setRaw_xh]
@[simp] theorem State.notifyTo_clk : (s.notifyTo k n).clk = s.clk := by
  unfold State.notifyTo; split
  · split
    · rw [State.queueNotice_clk, State.setRaw_clk]
    · rw [State.count_clk, State.setRaw_clk]
  · rfl
  · rw [State.fs_clk, State.setRaw_clk]
@[simp] theorem State.notifyTo_cal : (s.notifyTo k n).cal = s.cal := by
  unfold State.notifyTo; split
  · split
    · rw [State.queueNotice_cal, State.setRaw_cal]
    · rw [State.count_cal, State.setRaw_cal]
  · rfl
  · rw [State.fs_cal, State.setRaw_cal]
@[simp] theorem State.notifyTo_dram : (s.notifyTo k n).dram = s.dram := by
  unfold State.notifyTo; split
  · split
    · rw [State.queueNotice_dram, State.setRaw_dram]
    · rw [State.count_dram, State.setRaw_dram]
  · rfl
  · rw [State.fs_dram, State.setRaw_dram]
@[simp] theorem State.notifyTo_dma : (s.notifyTo k n).dma = s.dma := by
  unfold State.notifyTo; split
  · split
    · rw [State.queueNotice_dma, State.setRaw_dma]
    · rw [State.count_dma, State.setRaw_dma]
  · rfl
  · rw [State.fs_dma, State.setRaw_dma]
@[simp] theorem State.notifyTo_trust : (s.notifyTo k n).trust = s.trust := by
  unfold State.notifyTo; split
  · split
    · rw [State.queueNotice_trust, State.setRaw_trust]
    · rw [State.count_trust, State.setRaw_trust]
  · rfl
  · rw [State.fs_trust, State.setRaw_trust]
@[simp] theorem State.notifyTo_badWords : (s.notifyTo k n).badWords = s.badWords := by
  unfold State.notifyTo; split
  · split
    · rw [State.queueNotice_badWords, State.setRaw_badWords]
    · rw [State.count_badWords, State.setRaw_badWords]
  · rfl
  · rw [State.fs_badWords, State.setRaw_badWords]
@[simp] theorem State.notifyTo_frames : (s.notifyTo k n).frames = s.frames := by
  unfold State.notifyTo; split
  · split
    · rw [State.queueNotice_frames, State.setRaw_frames]
    · rw [State.count_frames, State.setRaw_frames]
  · rfl
  · rw [State.fs_frames, State.setRaw_frames]
@[simp] theorem State.notifyTo_power : (s.notifyTo k n).power = s.power := by
  unfold State.notifyTo; split
  · split
    · rw [State.queueNotice_power, State.setRaw_power]
    · rw [State.count_power, State.setRaw_power]
  · rfl
  · rw [State.fs_power, State.setRaw_power]
@[simp] theorem State.notifyTo_pending : (s.notifyTo k n).pending = s.pending := by
  unfold State.notifyTo; split
  · split
    · rw [State.queueNotice_pending, State.setRaw_pending]
    · rw [State.count_pending, State.setRaw_pending]
  · rfl
  · rw [State.fs_pending, State.setRaw_pending]
@[simp] theorem State.notifyTo_mb (x : Nat) : (s.notifyTo k n).mb x = s.mb x := by unfold State.mb; rw [State.notifyTo_mem]
end

theorem State.foldl_notifyTo {α : Type} (g : State → α) (h : ∀ s k n, g (State.notifyTo s k n) = g s) (n : Notice) (l : List Nat)
    (s : State) : g (l.foldl (fun t k => t.notifyTo k n) s) = g s := by
  induction l generalizing s with
  | nil => rfl
  | cons k l ih => rw [List.foldl_cons, ih]; exact h s k n

/-! `notifyAll`: a notice raised for every open session. -/
section
variable (s : State) (n : Notice)
@[simp] theorem State.notifyAll_variant : (s.notifyAll n).variant = s.variant := State.foldl_notifyTo (fun t => t.variant) (fun s k n => State.notifyTo_variant s k n) n _ s
@[simp] theorem State.notifyAll_mem : (s.notifyAll n).mem = s.mem := State.foldl_notifyTo (fun t => t.mem) (fun s k n => State.notifyTo_mem s k n) n _ s
@[simp] theorem State.notifyAll_now : (s.notifyAll n).now = s.now := State.foldl_notifyTo (fun t => t.now) (fun s k n => State.notifyTo_now s k n) n _ s
@[simp] theorem State.notifyAll_fresh : (s.notifyAll n).fresh = s.fresh := State.foldl_notifyTo (fun t => t.fresh) (fun s k n => State.notifyTo_fresh s k n) n _ s
@[simp] theorem State.notifyAll_gens : (s.notifyAll n).gens = s.gens := State.foldl_notifyTo (fun t => t.gens) (fun s k n => State.notifyTo_gens s k n) n _ s
@[simp] theorem State.notifyAll_plates : (s.notifyAll n).plates = s.plates := State.foldl_notifyTo (fun t => t.plates) (fun s k n => State.notifyTo_plates s k n) n _ s
@[simp] theorem State.notifyAll_gravers : (s.notifyAll n).gravers = s.gravers := State.foldl_notifyTo (fun t => t.gravers) (fun s k n => State.notifyTo_gravers s k n) n _ s
@[simp] theorem State.notifyAll_scens : (s.notifyAll n).scens = s.scens := State.foldl_notifyTo (fun t => t.scens) (fun s k n => State.notifyTo_scens s k n) n _ s
@[simp] theorem State.notifyAll_scheds : (s.notifyAll n).scheds = s.scheds := State.foldl_notifyTo (fun t => t.scheds) (fun s k n => State.notifyTo_scheds s k n) n _ s
@[simp] theorem State.notifyAll_unit : (s.notifyAll n).unit = s.unit := State.foldl_notifyTo (fun t => t.unit) (fun s k n => State.notifyTo_unit s k n) n _ s
@[simp] theorem State.notifyAll_lanes : (s.notifyAll n).lanes = s.lanes := State.foldl_notifyTo (fun t => t.lanes) (fun s k n => State.notifyTo_lanes s k n) n _ s
@[simp] theorem State.notifyAll_proofs : (s.notifyAll n).proofs = s.proofs := State.foldl_notifyTo (fun t => t.proofs) (fun s k n => State.notifyTo_proofs s k n) n _ s
@[simp] theorem State.notifyAll_tracers : (s.notifyAll n).tracers = s.tracers := State.foldl_notifyTo (fun t => t.tracers) (fun s k n => State.notifyTo_tracers s k n) n _ s
@[simp] theorem State.notifyAll_xh : (s.notifyAll n).xh = s.xh := State.foldl_notifyTo (fun t => t.xh) (fun s k n => State.notifyTo_xh s k n) n _ s
@[simp] theorem State.notifyAll_clk : (s.notifyAll n).clk = s.clk := State.foldl_notifyTo (fun t => t.clk) (fun s k n => State.notifyTo_clk s k n) n _ s
@[simp] theorem State.notifyAll_cal : (s.notifyAll n).cal = s.cal := State.foldl_notifyTo (fun t => t.cal) (fun s k n => State.notifyTo_cal s k n) n _ s
@[simp] theorem State.notifyAll_dram : (s.notifyAll n).dram = s.dram := State.foldl_notifyTo (fun t => t.dram) (fun s k n => State.notifyTo_dram s k n) n _ s
@[simp] theorem State.notifyAll_dma : (s.notifyAll n).dma = s.dma := State.foldl_notifyTo (fun t => t.dma) (fun s k n => State.notifyTo_dma s k n) n _ s
@[simp] theorem State.notifyAll_trust : (s.notifyAll n).trust = s.trust := State.foldl_notifyTo (fun t => t.trust) (fun s k n => State.notifyTo_trust s k n) n _ s
@[simp] theorem State.notifyAll_badWords : (s.notifyAll n).badWords = s.badWords := State.foldl_notifyTo (fun t => t.badWords) (fun s k n => State.notifyTo_badWords s k n) n _ s
@[simp] theorem State.notifyAll_frames : (s.notifyAll n).frames = s.frames := State.foldl_notifyTo (fun t => t.frames) (fun s k n => State.notifyTo_frames s k n) n _ s
@[simp] theorem State.notifyAll_power : (s.notifyAll n).power = s.power := State.foldl_notifyTo (fun t => t.power) (fun s k n => State.notifyTo_power s k n) n _ s
@[simp] theorem State.notifyAll_pending : (s.notifyAll n).pending = s.pending := State.foldl_notifyTo (fun t => t.pending) (fun s k n => State.notifyTo_pending s k n) n _ s
@[simp] theorem State.notifyAll_mb (x : Nat) : (s.notifyAll n).mb x = s.mb x := by unfold State.mb; rw [State.notifyAll_mem]
end

/-! `notify`: a notice raised. -/
section
variable (s : State) (n : Notice)
@[simp] theorem State.notify_variant : (s.notify n).variant = s.variant := by
  unfold State.notify; split
  · rw [State.notifyAll_variant]
  · split
    · rfl
    · rw [State.notifyTo_variant]
@[simp] theorem State.notify_mem : (s.notify n).mem = s.mem := by
  unfold State.notify; split
  · rw [State.notifyAll_mem]
  · split
    · rfl
    · rw [State.notifyTo_mem]
@[simp] theorem State.notify_now : (s.notify n).now = s.now := by
  unfold State.notify; split
  · rw [State.notifyAll_now]
  · split
    · rfl
    · rw [State.notifyTo_now]
@[simp] theorem State.notify_fresh : (s.notify n).fresh = s.fresh := by
  unfold State.notify; split
  · rw [State.notifyAll_fresh]
  · split
    · rfl
    · rw [State.notifyTo_fresh]
@[simp] theorem State.notify_gens : (s.notify n).gens = s.gens := by
  unfold State.notify; split
  · rw [State.notifyAll_gens]
  · split
    · rfl
    · rw [State.notifyTo_gens]
@[simp] theorem State.notify_plates : (s.notify n).plates = s.plates := by
  unfold State.notify; split
  · rw [State.notifyAll_plates]
  · split
    · rfl
    · rw [State.notifyTo_plates]
@[simp] theorem State.notify_gravers : (s.notify n).gravers = s.gravers := by
  unfold State.notify; split
  · rw [State.notifyAll_gravers]
  · split
    · rfl
    · rw [State.notifyTo_gravers]
@[simp] theorem State.notify_scens : (s.notify n).scens = s.scens := by
  unfold State.notify; split
  · rw [State.notifyAll_scens]
  · split
    · rfl
    · rw [State.notifyTo_scens]
@[simp] theorem State.notify_scheds : (s.notify n).scheds = s.scheds := by
  unfold State.notify; split
  · rw [State.notifyAll_scheds]
  · split
    · rfl
    · rw [State.notifyTo_scheds]
@[simp] theorem State.notify_unit : (s.notify n).unit = s.unit := by
  unfold State.notify; split
  · rw [State.notifyAll_unit]
  · split
    · rfl
    · rw [State.notifyTo_unit]
@[simp] theorem State.notify_lanes : (s.notify n).lanes = s.lanes := by
  unfold State.notify; split
  · rw [State.notifyAll_lanes]
  · split
    · rfl
    · rw [State.notifyTo_lanes]
@[simp] theorem State.notify_proofs : (s.notify n).proofs = s.proofs := by
  unfold State.notify; split
  · rw [State.notifyAll_proofs]
  · split
    · rfl
    · rw [State.notifyTo_proofs]
@[simp] theorem State.notify_tracers : (s.notify n).tracers = s.tracers := by
  unfold State.notify; split
  · rw [State.notifyAll_tracers]
  · split
    · rfl
    · rw [State.notifyTo_tracers]
@[simp] theorem State.notify_xh : (s.notify n).xh = s.xh := by
  unfold State.notify; split
  · rw [State.notifyAll_xh]
  · split
    · rfl
    · rw [State.notifyTo_xh]
@[simp] theorem State.notify_clk : (s.notify n).clk = s.clk := by
  unfold State.notify; split
  · rw [State.notifyAll_clk]
  · split
    · rfl
    · rw [State.notifyTo_clk]
@[simp] theorem State.notify_cal : (s.notify n).cal = s.cal := by
  unfold State.notify; split
  · rw [State.notifyAll_cal]
  · split
    · rfl
    · rw [State.notifyTo_cal]
@[simp] theorem State.notify_dram : (s.notify n).dram = s.dram := by
  unfold State.notify; split
  · rw [State.notifyAll_dram]
  · split
    · rfl
    · rw [State.notifyTo_dram]
@[simp] theorem State.notify_dma : (s.notify n).dma = s.dma := by
  unfold State.notify; split
  · rw [State.notifyAll_dma]
  · split
    · rfl
    · rw [State.notifyTo_dma]
@[simp] theorem State.notify_trust : (s.notify n).trust = s.trust := by
  unfold State.notify; split
  · rw [State.notifyAll_trust]
  · split
    · rfl
    · rw [State.notifyTo_trust]
@[simp] theorem State.notify_badWords : (s.notify n).badWords = s.badWords := by
  unfold State.notify; split
  · rw [State.notifyAll_badWords]
  · split
    · rfl
    · rw [State.notifyTo_badWords]
@[simp] theorem State.notify_frames : (s.notify n).frames = s.frames := by
  unfold State.notify; split
  · rw [State.notifyAll_frames]
  · split
    · rfl
    · rw [State.notifyTo_frames]
@[simp] theorem State.notify_power : (s.notify n).power = s.power := by
  unfold State.notify; split
  · rw [State.notifyAll_power]
  · split
    · rfl
    · rw [State.notifyTo_power]
@[simp] theorem State.notify_pending : (s.notify n).pending = s.pending := by
  unfold State.notify; split
  · rw [State.notifyAll_pending]
  · split
    · rfl
    · rw [State.notifyTo_pending]
@[simp] theorem State.notify_mb (x : Nat) : (s.notify n).mb x = s.mb x := by unfold State.mb; rw [State.notify_mem]
end

/-! `wire`: a frame sent. -/
section
variable (s : State) (m : Sent)
@[simp] theorem State.wire_variant : (s.wire m).variant = s.variant := by unfold State.wire; rw [State.inc64_variant]
@[simp] theorem State.wire_mem : (s.wire m).mem = s.mem := by unfold State.wire; rw [State.inc64_mem]
@[simp] theorem State.wire_now : (s.wire m).now = s.now := by unfold State.wire; rw [State.inc64_now]
@[simp] theorem State.wire_fresh : (s.wire m).fresh = s.fresh := by unfold State.wire; rw [State.inc64_fresh]
@[simp] theorem State.wire_gens : (s.wire m).gens = s.gens := by unfold State.wire; rw [State.inc64_gens]
@[simp] theorem State.wire_plates : (s.wire m).plates = s.plates := by unfold State.wire; rw [State.inc64_plates]
@[simp] theorem State.wire_gravers : (s.wire m).gravers = s.gravers := by unfold State.wire; rw [State.inc64_gravers]
@[simp] theorem State.wire_scens : (s.wire m).scens = s.scens := by unfold State.wire; rw [State.inc64_scens]
@[simp] theorem State.wire_scheds : (s.wire m).scheds = s.scheds := by unfold State.wire; rw [State.inc64_scheds]
@[simp] theorem State.wire_unit : (s.wire m).unit = s.unit := by unfold State.wire; rw [State.inc64_unit]
@[simp] theorem State.wire_lanes : (s.wire m).lanes = s.lanes := by unfold State.wire; rw [State.inc64_lanes]
@[simp] theorem State.wire_proofs : (s.wire m).proofs = s.proofs := by unfold State.wire; rw [State.inc64_proofs]
@[simp] theorem State.wire_tracers : (s.wire m).tracers = s.tracers := by unfold State.wire; rw [State.inc64_tracers]
@[simp] theorem State.wire_xh : (s.wire m).xh = s.xh := by unfold State.wire; rw [State.inc64_xh]
@[simp] theorem State.wire_clk : (s.wire m).clk = s.clk := by unfold State.wire; rw [State.inc64_clk]
@[simp] theorem State.wire_cal : (s.wire m).cal = s.cal := by unfold State.wire; rw [State.inc64_cal]
@[simp] theorem State.wire_dram : (s.wire m).dram = s.dram := by unfold State.wire; rw [State.inc64_dram]
@[simp] theorem State.wire_dma : (s.wire m).dma = s.dma := by unfold State.wire; rw [State.inc64_dma]
@[simp] theorem State.wire_trust : (s.wire m).trust = s.trust := by unfold State.wire; rw [State.inc64_trust]
@[simp] theorem State.wire_badWords : (s.wire m).badWords = s.badWords := by unfold State.wire; rw [State.inc64_badWords]
@[simp] theorem State.wire_frames : (s.wire m).frames = s.frames := by unfold State.wire; rw [State.inc64_frames]
@[simp] theorem State.wire_power : (s.wire m).power = s.power := by unfold State.wire; rw [State.inc64_power]
@[simp] theorem State.wire_pending : (s.wire m).pending = s.pending := by unfold State.wire; rw [State.inc64_pending]
@[simp] theorem State.wire_mb (x : Nat) : (s.wire m).mb x = s.mb x := by unfold State.mb; rw [State.wire_mem]
end

/-! `sendTo`: a message or frame sent. -/
section
variable (s : State) (p dest udp k seq ack credits : Nat) (retry : Bool) (m : Msg)
@[simp] theorem State.sendTo_variant : (s.sendTo p dest udp k seq ack credits retry m).variant = s.variant := by unfold State.sendTo; rw [State.wire_variant]
@[simp] theorem State.sendTo_mem : (s.sendTo p dest udp k seq ack credits retry m).mem = s.mem := by unfold State.sendTo; rw [State.wire_mem]
@[simp] theorem State.sendTo_now : (s.sendTo p dest udp k seq ack credits retry m).now = s.now := by unfold State.sendTo; rw [State.wire_now]
@[simp] theorem State.sendTo_fresh : (s.sendTo p dest udp k seq ack credits retry m).fresh = s.fresh := by unfold State.sendTo; rw [State.wire_fresh]
@[simp] theorem State.sendTo_gens : (s.sendTo p dest udp k seq ack credits retry m).gens = s.gens := by unfold State.sendTo; rw [State.wire_gens]
@[simp] theorem State.sendTo_plates : (s.sendTo p dest udp k seq ack credits retry m).plates = s.plates := by unfold State.sendTo; rw [State.wire_plates]
@[simp] theorem State.sendTo_gravers : (s.sendTo p dest udp k seq ack credits retry m).gravers = s.gravers := by unfold State.sendTo; rw [State.wire_gravers]
@[simp] theorem State.sendTo_scens : (s.sendTo p dest udp k seq ack credits retry m).scens = s.scens := by unfold State.sendTo; rw [State.wire_scens]
@[simp] theorem State.sendTo_scheds : (s.sendTo p dest udp k seq ack credits retry m).scheds = s.scheds := by unfold State.sendTo; rw [State.wire_scheds]
@[simp] theorem State.sendTo_unit : (s.sendTo p dest udp k seq ack credits retry m).unit = s.unit := by unfold State.sendTo; rw [State.wire_unit]
@[simp] theorem State.sendTo_lanes : (s.sendTo p dest udp k seq ack credits retry m).lanes = s.lanes := by unfold State.sendTo; rw [State.wire_lanes]
@[simp] theorem State.sendTo_proofs : (s.sendTo p dest udp k seq ack credits retry m).proofs = s.proofs := by unfold State.sendTo; rw [State.wire_proofs]
@[simp] theorem State.sendTo_tracers : (s.sendTo p dest udp k seq ack credits retry m).tracers = s.tracers := by unfold State.sendTo; rw [State.wire_tracers]
@[simp] theorem State.sendTo_xh : (s.sendTo p dest udp k seq ack credits retry m).xh = s.xh := by unfold State.sendTo; rw [State.wire_xh]
@[simp] theorem State.sendTo_clk : (s.sendTo p dest udp k seq ack credits retry m).clk = s.clk := by unfold State.sendTo; rw [State.wire_clk]
@[simp] theorem State.sendTo_cal : (s.sendTo p dest udp k seq ack credits retry m).cal = s.cal := by unfold State.sendTo; rw [State.wire_cal]
@[simp] theorem State.sendTo_dram : (s.sendTo p dest udp k seq ack credits retry m).dram = s.dram := by unfold State.sendTo; rw [State.wire_dram]
@[simp] theorem State.sendTo_dma : (s.sendTo p dest udp k seq ack credits retry m).dma = s.dma := by unfold State.sendTo; rw [State.wire_dma]
@[simp] theorem State.sendTo_trust : (s.sendTo p dest udp k seq ack credits retry m).trust = s.trust := by unfold State.sendTo; rw [State.wire_trust]
@[simp] theorem State.sendTo_badWords : (s.sendTo p dest udp k seq ack credits retry m).badWords = s.badWords := by unfold State.sendTo; rw [State.wire_badWords]
@[simp] theorem State.sendTo_frames : (s.sendTo p dest udp k seq ack credits retry m).frames = s.frames := by unfold State.sendTo; rw [State.wire_frames]
@[simp] theorem State.sendTo_power : (s.sendTo p dest udp k seq ack credits retry m).power = s.power := by unfold State.sendTo; rw [State.wire_power]
@[simp] theorem State.sendTo_pending : (s.sendTo p dest udp k seq ack credits retry m).pending = s.pending := by unfold State.sendTo; rw [State.wire_pending]
@[simp] theorem State.sendTo_mb (x : Nat) : (s.sendTo p dest udp k seq ack credits retry m).mb x = s.mb x := by unfold State.mb; rw [State.sendTo_mem]
end

/-! `emit`: a message sent. -/
section
variable (s : State) (port k seq : Nat) (retry : Bool) (m : Msg)
@[simp] theorem State.emit_variant : (s.emit port k seq retry m).variant = s.variant := by unfold State.emit; simp only [State.sendTo_variant]
@[simp] theorem State.emit_mem : (s.emit port k seq retry m).mem = s.mem := by unfold State.emit; simp only [State.sendTo_mem]
@[simp] theorem State.emit_now : (s.emit port k seq retry m).now = s.now := by unfold State.emit; simp only [State.sendTo_now]
@[simp] theorem State.emit_fresh : (s.emit port k seq retry m).fresh = s.fresh := by unfold State.emit; simp only [State.sendTo_fresh]
@[simp] theorem State.emit_gens : (s.emit port k seq retry m).gens = s.gens := by unfold State.emit; simp only [State.sendTo_gens]
@[simp] theorem State.emit_plates : (s.emit port k seq retry m).plates = s.plates := by unfold State.emit; simp only [State.sendTo_plates]
@[simp] theorem State.emit_gravers : (s.emit port k seq retry m).gravers = s.gravers := by unfold State.emit; simp only [State.sendTo_gravers]
@[simp] theorem State.emit_scens : (s.emit port k seq retry m).scens = s.scens := by unfold State.emit; simp only [State.sendTo_scens]
@[simp] theorem State.emit_scheds : (s.emit port k seq retry m).scheds = s.scheds := by unfold State.emit; simp only [State.sendTo_scheds]
@[simp] theorem State.emit_unit : (s.emit port k seq retry m).unit = s.unit := by unfold State.emit; simp only [State.sendTo_unit]
@[simp] theorem State.emit_lanes : (s.emit port k seq retry m).lanes = s.lanes := by unfold State.emit; simp only [State.sendTo_lanes]
@[simp] theorem State.emit_proofs : (s.emit port k seq retry m).proofs = s.proofs := by unfold State.emit; simp only [State.sendTo_proofs]
@[simp] theorem State.emit_tracers : (s.emit port k seq retry m).tracers = s.tracers := by unfold State.emit; simp only [State.sendTo_tracers]
@[simp] theorem State.emit_xh : (s.emit port k seq retry m).xh = s.xh := by unfold State.emit; simp only [State.sendTo_xh]
@[simp] theorem State.emit_clk : (s.emit port k seq retry m).clk = s.clk := by unfold State.emit; simp only [State.sendTo_clk]
@[simp] theorem State.emit_cal : (s.emit port k seq retry m).cal = s.cal := by unfold State.emit; simp only [State.sendTo_cal]
@[simp] theorem State.emit_dram : (s.emit port k seq retry m).dram = s.dram := by unfold State.emit; simp only [State.sendTo_dram]
@[simp] theorem State.emit_dma : (s.emit port k seq retry m).dma = s.dma := by unfold State.emit; simp only [State.sendTo_dma]
@[simp] theorem State.emit_trust : (s.emit port k seq retry m).trust = s.trust := by unfold State.emit; simp only [State.sendTo_trust]
@[simp] theorem State.emit_badWords : (s.emit port k seq retry m).badWords = s.badWords := by unfold State.emit; simp only [State.sendTo_badWords]
@[simp] theorem State.emit_frames : (s.emit port k seq retry m).frames = s.frames := by unfold State.emit; simp only [State.sendTo_frames]
@[simp] theorem State.emit_power : (s.emit port k seq retry m).power = s.power := by unfold State.emit; simp only [State.sendTo_power]
@[simp] theorem State.emit_pending : (s.emit port k seq retry m).pending = s.pending := by unfold State.emit; simp only [State.sendTo_pending]
@[simp] theorem State.emit_mb (x : Nat) : (s.emit port k seq retry m).mb x = s.mb x := by unfold State.mb; rw [State.emit_mem]
end

/-! `sendPlain`: an unreliable message sent. -/
section
variable (s : State) (k : Nat) (m : Msg)
@[simp] theorem State.sendPlain_variant : (s.sendPlain k m).variant = s.variant := by unfold State.sendPlain; rw [State.emit_variant]
@[simp] theorem State.sendPlain_mem : (s.sendPlain k m).mem = s.mem := by unfold State.sendPlain; rw [State.emit_mem]
@[simp] theorem State.sendPlain_now : (s.sendPlain k m).now = s.now := by unfold State.sendPlain; rw [State.emit_now]
@[simp] theorem State.sendPlain_fresh : (s.sendPlain k m).fresh = s.fresh := by unfold State.sendPlain; rw [State.emit_fresh]
@[simp] theorem State.sendPlain_gens : (s.sendPlain k m).gens = s.gens := by unfold State.sendPlain; rw [State.emit_gens]
@[simp] theorem State.sendPlain_plates : (s.sendPlain k m).plates = s.plates := by unfold State.sendPlain; rw [State.emit_plates]
@[simp] theorem State.sendPlain_gravers : (s.sendPlain k m).gravers = s.gravers := by unfold State.sendPlain; rw [State.emit_gravers]
@[simp] theorem State.sendPlain_scens : (s.sendPlain k m).scens = s.scens := by unfold State.sendPlain; rw [State.emit_scens]
@[simp] theorem State.sendPlain_scheds : (s.sendPlain k m).scheds = s.scheds := by unfold State.sendPlain; rw [State.emit_scheds]
@[simp] theorem State.sendPlain_unit : (s.sendPlain k m).unit = s.unit := by unfold State.sendPlain; rw [State.emit_unit]
@[simp] theorem State.sendPlain_lanes : (s.sendPlain k m).lanes = s.lanes := by unfold State.sendPlain; rw [State.emit_lanes]
@[simp] theorem State.sendPlain_proofs : (s.sendPlain k m).proofs = s.proofs := by unfold State.sendPlain; rw [State.emit_proofs]
@[simp] theorem State.sendPlain_tracers : (s.sendPlain k m).tracers = s.tracers := by unfold State.sendPlain; rw [State.emit_tracers]
@[simp] theorem State.sendPlain_xh : (s.sendPlain k m).xh = s.xh := by unfold State.sendPlain; rw [State.emit_xh]
@[simp] theorem State.sendPlain_clk : (s.sendPlain k m).clk = s.clk := by unfold State.sendPlain; rw [State.emit_clk]
@[simp] theorem State.sendPlain_cal : (s.sendPlain k m).cal = s.cal := by unfold State.sendPlain; rw [State.emit_cal]
@[simp] theorem State.sendPlain_dram : (s.sendPlain k m).dram = s.dram := by unfold State.sendPlain; rw [State.emit_dram]
@[simp] theorem State.sendPlain_dma : (s.sendPlain k m).dma = s.dma := by unfold State.sendPlain; rw [State.emit_dma]
@[simp] theorem State.sendPlain_trust : (s.sendPlain k m).trust = s.trust := by unfold State.sendPlain; rw [State.emit_trust]
@[simp] theorem State.sendPlain_badWords : (s.sendPlain k m).badWords = s.badWords := by unfold State.sendPlain; rw [State.emit_badWords]
@[simp] theorem State.sendPlain_frames : (s.sendPlain k m).frames = s.frames := by unfold State.sendPlain; rw [State.emit_frames]
@[simp] theorem State.sendPlain_power : (s.sendPlain k m).power = s.power := by unfold State.sendPlain; rw [State.emit_power]
@[simp] theorem State.sendPlain_pending : (s.sendPlain k m).pending = s.pending := by unfold State.sendPlain; rw [State.emit_pending]
@[simp] theorem State.sendPlain_mb (x : Nat) : (s.sendPlain k m).mb x = s.mb x := by unfold State.mb; rw [State.sendPlain_mem]
end

/-! `returnCredit`: a credit returned. -/
section
variable (s : State) (k : Nat)
@[simp] theorem State.returnCredit_variant : (s.returnCredit k).variant = s.variant := by unfold State.returnCredit; rw [State.updSes_variant]
@[simp] theorem State.returnCredit_regs : (s.returnCredit k).regs = s.regs := by unfold State.returnCredit; rw [State.updSes_regs]
@[simp] theorem State.returnCredit_mem : (s.returnCredit k).mem = s.mem := by unfold State.returnCredit; rw [State.updSes_mem]
@[simp] theorem State.returnCredit_now : (s.returnCredit k).now = s.now := by unfold State.returnCredit; rw [State.updSes_now]
@[simp] theorem State.returnCredit_fresh : (s.returnCredit k).fresh = s.fresh := by unfold State.returnCredit; rw [State.updSes_fresh]
@[simp] theorem State.returnCredit_gens : (s.returnCredit k).gens = s.gens := by unfold State.returnCredit; rw [State.updSes_gens]
@[simp] theorem State.returnCredit_plates : (s.returnCredit k).plates = s.plates := by unfold State.returnCredit; rw [State.updSes_plates]
@[simp] theorem State.returnCredit_gravers : (s.returnCredit k).gravers = s.gravers := by unfold State.returnCredit; rw [State.updSes_gravers]
@[simp] theorem State.returnCredit_scens : (s.returnCredit k).scens = s.scens := by unfold State.returnCredit; rw [State.updSes_scens]
@[simp] theorem State.returnCredit_scheds : (s.returnCredit k).scheds = s.scheds := by unfold State.returnCredit; rw [State.updSes_scheds]
@[simp] theorem State.returnCredit_unit : (s.returnCredit k).unit = s.unit := by unfold State.returnCredit; rw [State.updSes_unit]
@[simp] theorem State.returnCredit_lanes : (s.returnCredit k).lanes = s.lanes := by unfold State.returnCredit; rw [State.updSes_lanes]
@[simp] theorem State.returnCredit_proofs : (s.returnCredit k).proofs = s.proofs := by unfold State.returnCredit; rw [State.updSes_proofs]
@[simp] theorem State.returnCredit_tracers : (s.returnCredit k).tracers = s.tracers := by unfold State.returnCredit; rw [State.updSes_tracers]
@[simp] theorem State.returnCredit_xh : (s.returnCredit k).xh = s.xh := by unfold State.returnCredit; rw [State.updSes_xh]
@[simp] theorem State.returnCredit_clk : (s.returnCredit k).clk = s.clk := by unfold State.returnCredit; rw [State.updSes_clk]
@[simp] theorem State.returnCredit_cal : (s.returnCredit k).cal = s.cal := by unfold State.returnCredit; rw [State.updSes_cal]
@[simp] theorem State.returnCredit_dram : (s.returnCredit k).dram = s.dram := by unfold State.returnCredit; rw [State.updSes_dram]
@[simp] theorem State.returnCredit_dma : (s.returnCredit k).dma = s.dma := by unfold State.returnCredit; rw [State.updSes_dma]
@[simp] theorem State.returnCredit_trust : (s.returnCredit k).trust = s.trust := by unfold State.returnCredit; rw [State.updSes_trust]
@[simp] theorem State.returnCredit_badWords : (s.returnCredit k).badWords = s.badWords := by unfold State.returnCredit; rw [State.updSes_badWords]
@[simp] theorem State.returnCredit_frames : (s.returnCredit k).frames = s.frames := by unfold State.returnCredit; rw [State.updSes_frames]
@[simp] theorem State.returnCredit_power : (s.returnCredit k).power = s.power := by unfold State.returnCredit; rw [State.updSes_power]
@[simp] theorem State.returnCredit_pending : (s.returnCredit k).pending = s.pending := by unfold State.returnCredit; rw [State.updSes_pending]
@[simp] theorem State.returnCredit_mb (x : Nat) : (s.returnCredit k).mb x = s.mb x := by unfold State.mb; rw [State.returnCredit_mem]
@[simp] theorem State.returnCredit_rd (j : Nat) : (s.returnCredit k).rd j = s.rd j := by unfold State.rd; rw [State.returnCredit_regs, State.returnCredit_variant]
end

/-! `sendRel`: a reliable message sent or held back. -/
section
variable (s : State) (k : Nat) (m : Msg)
@[simp] theorem State.sendRel_variant : (s.sendRel k m).variant = s.variant := by
  unfold State.sendRel; split
  · simp only []; split
    · rw [State.updSes_variant, State.emit_variant, State.returnCredit_variant]
    · rw [State.updSes_variant, State.emit_variant]
  · rw [State.updSes_variant]
@[simp] theorem State.sendRel_mem : (s.sendRel k m).mem = s.mem := by
  unfold State.sendRel; split
  · simp only []; split
    · rw [State.updSes_mem, State.emit_mem, State.returnCredit_mem]
    · rw [State.updSes_mem, State.emit_mem]
  · rw [State.updSes_mem]
@[simp] theorem State.sendRel_now : (s.sendRel k m).now = s.now := by
  unfold State.sendRel; split
  · simp only []; split
    · rw [State.updSes_now, State.emit_now, State.returnCredit_now]
    · rw [State.updSes_now, State.emit_now]
  · rw [State.updSes_now]
@[simp] theorem State.sendRel_fresh : (s.sendRel k m).fresh = s.fresh := by
  unfold State.sendRel; split
  · simp only []; split
    · rw [State.updSes_fresh, State.emit_fresh, State.returnCredit_fresh]
    · rw [State.updSes_fresh, State.emit_fresh]
  · rw [State.updSes_fresh]
@[simp] theorem State.sendRel_gens : (s.sendRel k m).gens = s.gens := by
  unfold State.sendRel; split
  · simp only []; split
    · rw [State.updSes_gens, State.emit_gens, State.returnCredit_gens]
    · rw [State.updSes_gens, State.emit_gens]
  · rw [State.updSes_gens]
@[simp] theorem State.sendRel_plates : (s.sendRel k m).plates = s.plates := by
  unfold State.sendRel; split
  · simp only []; split
    · rw [State.updSes_plates, State.emit_plates, State.returnCredit_plates]
    · rw [State.updSes_plates, State.emit_plates]
  · rw [State.updSes_plates]
@[simp] theorem State.sendRel_gravers : (s.sendRel k m).gravers = s.gravers := by
  unfold State.sendRel; split
  · simp only []; split
    · rw [State.updSes_gravers, State.emit_gravers, State.returnCredit_gravers]
    · rw [State.updSes_gravers, State.emit_gravers]
  · rw [State.updSes_gravers]
@[simp] theorem State.sendRel_scens : (s.sendRel k m).scens = s.scens := by
  unfold State.sendRel; split
  · simp only []; split
    · rw [State.updSes_scens, State.emit_scens, State.returnCredit_scens]
    · rw [State.updSes_scens, State.emit_scens]
  · rw [State.updSes_scens]
@[simp] theorem State.sendRel_scheds : (s.sendRel k m).scheds = s.scheds := by
  unfold State.sendRel; split
  · simp only []; split
    · rw [State.updSes_scheds, State.emit_scheds, State.returnCredit_scheds]
    · rw [State.updSes_scheds, State.emit_scheds]
  · rw [State.updSes_scheds]
@[simp] theorem State.sendRel_unit : (s.sendRel k m).unit = s.unit := by
  unfold State.sendRel; split
  · simp only []; split
    · rw [State.updSes_unit, State.emit_unit, State.returnCredit_unit]
    · rw [State.updSes_unit, State.emit_unit]
  · rw [State.updSes_unit]
@[simp] theorem State.sendRel_lanes : (s.sendRel k m).lanes = s.lanes := by
  unfold State.sendRel; split
  · simp only []; split
    · rw [State.updSes_lanes, State.emit_lanes, State.returnCredit_lanes]
    · rw [State.updSes_lanes, State.emit_lanes]
  · rw [State.updSes_lanes]
@[simp] theorem State.sendRel_proofs : (s.sendRel k m).proofs = s.proofs := by
  unfold State.sendRel; split
  · simp only []; split
    · rw [State.updSes_proofs, State.emit_proofs, State.returnCredit_proofs]
    · rw [State.updSes_proofs, State.emit_proofs]
  · rw [State.updSes_proofs]
@[simp] theorem State.sendRel_tracers : (s.sendRel k m).tracers = s.tracers := by
  unfold State.sendRel; split
  · simp only []; split
    · rw [State.updSes_tracers, State.emit_tracers, State.returnCredit_tracers]
    · rw [State.updSes_tracers, State.emit_tracers]
  · rw [State.updSes_tracers]
@[simp] theorem State.sendRel_xh : (s.sendRel k m).xh = s.xh := by
  unfold State.sendRel; split
  · simp only []; split
    · rw [State.updSes_xh, State.emit_xh, State.returnCredit_xh]
    · rw [State.updSes_xh, State.emit_xh]
  · rw [State.updSes_xh]
@[simp] theorem State.sendRel_clk : (s.sendRel k m).clk = s.clk := by
  unfold State.sendRel; split
  · simp only []; split
    · rw [State.updSes_clk, State.emit_clk, State.returnCredit_clk]
    · rw [State.updSes_clk, State.emit_clk]
  · rw [State.updSes_clk]
@[simp] theorem State.sendRel_cal : (s.sendRel k m).cal = s.cal := by
  unfold State.sendRel; split
  · simp only []; split
    · rw [State.updSes_cal, State.emit_cal, State.returnCredit_cal]
    · rw [State.updSes_cal, State.emit_cal]
  · rw [State.updSes_cal]
@[simp] theorem State.sendRel_dram : (s.sendRel k m).dram = s.dram := by
  unfold State.sendRel; split
  · simp only []; split
    · rw [State.updSes_dram, State.emit_dram, State.returnCredit_dram]
    · rw [State.updSes_dram, State.emit_dram]
  · rw [State.updSes_dram]
@[simp] theorem State.sendRel_dma : (s.sendRel k m).dma = s.dma := by
  unfold State.sendRel; split
  · simp only []; split
    · rw [State.updSes_dma, State.emit_dma, State.returnCredit_dma]
    · rw [State.updSes_dma, State.emit_dma]
  · rw [State.updSes_dma]
@[simp] theorem State.sendRel_trust : (s.sendRel k m).trust = s.trust := by
  unfold State.sendRel; split
  · simp only []; split
    · rw [State.updSes_trust, State.emit_trust, State.returnCredit_trust]
    · rw [State.updSes_trust, State.emit_trust]
  · rw [State.updSes_trust]
@[simp] theorem State.sendRel_badWords : (s.sendRel k m).badWords = s.badWords := by
  unfold State.sendRel; split
  · simp only []; split
    · rw [State.updSes_badWords, State.emit_badWords, State.returnCredit_badWords]
    · rw [State.updSes_badWords, State.emit_badWords]
  · rw [State.updSes_badWords]
@[simp] theorem State.sendRel_frames : (s.sendRel k m).frames = s.frames := by
  unfold State.sendRel; split
  · simp only []; split
    · rw [State.updSes_frames, State.emit_frames, State.returnCredit_frames]
    · rw [State.updSes_frames, State.emit_frames]
  · rw [State.updSes_frames]
@[simp] theorem State.sendRel_power : (s.sendRel k m).power = s.power := by
  unfold State.sendRel; split
  · simp only []; split
    · rw [State.updSes_power, State.emit_power, State.returnCredit_power]
    · rw [State.updSes_power, State.emit_power]
  · rw [State.updSes_power]
@[simp] theorem State.sendRel_pending : (s.sendRel k m).pending = s.pending := by
  unfold State.sendRel; split
  · simp only []; split
    · rw [State.updSes_pending, State.emit_pending, State.returnCredit_pending]
    · rw [State.updSes_pending, State.emit_pending]
  · rw [State.updSes_pending]
@[simp] theorem State.sendRel_mb (x : Nat) : (s.sendRel k m).mb x = s.mb x := by unfold State.mb; rw [State.sendRel_mem]
end

/-! `respond`: a RESPONSE. -/
section
variable (s : State) (k seq : Nat) (c : Code) (done failAddr : Nat) (data : List Word)
@[simp] theorem State.respond_variant : (s.respond k seq c done failAddr data).variant = s.variant := State.sendRel_variant ..
@[simp] theorem State.respond_mem : (s.respond k seq c done failAddr data).mem = s.mem := State.sendRel_mem ..
@[simp] theorem State.respond_now : (s.respond k seq c done failAddr data).now = s.now := State.sendRel_now ..
@[simp] theorem State.respond_fresh : (s.respond k seq c done failAddr data).fresh = s.fresh := State.sendRel_fresh ..
@[simp] theorem State.respond_gens : (s.respond k seq c done failAddr data).gens = s.gens := State.sendRel_gens ..
@[simp] theorem State.respond_plates : (s.respond k seq c done failAddr data).plates = s.plates := State.sendRel_plates ..
@[simp] theorem State.respond_gravers : (s.respond k seq c done failAddr data).gravers = s.gravers := State.sendRel_gravers ..
@[simp] theorem State.respond_scens : (s.respond k seq c done failAddr data).scens = s.scens := State.sendRel_scens ..
@[simp] theorem State.respond_scheds : (s.respond k seq c done failAddr data).scheds = s.scheds := State.sendRel_scheds ..
@[simp] theorem State.respond_unit : (s.respond k seq c done failAddr data).unit = s.unit := State.sendRel_unit ..
@[simp] theorem State.respond_lanes : (s.respond k seq c done failAddr data).lanes = s.lanes := State.sendRel_lanes ..
@[simp] theorem State.respond_proofs : (s.respond k seq c done failAddr data).proofs = s.proofs := State.sendRel_proofs ..
@[simp] theorem State.respond_tracers : (s.respond k seq c done failAddr data).tracers = s.tracers := State.sendRel_tracers ..
@[simp] theorem State.respond_xh : (s.respond k seq c done failAddr data).xh = s.xh := State.sendRel_xh ..
@[simp] theorem State.respond_clk : (s.respond k seq c done failAddr data).clk = s.clk := State.sendRel_clk ..
@[simp] theorem State.respond_cal : (s.respond k seq c done failAddr data).cal = s.cal := State.sendRel_cal ..
@[simp] theorem State.respond_dram : (s.respond k seq c done failAddr data).dram = s.dram := State.sendRel_dram ..
@[simp] theorem State.respond_dma : (s.respond k seq c done failAddr data).dma = s.dma := State.sendRel_dma ..
@[simp] theorem State.respond_trust : (s.respond k seq c done failAddr data).trust = s.trust := State.sendRel_trust ..
@[simp] theorem State.respond_badWords : (s.respond k seq c done failAddr data).badWords = s.badWords := State.sendRel_badWords ..
@[simp] theorem State.respond_frames : (s.respond k seq c done failAddr data).frames = s.frames := State.sendRel_frames ..
@[simp] theorem State.respond_power : (s.respond k seq c done failAddr data).power = s.power := State.sendRel_power ..
@[simp] theorem State.respond_pending : (s.respond k seq c done failAddr data).pending = s.pending := State.sendRel_pending ..
@[simp] theorem State.respond_mb (x : Nat) : (s.respond k seq c done failAddr data).mb x = s.mb x := by unfold State.mb; rw [State.respond_mem]
end

/-! `postedFail`: a posted failure reported. -/
section
variable (s : State) (k seq : Nat) (c : Code) (done failAddr : Nat)
@[simp] theorem State.postedFail_variant : (s.postedFail k seq c done failAddr).variant = s.variant := by unfold State.postedFail; rw [State.notifyTo_variant, State.count_variant, State.returnCredit_variant]
@[simp] theorem State.postedFail_mem : (s.postedFail k seq c done failAddr).mem = s.mem := by unfold State.postedFail; rw [State.notifyTo_mem, State.count_mem, State.returnCredit_mem]
@[simp] theorem State.postedFail_now : (s.postedFail k seq c done failAddr).now = s.now := by unfold State.postedFail; rw [State.notifyTo_now, State.count_now, State.returnCredit_now]
@[simp] theorem State.postedFail_fresh : (s.postedFail k seq c done failAddr).fresh = s.fresh := by unfold State.postedFail; rw [State.notifyTo_fresh, State.count_fresh, State.returnCredit_fresh]
@[simp] theorem State.postedFail_gens : (s.postedFail k seq c done failAddr).gens = s.gens := by unfold State.postedFail; rw [State.notifyTo_gens, State.count_gens, State.returnCredit_gens]
@[simp] theorem State.postedFail_plates : (s.postedFail k seq c done failAddr).plates = s.plates := by unfold State.postedFail; rw [State.notifyTo_plates, State.count_plates, State.returnCredit_plates]
@[simp] theorem State.postedFail_gravers : (s.postedFail k seq c done failAddr).gravers = s.gravers := by unfold State.postedFail; rw [State.notifyTo_gravers, State.count_gravers, State.returnCredit_gravers]
@[simp] theorem State.postedFail_scens : (s.postedFail k seq c done failAddr).scens = s.scens := by unfold State.postedFail; rw [State.notifyTo_scens, State.count_scens, State.returnCredit_scens]
@[simp] theorem State.postedFail_scheds : (s.postedFail k seq c done failAddr).scheds = s.scheds := by unfold State.postedFail; rw [State.notifyTo_scheds, State.count_scheds, State.returnCredit_scheds]
@[simp] theorem State.postedFail_unit : (s.postedFail k seq c done failAddr).unit = s.unit := by unfold State.postedFail; rw [State.notifyTo_unit, State.count_unit, State.returnCredit_unit]
@[simp] theorem State.postedFail_lanes : (s.postedFail k seq c done failAddr).lanes = s.lanes := by unfold State.postedFail; rw [State.notifyTo_lanes, State.count_lanes, State.returnCredit_lanes]
@[simp] theorem State.postedFail_proofs : (s.postedFail k seq c done failAddr).proofs = s.proofs := by unfold State.postedFail; rw [State.notifyTo_proofs, State.count_proofs, State.returnCredit_proofs]
@[simp] theorem State.postedFail_tracers : (s.postedFail k seq c done failAddr).tracers = s.tracers := by unfold State.postedFail; rw [State.notifyTo_tracers, State.count_tracers, State.returnCredit_tracers]
@[simp] theorem State.postedFail_xh : (s.postedFail k seq c done failAddr).xh = s.xh := by unfold State.postedFail; rw [State.notifyTo_xh, State.count_xh, State.returnCredit_xh]
@[simp] theorem State.postedFail_clk : (s.postedFail k seq c done failAddr).clk = s.clk := by unfold State.postedFail; rw [State.notifyTo_clk, State.count_clk, State.returnCredit_clk]
@[simp] theorem State.postedFail_cal : (s.postedFail k seq c done failAddr).cal = s.cal := by unfold State.postedFail; rw [State.notifyTo_cal, State.count_cal, State.returnCredit_cal]
@[simp] theorem State.postedFail_dram : (s.postedFail k seq c done failAddr).dram = s.dram := by unfold State.postedFail; rw [State.notifyTo_dram, State.count_dram, State.returnCredit_dram]
@[simp] theorem State.postedFail_dma : (s.postedFail k seq c done failAddr).dma = s.dma := by unfold State.postedFail; rw [State.notifyTo_dma, State.count_dma, State.returnCredit_dma]
@[simp] theorem State.postedFail_trust : (s.postedFail k seq c done failAddr).trust = s.trust := by unfold State.postedFail; rw [State.notifyTo_trust, State.count_trust, State.returnCredit_trust]
@[simp] theorem State.postedFail_badWords : (s.postedFail k seq c done failAddr).badWords = s.badWords := by unfold State.postedFail; rw [State.notifyTo_badWords, State.count_badWords, State.returnCredit_badWords]
@[simp] theorem State.postedFail_frames : (s.postedFail k seq c done failAddr).frames = s.frames := by unfold State.postedFail; rw [State.notifyTo_frames, State.count_frames, State.returnCredit_frames]
@[simp] theorem State.postedFail_power : (s.postedFail k seq c done failAddr).power = s.power := by unfold State.postedFail; rw [State.notifyTo_power, State.count_power, State.returnCredit_power]
@[simp] theorem State.postedFail_pending : (s.postedFail k seq c done failAddr).pending = s.pending := by unfold State.postedFail; rw [State.notifyTo_pending, State.count_pending, State.returnCredit_pending]
@[simp] theorem State.postedFail_mb (x : Nat) : (s.postedFail k seq c done failAddr).mb x = s.mb x := by unfold State.mb; rw [State.postedFail_mem]
end

/-! `pageFault`: a fault recorded. -/
section
variable (s : State) (p code detail : Nat)
@[simp] theorem State.pageFault_variant : (s.pageFault p code detail).variant = s.variant := by
  unfold State.pageFault; split
  · rw [State.fs_variant, State.fs_variant]
  · rw [State.fs_variant]
@[simp] theorem State.pageFault_mem : (s.pageFault p code detail).mem = s.mem := by
  unfold State.pageFault; split
  · rw [State.fs_mem, State.fs_mem]
  · rw [State.fs_mem]
@[simp] theorem State.pageFault_now : (s.pageFault p code detail).now = s.now := by
  unfold State.pageFault; split
  · rw [State.fs_now, State.fs_now]
  · rw [State.fs_now]
@[simp] theorem State.pageFault_fresh : (s.pageFault p code detail).fresh = s.fresh := by
  unfold State.pageFault; split
  · rw [State.fs_fresh, State.fs_fresh]
  · rw [State.fs_fresh]
@[simp] theorem State.pageFault_xport : (s.pageFault p code detail).xport = s.xport := by
  unfold State.pageFault; split
  · rw [State.fs_xport, State.fs_xport]
  · rw [State.fs_xport]
@[simp] theorem State.pageFault_gens : (s.pageFault p code detail).gens = s.gens := by
  unfold State.pageFault; split
  · rw [State.fs_gens, State.fs_gens]
  · rw [State.fs_gens]
@[simp] theorem State.pageFault_plates : (s.pageFault p code detail).plates = s.plates := by
  unfold State.pageFault; split
  · rw [State.fs_plates, State.fs_plates]
  · rw [State.fs_plates]
@[simp] theorem State.pageFault_gravers : (s.pageFault p code detail).gravers = s.gravers := by
  unfold State.pageFault; split
  · rw [State.fs_gravers, State.fs_gravers]
  · rw [State.fs_gravers]
@[simp] theorem State.pageFault_scens : (s.pageFault p code detail).scens = s.scens := by
  unfold State.pageFault; split
  · rw [State.fs_scens, State.fs_scens]
  · rw [State.fs_scens]
@[simp] theorem State.pageFault_scheds : (s.pageFault p code detail).scheds = s.scheds := by
  unfold State.pageFault; split
  · rw [State.fs_scheds, State.fs_scheds]
  · rw [State.fs_scheds]
@[simp] theorem State.pageFault_unit : (s.pageFault p code detail).unit = s.unit := by
  unfold State.pageFault; split
  · rw [State.fs_unit, State.fs_unit]
  · rw [State.fs_unit]
@[simp] theorem State.pageFault_lanes : (s.pageFault p code detail).lanes = s.lanes := by
  unfold State.pageFault; split
  · rw [State.fs_lanes, State.fs_lanes]
  · rw [State.fs_lanes]
@[simp] theorem State.pageFault_proofs : (s.pageFault p code detail).proofs = s.proofs := by
  unfold State.pageFault; split
  · rw [State.fs_proofs, State.fs_proofs]
  · rw [State.fs_proofs]
@[simp] theorem State.pageFault_tracers : (s.pageFault p code detail).tracers = s.tracers := by
  unfold State.pageFault; split
  · rw [State.fs_tracers, State.fs_tracers]
  · rw [State.fs_tracers]
@[simp] theorem State.pageFault_xh : (s.pageFault p code detail).xh = s.xh := by
  unfold State.pageFault; split
  · rw [State.fs_xh, State.fs_xh]
  · rw [State.fs_xh]
@[simp] theorem State.pageFault_clk : (s.pageFault p code detail).clk = s.clk := by
  unfold State.pageFault; split
  · rw [State.fs_clk, State.fs_clk]
  · rw [State.fs_clk]
@[simp] theorem State.pageFault_cal : (s.pageFault p code detail).cal = s.cal := by
  unfold State.pageFault; split
  · rw [State.fs_cal, State.fs_cal]
  · rw [State.fs_cal]
@[simp] theorem State.pageFault_dram : (s.pageFault p code detail).dram = s.dram := by
  unfold State.pageFault; split
  · rw [State.fs_dram, State.fs_dram]
  · rw [State.fs_dram]
@[simp] theorem State.pageFault_dma : (s.pageFault p code detail).dma = s.dma := by
  unfold State.pageFault; split
  · rw [State.fs_dma, State.fs_dma]
  · rw [State.fs_dma]
@[simp] theorem State.pageFault_trust : (s.pageFault p code detail).trust = s.trust := by
  unfold State.pageFault; split
  · rw [State.fs_trust, State.fs_trust]
  · rw [State.fs_trust]
@[simp] theorem State.pageFault_badWords : (s.pageFault p code detail).badWords = s.badWords := by
  unfold State.pageFault; split
  · rw [State.fs_badWords, State.fs_badWords]
  · rw [State.fs_badWords]
@[simp] theorem State.pageFault_frames : (s.pageFault p code detail).frames = s.frames := by
  unfold State.pageFault; split
  · rw [State.fs_frames, State.fs_frames]
  · rw [State.fs_frames]
@[simp] theorem State.pageFault_power : (s.pageFault p code detail).power = s.power := by
  unfold State.pageFault; split
  · rw [State.fs_power, State.fs_power]
  · rw [State.fs_power]
@[simp] theorem State.pageFault_pending : (s.pageFault p code detail).pending = s.pending := by
  unfold State.pageFault; split
  · rw [State.fs_pending, State.fs_pending]
  · rw [State.fs_pending]
@[simp] theorem State.pageFault_mb (x : Nat) : (s.pageFault p code detail).mb x = s.mb x := by unfold State.mb; rw [State.pageFault_mem]
@[simp] theorem State.pageFault_ses (j : Nat) : (s.pageFault p code detail).ses j = s.ses j := by unfold State.ses; rw [State.pageFault_xport]
end

/-! ### Which registers they touch -/

theorem State.rd_inc64_ne (s : State) (key j : Nat) (h : j ≠ key) (h' : j ≠ key + 4) : (s.inc64 key).rd j = s.rd j := by
  simp [State.inc64, State.wr64, State.rd_wr, h, h']

/-- The register pair that counts what the port of session `k` sends. -/
def State.txKey (s : State) (k : Nat) : Nat := base (pLINK (s.curPort k)) + LINK_TX_FRAMES

theorem State.rd_emit_ne (s : State) (port k seq : Nat) (retry : Bool) (m : Msg) (j : Nat) (h : j ≠ base (pLINK port) + LINK_TX_FRAMES)
    (h' : j ≠ base (pLINK port) + LINK_TX_FRAMES + 4) : (s.emit port k seq retry m).rd j = s.rd j := by
  unfold State.emit State.sendTo State.wire
  dsimp only
  rw [State.rd_inc64_ne _ _ _ h h']
  rfl

/-- Sending a reliable message touches no register but the frame counter of the port. -/
theorem State.rd_sendRel_ne (s : State) (k : Nat) (m : Msg) (j : Nat) (h : j ≠ s.txKey k) (h' : j ≠ s.txKey k + 4) :
    (s.sendRel k m).rd j = s.rd j := by
  unfold State.sendRel
  split
  · simp only []
    split
    · have hc : (s.returnCredit k).curPort k = s.curPort k := by unfold State.curPort State.fg; rw [State.returnCredit_rd]
      rw [State.updSes_rd]
      refine (State.rd_emit_ne _ _ _ _ _ _ _ ?_ ?_).trans (State.returnCredit_rd _ _ _)
      · rw [hc]; exact h
      · rw [hc]; exact h'
    · rw [State.updSes_rd]
      exact State.rd_emit_ne _ _ _ _ _ _ _ h h'
  · rfl

theorem State.rd_respond_ne (s : State) (k seq : Nat) (c : Code) (done fa : Nat) (data : List Word) (j : Nat)
    (h : j ≠ s.txKey k) (h' : j ≠ s.txKey k + 4) : (s.respond k seq c done fa data).rd j = s.rd j :=
  State.rd_sendRel_ne _ _ _ _ h h'

/-! ### The outcome of a host access (R454, R461, R462, R490) -/

/-- The message of a session that is not open is discarded and counted. -/
theorem State.hostReg_closed (s : State) (o : Org) (a : Nat) (w : Word) (eff : State → Act) (h : s.isOpen o.sess = false) :
    s.hostReg o a w eff = s.count (base pXPORT) XPORT_DISCARD_COUNT_COUNT := by
  simp [State.hostReg, h]

/-- A write that is judged well and takes effect. -/
theorem State.hostReg_ok (s t : State) (o : Org) (a : Nat) (w : Word) (eff : State → Act) (h : s.isOpen o.sess = true)
    (hj : s.judge o.sess a w = .ok ()) (he : eff s = .ok t) :
    s.hostReg o a w eff = if o.posted then t.returnCredit o.sess else t.respond o.sess o.seq .ok 1 0 [] := by
  simp only [State.hostReg, h, hj, if_true, bind, Except.bind, he, State.report]

/-- A write that its own rule refuses. -/
theorem State.hostReg_refused (s : State) (o : Org) (a : Nat) (w : Word) (eff : State → Act) (c : Code) (h : s.isOpen o.sess = true)
    (hj : s.judge o.sess a w = .ok ()) (he : eff s = .error c) :
    s.hostReg o a w eff = if o.posted then s.postedFail o.sess o.seq c 0 a else s.respond o.sess o.seq c 0 a [] := by
  simp only [State.hostReg, h, hj, if_true, bind, Except.bind, he, State.report]

/-- A write that the order of judgement turns away. -/
theorem State.hostReg_judged (s : State) (o : Org) (a : Nat) (w : Word) (eff : State → Act) (c : Code) (h : s.isOpen o.sess = true)
    (hj : s.judge o.sess a w = .error c) :
    s.hostReg o a w eff = if o.posted then s.postedFail o.sess o.seq c 0 a else s.respond o.sess o.seq c 0 a [] := by
  simp only [State.hostReg, h, hj, if_true, bind, Except.bind, State.report]

/-- A window write that takes effect. -/
theorem State.hostMem_ok (s t : State) (o : Org) (a : Nat) (eff : State → Act) (h : s.isOpen o.sess = true)
    (hr : s.restState < 2) (hn : s.retired = false) (he : eff s = .ok t) :
    s.hostMem o a eff = if o.posted then t.returnCredit o.sess else t.respond o.sess o.seq .ok 1 0 [] := by
  have : ¬ 2 ≤ s.restState := by omega
  simp [State.hostMem, h, this, hn, he, State.report]

/-- The session numbers that are OPEN are 1 to 16. -/
theorem State.isOpen_range {s : State} {k : Nat} (h : s.isOpen k = true) : 1 ≤ k ∧ k ≤ 16 := by
  simp [State.isOpen] at h; exact h.1

end Sys2Proof.Machine
end

