-- ==== Sys2Proof/Laws/Notices.lean ====
section
/-! SUPPORT. Sys2Proof/Laws/Notices.lean: which registers notices and reports write, and the bits of a number set one at a time. -/
namespace Sys2Proof.Machine
open Sys2Proof

/-! ### Bits -/

theorem testBit_add_two_pow (n i j : Nat) (h : n.testBit i = false) :
    (n + 2 ^ i).testBit j = (decide (j = i) || n.testBit j) := by
  rw [Nat.add_comm]
  by_cases hj : j = i
  · subst hj; simp [h, Nat.testBit_two_pow_add_eq]
  · rcases Nat.lt_or_gt_of_ne hj with hlt | hgt
    · simp [hj, Nat.testBit_two_pow_add_gt hlt]
    · have h0 : (n / 2 ^ i) % 2 = 0 := by
        rw [Nat.testBit_eq_decide_div_mod_eq] at h
        simp at h; omega
      have key : (2 ^ i + n) / 2 ^ (i + 1) = n / 2 ^ (i + 1) := by
        rw [Nat.pow_succ, ← Nat.div_div_eq_div_mul, ← Nat.div_div_eq_div_mul, Nat.add_div_left _ (Nat.two_pow_pos i)]
        omega
      obtain ⟨d, rfl⟩ : ∃ d, j = i + 1 + d := ⟨j - (i + 1), by omega⟩
      simp only [Nat.testBit_eq_decide_div_mod_eq, Nat.pow_add _ (i + 1) d, ← Nat.div_div_eq_div_mul, key]
      simp [show ¬ i + 1 + d = i by omega]

/-- A bit after one was set to a flag. -/
theorem bit_putBit (n i j : Nat) (b : Bool) : bit (putBit n i b) j = if j = i then b else bit n j := by
  unfold bit putBit
  by_cases h : n.testBit i
  · simp only [h, if_true]
    cases b
    · simp only [Bool.false_eq_true, if_false]
      have hm : n = (n - 2 ^ i) + 2 ^ i := by
        have := Nat.ge_two_pow_of_testBit h; omega
      have hf : (n - 2 ^ i).testBit i = false := by
        cases hx : (n - 2 ^ i).testBit i with
        | false => rfl
        | true =>
          exfalso
          rw [hm] at h
          have := Nat.testBit_two_pow_add_eq (n - 2 ^ i) i
          rw [Nat.add_comm] at this
          rw [this, hx] at h
          simp at h
      by_cases hj : j = i
      · subst hj; simp [hf]
      · have := testBit_add_two_pow (n - 2 ^ i) i j hf
        rw [← hm] at this
        simp [hj] at this
        simp [hj, this]
    · by_cases hj : j = i
      · subst hj; simp [h]
      · simp [hj]
  · simp only [h]
    cases b
    · by_cases hj : j = i
      · subst hj; simpa using h
      · simp [hj]
    · have hf : n.testBit i = false := by simpa using h
      have := testBit_add_two_pow n i j hf
      by_cases hj : j = i
      · subst hj; simp [this]
      · simp [hj, this]

/-! ### Notices -/

theorem noticeKey_note (k : Nat) (f : Field) (i : Nat) (h : 1 ≤ k) (ho : f.off + f.stride * i < 0x1000) :
    noticeKey (sbase k pNOTE + f.off + f.stride * i) := by
  unfold noticeKey sbase pNOTE
  generalize f.off = a at *
  generalize f.stride * i = b at *
  omega

theorem State.rd_setRaw_ne (s : State) (k p c j : Nat) (h : 1 ≤ k) (hj : ¬ noticeKey j) : (s.setRaw k p c).rd j = s.rd j := by
  unfold State.setRaw
  refine State.rd_fs_ne _ _ _ _ _ _ (fun e => hj ?_)
  subst e
  unfold noticeKey sbase HDR_PAGE_NOTICE_RAW_RAW
  simp only []
  omega

theorem State.rd_queueNotice_ne (s : State) (k : Nat) (n : Notice) (j : Nat) (h : 1 ≤ k) (hj : ¬ noticeKey j) :
    (s.queueNotice k n).rd j = s.rd j := by
  unfold State.queueNotice
  split
  · rw [State.rd_fs_ne]
    · rfl
    · intro e; subst e; exact hj (noticeKey_note k _ _ h (by decide))
  · refine State.rd_fs_ne _ _ _ _ _ _ (fun e => ?_)
    subst e; exact hj (noticeKey_note k _ _ h (by decide))

/-- A notice raised for a session writes no register but those of `noticeKey`. -/
theorem State.rd_notifyTo_ne (s : State) (k : Nat) (n : Notice) (j : Nat) (h : 1 ≤ k) (hj : ¬ noticeKey j) :
    (s.notifyTo k n).rd j = s.rd j := by
  unfold State.notifyTo
  split
  · split
    · rw [State.rd_queueNotice_ne _ _ _ _ h hj, State.rd_setRaw_ne _ _ _ _ _ h hj]
    · rw [State.rd_count_ne, State.rd_setRaw_ne _ _ _ _ _ h hj]
      intro e; subst e; exact hj (noticeKey_note k _ _ h (by decide))
  · rfl
  · rw [State.rd_fs_ne, State.rd_setRaw_ne _ _ _ _ _ h hj]
    intro e; subst e; exact hj (noticeKey_note k _ _ h (by decide))

theorem State.openList_pos {s : State} {k : Nat} (h : k ∈ s.openList) : 1 ≤ k := by
  unfold State.openList at h
  obtain ⟨i, -, rfl⟩ := List.mem_map.mp (List.mem_filter.mp h).1
  omega

theorem State.rd_notifyAll_ne (s : State) (n : Notice) (j : Nat) (hj : ¬ noticeKey j) : (s.notifyAll n).rd j = s.rd j := by
  unfold State.notifyAll
  have : ∀ (l : List Nat) (t : State), (∀ k ∈ l, 1 ≤ k) → (l.foldl (fun t k => t.notifyTo k n) t).rd j = t.rd j := by
    intro l
    induction l with
    | nil => intro t _; rfl
    | cons k l ih =>
      intro t h
      rw [List.foldl_cons, ih _ (fun x hx => h x (by simp [hx])), State.rd_notifyTo_ne _ _ _ _ (h k (by simp)) hj]
  exact this _ _ (fun k hk => State.openList_pos hk)

/-- A notice writes no register but those of `noticeKey`. -/
theorem State.rd_notify_ne (s : State) (n : Notice) (j : Nat) (hj : ¬ noticeKey j) : (s.notify n).rd j = s.rd j := by
  unfold State.notify
  split
  · exact State.rd_notifyAll_ne _ _ _ hj
  · split
    · rfl
    · exact State.rd_notifyTo_ne _ _ _ _ (by omega) hj

/-- The field of a register that notices do not write. -/
theorem State.fg_notify (s : State) (n : Notice) (b : Nat) (f : Field) (i : Nat) (hj : ¬ noticeKey (b + f.off + f.stride * i)) :
    (s.notify n).fg b f i = s.fg b f i := by
  unfold State.fg; rw [State.rd_notify_ne _ _ _ hj]

theorem State.fg_notifyTo (s : State) (k : Nat) (n : Notice) (b : Nat) (f : Field) (i : Nat) (h : 1 ≤ k)
    (hj : ¬ noticeKey (b + f.off + f.stride * i)) : (s.notifyTo k n).fg b f i = s.fg b f i := by
  unfold State.fg; rw [State.rd_notifyTo_ne _ _ _ _ h hj]

/-- A register below the per-session copies is none that notices write. -/
theorem not_noticeKey_of_lt {j : Nat} (h : j < 0x1000000) : ¬ noticeKey j := by
  intro e; have := e.1; omega

/-! ### The answer to an accepted write -/

theorem State.hostReg_acked (s t : State) (o : Org) (a : Nat) (w : Word) (eff : State → Act) (h : s.Accepts o a w)
    (he : eff s = .ok t) : s.hostReg o a w eff = t.ackWrite o := State.hostReg_ok s t o a w eff h.1 h.2 he

theorem State.hostReg_turnedAway (s : State) (o : Org) (a : Nat) (w : Word) (eff : State → Act) (c : Code) (h : s.Accepts o a w)
    (he : eff s = .error c) : s.hostReg o a w eff = s.turnedAway o a c := State.hostReg_refused s o a w eff c h.1 h.2 he

theorem State.hostMem_acked (s t : State) (o : Org) (a : Nat) (eff : State → Act) (h : s.AcceptsTable o)
    (he : eff s = .ok t) : s.hostMem o a eff = t.ackWrite o := State.hostMem_ok s t o a eff h.1 h.2.1 h.2.2 he

end Sys2Proof.Machine
end

