-- ==== Sys2Proof/Laws/Steady.lean ====
section
/-! SUPPORT. Sys2Proof/Laws/Steady.lean: what the operations on registers, memory, channels and plates keep: the variant, the queue
of commands and the invariant of Sys2Proof/Safety.lean. Each lemma takes a state that is steady from `z` to the operation's result. -/
namespace Sys2Proof.Machine
open Sys2Proof

/-- From `z` to `t` the variant and the queue stay, and the invariant is kept. -/
def State.Steady (z t : State) : Prop := t.variant = z.variant ∧ t.pending = z.pending ∧ (z.Inv → t.Inv)

/-- An act that is refused, or leads to a state steady from `z`. -/
structure State.SteadyAct (z : State) (r : Act) : Prop where
  of : ∀ t, r = .ok t → z.Steady t

/-- An act, if there is one, that is refused or leads to a state steady from `z`. -/
def State.SteadyOpt (z : State) (o : Option Act) : Prop := ∀ r, o = some r → z.SteadyAct r

/-- A read that is refused, or leads to a state steady from `z`. -/
structure State.SteadyRead (z : State) (r : Except Code (Word × State)) : Prop where
  of : ∀ w t, r = .ok (w, t) → z.Steady t

/-- The lengths that the invariant fixes. -/
def State.lens (s : State) : List Nat :=
  [s.xport.sess.length, s.xport.ports.length, s.gens.length, s.gravers.length, s.scens.length, s.proofs.length, s.tracers.length, s.lanes.outs.length,
    s.lanes.lastEdge.length, s.clk.sync.slots.length, s.clk.sync.bad.length, s.dram.cool.length, s.dram.panicAt.length, s.dma.taken.length, s.dma.turn.length, s.trust.slots.length, s.power.okAt.length]

theorem State.inv_of_lens {u t : State} (hr : t.regsWf) (hm : t.memWf) (hf : stWf (fun _ => 0) t.frames = true) (hl : t.lens = u.lens) (h : u.Inv) : t.Inv := by
  simp only [State.lens, List.cons.injEq, and_true] at hl
  obtain ⟨l1, l2, l3, l4, l5, l6, l7, l8, l9, l10, l11, l12, l13, l14, l15, l16, l17⟩ := hl
  exact ⟨hr, hm, hf, l1.trans h.sess, l2.trans h.ports, l3.trans h.gens, l4.trans h.gravers, l5.trans h.scens, l6.trans h.proofs, l7.trans h.tracers,
    l8.trans h.trigOuts, l9.trans h.trigIns, l10.trans h.syncSlots, l11.trans h.syncBad,
    l12.trans h.cool, l13.trans h.panics, l14.trans h.taken, l15.trans h.turn, l16.trans h.slots, l17.trans h.feeds⟩

theorem Steady.refl (z : State) : z.Steady z := ⟨rfl, rfl, id⟩
theorem Steady.trans {a b c : State} (h : a.Steady b) (k : b.Steady c) : a.Steady c :=
  ⟨k.1.trans h.1, k.2.1.trans h.2.1, fun i => k.2.2 (h.2.2 i)⟩

variable {z s u t : State}

/-- A state written out field by field, under a name that only such a state has. -/
def State.lit (variant : Variant) (regs : List (Nat × Word)) (mem : List Host.Cell) (now : Nat) (fresh : Nat) (xport : Xport) (gens : List Gen) (plates : Plates) (gravers : List Graver) (scens : List ScenX) (scheds : List SchedX) (unit : CmdUnit) (lanes : Lanes) (proofs : List Proof) (tracers : List Tracer) (xh : Xh) (clk : Clk) (cal : Cal) (dram : Dram) (dma : Dma) (trust : Trust) (badWords : List Nat) (frames : List (Nat × Nat)) (power : Power) (pending : List Instr) : State :=
  State.mk variant regs mem now fresh xport gens plates gravers scens scheds unit lanes proofs tracers xh clk cal dram dma trust badWords frames power pending
theorem State.mk_lit (variant : Variant) (regs : List (Nat × Word)) (mem : List Host.Cell) (now : Nat) (fresh : Nat) (xport : Xport) (gens : List Gen) (plates : Plates) (gravers : List Graver) (scens : List ScenX) (scheds : List SchedX) (unit : CmdUnit) (lanes : Lanes) (proofs : List Proof) (tracers : List Tracer) (xh : Xh) (clk : Clk) (cal : Cal) (dram : Dram) (dma : Dma) (trust : Trust) (badWords : List Nat) (frames : List (Nat × Nat)) (power : Power) (pending : List Instr) :
    State.mk variant regs mem now fresh xport gens plates gravers scens scheds unit lanes proofs tracers xh clk cal dram dma trust badWords frames power pending = State.lit variant regs mem now fresh xport gens plates gravers scens scheds unit lanes proofs tracers xh clk cal dram dma trust badWords frames power pending := rfl

/-- A state with other fields than the stores, the variant and the queue changed, and every length kept. -/
theorem Steady.lit {now : Nat} {fresh : Nat} {xport : Xport} {gens : List Gen} {plates : Plates} {gravers : List Graver} {scens : List ScenX} {scheds : List SchedX} {unit : CmdUnit} {lanes : Lanes} {proofs : List Proof} {tracers : List Tracer} {xh : Xh} {clk : Clk} {cal : Cal} {dram : Dram} {dma : Dma} {trust : Trust} {badWords : List Nat} {power : Power} (h : z.Steady u)
    (hl : [xport.sess.length, xport.ports.length, gens.length, gravers.length, scens.length, proofs.length, tracers.length, lanes.outs.length, lanes.lastEdge.length, clk.sync.slots.length, clk.sync.bad.length, dram.cool.length, dram.panicAt.length, dma.taken.length, dma.turn.length, trust.slots.length, power.okAt.length] = [u.xport.sess.length, u.xport.ports.length, u.gens.length, u.gravers.length, u.scens.length, u.proofs.length, u.tracers.length, u.lanes.outs.length, u.lanes.lastEdge.length, u.clk.sync.slots.length, u.clk.sync.bad.length, u.dram.cool.length, u.dram.panicAt.length, u.dma.taken.length, u.dma.turn.length, u.trust.slots.length, u.power.okAt.length]) :
    z.Steady (State.lit u.variant u.regs u.mem now fresh xport gens plates gravers scens scheds unit lanes proofs tracers xh clk cal dram dma trust badWords u.frames power u.pending) :=
  ⟨h.1, h.2.1, fun i => State.inv_of_lens (h.2.2 i).regs (h.2.2 i).mem (h.2.2 i).frames hl (h.2.2 i)⟩

/-- The same with the memory another list of the canonical form. -/
theorem Steady.litMem {now : Nat} {fresh : Nat} {xport : Xport} {gens : List Gen} {plates : Plates} {gravers : List Graver} {scens : List ScenX} {scheds : List SchedX} {unit : CmdUnit} {lanes : Lanes} {proofs : List Proof} {tracers : List Tracer} {xh : Xh} {clk : Clk} {cal : Cal} {dram : Dram} {dma : Dma} {trust : Trust} {badWords : List Nat} {power : Power} {mem : List Host.Cell} (h : z.Steady u) (hm : u.memWf → stWf memDefault mem = true)
    (hl : [xport.sess.length, xport.ports.length, gens.length, gravers.length, scens.length, proofs.length, tracers.length, lanes.outs.length, lanes.lastEdge.length, clk.sync.slots.length, clk.sync.bad.length, dram.cool.length, dram.panicAt.length, dma.taken.length, dma.turn.length, trust.slots.length, power.okAt.length] = [u.xport.sess.length, u.xport.ports.length, u.gens.length, u.gravers.length, u.scens.length, u.proofs.length, u.tracers.length, u.lanes.outs.length, u.lanes.lastEdge.length, u.clk.sync.slots.length, u.clk.sync.bad.length, u.dram.cool.length, u.dram.panicAt.length, u.dma.taken.length, u.dma.turn.length, u.trust.slots.length, u.power.okAt.length]) :
    z.Steady (State.lit u.variant u.regs mem now fresh xport gens plates gravers scens scheds unit lanes proofs tracers xh clk cal dram dma trust badWords u.frames power u.pending) :=
  ⟨h.1, h.2.1, fun i => State.inv_of_lens (h.2.2 i).regs (hm (h.2.2 i).mem) (h.2.2 i).frames hl (h.2.2 i)⟩

theorem Steady.of_snd {α : Type} {p : α × State} {a : α} (e : p = (a, t)) (h : z.Steady p.2) : z.Steady t := by rw [e] at h; exact h
theorem Steady.of_fst {α : Type} {p : State × α} {a : α} (e : p = (t, a)) (h : z.Steady p.1) : z.Steady t := by rw [e] at h; exact h
theorem Steady.of_act {r : Act} (e : r = .ok t) (h : z.SteadyAct r) : z.Steady t := h.of t e
theorem Steady.foldl {α : Type} {f : State → α → State} (l : List α) (h : z.Steady s) (hf : ∀ t x, z.Steady t → z.Steady (f t x)) :
    z.Steady (l.foldl f s) := by
  induction l generalizing s with
  | nil => exact h
  | cons x l ih => exact ih (hf _ _ h)
theorem SteadyAct.ok (h : z.Steady t) : z.SteadyAct (.ok t) := ⟨fun _ e => Except.ok.inj e ▸ h⟩
theorem SteadyAct.pure (h : z.Steady t) : z.SteadyAct (Pure.pure t) := SteadyAct.ok h
theorem SteadyAct.error (c : Code) : z.SteadyAct (.error c) := ⟨fun _ e => nomatch e⟩
theorem SteadyAct.throw (c : Code) : z.SteadyAct (throw c) := SteadyAct.error c
theorem SteadyAct.bind {α : Type} {x : Except Code α} {f : α → Act} (h : ∀ a, z.SteadyAct (f a)) : z.SteadyAct (x >>= f) := by
  cases x with
  | ok a => exact h a
  | error c => exact SteadyAct.error c
theorem SteadyAct.bind_act {x : Act} {f : State → Act} (hx : z.SteadyAct x) (h : ∀ t, z.Steady t → z.SteadyAct (f t)) : z.SteadyAct (x >>= f) := by
  cases x with
  | ok a => exact h a (hx.of a rfl)
  | error c => exact SteadyAct.error c
theorem SteadyOpt.some {r : Act} (h : z.SteadyAct r) : z.SteadyOpt (some r) := fun _ e => Option.some.inj e ▸ h
theorem SteadyOpt.none : z.SteadyOpt none := fun _ e => nomatch e
theorem Steady.of_opt {o : Option Act} {r : Act} (e : o = Option.some r) (h : z.SteadyOpt o) : z.SteadyAct r := h r e
theorem SteadyRead.ok {w : Word} (h : z.Steady t) : z.SteadyRead (.ok (w, t)) := ⟨fun _ _ e => (Prod.mk.inj (Except.ok.inj e)).2 ▸ h⟩
theorem SteadyRead.error (c : Code) : z.SteadyRead (.error c) := ⟨fun _ _ e => nomatch e⟩
theorem SteadyRead.bind {α : Type} {x : Except Code α} {f : α → Except Code (Word × State)} (h : ∀ a, z.SteadyRead (f a)) : z.SteadyRead (x >>= f) := by
  cases x with
  | ok a => exact h a
  | error c => exact SteadyRead.error c
theorem Steady.of_read {r : Except Code (Word × State)} {w : Word} (e : r = .ok (w, t)) (h : z.SteadyRead r) : z.Steady t := h.of w t e

/-! ### The stores -/

theorem State.wr_steady (h : z.Steady s) (key : Nat) (w : Word) : z.Steady (s.wr key w) :=
  ⟨h.1, h.2.1, fun i => State.inv_of_lens (u := s) (stSet_wf key w (h.2.2 i).regs) (h.2.2 i).mem (h.2.2 i).frames rfl (h.2.2 i)⟩
theorem State.dropRegs_steady (h : z.Steady s) (p : Nat → Bool) : z.Steady (s.dropRegs p) :=
  ⟨h.1, h.2.1, fun i => State.inv_of_lens (u := s) (stDrop_wf p (h.2.2 i).regs) (h.2.2 i).mem (h.2.2 i).frames rfl (h.2.2 i)⟩
theorem State.setMb_steady (h : z.Steady s) (a : Nat) (b : Byte) : z.Steady (s.setMb a b) := Steady.litMem h (fun m => stSet_wf a b m) rfl
theorem State.zero_steady (h : z.Steady s) (a n : Nat) : z.Steady (s.zero a n) := Steady.litMem h (fun m => stDrop_wf _ m) rfl
theorem State.st_steady (h : z.Steady s) (a v n : Nat) : z.Steady (s.st a v n) := by
  induction n generalizing s a v with
  | zero => exact h
  | succ n ih => exact ih (State.setMb_steady h _ _) _ _
theorem State.stBytes_steady (h : z.Steady s) (a : Nat) (l : List Byte) : z.Steady (s.stBytes a l) := by
  induction l generalizing s a with
  | nil => exact h
  | cons x l ih => exact ih (State.setMb_steady h _ _) _
theorem State.updSes_steady (h : z.Steady s) (k : Nat) (f : Sess → Sess) : z.Steady (s.updSes k f) := by
  unfold State.updSes
  refine Steady.lit h ?_
  simp only [List.cons.injEq, and_true]
  split
  · rfl
  · rw [List.length_modify]

/-! ### Flags -/

theorem State.fs_steady (h : z.Steady s) (b : Nat) (f : Field) (v : Nat) (i : Nat) : z.Steady (s.fs b f v i) := by
  unfold State.fs
  with_reducible repeat' first | assumption | apply State.wr_steady
theorem State.countBy_steady (h : z.Steady s) (b : Nat) (f : Field) (n : Nat) (i : Nat) : z.Steady (s.countBy b f n i) := by
  unfold State.countBy
  with_reducible repeat' first | assumption | apply State.fs_steady
theorem State.count_steady (h : z.Steady s) (b : Nat) (f : Field) (i : Nat) : z.Steady (s.count b f i) := by
  unfold State.count
  with_reducible repeat' first | assumption | apply State.countBy_steady
theorem State.wr64_steady (h : z.Steady s) (key v : Nat) : z.Steady (s.wr64 key v) := by
  unfold State.wr64
  with_reducible repeat' first | assumption | apply State.wr_steady
theorem State.inc64_steady (h : z.Steady s) (key : Nat) : z.Steady (s.inc64 key) := by
  unfold State.inc64
  with_reducible repeat' first | assumption | apply State.wr64_steady

/-! ### Ops -/

theorem State.stw_steady (h : z.Steady s) (a v : Nat) : z.Steady (s.stw a v) := by
  unfold State.stw
  with_reducible repeat' first | assumption | apply State.st_steady
theorem State.setMbits_steady (h : z.Steady s) (a hi lo v : Nat) : z.Steady (s.setMbits a hi lo v) := by
  unfold State.setMbits
  with_reducible repeat' first | assumption | apply State.stw_steady
theorem State.bump_steady (h : z.Steady s) : z.Steady (s.bump) := by
  unfold State.bump
  with_reducible repeat' first | assumption | rw [State.mk_lit] | apply Steady.lit | exact (rfl : (_ : List Nat) = _)
theorem State.setRaw_steady (h : z.Steady s) (k page code : Nat) : z.Steady (s.setRaw k page code) := by
  unfold State.setRaw
  with_reducible repeat' first | assumption | apply State.fs_steady
theorem State.queueNotice_steady (h : z.Steady s) (k : Nat) (n : Notice) : z.Steady (s.queueNotice k n) := by
  unfold State.queueNotice
  with_reducible repeat' first | assumption | apply State.updSes_steady | apply State.fs_steady | split
theorem State.notifyTo_steady (h : z.Steady s) (k : Nat) (n : Notice) : z.Steady (s.notifyTo k n) := by
  unfold State.notifyTo
  with_reducible repeat' first
      | assumption | apply State.setRaw_steady | apply State.queueNotice_steady | apply State.count_steady | apply State.fs_steady | split
theorem State.notifyAll_steady (h : z.Steady s) (n : Notice) : z.Steady (s.notifyAll n) := by
  unfold State.notifyAll
  with_reducible repeat' first | assumption | apply State.notifyTo_steady | apply Steady.foldl | intro _
theorem State.notify_steady (h : z.Steady s) (n : Notice) : z.Steady (s.notify n) := by
  unfold State.notify
  with_reducible repeat' first | assumption | apply State.notifyAll_steady | apply State.notifyTo_steady | split
theorem State.pageFault_steady (h : z.Steady s) (p code detail : Nat) : z.Steady (s.pageFault p code detail) := by
  unfold State.pageFault
  with_reducible repeat' first | assumption | apply State.fs_steady | split
theorem State.wire_steady (h : z.Steady s) (m : Sent) : z.Steady (s.wire m) := by
  unfold State.wire
  with_reducible repeat' first | assumption | rw [State.mk_lit] | apply Steady.lit | apply State.inc64_steady | exact (rfl : (_ : List Nat) = _)
theorem State.sendTo_steady (h : z.Steady s) (p dest udp k seq ack credits : Nat) (retry : Bool) (m : Msg) : z.Steady (s.sendTo p dest udp k seq ack credits retry m) := by
  unfold State.sendTo
  with_reducible repeat' first | assumption | apply State.wire_steady
theorem State.emit_steady (h : z.Steady s) (port k seq : Nat) (retry : Bool) (m : Msg) : z.Steady (s.emit port k seq retry m) := by
  unfold State.emit
  with_reducible repeat' first | assumption | apply State.sendTo_steady
theorem State.sendPlain_steady (h : z.Steady s) (k : Nat) (m : Msg) : z.Steady (s.sendPlain k m) := by
  unfold State.sendPlain
  with_reducible repeat' first | assumption | apply State.emit_steady
theorem State.returnCredit_steady (h : z.Steady s) (k : Nat) : z.Steady (s.returnCredit k) := by
  unfold State.returnCredit
  with_reducible repeat' first | assumption | apply State.updSes_steady
theorem State.sendRel_steady (h : z.Steady s) (k : Nat) (m : Msg) : z.Steady (s.sendRel k m) := by
  unfold State.sendRel
  with_reducible repeat' first | assumption | apply State.returnCredit_steady | apply State.emit_steady | apply State.updSes_steady | split

/-! ### Access -/

theorem State.plain_steady (h : z.Steady s) (k a : Nat) (w : Word) : z.Steady (s.plain k a w) := by
  unfold State.plain
  with_reducible repeat' first | assumption | apply State.wr_steady | split
theorem State.respond_steady (h : z.Steady s) (k seq : Nat) (c : Code) (done failAddr : Nat) (data : List Word) : z.Steady (s.respond k seq c done failAddr data) := by
  unfold State.respond
  with_reducible repeat' first | assumption | apply State.sendRel_steady
theorem State.postedFail_steady (h : z.Steady s) (k seq : Nat) (c : Code) (done failAddr : Nat) : z.Steady (s.postedFail k seq c done failAddr) := by
  unfold State.postedFail
  with_reducible repeat' first | assumption | apply State.returnCredit_steady | apply State.count_steady | apply State.notifyTo_steady
theorem State.report_steady (h : z.Steady s) (o : Org) (a : Nat) (r : Act) (hr : z.SteadyAct r) : z.Steady (s.report o a r) := by
  unfold State.report
  with_reducible repeat' first
      | assumption | exact (‹z.SteadyAct (Except.ok _)›).of _ rfl | apply State.returnCredit_steady | apply State.respond_steady
      | apply State.postedFail_steady | split
theorem State.hostReg_steady (h : z.Steady s) (o : Org) (a : Nat) (w : Word) (eff : State → Act) (heff : ∀ t, z.Steady t → z.SteadyAct (eff t)) : z.Steady (s.hostReg o a w eff) := by
  unfold State.hostReg
  with_reducible repeat' first
      | assumption | apply heff | apply State.report_steady | apply State.count_steady | apply SteadyAct.bind | split | intro _
theorem State.hostMem_steady (h : z.Steady s) (o : Org) (a : Nat) (eff : State → Act) (heff : ∀ t, z.Steady t → z.SteadyAct (eff t)) : z.Steady (s.hostMem o a eff) := by
  unfold State.hostMem
  with_reducible repeat' first | assumption | exact SteadyAct.error _ | apply heff | apply State.report_steady | apply State.count_steady | split

/-! ### Xlat -/

theorem State.setFrame_steady (h : z.Steady s) (f k : Nat) : z.Steady (s.setFrame f k) :=
  ⟨h.1, h.2.1, fun i => State.inv_of_lens (u := s) (h.2.2 i).regs (h.2.2 i).mem (stSet_wf f k (h.2.2 i).frames) rfl (h.2.2 i)⟩

/-! ### Ecc -/

theorem State.markBad_steady (h : z.Steady s) (a : Nat) : z.Steady (s.markBad a) := by
  unfold State.markBad
  with_reducible repeat' first | assumption | rw [State.mk_lit] | apply Steady.lit | split | exact (rfl : (_ : List Nat) = _)
theorem State.memUe_steady (h : z.Steady s) (a req inst : Nat) : z.Steady (s.memUe a req inst) := by
  unfold State.memUe
  with_reducible repeat' first
      | assumption | apply State.count_steady | apply State.wr64_steady | apply State.pageFault_steady | apply State.notify_steady | split
theorem State.spadUe_steady (h : z.Steady s) (dev req inst : Nat) : z.Steady (s.spadUe dev req inst) := by
  unfold State.spadUe
  with_reducible repeat' first
      | assumption | apply State.count_steady | apply State.wr64_steady | apply State.pageFault_steady | apply State.notify_steady
theorem State.lineUe_steady (h : z.Steady s) (a req inst : Nat) : z.Steady (s.lineUe a req inst) := by
  unfold State.lineUe
  with_reducible repeat' first | assumption | apply State.markBad_steady | apply State.spadUe_steady
theorem State.eccRead_steady (h : z.Steady s) (a req inst : Nat) : z.Steady (s.eccRead a req inst) := by
  unfold State.eccRead
  with_reducible repeat' first | assumption | apply State.memUe_steady | apply State.spadUe_steady | split
theorem State.hostEcc_steady (h : z.Steady s) (c : Code) (a : Nat) : z.Steady (s.hostEcc c a) := by
  unfold State.hostEcc
  with_reducible repeat' first | assumption | apply State.eccRead_steady | split

/-! ### Chain -/

theorem State.toGf_steady (h : z.Steady s) (c : Nat) : z.Steady (s.toGf c) := by
  unfold State.toGf
  with_reducible repeat' first | assumption | rw [State.mk_lit] | apply Steady.lit | exact (rfl : (_ : List Nat) = _)
theorem State.updGen_steady (h : z.Steady s) (n : Nat) (f : Gen → Gen) : z.Steady (s.updGen n f) := by
  unfold State.updGen
  with_reducible repeat' first | assumption | rw [State.mk_lit] | apply Steady.lit | (simp; done)
theorem State.logChainAt_steady (h : z.Steady s) (n c : Nat) : z.Steady (s.logChainAt n c) := by
  unfold State.logChainAt
  with_reducible repeat' first | assumption | apply State.updGen_steady
theorem State.logChain_steady (h : z.Steady s) (n : Nat) : z.Steady (s.logChain n) := by
  unfold State.logChain
  with_reducible repeat' first | assumption | apply State.logChainAt_steady
theorem State.chainPlain_steady (h : z.Steady s) (k n off : Nat) (w : Word) : z.Steady (s.chainPlain k n off w) := by
  unfold State.chainPlain
  with_reducible repeat' first | assumption | apply State.plain_steady | apply State.logChain_steady
theorem State.updProof_steady (h : z.Steady s) (n : Nat) (f : Proof → Proof) : z.Steady (s.updProof n f) := by
  unfold State.updProof
  with_reducible repeat' first | assumption | rw [State.mk_lit] | apply Steady.lit | (simp; done)
theorem State.setCauses_steady (h : z.Steady s) (n c0 : Nat) : z.Steady (s.setCauses n c0) := by
  unfold State.setCauses
  with_reducible repeat' first | assumption | apply State.fs_steady | apply State.logChain_steady | apply State.notify_steady | split | dsimp only
theorem State.mute_steady (h : z.Steady s) (n : Nat) (c : MuteCause) : z.Steady (s.mute n c) := by
  unfold State.mute
  with_reducible repeat' first | assumption | apply State.setCauses_steady
theorem State.unmute_steady (h : z.Steady s) (n : Nat) (c : MuteCause) : z.Steady (s.unmute n c) := by
  unfold State.unmute
  with_reducible repeat' first | assumption | apply State.setCauses_steady
theorem State.muteWrite_steady (h : z.Steady s) (n : Nat) (set clear proofToo : Bool) : z.Steady (s.muteWrite n set clear proofToo) := by
  unfold State.muteWrite
  with_reducible repeat' first | assumption | apply State.setCauses_steady
theorem State.chainWrite_steady (h : z.Steady s) (k n : Nat) (w : Word) : z.Steady (s.chainWrite k n w) := by
  unfold State.chainWrite
  with_reducible repeat' first
      | assumption | apply State.plain_steady | apply State.logChain_steady | apply State.updGen_steady | apply State.mute_steady | split
      | dsimp only

/-! ### Segments -/

theorem State.recordWrite_steady (h : z.Steady s) (k a own : Nat) (v : Nat) (releases : Bool) : z.SteadyAct (s.recordWrite k a own v releases) := by
  unfold State.recordWrite
  with_reducible repeat' first
      | assumption | exact SteadyAct.error _ | apply SteadyAct.ok | apply State.stw_steady | apply State.setMbits_steady | split
theorem State.dirWrite_steady (h : z.Steady s) (k a : Nat) (w : Word) : z.SteadyAct (s.dirWrite k a w) := by
  unfold State.dirWrite
  with_reducible repeat' first
      | assumption | lift_lets | (intro x; clear_value x) | exact SteadyAct.error _ | apply SteadyAct.ok | apply State.recordWrite_steady
      | apply State.setMbits_steady | split
theorem State.descWrite_steady (h : z.Steady s) (k a : Nat) (w : Word) : z.SteadyAct (s.descWrite k a w) := by
  unfold State.descWrite
  with_reducible repeat' first
      | assumption | lift_lets | (intro x; clear_value x) | exact SteadyAct.error _ | apply SteadyAct.ok | apply State.recordWrite_steady
      | apply State.setMbits_steady | split
theorem State.plateWrite_steady (h : z.Steady s) (k a : Nat) (w : Word) : z.SteadyAct (s.plateWrite k a w) := by
  unfold State.plateWrite
  with_reducible repeat' first | assumption | exact SteadyAct.error _ | apply SteadyAct.ok | apply State.stw_steady | split | dsimp only
theorem State.plateOp_steady (h : z.Steady s) (k p op : Nat) : z.Steady (s.plateOp k p op).2 := by
  unfold State.plateOp
  with_reducible repeat' first
      | assumption | rw [State.mk_lit] | apply Steady.lit | apply State.zero_steady | apply State.stw_steady | apply State.setMbits_steady | split
      | dsimp only
theorem State.plateCmd_steady (h : z.Steady s) (k p op : Nat) : z.SteadyAct (s.plateCmd k p op) := by
  unfold State.plateCmd
  with_reducible repeat' first
      | assumption | exact SteadyAct.error _ | apply SteadyAct.ok | rw [State.mk_lit] | apply Steady.lit | apply State.plateOp_steady
      | apply State.fs_steady | split | dsimp only
theorem State.plateFinish_steady (h : z.Steady s) : z.Steady (s.plateFinish) := by
  unfold State.plateFinish
  with_reducible repeat' first
      | assumption | rw [State.mk_lit] | apply Steady.lit | apply State.fs_steady | apply State.notifyTo_steady | split
      | exact (rfl : (_ : List Nat) = _)
theorem State.noteRewrite_steady (h : z.Steady s) (a n : Nat) : z.Steady (s.noteRewrite a n) := by
  unfold State.noteRewrite
  with_reducible repeat' first | assumption | rw [State.mk_lit] | apply Steady.lit | split | dsimp only
theorem State.refBy_steady (h : z.Steady s) (a hi lo : Nat) (up : Bool) : z.Steady (s.refBy a hi lo up) := by
  unfold State.refBy
  with_reducible repeat' first | assumption | apply State.setMbits_steady
theorem State.lateEnds_steady (h : z.Steady s) (n strokes : Nat) : z.Steady (s.lateEnds n strokes) := by
  unfold State.lateEnds
  with_reducible repeat' first
      | assumption | apply State.updGen_steady | apply State.countBy_steady | apply State.fs_steady | apply State.notifyTo_steady | split
theorem State.plateCmdBy_steady (h : z.Steady s) (o : Org) (plate op : Nat) : z.Steady (s.plateCmdBy o plate op) := by
  unfold State.plateCmdBy
  with_reducible repeat' first | assumption | apply State.hostReg_steady | apply State.plateCmd_steady | intro _

/-! ### Events -/

theorem State.setCh_steady (h : z.Steady s) (c : Nat) (f : Field) (v : Nat) : z.Steady (s.setCh c f v) := by
  unfold State.setCh
  with_reducible repeat' first | assumption | apply State.fs_steady
theorem State.setGrp_steady (h : z.Steady s) (g : Nat) (f : Field) (v : Nat) : z.Steady (s.setGrp g f v) := by
  unfold State.setGrp
  with_reducible repeat' first | assumption | apply State.fs_steady
theorem State.setLevel_steady (h : z.Steady s) (c t : Nat) (v : Bool) : z.Steady (s.setLevel c t v) := by
  unfold State.setLevel
  with_reducible repeat' first | assumption | rw [State.mk_lit] | apply Steady.lit | apply State.setCh_steady | split | dsimp only
theorem State.sourceTo_steady (h : z.Steady s) (c : Nat) (v : Bool) : z.Steady (s.sourceTo c v) := by
  unfold State.sourceTo
  with_reducible repeat' first | assumption | apply State.setLevel_steady
theorem State.groupSet_steady (h : z.Steady s) (g : Nat) (enable : Bool) : z.Steady (s.groupSet g enable) := by
  unfold State.groupSet
  with_reducible repeat' first | assumption | rw [State.mk_lit] | apply Steady.lit | apply State.setGrp_steady | dsimp only
theorem State.acct_steady (h : z.Steady s) (code off : Nat) : z.Steady (s.acct code off) := by
  unfold State.acct
  with_reducible repeat' first | assumption | apply State.st_steady
theorem State.suppress_steady (h : z.Steady s) (code off : Nat) : z.Steady (s.suppress code off) := by
  unfold State.suppress
  with_reducible repeat' first | assumption | apply State.acct_steady | apply State.setMbits_steady
theorem State.overrun_steady (h : z.Steady s) (code : Nat) : z.Steady (s.overrun code) := by
  unfold State.overrun
  with_reducible repeat' first | assumption | apply State.acct_steady | apply State.setMbits_steady
theorem State.mergeCount_steady (h : z.Steady s) (code : Nat) (y0 : Nat) : z.Steady (s.mergeCount code y0) := by
  induction y0 generalizing s code with
  | zero =>
    unfold State.mergeCount
    with_reducible repeat' first | assumption | apply State.suppress_steady
  | succ n ih =>
    unfold State.mergeCount
    with_reducible repeat' first | assumption | apply ih | apply State.suppress_steady
theorem State.publishAt_steady (h : z.Steady s) (c p : Nat) : z.Steady (s.publishAt c p) := by
  unfold State.publishAt
  with_reducible repeat' first | assumption | rw [State.mk_lit] | apply Steady.lit | apply State.setCh_steady | split | dsimp only
theorem State.publish_steady (h : z.Steady s) (c : Nat) : z.Steady (s.publish c) := by
  unfold State.publish
  with_reducible repeat' first | assumption | apply State.publishAt_steady
theorem State.publishBy_steady (h : z.Steady s) (prod : Nat) : z.Steady (s.publishBy prod) := by
  unfold State.publishBy
  with_reducible repeat' first | assumption | apply State.publish_steady | split
theorem State.sourceLevel_steady (h : z.Steady s) (prod : Nat) (level : Bool) : z.Steady (s.sourceLevel prod level) := by
  unfold State.sourceLevel
  with_reducible repeat' first | assumption | apply State.sourceTo_steady | split
theorem State.judgeFor_steady (h : z.Steady s) (c merged code : Nat) : z.Steady (s.judgeFor c merged code) := by
  unfold State.judgeFor
  with_reducible repeat' first
      | assumption | rw [State.mk_lit] | apply Steady.lit | apply State.suppress_steady | apply State.mergeCount_steady | split | dsimp only
theorem State.eventLevel_steady (h : z.Steady s) (c : Nat) : z.Steady (s.eventLevel c) := by
  unfold State.eventLevel
  with_reducible repeat' first | assumption | apply State.setLevel_steady | split | dsimp only
theorem State.fabricTick_steady (h : z.Steady s) (c merged : Nat) : z.Steady (s.fabricTick c merged) := by
  unfold State.fabricTick
  with_reducible repeat' first
      | assumption | rw [State.mk_lit] | apply Steady.lit | apply State.eventLevel_steady | apply State.judgeFor_steady | apply State.setGrp_steady
      | apply Steady.foldl | split | intro _ | dsimp only
theorem State.resetCh_steady (h : z.Steady s) (c : Nat) : z.Steady (s.resetCh c) := by
  unfold State.resetCh
  with_reducible repeat' first | assumption | rw [State.mk_lit] | apply Steady.lit | apply State.dropRegs_steady | exact (rfl : (_ : List Nat) = _)
theorem State.chanOp_steady (h : z.Steady s) (k op x : Nat) : z.Steady (s.chanOp k op x).2 := by
  unfold State.chanOp
  with_reducible repeat' first | assumption | apply State.setCh_steady | apply State.resetCh_steady | apply State.setGrp_steady | split
theorem State.chanCmd_steady (h : z.Steady s) (k op x : Nat) : z.SteadyAct (s.chanCmd k op x) := by
  unfold State.chanCmd
  with_reducible repeat' first
      | assumption | exact SteadyAct.error _ | apply SteadyAct.ok | apply State.chanOp_steady | apply State.fs_steady | apply State.notifyTo_steady
      | split
theorem State.chCfg_steady (h : z.Steady s) (k c : Nat) (w : Word) : z.SteadyAct (s.chCfg k c w) := by
  unfold State.chCfg
  with_reducible repeat' first
      | assumption | exact SteadyAct.error _ | apply SteadyAct.ok | apply State.setCh_steady | apply State.setLevel_steady | split | dsimp only
theorem State.groupWrite_steady (h : z.Steady s) (k g : Nat) (enable disable : Bool) : z.SteadyAct (s.groupWrite k g enable disable) := by
  unfold State.groupWrite
  with_reducible repeat' first | assumption | exact SteadyAct.error _ | apply SteadyAct.ok | apply State.groupSet_steady | split
theorem State.injectOp_steady (h : z.Steady s) (k c : Nat) : z.SteadyAct (s.injectOp k c) := by
  unfold State.injectOp
  with_reducible repeat' first
      | assumption | exact SteadyAct.error _ | apply SteadyAct.ok | apply State.publishAt_steady | apply State.count_steady | split
theorem State.subWrite_steady (h : z.Steady s) (k a : Nat) (w : Word) : z.SteadyAct (s.subWrite k a w) := by
  unfold State.subWrite
  with_reducible repeat' first | assumption | exact SteadyAct.error _ | apply SteadyAct.ok | apply State.plain_steady | split | dsimp only
theorem State.chanCmdBy_steady (h : z.Steady s) (o : Org) (op x : Nat) : z.Steady (s.chanCmdBy o op x) := by
  unfold State.chanCmdBy
  with_reducible repeat' first | assumption | apply State.hostReg_steady | apply State.chanCmd_steady | intro _

end Sys2Proof.Machine
end

