-- ==== Sys2Proof/Laws/SteadyEngines.lean ====
section
/-! SUPPORT. Sys2Proof/Laws/SteadyEngines.lean: what the operations of the engines that play, capture, trace and prove keep: the variant, the queue of commands and the
invariant, each lemma over a state that is steady from `z` (Sys2Proof/Laws/Steady.lean). -/
namespace Sys2Proof.Machine
open Sys2Proof
variable {z s u t : State}

/-! ### Graver -/

theorem State.checkEcc_steady (h : z.Steady s) (c : Code) (win kind num step : Nat) : z.Steady (s.checkEcc c win kind num step) := by
  unfold State.checkEcc
  with_reducible repeat' first | assumption | apply State.eccRead_steady | split
theorem State.countRefs_steady (h : z.Steady s) (r : Refs) (up : Bool) : z.Steady (s.countRefs r up) := by
  unfold State.countRefs
  with_reducible repeat' first | assumption | apply State.refBy_steady | apply State.setCh_steady | apply Steady.foldl | intro _
theorem State.updScn_steady (h : z.Steady s) (k : Nat) (f : ScenX → ScenX) : z.Steady (s.updScn k f) := by
  unfold State.updScn
  with_reducible repeat' first | assumption | rw [State.mk_lit] | apply Steady.lit | (simp; done)
theorem State.setRefs_steady (h : z.Steady s) (k : Nat) (r : Refs) : z.Steady (s.setRefs k r) := by
  unfold State.setRefs
  with_reducible repeat' first | assumption | apply State.countRefs_steady | apply State.updScn_steady
theorem State.updGrv_steady (h : z.Steady s) (g : Nat) (f : Graver → Graver) : z.Steady (s.updGrv g f) := by
  unfold State.updGrv
  with_reducible repeat' first | assumption | rw [State.mk_lit] | apply Steady.lit | (simp; done)
theorem State.playStrokes_steady (h : z.Steady s) (g n : Nat) : z.Steady (s.playStrokes g n) := by
  unfold State.playStrokes
  with_reducible repeat' first
      | assumption | rw [State.mk_lit] | apply Steady.lit | apply State.updGrv_steady | apply State.updGen_steady | dsimp only
theorem State.refillFor_steady (h : z.Steady s) (g i : Nat) (next : Option Nat) : z.Steady (s.refillFor g i next) := by
  unfold State.refillFor
  with_reducible repeat' first | assumption | apply State.fs_steady | apply State.updGrv_steady
theorem State.refill_steady (h : z.Steady s) (g i : Nat) : z.Steady (s.refill g i) := by
  unfold State.refill
  with_reducible repeat' first | assumption | apply State.refillFor_steady
theorem State.refillEntry_steady (h : z.Steady s) (g i : Nat) : z.Steady (s.refillEntry g i) := by
  unfold State.refillEntry
  with_reducible repeat' first | assumption | apply State.refillFor_steady
theorem State.fillNext_steady (h : z.Steady s) (g : Nat) : z.Steady (s.fillNext g) := by
  unfold State.fillNext
  with_reducible repeat' first | assumption | apply State.fs_steady | apply State.updGrv_steady | split
theorem State.loadSlots_steady (h : z.Steady s) (g : Nat) : z.Steady (s.loadSlots g) := by
  unfold State.loadSlots
  with_reducible repeat' first | assumption | apply State.updGen_steady | split
theorem State.markLate_steady (h : z.Steady s) (g : Nat) : z.Steady (s.markLate g) := by
  unfold State.markLate
  with_reducible repeat' first | assumption | apply State.lateEnds_steady | apply State.updGen_steady | split | dsimp only
theorem State.showStylus_steady (h : z.Steady s) (g : Nat) : z.Steady (s.showStylus g) := by
  unfold State.showStylus
  with_reducible repeat' first | assumption | apply State.fs_steady | split | dsimp only
theorem State.enterStep_steady (h : z.Steady s) (g i : Nat) : z.Steady (s.enterStep g i) := by
  unfold State.enterStep
  with_reducible repeat' first
      | assumption | apply State.fs_steady | apply State.updGrv_steady | apply State.updGen_steady | apply State.markLate_steady
      | apply State.showStylus_steady | apply State.loadSlots_steady | split
theorem State.publishDone_steady (h : z.Steady s) (g : Nat) : z.Steady (s.publishDone g) := by
  unfold State.publishDone
  with_reducible repeat' first | assumption | apply State.publish_steady | split
theorem State.clearLoops_steady (h : z.Steady s) (g : Nat) : z.Steady (s.clearLoops g) := by
  unfold State.clearLoops
  with_reducible repeat' first | assumption | apply State.fs_steady
theorem State.loopStep_steady (h : z.Steady s) (g : Nat) (e : Step) : z.Steady (s.loopStep g e).2 := by
  unfold State.loopStep
  with_reducible repeat' first | assumption | apply State.fs_steady | split | dsimp only
theorem State.endSequence_steady (h : z.Steady s) (g step : Nat) (ecc : Bool) : z.Steady (s.endSequence g step ecc) := by
  unfold State.endSequence
  with_reducible repeat' first | assumption | apply State.fs_steady | apply State.updGrv_steady | apply State.notify_steady
theorem State.tableEnd_steady (h : z.Steady s) (g step : Nat) : z.Steady (s.tableEnd g step) := by
  unfold State.tableEnd
  with_reducible repeat' first | assumption | apply State.eccRead_steady | apply State.pageFault_steady | apply State.endSequence_steady
theorem State.goTo_steady (h : z.Steady s) (g i : Nat) : z.Steady (s.goTo g i) := by
  unfold State.goTo
  with_reducible repeat' first | assumption | apply State.tableEnd_steady | apply State.enterStep_steady | split
theorem State.overrunN_steady (h : z.Steady s) (code : Nat) (y0 : Nat) : z.Steady (s.overrunN code y0) := by
  induction y0 generalizing s code with
  | zero =>
    unfold State.overrunN
    with_reducible repeat' first | assumption | apply State.overrun_steady
  | succ n ih =>
    unfold State.overrunN
    with_reducible repeat' first | assumption | apply ih | apply State.overrun_steady
theorem State.overrunBy_steady (h : z.Steady s) (g : Nat) (chans : List Nat) : z.Steady (s.overrunBy g chans) := by
  unfold State.overrunBy
  with_reducible repeat' first | assumption | apply State.countBy_steady | apply State.overrunN_steady | apply State.notify_steady | split
theorem State.countFill_steady (h : z.Steady s) (g n : Nat) : z.Steady (s.countFill g n) := by
  unfold State.countFill
  with_reducible repeat' first | assumption | apply State.countBy_steady | split
theorem State.landing_steady (h : z.Steady s) (g slot target : Nat) (filled : Nat × Nat) : z.Steady (s.landing g slot target filled) := by
  unfold State.landing
  with_reducible repeat' first
      | assumption | apply State.count_steady | apply State.countFill_steady | apply State.updGrv_steady | apply State.notify_steady | split
theorem State.landed_steady (h : z.Steady s) (g via role : Nat) : z.Steady (s.landed g via role) := by
  unfold State.landed
  with_reducible repeat' first | assumption | apply State.updGrv_steady
theorem State.rollSets_steady (h : z.Steady s) (g : Nat) : z.Steady (s.rollSets g) := by
  unfold State.rollSets
  with_reducible repeat' first | assumption | apply State.fs_steady | apply State.updGrv_steady | apply State.fillNext_steady
theorem State.jumpSets_steady (h : z.Steady s) (g target : Nat) : z.Steady (s.jumpSets g target) := by
  unfold State.jumpSets
  with_reducible repeat' first | assumption | apply State.refill_steady | apply State.fillNext_steady
theorem State.completeStep_steady (h : z.Steady s) (g : Nat) (cut : Bool) : z.Steady (s.completeStep g cut) := by
  unfold State.completeStep
  with_reducible repeat' first
      | assumption | apply State.publishDone_steady | apply State.loopStep_steady | apply State.goTo_steady | apply State.jumpSets_steady
      | apply State.rollSets_steady | apply State.endSequence_steady | split | dsimp only
theorem State.copyMem_steady (h : z.Steady s) (lo n dst : Nat) : z.Steady (s.copyMem lo n dst) :=
  Steady.litMem h (fun m => stSets_wf _ (stDrop_wf _ m)) rfl
theorem State.swapTables_steady (h : z.Steady s) (g : Nat) : z.Steady (s.swapTables g) :=
  Steady.litMem h (fun m => stSets_wf _ (stDrop_wf _ m)) rfl
theorem State.takeSubs_steady (h : z.Steady s) (g : Nat) (entries : List Nat) : z.Steady (s.takeSubs g entries) := by
  unfold State.takeSubs
  with_reducible repeat' first | assumption | rw [State.mk_lit] | apply Steady.lit | dsimp only
theorem State.commitDone_steady (h : z.Steady s) (g time : Nat) : z.Steady (s.commitDone g time) := by
  unfold State.commitDone
  with_reducible repeat' first | assumption | apply State.fs_steady | apply State.updGrv_steady | apply State.notify_steady
theorem State.exchange_steady (h : z.Steady s) (g : Nat) : z.Steady (s.exchange g) := by
  unfold State.exchange
  with_reducible repeat' first
      | assumption | apply State.swapTables_steady | apply State.setRefs_steady | apply State.takeSubs_steady | apply State.refillEntry_steady
      | apply State.commitDone_steady | apply Steady.foldl | split | intro _
theorem State.commitEnter_steady (h : z.Steady s) (g : Nat) : z.Steady (s.commitEnter g) := by
  unfold State.commitEnter
  with_reducible repeat' first
      | assumption | apply State.publishDone_steady | apply State.swapTables_steady | apply State.goTo_steady | apply State.clearLoops_steady
      | apply State.setRefs_steady | apply State.takeSubs_steady | apply State.fs_steady | apply State.fillNext_steady | apply State.wr64_steady
      | apply State.landed_steady | apply State.updGrv_steady | apply State.commitDone_steady | apply Steady.foldl | intro _
theorem State.commitWithdraw_steady (h : z.Steady s) (g : Nat) : z.Steady (s.commitWithdraw g) := by
  unfold State.commitWithdraw
  with_reducible repeat' first
      | assumption | apply State.fs_steady | apply State.setRefs_steady | apply State.updGrv_steady | apply State.notify_steady | apply Steady.foldl
      | split | intro _
theorem State.commitGo_steady (h : z.Steady s) (g : Nat) : z.SteadyAct (s.commitGo g) := by
  unfold State.commitGo
  with_reducible repeat' first
      | assumption | exact SteadyAct.error _ | apply SteadyAct.ok | apply State.exchange_steady | apply State.fs_steady | apply State.updGrv_steady
      | split
theorem State.commitCmd_steady (h : z.Steady s) (g : Nat) (cancel go : Bool) : z.SteadyAct (s.commitCmd g cancel go) := by
  unfold State.commitCmd
  with_reducible repeat' first | assumption | apply SteadyAct.ok | apply State.commitWithdraw_steady | apply State.commitGo_steady | split
theorem State.commitRefuse_steady (h : z.Steady s) (g : Nat) (r : Refused) (w2 w3 : Nat) : z.Steady (s.commitRefuse g r w2 w3) := by
  unfold State.commitRefuse
  with_reducible repeat' first | assumption | apply State.fs_steady | apply State.notify_steady
theorem State.commitCheck_steady (h : z.Steady s) (g : Nat) : z.Steady (s.commitCheck g) := by
  unfold State.commitCheck
  with_reducible repeat' first
      | assumption | rw [State.mk_lit] | apply Steady.lit | apply State.checkEcc_steady | apply State.commitRefuse_steady
      | apply State.setRefs_steady | apply State.fs_steady | apply State.updGrv_steady | apply Steady.foldl | split | intro _ | dsimp only
theorem State.commitReady_steady (h : z.Steady s) (g : Nat) : z.Steady (s.commitReady g) := by
  unfold State.commitReady
  with_reducible repeat' first | assumption | apply State.fs_steady | apply State.exchange_steady | split
theorem State.stopExchange_steady (h : z.Steady s) (g : Nat) : z.Steady (s.stopExchange g) := by
  unfold State.stopExchange
  with_reducible repeat' first | assumption | apply State.exchange_steady | split
theorem State.jump_steady (h : z.Steady s) (g slot strokes : Nat) (others : List Nat) (filled : Nat × Nat) : z.Steady (s.jump g slot strokes others filled) := by
  unfold State.jump
  with_reducible repeat' first
      | assumption | apply State.playStrokes_steady | apply State.overrunBy_steady | apply State.count_steady | apply State.overrun_steady
      | apply State.commitEnter_steady | apply State.landing_steady | apply State.publishDone_steady | apply State.clearLoops_steady
      | apply State.goTo_steady | apply State.jumpSets_steady | apply State.landed_steady | apply State.wr64_steady
      | apply State.stopExchange_steady | split | dsimp only
theorem State.jumpCancel_steady (h : z.Steady s) (g slot : Nat) (byMask : Bool) : z.Steady (s.jumpCancel g slot byMask) := by
  unfold State.jumpCancel
  with_reducible repeat' first | assumption | apply State.count_steady | apply State.overrun_steady | apply State.fs_steady | split
theorem State.servedBy4_steady (h : z.Steady s) (g : Nat) (filled : Nat × Nat) (cut : Bool) : z.Steady (s.servedBy4 g filled cut) := by
  unfold State.servedBy4
  with_reducible repeat' first | assumption | apply State.landing_steady | apply State.completeStep_steady | apply State.landed_steady | split
theorem State.advanceStep_steady (h : z.Steady s) (g strokes : Nat) (others event : List Nat) (filled : Nat × Nat) (cut : Bool) : z.Steady (s.advanceStep g strokes others event filled cut) := by
  unfold State.advanceStep
  with_reducible repeat' first
      | assumption | apply State.playStrokes_steady | apply State.overrunBy_steady | apply State.commitEnter_steady | apply State.servedBy4_steady
      | apply State.stopExchange_steady | split | dsimp only
theorem State.timeStep_steady (h : z.Steady s) (g : Nat) (filled : Nat × Nat) : z.Steady (s.timeStep g filled) := by
  unfold State.timeStep
  with_reducible repeat' first | assumption | apply State.notifyTo_steady | apply State.advanceStep_steady | split
theorem State.latch_steady (h : z.Steady s) (g : Nat) : z.Steady (s.latch g) := by
  unfold State.latch
  with_reducible repeat' first | assumption | apply State.overrunBy_steady | apply State.updGrv_steady | split
theorem State.passEnd_steady (h : z.Steady s) (g : Nat) (filled : Nat × Nat) : z.Steady (s.passEnd g filled) := by
  unfold State.passEnd
  with_reducible repeat' first
      | assumption | apply State.timeStep_steady | apply State.playStrokes_steady | apply State.fs_steady | apply State.updGrv_steady
      | apply State.commitEnter_steady | apply State.count_steady | apply State.notify_steady | apply State.servedBy4_steady
      | apply State.completeStep_steady | apply State.stopExchange_steady | apply State.updGen_steady | split | dsimp only
theorem State.tableEcc_steady (h : z.Steady s) (g step strokes : Nat) : z.Steady (s.tableEcc g step strokes) := by
  unfold State.tableEcc
  with_reducible repeat' first
      | assumption | apply State.playStrokes_steady | apply State.publishDone_steady | apply State.tableEnd_steady | apply State.stopExchange_steady
      | split
theorem State.shadowWrite_steady (h : z.Steady s) (k a : Nat) (w : Word) : z.SteadyAct (s.shadowWrite k a w) := by
  unfold State.shadowWrite
  with_reducible repeat' first | assumption | exact SteadyAct.error _ | apply SteadyAct.ok | apply State.stw_steady | split | dsimp only
theorem State.capacityWrite_steady (h : z.Steady s) (g c : Nat) : z.SteadyAct (s.capacityWrite g c) := by
  unfold State.capacityWrite
  with_reducible repeat' first
      | assumption | exact SteadyAct.error _ | apply SteadyAct.ok | rw [State.mk_lit] | apply Steady.lit | apply State.zero_steady
      | apply State.fs_steady | split | dsimp only

/-! ### Tracer -/

theorem State.updTrc_steady (h : z.Steady s) (n : Nat) (f : Tracer → Tracer) : z.Steady (s.updTrc n f) := by
  unfold State.updTrc
  with_reducible repeat' first | assumption | rw [State.mk_lit] | apply Steady.lit | (simp; done)
theorem State.toCycle_steady (h : z.Steady s) (n q : Nat) : z.Steady (s.toCycle n q) := by
  unfold State.toCycle
  with_reducible repeat' first | assumption | rw [State.mk_lit] | apply Steady.lit | exact (rfl : (_ : List Nat) = _)
theorem State.pushMark_steady (h : z.Steady s) (n : Nat) (m : Mark) : z.Steady (s.pushMark n m) := by
  unfold State.pushMark
  with_reducible repeat' first | assumption | apply State.updTrc_steady
theorem State.endSpan_steady (h : z.Steady s) (n i code : Nat) : z.Steady (s.endSpan n i code) := by
  unfold State.endSpan
  with_reducible repeat' first | assumption | apply State.updTrc_steady
theorem State.newSpan_steady (h : z.Steady s) (n i : Nat) : z.Steady (s.newSpan n i) := by
  unfold State.newSpan
  with_reducible repeat' first | assumption | apply State.updTrc_steady
theorem State.storeBlock_steady (h : z.Steady s) (n : Nat) (bytes : List Byte) (raw firstC time : Nat) : z.Steady (s.storeBlock n bytes raw firstC time) := by
  unfold State.storeBlock
  with_reducible repeat' first
      | assumption | apply State.noteRewrite_steady | apply State.stBytes_steady | apply State.stw_steady | apply State.updTrc_steady
theorem State.gapReport_steady (h : z.Steady s) (n : Nat) (g : GapEpisode) : z.Steady (s.gapReport n g) := by
  unfold State.gapReport
  with_reducible repeat' first | assumption | apply State.count_steady | apply State.notify_steady
theorem State.holdMarks_steady (h : z.Steady s) (n : Nat) (g : GapEpisode) (ms : List Mark) : z.Steady (s.holdMarks n g ms) := by
  unfold State.holdMarks
  with_reducible repeat' first | assumption | apply State.countBy_steady | apply State.updTrc_steady
theorem State.discard_steady (h : z.Steady s) (n count m cause : Nat) : z.Steady (s.discard n count m cause) := by
  unfold State.discard
  with_reducible repeat' first | assumption | apply State.updTrc_steady | apply State.holdMarks_steady
theorem State.gapOver_steady (h : z.Steady s) (n : Nat) : z.Steady (s.gapOver n) := by
  unfold State.gapOver
  with_reducible repeat' first | assumption | apply State.gapReport_steady | apply State.updTrc_steady | split
theorem State.emitBlock_steady (h : z.Steady s) (n close count m : Nat) (fifo : Bool) : z.Steady (s.emitBlock n close count m fifo) := by
  unfold State.emitBlock
  with_reducible repeat' first
      | assumption | apply State.discard_steady | apply State.gapReport_steady | apply State.updTrc_steady | apply State.storeBlock_steady | split
      | dsimp only
theorem State.closeBlock_steady (h : z.Steady s) (n : Nat) (flush fifo : Bool) : z.Steady (s.closeBlock n flush fifo) := by
  unfold State.closeBlock
  with_reducible repeat' first
      | assumption | rw [State.mk_lit] | apply Steady.lit | apply State.gapOver_steady | apply State.emitBlock_steady | split | dsimp only
theorem State.dropPassed_steady (h : z.Steady s) (n : Nat) : z.Steady (s.dropPassed n) := by
  unfold State.dropPassed
  with_reducible repeat' first | assumption | apply State.discard_steady | split
theorem State.ringFreed_steady (h : z.Steady s) (n : Nat) : z.Steady (s.ringFreed n) := by
  unfold State.ringFreed
  with_reducible repeat' first | assumption | apply State.dropPassed_steady | apply State.gapOver_steady | apply Steady.foldl | split | intro _
theorem State.acctLatch_steady (h : z.Steady s) (n : Nat) : z.Steady (s.acctLatch n) := by
  unfold State.acctLatch
  with_reducible repeat' first | assumption | apply State.wr64_steady
theorem State.passMark_steady (h : z.Steady s) (n : Nat) : z.Steady (s.passMark n) := by
  unfold State.passMark
  with_reducible repeat' first | assumption | apply State.updTrc_steady | apply State.pushMark_steady | split
theorem State.passDone_steady (h : z.Steady s) (n : Nat) : z.Steady (s.passDone n) := by
  unfold State.passDone
  with_reducible repeat' first | assumption | apply State.passMark_steady | split
theorem State.acqEnd_steady (h : z.Steady s) (n cause e : Nat) : z.Steady (s.acqEnd n cause e) := by
  unfold State.acqEnd
  with_reducible repeat' first
      | assumption | apply State.passMark_steady | apply State.updTrc_steady | apply State.endSpan_steady | apply State.pushMark_steady
      | apply State.fs_steady | apply State.notify_steady | split
theorem State.acqCut_steady (h : z.Steady s) (n : Nat) : z.Steady (s.acqCut n) := by
  unfold State.acqCut
  with_reducible repeat' first | assumption | apply State.acqEnd_steady
theorem State.endDue_steady (h : z.Steady s) (n : Nat) : z.Steady (s.endDue n) := by
  unfold State.endDue
  with_reducible repeat' first | assumption | apply State.acqEnd_steady | split
theorem State.stopAt_steady (h : z.Steady s) (n p cause : Nat) : z.Steady (s.stopAt n p cause) := by
  unfold State.stopAt
  with_reducible repeat' first | assumption | apply State.updTrc_steady | split
theorem State.stopFrom_steady (h : z.Steady s) (n t : Nat) : z.Steady (s.stopFrom n t) := by
  unfold State.stopFrom
  with_reducible repeat' first | assumption | apply State.updTrc_steady | apply State.endDue_steady | split
theorem State.packRest_steady (h : z.Steady s) (n : Nat) : z.Steady (s.packRest n) := by
  unfold State.packRest
  with_reducible repeat' first | assumption | apply State.closeBlock_steady | apply Steady.foldl | intro _
theorem State.acqBegin_steady (h : z.Steady s) (n q k : Nat) : z.Steady (s.acqBegin n q k) := by
  unfold State.acqBegin
  with_reducible repeat' first
      | assumption | apply State.packRest_steady | apply State.updTrc_steady | apply State.fs_steady | apply State.pushMark_steady
theorem State.beginDue_steady (h : z.Steady s) (n : Nat) : z.Steady (s.beginDue n) := by
  unfold State.beginDue
  with_reducible repeat' first | assumption | apply State.acqBegin_steady | apply State.stopFrom_steady | split
theorem State.capDue_steady (h : z.Steady s) (n : Nat) : z.Steady (s.capDue n) := by
  unfold State.capDue
  with_reducible repeat' first | assumption | apply State.beginDue_steady | apply State.endDue_steady
theorem State.capsDue_steady (h : z.Steady s) : z.Steady (s.capsDue) := by
  unfold State.capsDue
  with_reducible repeat' first | assumption | apply State.capDue_steady | apply Steady.foldl | intro _
theorem State.acqPass_steady (h : z.Steady s) (n t k : Nat) : z.Steady (s.acqPass n t k) := by
  unfold State.acqPass
  with_reducible repeat' first | assumption | apply State.updTrc_steady | apply State.pushMark_steady
theorem State.setCharges_steady (h : z.Steady s) (l : List Charge) : z.Steady (s.setCharges l) := by
  unfold State.setCharges
  with_reducible repeat' first | assumption | rw [State.mk_lit] | apply Steady.lit | exact (rfl : (_ : List Nat) = _)
theorem State.ringRecheck_steady (_h : z.Steady s) (t : State) (n : Nat) (ht : z.Steady t) : z.SteadyAct (s.ringRecheck t n) := by
  unfold State.ringRecheck
  with_reducible repeat' first | assumption | exact SteadyAct.error _ | apply SteadyAct.ok | apply State.setCharges_steady | split

/-! ### Capture -/

theorem State.inCfgWrite_steady (h : z.Steady s) (k n : Nat) (w : Word) : z.Steady (s.inCfgWrite k n w) := by
  unfold State.inCfgWrite
  with_reducible repeat' first | assumption | apply State.plain_steady | apply State.fs_steady
theorem State.protectEnter_steady (h : z.Steady s) (n c : Nat) : z.Steady (s.protectEnter n c) := by
  unfold State.protectEnter
  with_reducible repeat' first
      | assumption | apply State.toCycle_steady | apply State.fs_steady | apply State.count_steady | apply State.pageFault_steady
      | apply State.notify_steady | apply State.pushMark_steady | split | dsimp only
theorem State.protectLeave_steady (h : z.Steady s) (n c : Nat) : z.Steady (s.protectLeave n c) := by
  unfold State.protectLeave
  with_reducible repeat' first | assumption | apply State.fs_steady | apply State.toCycle_steady | apply State.pushMark_steady | split
theorem State.takeTrigger_steady (h : z.Steady s) (n : Nat) (r : TrigRec) : z.Steady (s.takeTrigger n r) := by
  unfold State.takeTrigger
  with_reducible repeat' first | assumption | apply State.updTrc_steady
theorem State.judgeTriggers_steady (h : z.Steady s) (n : Nat) (l : List TrigRec) : z.Steady (s.judgeTriggers n l) := by
  unfold State.judgeTriggers
  with_reducible repeat' first | assumption | apply State.countBy_steady | apply State.takeTrigger_steady | split | dsimp only
theorem State.unitCycle_steady (h : z.Steady s) (n q : Nat) : z.Steady (s.unitCycle n q) := by
  unfold State.unitCycle
  with_reducible repeat' first | assumption | apply State.updTrc_steady | apply State.judgeTriggers_steady | split | dsimp only
theorem State.unitRun_steady (h : z.Steady s) (n : Nat) : z.Steady (s.unitRun n) := by
  unfold State.unitRun
  with_reducible repeat' first | assumption | apply State.unitCycle_steady | apply Steady.foldl | intro _
theorem State.clips_steady (h : z.Steady s) (n q : Nat) (xs : List Int) : z.Steady (s.clips n q xs) := by
  unfold State.clips
  with_reducible repeat' first | assumption | apply State.countBy_steady | apply State.notify_steady | split | dsimp only
theorem State.takeRaw_steady (h : z.Steady s) (n : Nat) (raw : List Int) : z.Steady (s.takeRaw n raw) := by
  unfold State.takeRaw
  with_reducible repeat' first
      | assumption | apply State.capDue_steady | apply State.clips_steady | apply State.updTrc_steady | apply State.toCycle_steady
      | apply State.endDue_steady | apply State.unitRun_steady | apply State.passDone_steady | split | dsimp only
theorem State.trigEvent_steady (h : z.Steady s) (n : Nat) : z.Steady (s.trigEvent n).2 := by
  unfold State.trigEvent
  with_reducible repeat' first | assumption | apply State.count_steady | apply State.takeTrigger_steady | split | dsimp only
theorem State.unitFlush_steady (h : z.Steady s) (n : Nat) : z.Steady (s.unitFlush n) := by
  unfold State.unitFlush
  with_reducible repeat' first | assumption | apply State.unitCycle_steady | apply Steady.foldl | intro _
theorem State.trigReset_steady (h : z.Steady s) (n : Nat) : z.Steady (s.trigReset n) := by
  unfold State.trigReset
  with_reducible repeat' first | assumption | apply State.updTrc_steady
theorem State.recordBegin_steady (h : z.Steady s) (n i : Nat) : z.Steady (s.recordBegin n i) := by
  unfold State.recordBegin
  with_reducible repeat' first
      | assumption | apply State.updTrc_steady | apply State.newSpan_steady | apply State.pushMark_steady | apply State.count_steady
      | apply State.fs_steady
theorem State.triggerMode_steady (h : z.Steady s) (n : Nat) (r : TrigRec) : z.Steady (s.triggerMode n r) := by
  unfold State.triggerMode
  with_reducible repeat' first
      | assumption | apply State.pushMark_steady | apply State.stopAt_steady | apply State.count_steady | apply State.recordBegin_steady | split
      | dsimp only
theorem State.triggerRecord_steady (h : z.Steady s) (n : Nat) : z.Steady (s.triggerRecord n) := by
  unfold State.triggerRecord
  with_reducible repeat' first
      | assumption | apply State.updTrc_steady | apply State.toCycle_steady | apply State.endDue_steady | apply State.wr64_steady
      | apply State.fs_steady | apply State.count_steady | apply State.publishBy_steady | apply State.triggerMode_steady | split
theorem State.factorChange_steady (h : z.Steady s) (n : Nat) : z.Steady (s.factorChange n) := by
  unfold State.factorChange
  with_reducible repeat' first
      | assumption | apply State.toCycle_steady | apply State.endDue_steady | apply State.updTrc_steady | apply State.endSpan_steady
      | apply State.newSpan_steady | apply State.pushMark_steady | apply State.fs_steady | apply State.count_steady | apply State.notify_steady
      | split | dsimp only
theorem State.rateRaise_steady (h : z.Steady s) (n : Nat) : z.Steady (s.rateRaise n) := by
  unfold State.rateRaise
  with_reducible repeat' first | assumption | apply State.updTrc_steady | split | dsimp only
theorem State.rateLower_steady (h : z.Steady s) (n : Nat) : z.Steady (s.rateLower n) := by
  unfold State.rateLower
  with_reducible repeat' first | assumption | apply State.updTrc_steady | split | dsimp only
theorem State.rearm_steady (h : z.Steady s) (n : Nat) : z.Steady (s.rearm n) := by
  unfold State.rearm
  with_reducible repeat' first
      | assumption | apply State.updTrc_steady | apply State.toCycle_steady | apply State.fs_steady | apply State.wr64_steady
      | apply State.endDue_steady | split | dsimp only
theorem State.recordEnd_steady (h : z.Steady s) (n : Nat) : z.Steady (s.recordEnd n) := by
  unfold State.recordEnd
  with_reducible repeat' first
      | assumption | apply State.updTrc_steady | apply State.endSpan_steady | apply State.toCycle_steady | apply State.endDue_steady | split
theorem State.stencilSet_steady (h : z.Steady s) (n : Nat) : z.Steady (s.stencilSet n) := by
  unfold State.stencilSet
  with_reducible repeat' first | assumption | apply State.updTrc_steady | split
theorem State.stencilReg_steady (h : z.Steady s) (k n off : Nat) (w : Word) : z.SteadyAct (s.stencilReg k n off w) := by
  unfold State.stencilReg
  with_reducible repeat' first
      | assumption | exact SteadyAct.error _ | apply SteadyAct.ok | apply State.plain_steady | apply State.stencilSet_steady
      | apply State.updTrc_steady | apply State.ringRecheck_steady | split | dsimp only
theorem State.maskWrite_steady (h : z.Steady s) (k a : Nat) (w : Word) : z.SteadyAct (s.maskWrite k a w) := by
  unfold State.maskWrite
  with_reducible repeat' first | assumption | exact SteadyAct.error _ | apply SteadyAct.ok | apply State.stw_steady | split | dsimp only
theorem State.stencilNote_steady (h : z.Steady s) (n code : Nat) (note : Notice) : z.Steady (s.stencilNote n code note) := by
  unfold State.stencilNote
  with_reducible repeat' first | assumption | apply State.notify_steady | split
theorem State.judgePass_steady (h : z.Steady s) (n : Nat) : z.Steady (s.judgePass n) := by
  unfold State.judgePass
  with_reducible repeat' first
      | assumption | apply State.toCycle_steady | apply State.endDue_steady | apply State.updTrc_steady | apply State.count_steady
      | apply State.wr64_steady | apply State.publishBy_steady | apply State.stencilNote_steady | apply State.stopAt_steady | split | dsimp only
theorem State.passStart_steady (h : z.Steady s) (n : Nat) (a : Int) (q : Nat) : z.Steady (s.passStart n a q) := by
  unfold State.passStart
  with_reducible repeat' first
      | assumption | apply State.judgePass_steady | apply State.passMark_steady | apply State.updTrc_steady | apply State.count_steady
theorem State.tdPass_steady (h : z.Steady s) (n : Nat) : z.Steady (s.tdPass n) := by
  unfold State.tdPass
  with_reducible repeat' first
      | assumption | apply State.toCycle_steady | apply State.endDue_steady | apply State.updTrc_steady | apply State.passStart_steady
      | apply State.count_steady | apply State.passDone_steady | split | dsimp only
theorem State.spectrumBlock_steady (h : z.Steady s) (n g c first : Nat) (l : List Int) : z.Steady (s.spectrumBlock n g c first l) := by
  unfold State.spectrumBlock
  with_reducible repeat' first | assumption | apply State.count_steady | apply State.storeBlock_steady | split
theorem State.streamSpectrum_steady (h : z.Steady s) (n g c : Nat) (l : List Int) : z.Steady (s.streamSpectrum n g c l) := by
  unfold State.streamSpectrum
  with_reducible repeat' first | assumption | apply State.spectrumBlock_steady | apply Steady.foldl | intro _
theorem State.streamNext_steady (h : z.Steady s) (n : Nat) : z.Steady (s.streamNext n) := by
  unfold State.streamNext
  with_reducible repeat' first
      | assumption | apply State.updTrc_steady | apply State.toCycle_steady | apply State.streamSpectrum_steady | split | dsimp only
theorem State.spectralHit_steady (h : z.Steady s) (n f first last : Nat) (bad : List (Nat × List Excess)) : z.Steady (s.spectralHit n f first last bad) := by
  unfold State.spectralHit
  with_reducible repeat' first
      | assumption | apply State.count_steady | apply State.wr64_steady | apply State.fs_steady | apply State.pushMark_steady
      | apply State.publishBy_steady | apply State.judgeTriggers_steady | apply State.stencilNote_steady | apply State.stopAt_steady | split
      | dsimp only
theorem State.spectral_steady (h : z.Steady s) (n : Nat) : z.Steady (s.spectral n) := by
  unfold State.spectral
  with_reducible repeat' first
      | assumption | apply State.updTrc_steady | apply State.toCycle_steady | apply State.endDue_steady | apply State.countBy_steady
      | apply State.spectralHit_steady | split | dsimp only
theorem State.acqStart_steady (h : z.Steady s) (n : Nat) : z.SteadyAct (s.acqStart n) := by
  unfold State.acqStart
  with_reducible repeat' first | assumption | exact SteadyAct.error _ | apply SteadyAct.ok | apply State.updTrc_steady | split
theorem State.acqBeginDue_steady (h : z.Steady s) (n : Nat) : z.Steady (s.acqBeginDue n) := by
  unfold State.acqBeginDue
  with_reducible repeat' first | assumption | rw [State.mk_lit] | apply Steady.lit | apply State.beginDue_steady | split | dsimp only
theorem State.acqStop_steady (h : z.Steady s) (n : Nat) : z.Steady (s.acqStop n) := by
  unfold State.acqStop
  with_reducible repeat' first | assumption | apply State.updTrc_steady | apply State.stopFrom_steady | split
theorem State.ringEnable_steady (h : z.Steady s) (n : Nat) (en : Bool) : z.SteadyAct (s.ringEnable n en) := by
  unfold State.ringEnable
  with_reducible repeat' first
      | assumption | exact SteadyAct.error _ | apply SteadyAct.ok | apply State.setCharges_steady | apply State.refBy_steady | apply State.fs_steady
      | apply State.updTrc_steady | split
theorem State.strmReg_steady (h : z.Steady s) (k n off : Nat) (w : Word) : z.SteadyAct (s.strmReg k n off w) := by
  unfold State.strmReg
  with_reducible repeat' first | assumption | exact SteadyAct.error _ | apply SteadyAct.ok | apply State.plain_steady | split | dsimp only
theorem State.ringSizeWrite_steady (h : z.Steady s) (n v : Nat) : z.SteadyAct (s.ringSizeWrite n v) := by
  unfold State.ringSizeWrite
  with_reducible repeat' first | assumption | exact SteadyAct.error _ | apply SteadyAct.ok | apply State.wr64_steady | split
theorem State.capReg_steady (h : z.Steady s) (k n off : Nat) (w : Word) : z.SteadyAct (s.capReg k n off w) := by
  unfold State.capReg
  with_reducible repeat' first | assumption | apply State.ringRecheck_steady | apply State.plain_steady
theorem State.trigCfg_steady (h : z.Steady s) (k n a : Nat) (w : Word) : z.SteadyAct (s.trigCfg k n a w) := by
  unfold State.trigCfg
  with_reducible repeat' first
      | assumption | exact SteadyAct.error _ | apply SteadyAct.ok | apply State.unitFlush_steady | apply State.subWrite_steady
      | apply State.trigReset_steady | split | refine Steady.of_act (by assumption) ?_

/-! ### Journal -/

theorem State.updTrust_steady (h : z.Steady s) (f : Trust → Trust) (hf : ∀ d, (f d).slots.length = d.slots.length) : z.Steady (s.updTrust f) := by
  unfold State.updTrust
  refine Steady.lit h ?_
  rw [(hf s.trust)]
theorem State.jWrite_steady (h : z.Steady s) (e : JEntry) : z.Steady (s.jWrite e) := by
  unfold State.jWrite
  with_reducible repeat' first | assumption | apply State.updTrust_steady | apply State.fs_steady | intro _ | dsimp only
theorem State.journal_steady (h : z.Steady s) (page code detail : Nat) : z.Steady (s.journal page code detail) := by
  unfold State.journal
  with_reducible repeat' first | assumption | apply State.jWrite_steady | apply State.updTrust_steady | split | intro _ | dsimp only
theorem State.jFlush_steady (h : z.Steady s) : z.Steady (s.jFlush) := by
  unfold State.jFlush
  with_reducible repeat' first | assumption | apply State.jWrite_steady | apply State.updTrust_steady | apply Steady.foldl | intro _ | (simp; done)
theorem State.checkStarted_steady (h : z.Steady s) : z.Steady (s.checkStarted) := by
  unfold State.checkStarted
  with_reducible repeat' first | assumption | apply State.updTrust_steady | split | (simp; done)
theorem State.wipe_steady (h : z.Steady s) (cause : Nat) : z.Steady (s.wipe cause) := by
  unfold State.wipe
  with_reducible repeat' first
      | assumption | rw [State.mk_lit] | apply Steady.lit | apply State.count_steady | apply State.fs_steady | apply State.updTrust_steady
      | (simp; done)

/-! ### Calib -/

theorem State.updCal_steady (h : z.Steady s) (f : Cal → Cal) : z.Steady (s.updCal f) := by
  unfold State.updCal
  with_reducible repeat' first | assumption | rw [State.mk_lit] | apply Steady.lit | exact (rfl : (_ : List Nat) = _)
theorem State.trimStep_steady (h : z.Steady s) (a : Nat) : z.Steady (s.trimStep a) := by
  unfold State.trimStep
  with_reducible repeat' first | assumption | apply State.setMbits_steady | apply State.count_steady | split | dsimp only
theorem State.noteTrim_steady (h : z.Steady s) (n a at_ old : Nat) : z.Steady (s.noteTrim n a at_ old) := by
  unfold State.noteTrim
  with_reducible repeat' first | assumption | apply State.updProof_steady
theorem State.burnishTrim_steady (h : z.Steady s) (cap : Bool) (n a : Nat) : z.Steady (s.burnishTrim cap n a) := by
  unfold State.burnishTrim
  with_reducible repeat' first | assumption | apply State.trimStep_steady | apply State.noteTrim_steady | split
theorem State.burnish_steady (h : z.Steady s) : z.Steady (s.burnish) := by
  unfold State.burnish
  with_reducible repeat' first | assumption | apply State.burnishTrim_steady | apply Steady.foldl | split | intro _
theorem State.setEstX_steady (h : z.Steady s) (x : EstX) : z.Steady (s.setEstX x) := by
  unfold State.setEstX
  with_reducible repeat' first | assumption | rw [State.mk_lit] | apply Steady.lit | exact (rfl : (_ : List Nat) = _)
theorem State.moveTarget_steady (h : z.Steady s) (cap : Bool) (n e r : Nat) (est : Int) : z.Steady (s.moveTarget cap n e r est) := by
  unfold State.moveTarget
  with_reducible repeat' first | assumption | apply State.setMbits_steady | apply State.notify_steady | split | dsimp only
theorem State.estAccept_steady (h : z.Steady s) (a : Nat) (est : Int) (var need : Nat) : z.Steady (s.estAccept a est var need).2 := by
  unfold State.estAccept
  with_reducible repeat' first | assumption | apply State.setMbits_steady | apply State.stw_steady | apply State.setEstX_steady | split | dsimp only
theorem State.estDiscard_steady (h : z.Steady s) (a : Nat) : z.Steady (s.estDiscard a) := by
  unfold State.estDiscard
  with_reducible repeat' first | assumption | apply State.count_steady | apply State.setEstX_steady | apply State.setMbits_steady | split | dsimp only
theorem State.writeModel_steady (h : z.Steady s) (p : PendingModel) : z.Steady (s.writeModel p) := by
  unfold State.writeModel
  with_reducible repeat' first | assumption | apply State.stw_steady | apply Steady.foldl | intro _
theorem State.takeModel_steady (h : z.Steady s) (from_ : Nat) (p : PendingModel) : z.Steady (s.takeModel from_ p) := by
  unfold State.takeModel
  with_reducible repeat' first | assumption | apply State.updProof_steady | apply State.writeModel_steady | apply State.fs_steady
theorem State.modelsTake_steady (h : z.Steady s) (n from_ c : Nat) : z.Steady (s.modelsTake n from_ c) := by
  unfold State.modelsTake
  with_reducible repeat' first
      | assumption | rw [State.mk_lit] | apply Steady.lit | apply State.takeModel_steady | apply State.logChainAt_steady | apply Steady.foldl
      | intro _ | dsimp only
theorem State.installModels_steady (h : z.Steady s) (n : Nat) (l : List PendingModel) : z.Steady (s.installModels n l) := by
  unfold State.installModels
  with_reducible repeat' first | assumption | rw [State.mk_lit] | apply Steady.lit | apply State.modelsTake_steady | split | dsimp only
theorem State.clearModels_steady (h : z.Steady s) : z.Steady (s.clearModels) := by
  unfold State.clearModels
  with_reducible repeat' first | assumption | apply State.setMbits_steady | apply State.logChain_steady | apply Steady.foldl | intro _
theorem State.estBlock_steady (h : z.Steady s) (cap : Bool) (n e r : Nat) (b : EstBlock) : z.Steady (s.estBlock cap n e r b) := by
  unfold State.estBlock
  with_reducible repeat' first
      | assumption | apply State.estDiscard_steady | apply State.estAccept_steady | apply State.installModels_steady | apply State.moveTarget_steady
      | split | dsimp only
theorem State.burstStart_steady (h : z.Steady s) (cap : Bool) (n : Nat) (gap : BurstGap) : z.Steady (s.burstStart cap n gap) := by
  unfold State.burstStart
  with_reducible repeat' first | assumption | apply State.updCal_steady | apply State.updGen_steady | apply State.updTrc_steady | split | dsimp only
theorem State.skewCount_steady (h : z.Steady s) (cap : Bool) (n : Nat) (k : SkewEst) : z.Steady (s.skewCount cap n k) := by
  unfold State.skewCount
  with_reducible repeat' first | assumption | apply State.estAccept_steady | apply State.moveTarget_steady | split | dsimp only
theorem State.burstEnd_steady (h : z.Steady s) (cap : Bool) (n : Nat) (r : BurstEnd) : z.Steady (s.burstEnd cap n r) := by
  unfold State.burstEnd
  with_reducible repeat' first
      | assumption | rw [State.mk_lit] | apply Steady.lit | apply State.count_steady | apply State.fs_steady | apply State.updCal_steady
      | apply State.skewCount_steady | apply Steady.foldl | split | intro _ | dsimp only
theorem State.starved_steady (h : z.Steady s) (cap : Bool) (n : Nat) : z.Steady (s.starved cap n) := by
  unfold State.starved
  with_reducible repeat' first
      | assumption | rw [State.mk_lit] | apply Steady.lit | apply State.fs_steady | apply State.notify_steady | split | dsimp only
theorem State.copyBlock_steady (h : z.Steady s) (from_ dst : Nat) : z.Steady (s.copyBlock from_ dst) := by
  unfold State.copyBlock
  with_reducible repeat' first | assumption | apply State.stw_steady | apply Steady.foldl | intro _
theorem State.takeNow_steady (h : z.Steady s) (k sg sc : Nat) : z.Steady (s.takeNow k sg sc) := by
  unfold State.takeNow
  with_reducible repeat' first
      | assumption | apply State.zero_steady | apply State.copyBlock_steady | apply State.stw_steady | apply State.st_steady
      | apply State.bump_steady | apply State.fs_steady | apply State.notifyTo_steady | apply Steady.foldl | intro _
theorem State.restoreTrim_steady (h : z.Steady s) (cap : Bool) (n from_ dst top : Nat) (immediate : Bool) : z.Steady (s.restoreTrim cap n from_ dst top immediate) := by
  unfold State.restoreTrim
  with_reducible repeat' first | assumption | apply State.setMbits_steady | apply State.noteTrim_steady | split | dsimp only
theorem State.restoreEsts_steady (h : z.Steady s) (from_ dst n : Nat) : z.Steady (s.restoreEsts from_ dst n) := by
  unfold State.restoreEsts
  with_reducible repeat' first | assumption | apply State.stw_steady | apply State.setEstX_steady | apply Steady.foldl | intro _
theorem State.restoreDo_steady (h : z.Steady s) (k : Nat) (immediate : Bool) (parts : Nat) : z.Steady (s.restoreDo k immediate parts) := by
  unfold State.restoreDo
  with_reducible repeat' first
      | assumption | apply State.restoreTrim_steady | apply State.restoreEsts_steady | apply State.installModels_steady | apply Steady.foldl | split
      | intro _
theorem State.calCmd_steady (h : z.Steady s) (k op : Nat) (immediate : Bool) (parts sg sc : Nat) : z.SteadyAct (s.calCmd k op immediate parts sg sc) := by
  unfold State.calCmd
  with_reducible repeat' first
      | assumption | exact SteadyAct.error _ | apply SteadyAct.ok | rw [State.mk_lit] | apply Steady.lit | apply State.fs_steady
      | apply State.restoreDo_steady | apply State.notifyTo_steady | split | dsimp only

/-! ### Pattern -/

theorem State.showOff_steady (h : z.Steady s) (p : DriverPort) (b : Bool) : z.Steady (s.showOff p b) := by
  unfold State.showOff
  with_reducible repeat' first | assumption | apply State.fs_steady | split
theorem State.setOff_steady (h : z.Steady s) (l : List DriverOff) : z.Steady (s.setOff l) := by
  unfold State.setOff
  with_reducible repeat' first | assumption | rw [State.mk_lit] | apply Steady.lit | exact (rfl : (_ : List Nat) = _)
theorem State.driverOff_steady (h : z.Steady s) (p : DriverPort) (ovr : Bool) : z.Steady (s.driverOff p ovr) := by
  unfold State.driverOff
  with_reducible repeat' first | assumption | apply State.setOff_steady | apply State.showOff_steady
theorem State.tryEnable_steady (h : z.Steady s) (p : DriverPort) : z.Steady (s.tryEnable p) := by
  unfold State.tryEnable
  with_reducible repeat' first | assumption | apply State.setOff_steady | apply State.showOff_steady | split
theorem State.liftOff_steady (h : z.Steady s) (p : DriverPort) (ovr : Bool) : z.Steady (s.liftOff p ovr) := by
  unfold State.liftOff
  with_reducible repeat' first | assumption | apply State.setOff_steady | apply State.tryEnable_steady
theorem State.faultBit_steady (h : z.Steady s) (p : DriverPort) (ovr b : Bool) : z.Steady (s.faultBit p ovr b) := by
  unfold State.faultBit
  with_reducible repeat' first | assumption | apply State.fs_steady | split
theorem State.countFault_steady (h : z.Steady s) (p : DriverPort) (ovr : Bool) : z.Steady (s.countFault p ovr) := by
  unfold State.countFault
  with_reducible repeat' first | assumption | apply State.count_steady | split
theorem State.portFault_steady (h : z.Steady s) (p : DriverPort) (ovr : Bool) : z.Steady (s.portFault p ovr) := by
  unfold State.portFault
  with_reducible repeat' first
      | assumption | apply State.faultBit_steady | apply State.countFault_steady | apply State.pageFault_steady | apply State.notify_steady
theorem State.overcurrent_steady (h : z.Steady s) (p : DriverPort) : z.Steady (s.overcurrent p) := by
  unfold State.overcurrent
  with_reducible repeat' first | assumption | apply State.portFault_steady | apply State.driverOff_steady
theorem State.contention_steady (h : z.Steady s) (p : DriverPort) : z.Steady (s.contention p) := by
  unfold State.contention
  with_reducible repeat' first | assumption | apply State.portFault_steady | apply State.driverOff_steady | split
theorem State.faultClear_steady (h : z.Steady s) (trig : Bool) (g mask again : Nat) (ovr : Bool) : z.Steady (s.faultClear trig g mask again ovr) := by
  unfold State.faultClear
  with_reducible repeat' first
      | assumption | apply State.faultBit_steady | apply State.liftOff_steady | apply State.overcurrent_steady | apply State.contention_steady
      | apply Steady.foldl | split | intro _
theorem State.groupCfgWrite_steady (h : z.Steady s) (k g : Nat) (w : Word) : z.Steady (s.groupCfgWrite k g w) := by
  unfold State.groupCfgWrite
  with_reducible repeat' first
      | assumption | rw [State.mk_lit] | apply Steady.lit | apply State.plain_steady | apply State.fs_steady | apply Steady.foldl | split | intro _
      | dsimp only
theorem State.laneCfgWrite_steady (h : z.Steady s) (k g i : Nat) (w : Word) : z.SteadyAct (s.laneCfgWrite k g i w) := by
  unfold State.laneCfgWrite
  with_reducible repeat' first | assumption | exact SteadyAct.error _ | apply SteadyAct.ok | apply State.plain_steady | split
theorem State.updOut_steady (h : z.Steady s) (k : Nat) (f : TrigOut → TrigOut) : z.Steady (s.updOut k f) := by
  unfold State.updOut
  with_reducible repeat' first | assumption | rw [State.mk_lit] | apply Steady.lit | (simp; done)
theorem State.trigArrive_steady (h : z.Steady s) (k : Nat) : z.Steady (s.trigArrive k).2 := by
  unfold State.trigArrive
  with_reducible repeat' first | assumption | apply State.updOut_steady | split
theorem State.trigOutCfg_steady (h : z.Steady s) (k i : Nat) (w : Word) : z.SteadyAct (s.trigOutCfg k i w) := by
  unfold State.trigOutCfg
  with_reducible repeat' first | assumption | exact SteadyAct.error _ | apply SteadyAct.ok | apply State.plain_steady | split
theorem State.trigEdge_steady (h : z.Steady s) (k : Nat) (rising : Bool) (ticks frac : Nat) : z.Steady (s.trigEdge k rising ticks frac) := by
  unfold State.trigEdge
  with_reducible repeat' first
      | assumption | rw [State.mk_lit] | apply Steady.lit | apply State.fs_steady | apply State.sourceLevel_steady | apply State.wr64_steady
      | apply State.publishBy_steady | split | dsimp only | (simp; done)
theorem State.markerCycle_steady (h : z.Steady s) (n k q : Nat) : z.Steady (s.markerCycle n k q) := by
  unfold State.markerCycle
  with_reducible repeat' first
      | assumption | apply State.sourceLevel_steady | apply State.publishBy_steady | apply State.countBy_steady | split | dsimp only

/-! ### Proof -/

theorem State.alignProof_steady (h : z.Steady s) (n : Nat) : z.Steady (s.alignProof n) := by
  unfold State.alignProof
  with_reducible repeat' first | assumption | apply State.fs_steady | apply State.logChain_steady | apply State.bump_steady
theorem State.cutWindow_steady (h : z.Steady s) (n s0 c : Nat) : z.Steady (s.cutWindow n s0 c) := by
  unfold State.cutWindow
  with_reducible repeat' first | assumption | apply State.count_steady | split
theorem State.tenureBegins_steady (h : z.Steady s) (n k s0 c : Nat) : z.Steady (s.tenureBegins n k s0 c) := by
  unfold State.tenureBegins
  with_reducible repeat' first | assumption | apply State.updProof_steady | apply State.cutWindow_steady | split | dsimp only
theorem State.tenureEnds_steady (h : z.Steady s) (n c : Nat) : z.Steady (s.tenureEnds n c) := by
  unfold State.tenureEnds
  with_reducible repeat' first | assumption | apply State.cutWindow_steady | apply State.updProof_steady | split
theorem State.stenWrite_steady (h : z.Steady s) (k n off : Nat) (w : Word) : z.Steady (s.stenWrite k n off w) := by
  unfold State.stenWrite
  with_reducible repeat' first | assumption | apply State.updProof_steady | apply State.plain_steady | apply State.cutWindow_steady | split
theorem State.freeze_steady (h : z.Steady s) (n end_ : Nat) (l : List ProofSample) : z.Steady (s.freeze n end_ l) := by
  unfold State.freeze
  with_reducible repeat' first
      | assumption | apply State.stw_steady | apply State.fs_steady | apply State.wr64_steady | apply State.bump_steady | apply State.notify_steady
      | apply Steady.foldl | intro _
theorem State.verdict_steady (h : z.Steady s) (n : Nat) (w : ProofWindow) : z.Steady (s.verdict n w).1 := by
  unfold State.verdict
  with_reducible repeat' first
      | assumption | lift_lets | (intro (t : State); refine (fun (ht : z.Steady t) => ?_) ?_; clear_value t; rotate_left; dsimp only [t])
      | (intro x; clear_value x) | apply State.updProof_steady | apply State.count_steady | apply State.fs_steady | apply State.wr64_steady
      | apply State.publishBy_steady | apply State.mute_steady | apply State.freeze_steady | apply State.notify_steady | split
theorem State.faultLevel_steady (h : z.Steady s) (n : Nat) : z.Steady (s.faultLevel n) := by
  unfold State.faultLevel
  with_reducible repeat' first | assumption | apply State.sourceLevel_steady
theorem State.proofFault_steady (h : z.Steady s) (n code cause arg : Nat) : z.Steady (s.proofFault n code cause arg) := by
  unfold State.proofFault
  with_reducible repeat' first
      | assumption | apply State.pageFault_steady | apply State.faultLevel_steady | apply State.publishBy_steady | apply State.notify_steady
theorem State.overload_steady (h : z.Steady s) (n dcMv : Nat) : z.Steady (s.overload n dcMv) := by
  unfold State.overload
  with_reducible repeat' first
      | assumption | apply State.fs_steady | apply State.count_steady | apply State.setOff_steady | apply State.mute_steady
      | apply State.proofFault_steady
theorem State.reexamine_steady (h : z.Steady s) (n : Nat) : z.Steady (s.reexamine n) := by
  unfold State.reexamine
  with_reducible repeat' first | assumption | apply State.setOff_steady
theorem State.proofFaultClear_steady (h : z.Steady s) (n mask : Nat) (again : Bool) : z.Steady (s.proofFaultClear n mask again) := by
  unfold State.proofFaultClear
  with_reducible repeat' first
      | assumption | apply State.fs_steady | apply State.setOff_steady | apply State.reexamine_steady | apply State.faultLevel_steady | split
theorem State.reexamDone_steady (h : z.Steady s) (n : Nat) (persists : Bool) (dcMv : Nat) : z.Steady (s.reexamDone n persists dcMv) := by
  unfold State.reexamDone
  with_reducible repeat' first | assumption | apply State.overload_steady | apply State.setOff_steady | apply State.fs_steady | split
theorem State.proofContention_steady (h : z.Steady s) (n rms : Nat) : z.Steady (s.proofContention n rms) := by
  unfold State.proofContention
  with_reducible repeat' first
      | assumption | apply State.fs_steady | apply State.count_steady | apply State.mute_steady | apply State.proofFault_steady | split | dsimp only
theorem State.contBlocks_steady (h : z.Steady s) (n first : Nat) (l : List ProofSample) : z.Steady (s.contBlocks n first l) := by
  unfold State.contBlocks
  with_reducible repeat' first | assumption | apply State.toGf_steady | apply State.proofContention_steady | split | dsimp only
theorem State.proofOpen_steady (h : z.Steady s) (n rl : Nat) (level : Int) : z.Steady (s.proofOpen n rl level) := by
  unfold State.proofOpen
  with_reducible repeat' first
      | assumption | apply State.fs_steady | apply State.updProof_steady | apply State.count_steady | apply State.proofFault_steady | split
      | dsimp only
theorem State.testGo_steady (h : z.Steady s) (n : Nat) : z.SteadyAct (s.testGo n) := by
  unfold State.testGo
  with_reducible repeat' first
      | assumption | exact SteadyAct.error _ | apply SteadyAct.ok | apply State.fs_steady | apply State.updProof_steady | split | dsimp only
theorem State.testEnd_steady (h : z.Steady s) (n : Nat) (l : List ProofSample) (aborted : Bool) : z.Steady (s.testEnd n l aborted) := by
  unfold State.testEnd
  with_reducible repeat' first
      | assumption | apply State.bump_steady | apply State.updProof_steady | apply State.fs_steady | apply State.notify_steady | split | dsimp only
theorem State.snapRun_steady (h : z.Steady s) (n : Nat) : z.Steady (s.snapRun n) := by
  unfold State.snapRun
  with_reducible repeat' first | assumption | apply State.zero_steady | apply State.fs_steady | apply State.updProof_steady
theorem State.snapFreeze_steady (h : z.Steady s) (n : Nat) (l : List ProofSample) : z.Steady (s.snapFreeze n l) := by
  unfold State.snapFreeze
  with_reducible repeat' first | assumption | apply State.freeze_steady | split

/-! ### Scenario -/

theorem State.setScen_steady (h : z.Steady s) (k st : Nat) : z.Steady (s.setScen k st) := by
  unfold State.setScen
  with_reducible repeat' first | assumption | apply State.setMbits_steady
theorem State.scenWrite_steady (h : z.Steady s) (k a : Nat) (w : Word) : z.SteadyAct (s.scenWrite k a w) := by
  unfold State.scenWrite
  with_reducible repeat' first
      | assumption | exact SteadyAct.error _ | apply SteadyAct.ok | apply State.zero_steady | apply State.stw_steady | apply State.setMbits_steady
      | apply State.setScen_steady | split | dsimp only
theorem State.st64_steady (h : z.Steady s) (a v : Nat) : z.Steady (s.st64 a v) := by
  unfold State.st64
  with_reducible repeat' first | assumption | apply State.st_steady
theorem State.entryEnds_steady (h : z.Steady s) (i st : Nat) (c : Code) (time : Nat) : z.Steady (s.entryEnds i st c time) := by
  unfold State.entryEnds
  with_reducible repeat' first
      | assumption | rw [State.mk_lit] | apply Steady.lit | apply State.setMbits_steady | apply State.st64_steady | split | dsimp only
theorem State.finish_steady (h : z.Steady s) (k : Nat) (a : ScenAct) (c : Code) (r : Report) : z.Steady (s.finish k a c r) := by
  unfold State.finish
  with_reducible repeat' first
      | assumption | apply State.setMbits_steady | apply State.fs_steady | apply State.notifyTo_steady | apply State.publishBy_steady
      | apply State.entryEnds_steady | split
theorem State.reportLate_steady (h : z.Steady s) (k : Nat) (a : ScenAct) (late : Nat) : z.Steady (s.reportLate k a late) := by
  unfold State.reportLate
  with_reducible repeat' first | assumption | apply State.setMbits_steady | apply State.notifyTo_steady | split
theorem State.updAct_steady (h : z.Steady s) (k : Nat) (f : ScenAct → ScenAct) : z.Steady (s.updAct k f) := by
  unfold State.updAct
  with_reducible repeat' first | assumption | apply State.updScn_steady
theorem State.closeAct_steady (h : z.Steady s) (k : Nat) (c : Code) (r : Report) : z.Steady (s.closeAct k c r) := by
  unfold State.closeAct
  with_reducible repeat' first | assumption | apply State.updScn_steady | apply State.finish_steady | split
theorem State.stamp_steady (h : z.Steady s) (k at_ : Nat) : z.Steady (s.stamp k at_) := by
  unfold State.stamp
  with_reducible repeat' first | assumption | apply State.updAct_steady
theorem State.settleLate_steady (h : z.Steady s) (k at40 : Nat) : z.Steady (s.settleLate k at40) := by
  unfold State.settleLate
  with_reducible repeat' first | assumption | apply State.updAct_steady | apply State.reportLate_steady | split | dsimp only
theorem State.installRoute_steady (h : z.Steady s) (k c g ch : Nat) : z.Steady (s.installRoute k c g ch) := by
  unfold State.installRoute
  with_reducible repeat' first | assumption | rw [State.mk_lit] | apply Steady.lit | apply State.wr_steady | dsimp only
theorem State.installRoutes_steady (h : z.Steady s) (k : Nat) : z.Steady (s.installRoutes k) := by
  unfold State.installRoutes
  with_reducible repeat' first | assumption | apply State.installRoute_steady | apply Steady.foldl | intro _
theorem State.removeRoutes_steady (h : z.Steady s) (k : Nat) : z.Steady (s.removeRoutes k) := by
  unfold State.removeRoutes
  with_reducible repeat' first | assumption | rw [State.mk_lit] | apply Steady.lit | apply State.wr_steady | apply Steady.foldl | intro _ | dsimp only
theorem State.armTake_steady (h : z.Steady s) (k : Nat) : z.Steady (s.armTake k) := by
  unfold State.armTake
  with_reducible repeat' first
      | assumption | apply State.setScen_steady | apply State.updScn_steady | apply State.setRefs_steady | apply State.setCharges_steady
      | apply State.takeSubs_steady | apply State.refillEntry_steady | apply Steady.foldl | split | intro _ | dsimp only
theorem State.lateArm_steady (h : z.Steady s) (k : Nat) (a : ScenAct) : z.Steady (s.lateArm k a) := by
  unfold State.lateArm
  with_reducible repeat' first | assumption | apply State.reportLate_steady | split
theorem State.arm_steady (h : z.Steady s) (k : Nat) (a : ScenAct) : z.Steady (s.arm k a) := by
  unfold State.arm
  with_reducible repeat' first
      | assumption | apply State.checkEcc_steady | apply State.finish_steady | apply State.armTake_steady | apply State.updScn_steady
      | apply State.lateArm_steady | split
theorem State.unarm_steady (h : z.Steady s) (k : Nat) : z.Steady (s.unarm k) := by
  unfold State.unarm
  with_reducible repeat' first
      | assumption | apply State.setRefs_steady | apply State.setCharges_steady | apply State.setScen_steady | apply State.takeSubs_steady
      | apply State.updScn_steady | apply Steady.foldl | intro _
theorem State.armFinish_steady (h : z.Steady s) (k : Nat) : z.Steady (s.armFinish k) := by
  unfold State.armFinish
  with_reducible repeat' first
      | assumption | apply State.setScen_steady | apply State.fs_steady | apply State.updGrv_steady | apply State.closeAct_steady
      | apply Steady.foldl | split | intro _
theorem State.letGo_steady (h : z.Steady s) (g c : Nat) : z.Steady (s.letGo g c) := by
  unfold State.letGo
  with_reducible repeat' first
      | assumption | apply State.updGrv_steady | apply State.lateEnds_steady | apply State.tenureEnds_steady | apply State.fs_steady
      | apply State.updGen_steady | split
theorem State.headStart_steady (h : z.Steady s) (g k : Nat) : z.Steady (s.headStart g k) := by
  unfold State.headStart
  with_reducible repeat' first | assumption | apply State.updGrv_steady
theorem State.startMember_steady (h : z.Steady s) (g k c : Nat) : z.Steady (s.startMember g k c) := by
  unfold State.startMember
  with_reducible repeat' first
      | assumption | apply State.updGen_steady | apply State.fs_steady | apply State.headStart_steady | apply State.clearLoops_steady
      | apply State.goTo_steady | apply State.refill_steady | apply State.fillNext_steady | apply Steady.foldl | split | intro _ | dsimp only
theorem State.resumeMember_steady (h : z.Steady s) (g k c : Nat) (v : Saved) : z.Steady (s.resumeMember g k c v) := by
  unfold State.resumeMember
  with_reducible repeat' first
      | assumption | apply State.headStart_steady | apply State.fs_steady | apply State.updGen_steady | apply State.updGrv_steady
      | apply State.tableEnd_steady | apply State.markLate_steady | apply State.showStylus_steady | apply State.loadSlots_steady
      | apply State.refill_steady | apply State.fillNext_steady | apply Steady.foldl | split | intro _ | dsimp only
theorem State.takeMember_steady (h : z.Steady s) (g k c : Nat) : z.Steady (s.takeMember g k c) := by
  unfold State.takeMember
  with_reducible repeat' first
      | assumption | apply State.settleLate_steady | apply State.updGrv_steady | apply State.fs_steady | apply State.wr64_steady
      | apply State.resumeMember_steady | apply State.startMember_steady | apply State.tenureBegins_steady | apply State.stamp_steady | split
theorem State.goneDown_steady (h : z.Steady s) (k c : Nat) : z.Steady (s.goneDown k c) := by
  unfold State.goneDown
  with_reducible repeat' first | assumption | apply State.updScn_steady
theorem State.stopTime_steady (h : z.Steady s) (k at_ : Nat) : z.Steady (s.stopTime k at_) := by
  unfold State.stopTime
  with_reducible repeat' first | assumption | apply State.st64_steady
theorem State.disarmBegin_steady (h : z.Steady s) (k : Nat) (a : ScenAct) : z.Steady (s.disarmBegin k a) := by
  unfold State.disarmBegin
  with_reducible repeat' first | assumption | apply State.setScen_steady | apply State.updScn_steady
theorem State.afterArmed_steady (h : z.Steady s) (k : Nat) : z.Steady (s.afterArmed k) := by
  unfold State.afterArmed
  with_reducible repeat' first | assumption | apply State.disarmBegin_steady | split
theorem State.capHalt_steady (h : z.Steady s) (n t40 : Nat) : z.Steady (s.capHalt n t40) := by
  unfold State.capHalt
  with_reducible repeat' first | assumption | apply State.acqEnd_steady
theorem State.stopCaps_steady (h : z.Steady s) (k t40 : Nat) : z.Steady (s.stopCaps k t40) := by
  unfold State.stopCaps
  with_reducible repeat' first | assumption | apply State.capHalt_steady | apply State.updScn_steady | apply Steady.foldl | intro _
theorem State.suspended_steady (h : z.Steady s) (k : Nat) : z.Steady (s.suspended k) := by
  unfold State.suspended
  with_reducible repeat' first
      | assumption | apply State.setScen_steady | apply State.removeRoutes_steady | apply State.stopTime_steady | apply State.notifyTo_steady
      | apply State.updScn_steady | apply State.closeAct_steady | split
theorem State.stopped_steady (h : z.Steady s) (k : Nat) : z.Steady (s.stopped k) := by
  unfold State.stopped
  with_reducible repeat' first
      | assumption | apply State.stopCaps_steady | apply State.setScen_steady | apply State.removeRoutes_steady | apply State.stopTime_steady
      | apply State.updScn_steady | apply State.closeAct_steady | apply State.afterArmed_steady
theorem State.settleDown_steady (h : z.Steady s) (k : Nat) : z.Steady (s.settleDown k) := by
  unfold State.settleDown
  with_reducible repeat' first | assumption | apply State.suspended_steady | apply State.stopped_steady | split
theorem State.scenEnds_steady (h : z.Steady s) (k : Nat) : z.Steady (s.scenEnds k) := by
  unfold State.scenEnds
  with_reducible repeat' first
      | assumption | apply State.letGo_steady | apply State.stopExchange_steady | apply State.stopCaps_steady | apply State.setScen_steady
      | apply State.removeRoutes_steady | apply State.stopTime_steady | apply State.updScn_steady | apply State.notifyTo_steady
      | apply State.afterArmed_steady | apply Steady.foldl | split | intro _ | dsimp only
theorem State.parkBegin_steady (h : z.Steady s) (k : Nat) (a : ScenAct) : z.Steady (s.parkBegin k a) := by
  unfold State.parkBegin
  with_reducible repeat' first | assumption | apply State.setScen_steady | apply State.updScn_steady
theorem State.settleStart_steady (h : z.Steady s) (k : Nat) : z.Steady (s.settleStart k) := by
  unfold State.settleStart
  with_reducible repeat' first
      | assumption | apply State.setScen_steady | apply State.st64_steady | apply State.updScn_steady | apply State.closeAct_steady
      | apply State.parkBegin_steady | apply State.scenEnds_steady | split
theorem State.takePoint_steady (h : z.Steady s) (g : Nat) : z.Steady (s.takePoint g) := by
  unfold State.takePoint
  with_reducible repeat' first
      | assumption | apply State.settleLate_steady | apply State.goneDown_steady | apply State.letGo_steady | apply State.stopExchange_steady
      | apply State.commitWithdraw_steady | apply State.updScn_steady | apply State.updGrv_steady | apply State.takeMember_steady
      | apply State.settleDown_steady | apply State.settleStart_steady | split
theorem State.await_steady (h : z.Steady s) (g : Nat) (h : Hand) : z.Steady (s.await g h) := by
  unfold State.await
  with_reducible repeat' first | assumption | apply State.updGrv_steady | apply State.takePoint_steady | split | dsimp only
theorem State.startRefused_steady (h : z.Steady s) (k m : Nat) (c : Code) : z.Steady (s.startRefused k m c) := by
  unfold State.startRefused
  with_reducible repeat' first | assumption | apply State.setScen_steady | apply State.updScn_steady | apply State.closeAct_steady | split
theorem State.dropUnbegun_steady (h : z.Steady s) (o : Nat) (save : Bool) : z.Steady (s.dropUnbegun o save) := by
  unfold State.dropUnbegun
  with_reducible repeat' first
      | assumption | rw [State.mk_lit] | apply Steady.lit | apply State.updScn_steady | apply Steady.foldl | split | intro _ | (simp; done)
theorem State.preempt_steady (h : z.Steady s) (o k at_ : Nat) : z.Steady (s.preempt o k at_) := by
  unfold State.preempt
  with_reducible repeat' first
      | assumption | apply State.dropUnbegun_steady | apply State.closeAct_steady | apply State.setScen_steady | apply State.updScn_steady
      | apply State.acqPass_steady | apply State.stopCaps_steady | apply State.await_steady | apply State.settleDown_steady | apply Steady.foldl
      | split | intro _
theorem State.beginFree_steady (h : z.Steady s) (k at_ : Nat) : z.Steady (s.beginFree k at_) := by
  unfold State.beginFree
  with_reducible repeat' first | assumption | apply State.takeMember_steady | apply State.updAct_steady | apply Steady.foldl | split | intro _
theorem State.beginCaps_steady (h : z.Steady s) (k at_ : Nat) : z.Steady (s.beginCaps k at_) := by
  unfold State.beginCaps
  with_reducible repeat' first
      | assumption | apply State.updAct_steady | apply State.settleLate_steady | apply State.acqBegin_steady | apply State.stamp_steady
      | apply Steady.foldl | split | intro _
theorem State.launch_steady (h : z.Steady s) (k : Nat) (a : ScenAct) : z.Steady (s.launch k a) := by
  unfold State.launch
  with_reducible repeat' first
      | assumption | apply State.eccRead_steady | apply State.startRefused_steady | apply State.updAct_steady | apply State.updScn_steady
      | apply State.publishBy_steady | apply State.installRoutes_steady | apply State.preempt_steady | apply State.beginFree_steady
      | apply State.beginCaps_steady | apply State.settleStart_steady | apply Steady.foldl | split | intro _
theorem State.stopGravers_steady (h : z.Steady s) (k at_ : Nat) : z.Steady (s.stopGravers k at_) := by
  unfold State.stopGravers
  with_reducible repeat' first
      | assumption | apply State.updAct_steady | apply State.playStrokes_steady | apply State.updGrv_steady | apply State.takePoint_steady
      | apply Steady.foldl | split | intro _
theorem State.halt_steady (h : z.Steady s) (k : Nat) (a : ScenAct) : z.Steady (s.halt k a) := by
  unfold State.halt
  with_reducible repeat' first
      | assumption | apply State.updAct_steady | apply State.updScn_steady | apply State.publishBy_steady | apply State.settleLate_steady
      | apply State.stopCaps_steady | apply State.stopGravers_steady | apply State.settleDown_steady | apply State.await_steady | apply Steady.foldl
      | split | intro _
theorem State.actNow_steady (h : z.Steady s) (k : Nat) : z.Steady (s.actNow k) := by
  unfold State.actNow
  with_reducible repeat' first | assumption | apply State.launch_steady | apply State.halt_steady | split
theorem State.actTime_steady (h : z.Steady s) (k : Nat) : z.Steady (s.actTime k) := by
  unfold State.actTime
  with_reducible repeat' first
      | assumption | rw [State.mk_lit] | apply Steady.lit | apply State.actNow_steady | apply Steady.foldl | split | intro _ | dsimp only
theorem State.catchUpOf_steady (h : z.Steady s) (k : Nat) : z.Steady (s.catchUpOf k) := by
  unfold State.catchUpOf
  with_reducible repeat' first
      | assumption | apply State.beginFree_steady | apply State.beginCaps_steady | apply State.settleStart_steady | apply State.stopGravers_steady
      | apply State.settleDown_steady | apply State.settleLate_steady | split
theorem State.catchUp_steady (h : z.Steady s) : z.Steady (s.catchUp) := by
  unfold State.catchUp
  with_reducible repeat' first | assumption | apply State.catchUpOf_steady | apply Steady.foldl | intro _
theorem State.lateNow_steady (h : z.Steady s) (k : Nat) (a : ScenAct) : z.Steady (s.lateNow k a) := by
  unfold State.lateNow
  with_reducible repeat' first | assumption | apply State.reportLate_steady | split
theorem State.startBegin_steady (h : z.Steady s) (k : Nat) (a : ScenAct) : z.Steady (s.startBegin k a) := by
  unfold State.startBegin
  with_reducible repeat' first
      | assumption | apply State.setScen_steady | apply State.updScn_steady | apply State.updGrv_steady | apply Steady.foldl | intro _
theorem State.stopBegin_steady (h : z.Steady s) (k : Nat) (a : ScenAct) : z.Steady (s.stopBegin k a) := by
  unfold State.stopBegin
  with_reducible repeat' first
      | assumption | apply State.closeAct_steady | apply State.setScen_steady | apply State.lateNow_steady | apply State.finish_steady
      | apply State.afterArmed_steady | apply State.dropUnbegun_steady | apply State.updScn_steady | split | dsimp only
theorem State.cancelAct_steady (h : z.Steady s) (k : Nat) (a : ScenAct) : z.Steady (s.cancelAct k a) := by
  unfold State.cancelAct
  with_reducible repeat' first
      | assumption | apply State.unarm_steady | apply State.setScen_steady | apply State.closeAct_steady | apply State.finish_steady | split
theorem State.releaseScen_steady (h : z.Steady s) (k : Nat) (a : ScenAct) : z.Steady (s.releaseScen k a) := by
  unfold State.releaseScen
  with_reducible repeat' first | assumption | apply State.finish_steady | apply State.zero_steady | apply State.updScn_steady
theorem State.perform_steady (h : z.Steady s) (k : Nat) (a : ScenAct) : z.Steady (s.perform k a) := by
  unfold State.perform
  with_reducible repeat' first
      | assumption | apply State.arm_steady | apply State.startBegin_steady | apply State.stopBegin_steady | apply State.parkBegin_steady
      | apply State.disarmBegin_steady | apply State.lateNow_steady | apply State.cancelAct_steady | apply State.releaseScen_steady | split
theorem State.scenAct_steady (h : z.Steady s) (sess op k at_ : Nat) (src : ActSrc) (atOnce : Bool) : z.Steady (s.scenAct sess op k at_ src atOnce) := by
  unfold State.scenAct
  with_reducible repeat' first | assumption | apply State.finish_steady | apply State.perform_steady | split
theorem State.startEvent_steady (h : z.Steady s) (k : Nat) : z.Steady (s.startEvent k).2 := by
  unfold State.startEvent
  with_reducible repeat' first | assumption | apply State.eccRead_steady | apply State.startRefused_steady | apply State.updAct_steady | split
theorem State.startUnused_steady (h : z.Steady s) (k : Nat) : z.Steady (s.startUnused k) := by
  unfold State.startUnused
  with_reducible repeat' first | assumption | apply State.count_steady | apply State.overrun_steady
theorem State.disarmFinish_steady (h : z.Steady s) (k : Nat) : z.Steady (s.disarmFinish k) := by
  unfold State.disarmFinish
  with_reducible repeat' first | assumption | apply State.unarm_steady | apply State.closeAct_steady | split
theorem State.proofStop_steady (h : z.Steady s) (k planned : Nat) : z.Steady (s.proofStop k planned) := by
  unfold State.proofStop
  with_reducible repeat' first | assumption | apply State.stopBegin_steady | apply State.actTime_steady | split | dsimp only
theorem State.orphanScen_steady (h : z.Steady s) (k : Nat) : z.Steady (s.orphanScen k) := by
  unfold State.orphanScen
  with_reducible repeat' first
      | assumption | apply State.parkBegin_steady | apply State.actTime_steady | apply State.closeAct_steady | apply State.setScen_steady
      | apply State.updScn_steady | apply State.stopBegin_steady | apply State.afterArmed_steady | apply State.entryEnds_steady
      | apply State.notifyTo_steady | apply Steady.foldl | split | intro _ | dsimp only
theorem State.schedReport_steady (h : z.Steady s) (k op i : Nat) (c : Code) : z.Steady (s.schedReport k op i c) := by
  unfold State.schedReport
  with_reducible repeat' first | assumption | apply State.fs_steady | apply State.notifyTo_steady
theorem State.scenOrphaned_steady (h : z.Steady s) (q : QCmd) : z.Steady (s.scenOrphaned q) := by
  unfold State.scenOrphaned
  with_reducible repeat' first | assumption | apply State.finish_steady
theorem State.orphanCmds_steady (h : z.Steady s) (q : Nat) : z.Steady (s.orphanCmds q) := by
  unfold State.orphanCmds
  with_reducible repeat' first
      | assumption | rw [State.mk_lit] | apply Steady.lit | apply State.scenOrphaned_steady | apply State.schedReport_steady | apply Steady.foldl
      | intro _ | dsimp only
theorem State.orphanScens_steady (h : z.Steady s) (q : Nat) : z.Steady (s.orphanScens q) := by
  unfold State.orphanScens
  with_reducible repeat' first | assumption | apply State.orphanScen_steady | apply State.orphanCmds_steady | apply Steady.foldl | split | intro _
theorem State.schedWrite_steady (h : z.Steady s) (k a : Nat) (w : Word) : z.SteadyAct (s.schedWrite k a w) := by
  unfold State.schedWrite
  with_reducible repeat' first
      | assumption | exact SteadyAct.error _ | apply SteadyAct.ok | apply State.zero_steady | apply State.stw_steady | apply State.setMbits_steady
      | split | dsimp only
theorem State.schedFix_steady (h : z.Steady s) (i : Nat) : z.Steady (s.schedFix i) := by
  unfold State.schedFix
  with_reducible repeat' first | assumption | rw [State.mk_lit] | apply Steady.lit | dsimp only
theorem State.submitDo_steady (h : z.Steady s) (i : Nat) : z.Steady (s.submitDo i) := by
  unfold State.submitDo
  with_reducible repeat' first
      | assumption | rw [State.mk_lit] | apply Steady.lit | apply State.stw_steady | apply State.setMbits_steady | apply State.st64_steady
      | apply State.schedFix_steady | split | dsimp only
theorem State.schedAct_steady (h : z.Steady s) (k op i : Nat) : z.Steady (s.schedAct k op i) := by
  unfold State.schedAct
  with_reducible repeat' first | assumption | apply State.submitDo_steady | apply State.entryEnds_steady | apply State.schedReport_steady | split
theorem State.schedFalls_steady (h : z.Steady s) (i t : Nat) : z.Steady (s.schedFalls i t) := by
  unfold State.schedFalls
  with_reducible repeat' first
      | assumption | rw [State.mk_lit] | apply Steady.lit | apply State.eccRead_steady | apply State.entryEnds_steady | apply State.scenAct_steady
      | split | dsimp only
theorem State.take_steady (h : z.Steady s) (tick : Nat) (d : Due) : z.Steady (s.take tick d) := by
  unfold State.take
  with_reducible repeat' first
      | assumption | rw [State.mk_lit] | apply Steady.lit | apply State.schedAct_steady | apply State.schedFalls_steady | apply State.scenAct_steady
      | split | exact (rfl : (_ : List Nat) = _)
theorem State.runUnit_steady (h : z.Steady s) (y0 : Nat) : z.Steady (s.runUnit y0) := by
  induction y0 generalizing s  with
  | zero =>
    unfold State.runUnit
    with_reducible repeat' first | assumption | apply State.take_steady | split
  | succ n ih =>
    unfold State.runUnit
    with_reducible repeat' first | assumption | apply ih | apply State.take_steady | split
theorem State.settled_steady (h : z.Steady s) : z.Steady (s.settled) := by
  unfold State.settled
  with_reducible repeat' first | assumption | apply State.runUnit_steady | apply State.capsDue_steady
theorem State.moveTo_steady (h : z.Steady s) (t : Nat) : z.Steady (s.moveTo t) := by
  unfold State.moveTo
  with_reducible repeat' first | assumption | rw [State.mk_lit] | apply Steady.lit | apply State.settled_steady | exact (rfl : (_ : List Nat) = _)
theorem State.scenCmd_steady (h : z.Steady s) (sess op k : Nat) : z.SteadyAct (s.scenCmd sess op k) := by
  unfold State.scenCmd
  with_reducible repeat' first
      | assumption | exact SteadyAct.error _ | apply SteadyAct.ok | rw [State.mk_lit] | apply Steady.lit | apply State.settled_steady | split
      | dsimp only
theorem State.schedCmd_steady (h : z.Steady s) (k op i : Nat) : z.SteadyAct (s.schedCmd k op i) := by
  unfold State.schedCmd
  with_reducible repeat' first
      | assumption | exact SteadyAct.error _ | apply SteadyAct.ok | rw [State.mk_lit] | apply Steady.lit | apply State.settled_steady | split
      | dsimp only
theorem State.schedEdge_steady (h : z.Steady s) : z.Steady (s.schedEdge) := by
  unfold State.schedEdge
  with_reducible repeat' first | assumption | apply State.schedFix_steady | apply Steady.foldl | intro _
theorem State.schedExtrap_steady (h : z.Steady s) (i : Nat) : z.Steady (s.schedExtrap i) := by
  unfold State.schedExtrap
  with_reducible repeat' first
      | assumption | apply State.moveTo_steady | apply State.schedFix_steady | apply State.setMbits_steady | apply State.settled_steady | split
theorem State.scenCmdBy_steady (h : z.Steady s) (o : Org) (op k : Nat) : z.Steady (s.scenCmdBy o op k) := by
  unfold State.scenCmdBy
  with_reducible repeat' first | assumption | apply State.hostReg_steady | apply State.scenCmd_steady | intro _
theorem State.schedCmdBy_steady (h : z.Steady s) (o : Org) (op i : Nat) : z.Steady (s.schedCmdBy o op i) := by
  unfold State.schedCmdBy
  with_reducible repeat' first | assumption | apply State.hostReg_steady | apply State.schedCmd_steady | intro _

end Sys2Proof.Machine
end

