-- ==== Sys2Proof/Laws/SteadyModule.lean ====
section
/-! SUPPORT. Sys2Proof/Laws/SteadyModule.lean: what the operations of the module around the engines keep (memory, clocks, sessions, trust, network, power, the registers
and the messages): the variant, the queue of commands and the invariant; and what the outcomes of commands are built from. -/
namespace Sys2Proof.Machine
open Sys2Proof
variable {z s u t : State}

/-! ### Dram -/

theorem State.updDram_steady (h : z.Steady s) (f : Dram → Dram) (hf : ∀ d, (f d).cool.length = d.cool.length ∧ (f d).panicAt.length = d.panicAt.length) : z.Steady (s.updDram f) := by
  unfold State.updDram
  refine Steady.lit h ?_
  rw [(hf s.dram).1, (hf s.dram).2]
theorem State.setMif_steady (h : z.Steady s) (i st : Nat) : z.Steady (s.setMif i st) := by
  unfold State.setMif
  with_reducible repeat' first | assumption | apply State.fs_steady
theorem State.showUsable_steady (h : z.Steady s) : z.Steady (s.showUsable) := by
  unfold State.showUsable
  with_reducible repeat' first | assumption | apply State.wr64_steady
theorem State.memcCfg_steady (h : z.Steady s) (w : Word) : z.SteadyAct (s.memcCfg w) := by
  unfold State.memcCfg
  with_reducible repeat' first
      | assumption | exact SteadyAct.error _ | apply SteadyAct.ok | apply State.wr_steady | apply State.fs_steady | apply State.showUsable_steady
      | apply State.setMif_steady | apply Steady.foldl | split | intro _ | dsimp only
theorem State.putEyes_steady (h : z.Steady s) (i : Nat) (r : IfTraining) : z.Steady (s.putEyes i r) := by
  unfold State.putEyes
  with_reducible repeat' first | assumption | apply State.fs_steady | apply Steady.foldl | intro _
theorem State.trained_steady (h : z.Steady s) (i : Nat) (r : IfTraining) : z.Steady (s.trained i r) := by
  unfold State.trained
  with_reducible repeat' first
      | assumption | apply State.putEyes_steady | apply State.setMif_steady | apply State.fs_steady | apply State.pageFault_steady
      | apply State.showUsable_steady | apply State.journal_steady | split
theorem State.trainingDone_steady (h : z.Steady s) (rs : List IfTraining) : z.Steady (s.trainingDone rs) := by
  unfold State.trainingDone
  with_reducible repeat' first | assumption | apply State.trained_steady | apply Steady.foldl | split | intro _
theorem State.zeroDram_steady (h : z.Steady s) : z.Steady s.zeroDram := by
  refine ⟨h.1, h.2.1, fun i => State.inv_of_lens (u := s) ?_ ?_ ?_ ?_ (h.2.2 i)⟩
  · exact (h.2.2 i).regs
  · have := stDrop_wf (fun a => decide (dramBase ≤ a ∧ a < 2 ^ 48)) (h.2.2 i).mem
    exact this
  · have := stDrop_wf (fun f => decide (dramBase ≤ f * 65536)) (h.2.2 i).frames
    exact this
  · rfl
theorem State.reinitDone_steady (h : z.Steady s) : z.Steady (s.reinitDone) := by
  unfold State.reinitDone
  with_reducible repeat' first
      | assumption | apply State.zeroDram_steady | apply State.fs_steady | apply State.notify_steady | apply State.checkStarted_steady | split
theorem State.scrub_steady (h : z.Steady s) (a corrected : Nat) : z.Steady (s.scrub a corrected) := by
  unfold State.scrub
  with_reducible repeat' first | assumption | apply State.countBy_steady | apply State.memUe_steady | split | dsimp only
theorem State.pollOne_steady (h : z.Steady s) (i : Nat) (d0 d1 : Int) : z.Steady (s.pollOne i d0 d1) := by
  unfold State.pollOne
  with_reducible repeat' first
      | assumption | apply State.fs_steady | apply State.updDram_steady | apply State.notify_steady | split | dsimp only | (simp; done)
theorem State.retrain_steady (h : z.Steady s) (i : Nat) : z.SteadyAct (s.retrain i) := by
  unfold State.retrain
  with_reducible repeat' first | assumption | exact SteadyAct.error _ | apply SteadyAct.ok | apply State.setMif_steady | split
theorem State.retrained_steady (h : z.Steady s) (i : Nat) (r : IfTraining) : z.Steady (s.retrained i r) := by
  unfold State.retrained
  with_reducible repeat' first
      | assumption | apply State.putEyes_steady | apply State.fs_steady | apply State.setMif_steady | apply State.count_steady
      | apply State.notify_steady | split
theorem State.portFill_steady (h : z.Steady s) (p fill : Nat) : z.Steady (s.portFill p fill) := by
  unfold State.portFill
  with_reducible repeat' first
      | assumption | apply State.fs_steady | apply State.count_steady | apply State.updDram_steady | apply State.countBy_steady | split | dsimp only
      | (simp; done)
theorem State.portClear_steady (h : z.Steady s) : z.Steady (s.portClear) := by
  unfold State.portClear
  with_reducible repeat' first | assumption | apply State.fs_steady | apply State.updDram_steady | apply Steady.foldl | split | intro _ | (simp; done)
theorem State.mandRefresh_steady (h : z.Steady s) (i : Nat) : z.Steady (s.mandRefresh i) := by
  unfold State.mandRefresh
  with_reducible repeat' first | assumption | apply State.moveTo_steady | apply State.count_steady | split

/-! ### Spad -/

theorem State.setSpadMode_steady (h : z.Steady s) (m : Nat) : z.Steady (s.setSpadMode m) := by
  unfold State.setSpadMode
  with_reducible repeat' first | assumption | apply State.fs_steady
theorem State.patrol_steady (h : z.Steady s) (corrected : Nat) (bad : List Nat) : z.Steady (s.patrol corrected bad) := by
  unfold State.patrol
  with_reducible repeat' first
      | assumption | apply State.markBad_steady | apply State.countBy_steady | apply State.eccRead_steady | apply Steady.foldl | intro _
theorem State.bankTest_steady (h : z.Steady s) (b : Nat) : z.SteadyAct (s.bankTest b) := by
  unfold State.bankTest
  with_reducible repeat' first
      | assumption | exact SteadyAct.error _ | apply SteadyAct.ok | apply State.fs_steady | apply State.setSpadMode_steady | split
theorem State.failBank_steady (h : z.Steady s) (b : Nat) : z.Steady (s.failBank b) := by
  unfold State.failBank
  with_reducible repeat' first | assumption | apply State.fs_steady | apply State.pageFault_steady
theorem State.zeroBank_steady (h : z.Steady s) (b : Nat) : z.Steady (s.zeroBank b) := by
  unfold State.zeroBank
  with_reducible repeat' first | assumption | rw [State.mk_lit] | apply Steady.lit | apply State.zero_steady | dsimp only
theorem State.testDone_steady (h : z.Steady s) (pass : Bool) : z.Steady (s.testDone pass) := by
  unfold State.testDone
  with_reducible repeat' first
      | assumption | apply State.zeroBank_steady | apply State.fs_steady | apply State.setSpadMode_steady | apply State.failBank_steady
      | apply State.notify_steady | split | dsimp only
theorem State.startupTest_steady (h : z.Steady s) (failing : List Nat) : z.Steady (s.startupTest failing) := by
  unfold State.startupTest
  with_reducible repeat' first
      | assumption | rw [State.mk_lit] | apply Steady.litMem | exact fun m => stDrop_wf _ m | apply State.failBank_steady
      | apply State.journal_steady | apply State.setSpadMode_steady | apply State.checkStarted_steady | apply Steady.foldl | split | intro _
      | dsimp only
theorem State.recovered_steady (h : z.Steady s) (corrected : Nat) (bad : List Nat) : z.Steady (s.recovered corrected bad) := by
  unfold State.recovered
  with_reducible repeat' first | assumption | apply State.patrol_steady | apply State.setSpadMode_steady | split

/-! ### Dma -/

theorem State.updDma_steady (h : z.Steady s) (f : Dma → Dma) (hf : ∀ d, (f d).taken.length = d.taken.length ∧ (f d).turn.length = d.turn.length) : z.Steady (s.updDma f) := by
  unfold State.updDma
  refine Steady.lit h ?_
  rw [(hf s.dma).1, (hf s.dma).2]
theorem State.heal_steady (h : z.Steady s) (a n : Nat) : z.Steady (s.heal a n) := by
  unfold State.heal
  with_reducible repeat' first | assumption | rw [State.mk_lit] | apply Steady.lit | exact (rfl : (_ : List Nat) = _)
theorem State.zeroFrame_steady (h : z.Steady s) (f : Nat) : z.Steady (s.zeroFrame f) := by
  unfold State.zeroFrame
  with_reducible repeat' first | assumption | apply State.zero_steady | apply State.heal_steady
theorem State.frameOp_steady (h : z.Steady s) (k op count : Nat) : z.Steady (s.frameOp k op count).2 := by
  unfold State.frameOp
  with_reducible repeat' first
      | assumption | apply State.zeroFrame_steady | apply State.setFrame_steady | apply Steady.foldl | split | intro _ | dsimp only
theorem State.frameCmd_steady (h : z.Steady s) (k op count : Nat) : z.SteadyAct (s.frameCmd k op count) := by
  unfold State.frameCmd
  with_reducible repeat' first
      | assumption | exact SteadyAct.error _ | apply SteadyAct.ok | apply State.frameOp_steady | apply State.updDma_steady | split | (simp; done)
theorem State.frameFinish_steady (h : z.Steady s) : z.Steady (s.frameFinish) := by
  unfold State.frameFinish
  with_reducible repeat' first | assumption | apply State.updDma_steady | apply State.fs_steady | apply State.notifyTo_steady | split | (simp; done)
theorem State.dropCommit_steady (h : z.Steady s) (k : Nat) : z.Steady (s.dropCommit k) := by
  unfold State.dropCommit
  with_reducible repeat' first | assumption | apply State.updDma_steady | apply State.fs_steady | (simp; done)
theorem State.xlatRefuse_steady (h : z.Steady s) (k : Nat) (code : Code) (a plate : Nat) : z.Steady (s.xlatRefuse k code a plate) := by
  unfold State.xlatRefuse
  with_reducible repeat' first
      | assumption | apply State.dropCommit_steady | apply State.fs_steady | apply State.wr64_steady | apply State.notifyTo_steady
theorem State.xlatCmd_steady (h : z.Steady s) (k : Nat) (cancel commit : Bool) : z.SteadyAct (s.xlatCmd k cancel commit) := by
  unfold State.xlatCmd
  with_reducible repeat' first
      | assumption | exact SteadyAct.error _ | apply SteadyAct.ok | apply State.xlatRefuse_steady | apply State.updDma_steady
      | apply State.fs_steady | split | dsimp only | (simp; done)
theorem State.xlatChecked_steady (h : z.Steady s) (k : Nat) : z.Steady (s.xlatChecked k) := by
  unfold State.xlatChecked
  with_reducible repeat' first
      | assumption | apply State.eccRead_steady | apply State.xlatRefuse_steady | apply State.updDma_steady | split | (simp; done)
theorem State.xlatEffect_steady (h : z.Steady s) (k : Nat) : z.Steady (s.xlatEffect k) := by
  unfold State.xlatEffect
  with_reducible repeat' first
      | assumption | apply State.xlatRefuse_steady | apply State.dropCommit_steady | apply State.wr64_steady | apply State.fs_steady
      | apply State.notifyTo_steady | split
theorem State.setSlot_steady (h : z.Steady s) (q i st : Nat) : z.Steady (s.setSlot q i st) := by
  unfold State.setSlot
  with_reducible repeat' first | assumption | apply State.setMbits_steady
theorem State.showQueue_steady (h : z.Steady s) (q : Nat) : z.Steady (s.showQueue q) := by
  unfold State.showQueue
  with_reducible repeat' first | assumption | apply State.fs_steady
theorem State.slotWrite_steady (h : z.Steady s) (k a : Nat) (w : Word) : z.SteadyAct (s.slotWrite k a w) := by
  unfold State.slotWrite
  with_reducible repeat' first | assumption | exact SteadyAct.error _ | apply SteadyAct.ok | apply State.stw_steady | split | dsimp only
theorem State.tailTo_steady (h : z.Steady s) (k q tail : Nat) : z.SteadyAct (s.tailTo k q tail) := by
  unfold State.tailTo
  with_reducible repeat' first
      | assumption | exact SteadyAct.error _ | apply SteadyAct.ok | apply State.stw_steady | apply State.zero_steady | apply State.fs_steady
      | apply State.updDma_steady | apply State.showQueue_steady | apply Steady.foldl | split | intro _ | dsimp only | (simp; done)
theorem State.headOn_steady (h : z.Steady s) (q : Nat) (y0 : Nat) : z.Steady (s.headOn q y0) := by
  induction y0 generalizing s q with
  | zero =>
    unfold State.headOn
    with_reducible repeat' first | assumption | apply State.fs_steady | split
  | succ n ih =>
    unfold State.headOn
    with_reducible repeat' first | assumption | apply ih | apply State.fs_steady | split
theorem State.dmaComplete_steady (h : z.Steady s) (q i status : Nat) (c : Code) : z.Steady (s.dmaComplete q i status c) := by
  unfold State.dmaComplete
  with_reducible repeat' first
      | assumption | apply State.setMbits_steady | apply State.setSlot_steady | apply State.st_steady | apply State.updDma_steady
      | apply State.headOn_steady | apply State.fs_steady | apply State.showQueue_steady | apply State.notifyTo_steady | split | dsimp only
      | (simp; done)
theorem State.cancelSubmitted_steady (h : z.Steady s) (q : Nat) (c : Code) : z.Steady (s.cancelSubmitted q c) := by
  unfold State.cancelSubmitted
  with_reducible repeat' first | assumption | apply State.dmaComplete_steady | apply Steady.foldl | split | intro _
theorem State.queueCmd_steady (h : z.Steady s) (k q op : Nat) : z.SteadyAct (s.queueCmd k q op) := by
  unfold State.queueCmd
  with_reducible repeat' first
      | assumption | exact SteadyAct.error _ | apply SteadyAct.ok | apply State.fs_steady | apply State.cancelSubmitted_steady
      | apply State.setSlot_steady | apply State.updDma_steady | apply State.showQueue_steady | apply State.dmaComplete_steady | split | dsimp only
      | (simp; done)
theorem State.passOver_steady (h : z.Steady s) (c : Nat) : z.Steady (s.passOver c) := by
  unfold State.passOver
  with_reducible repeat' first
      | assumption | apply State.setSlot_steady | apply State.count_steady | apply State.showQueue_steady | apply Steady.foldl | split | intro _
      | dsimp only
theorem State.chunkStart_steady (h : z.Steady s) : z.Steady (s.chunkStart) := by
  unfold State.chunkStart
  with_reducible repeat' first
      | assumption | apply State.updDma_steady | apply State.passOver_steady | apply State.dmaComplete_steady | apply State.setMbits_steady
      | apply State.setSlot_steady | apply State.showQueue_steady | apply State.sendRel_steady | split | dsimp only | (simp; done)
theorem State.dmaFault_steady (h : z.Steady s) (c : Chunk) (f : Nat × Nat) : z.Steady (s.dmaFault c f) := by
  unfold State.dmaFault
  with_reducible repeat' first
      | assumption | apply State.updDma_steady | apply State.setSlot_steady | apply State.setMbits_steady | apply State.st_steady
      | apply State.count_steady | apply State.showQueue_steady | apply State.notifyTo_steady | (simp; done)
theorem State.retire_steady (h : z.Steady s) (q : Nat) (y0 : Nat) : z.Steady (s.retire q y0) := by
  induction y0 generalizing s q with
  | zero =>
    unfold State.retire
    with_reducible repeat' first
        | assumption | apply State.updDma_steady | apply State.dmaFault_steady | apply State.stw_steady | apply State.dmaComplete_steady | split
        | dsimp only | (simp; done)
  | succ n ih =>
    unfold State.retire
    with_reducible repeat' first
        | assumption | apply ih | apply State.updDma_steady | apply State.dmaFault_steady | apply State.stw_steady | apply State.dmaComplete_steady
        | split | dsimp only | (simp; done)
theorem State.stopEnds_steady (h : z.Steady s) (q : Nat) : z.Steady (s.stopEnds q) := by
  unfold State.stopEnds
  with_reducible repeat' first | assumption | apply State.dmaComplete_steady | apply State.updDma_steady | split | (simp; done)
theorem State.chunkDone_steady (h : z.Steady s) (i : Nat) : z.Steady (s.chunkDone i) := by
  unfold State.chunkDone
  with_reducible repeat' first
      | assumption | apply State.eccRead_steady | apply State.noteRewrite_steady | apply State.stBytes_steady | apply State.heal_steady
      | apply State.updDma_steady | apply State.retire_steady | apply State.stopEnds_steady | split | dsimp only | (simp; done)
theorem State.pullAnswer_steady (h : z.Steady s) (k tag : Nat) (data : Option (List Byte)) : z.Steady (s.pullAnswer k tag data) := by
  unfold State.pullAnswer
  with_reducible repeat' first | assumption | apply State.updSes_steady | apply State.updDma_steady | (simp; done)
theorem State.pullLate_steady (h : z.Steady s) (k tag : Nat) : z.Steady (s.pullLate k tag) := by
  unfold State.pullLate
  with_reducible repeat' first | assumption | rw [State.mk_lit] | apply Steady.lit | apply State.pullAnswer_steady | split | dsimp only
theorem State.orphanQueues_steady (h : z.Steady s) (k : Nat) : z.Steady (s.orphanQueues k) := by
  unfold State.orphanQueues
  with_reducible repeat' first
      | assumption | apply State.cancelSubmitted_steady | apply State.updDma_steady | apply State.stopEnds_steady | apply Steady.foldl | split
      | intro _ | dsimp only | (simp; done)
theorem State.frameBy_steady (h : z.Steady s) (o : Org) (op count : Nat) : z.Steady (s.frameBy o op count) := by
  unfold State.frameBy
  with_reducible repeat' first | assumption | apply State.hostReg_steady | apply State.frameCmd_steady | intro _
theorem State.queueBy_steady (h : z.Steady s) (o : Org) (q op : Nat) : z.Steady (s.queueBy o q op) := by
  unfold State.queueBy
  with_reducible repeat' first | assumption | apply State.hostReg_steady | apply State.queueCmd_steady | intro _

/-! ### Clocks -/

theorem State.updClk_steady (h : z.Steady s) (f : Clk → Clk) (hf : ∀ d, [(f d).sync.slots.length, (f d).sync.bad.length] = [d.sync.slots.length, d.sync.bad.length]) : z.Steady (s.updClk f) := by
  have k := hf s.clk
  simp only [List.cons.injEq, and_true] at k
  unfold State.updClk
  refine Steady.lit h ?_
  rw [k.1, k.2]
theorem State.updSync_steady (h : z.Steady s) (f : SyncBus → SyncBus) (hf : ∀ d, [(f d).slots.length, (f d).bad.length] = [d.slots.length, d.bad.length]) : z.Steady (s.updSync f) :=
  State.updClk_steady h _ (fun c => hf c.sync)
theorem State.anchorGf_steady (h : z.Steady s) : z.Steady (s.anchorGf) := by
  unfold State.anchorGf
  with_reducible repeat' first | assumption | apply State.updClk_steady | intro _ | exact (rfl : (_ : List Nat) = _)
theorem State.anchorCf_steady (h : z.Steady s) : z.Steady (s.anchorCf) := by
  unfold State.anchorCf
  with_reducible repeat' first | assumption | apply State.updClk_steady | intro _ | exact (rfl : (_ : List Nat) = _)
theorem State.regrid_steady (h : z.Steady s) : z.Steady (s.regrid) := by
  unfold State.regrid
  with_reducible repeat' first | assumption | apply State.updTrc_steady | apply Steady.foldl | split | intro _
theorem State.correct_steady (h : z.Steady s) (c : Int) : z.Steady (s.correct c) := by
  unfold State.correct
  with_reducible repeat' first
      | assumption | rw [State.mk_lit] | apply Steady.lit | apply State.anchorGf_steady | apply State.anchorCf_steady | apply State.updClk_steady
      | apply State.regrid_steady | split | intro _ | dsimp only
theorem State.corrections_steady (h : z.Steady s) : z.Steady (s.corrections) := by
  unfold State.corrections
  with_reducible repeat' first
      | assumption | apply State.updSync_steady | apply State.correct_steady | split | intro _ | exact (rfl : (_ : List Nat) = _)
theorem State.toTime_steady (h : z.Steady s) (t : Nat) : z.Steady (s.toTime t) := by
  unfold State.toTime
  with_reducible repeat' first
      | assumption | rw [State.mk_lit] | apply Steady.lit | apply State.corrections_steady | apply State.settled_steady
      | exact (rfl : (_ : List Nat) = _)
theorem State.syncSend_steady (h : z.Steady s) (up : Bool) (f : SyncFrame) : z.Steady (s.syncSend up f) := by
  unfold State.syncSend
  with_reducible repeat' first | assumption | apply State.updSync_steady | intro _ | exact (rfl : (_ : List Nat) = _)
theorem State.timeBeat_steady (h : z.Steady s) : z.Steady (s.timeBeat) := by
  unfold State.timeBeat
  with_reducible repeat' first
      | assumption | apply State.syncSend_steady | apply State.updSync_steady | split | intro _ | exact (rfl : (_ : List Nat) = _)
theorem State.ownOp_steady (h : z.Steady s) (k op p : Nat) : z.Steady (s.ownOp k op p).2 := by
  unfold State.ownOp
  with_reducible repeat' first | assumption | apply State.fs_steady | split | dsimp only
theorem State.ownDo_steady (h : z.Steady s) (q : OwnReq) : z.Steady (s.ownDo q) := by
  unfold State.ownDo
  with_reducible repeat' first | assumption | apply State.ownOp_steady | apply State.fs_steady | apply State.notifyTo_steady
theorem State.ownRun_steady (h : z.Steady s) (y0 : Nat) : z.Steady (s.ownRun y0) := by
  induction y0 generalizing s  with
  | zero =>
    unfold State.ownRun
    with_reducible repeat' first
        | assumption | rw [State.mk_lit] | apply Steady.lit | apply State.ownDo_steady | split | exact (rfl : (_ : List Nat) = _)
  | succ n ih =>
    unfold State.ownRun
    with_reducible repeat' first
        | assumption | apply ih | rw [State.mk_lit] | apply Steady.lit | apply State.ownDo_steady | split | exact (rfl : (_ : List Nat) = _)
theorem State.ownSettled_steady (h : z.Steady s) : z.Steady (s.ownSettled) := by
  unfold State.ownSettled
  with_reducible repeat' first | assumption | apply State.ownRun_steady | split
theorem State.stopGf_steady (h : z.Steady s) : z.Steady (s.stopGf) := by
  unfold State.stopGf
  with_reducible repeat' first | assumption | apply State.anchorGf_steady | apply State.fs_steady
theorem State.stopCf_steady (h : z.Steady s) : z.Steady (s.stopCf) := by
  unfold State.stopCf
  with_reducible repeat' first | assumption | apply State.anchorCf_steady | apply State.fs_steady
theorem State.startGf_steady (h : z.Steady s) : z.Steady (s.startGf) := by
  unfold State.startGf
  with_reducible repeat' first
      | assumption | apply State.updClk_steady | apply State.fs_steady | apply State.bump_steady | intro _ | exact (rfl : (_ : List Nat) = _)
theorem State.startCf_steady (h : z.Steady s) : z.Steady (s.startCf) := by
  unfold State.startCf
  with_reducible repeat' first
      | assumption | apply State.updClk_steady | apply State.fs_steady | apply State.bump_steady | intro _ | exact (rfl : (_ : List Nat) = _)
theorem State.setTime_steady (h : z.Steady s) (t : Nat) : z.Steady (s.setTime t) := by
  unfold State.setTime
  with_reducible repeat' first | assumption | rw [State.mk_lit] | apply Steady.lit | (simp; done)
theorem State.refSwitch_steady (h : z.Steady s) (cause : Nat) : z.Steady (s.refSwitch cause) := by
  unfold State.refSwitch
  with_reducible repeat' first
      | assumption | apply State.fs_steady | apply State.sourceTo_steady | apply State.publish_steady | apply State.count_steady
      | apply State.notify_steady | split
theorem State.acquireEnds_steady (h : z.Steady s) (outcome : Nat) : z.Steady (s.acquireEnds outcome) := by
  unfold State.acquireEnds
  with_reducible repeat' first | assumption | apply State.fs_steady | apply State.notify_steady
theorem State.leaveRef_steady (h : z.Steady s) (cause outcome : Nat) : z.Steady (s.leaveRef cause outcome) := by
  unfold State.leaveRef
  with_reducible repeat' first | assumption | apply State.refSwitch_steady | apply State.acquireEnds_steady | split
theorem State.setSync_steady (h : z.Steady s) (st : Nat) : z.Steady (s.setSync st) := by
  unfold State.setSync
  with_reducible repeat' first | assumption | apply State.fs_steady
theorem State.joinFails_steady (h : z.Steady s) (outcome : Nat) : z.Steady (s.joinFails outcome) := by
  unfold State.joinFails
  with_reducible repeat' first | assumption | apply State.setSync_steady | apply State.notify_steady | split
theorem State.refSelect_steady (h : z.Steady s) : z.SteadyAct (s.refSelect) := by
  unfold State.refSelect
  with_reducible repeat' first
      | assumption | exact SteadyAct.error _ | apply SteadyAct.ok | apply State.fs_steady | apply State.updClk_steady | split | intro _ | dsimp only
theorem State.refCmd_steady (h : z.Steady s) (bypass select : Bool) : z.SteadyAct (s.refCmd bypass select) := by
  unfold State.refCmd
  with_reducible repeat' first | assumption | apply SteadyAct.ok | apply State.leaveRef_steady | apply State.refSelect_steady | split
theorem State.lockRises_steady (h : z.Steady s) : z.Steady (s.lockRises) := by
  unfold State.lockRises
  with_reducible repeat' first | assumption | apply State.fs_steady | apply State.refSwitch_steady | apply State.notify_steady | split | dsimp only
theorem State.refLost_steady (h : z.Steady s) : z.Steady (s.refLost) := by
  unfold State.refLost
  with_reducible repeat' first | assumption | apply State.fs_steady | apply State.leaveRef_steady | split
theorem State.monitorGate_steady (h : z.Steady s) (dev : Option Int) : z.Steady (s.monitorGate dev) := by
  unfold State.monitorGate
  with_reducible repeat' first
      | assumption | apply State.fs_steady | apply State.updClk_steady | apply State.notify_steady | apply State.refSwitch_steady | split | intro _
      | dsimp only
theorem State.lockGate_steady (h : z.Steady s) (n : Nat) : z.Steady (s.lockGate n) := by
  unfold State.lockGate
  with_reducible repeat' first
      | assumption | apply State.fs_steady | apply State.notify_steady | apply State.leaveRef_steady | apply State.joinFails_steady | split
theorem State.loopNotice_steady (h : z.Steady s) (cap : Bool) (code : Nat) : z.Steady (s.loopNotice cap code) := by
  unfold State.loopNotice
  with_reducible repeat' first | assumption | apply State.notifyTo_steady | apply Steady.foldl | intro _
theorem State.unalign_steady (h : z.Steady s) : z.Steady (s.unalign) := by
  unfold State.unalign
  with_reducible repeat' first | assumption | apply State.fs_steady | apply State.logChain_steady | apply Steady.foldl | intro _
theorem State.genAcquire_steady (h : z.Steady s) (why : AcqWhy) : z.Steady (s.genAcquire why) := by
  unfold State.genAcquire
  with_reducible repeat' first
      | assumption | apply State.mute_steady | apply State.unalign_steady | apply State.fs_steady | apply State.stopGf_steady
      | apply State.updClk_steady | apply Steady.foldl | intro _ | dsimp only
theorem State.capAcquire_steady (h : z.Steady s) (why : AcqWhy) : z.Steady (s.capAcquire why) := by
  unfold State.capAcquire
  with_reducible repeat' first
      | assumption | apply State.acqCut_steady | apply State.fs_steady | apply State.stopCf_steady | apply State.updClk_steady | apply Steady.foldl
      | intro _ | dsimp only
theorem State.showGlide_steady (h : z.Steady s) : z.Steady (s.showGlide) := by
  unfold State.showGlide
  with_reducible repeat' first | assumption | apply State.fs_steady
theorem State.outCfg_steady (h : z.Steady s) (k a : Nat) (w : Word) : z.SteadyAct (s.outCfg k a w) := by
  unfold State.outCfg
  with_reducible repeat' first | assumption | exact SteadyAct.error _ | apply SteadyAct.ok | apply State.plain_steady | split | dsimp only
theorem State.rateWrite_steady (h : z.Steady s) (cap : Bool) (r0 : Nat) : z.SteadyAct (s.rateWrite cap r0) := by
  unfold State.rateWrite
  with_reducible repeat' first
      | assumption | exact SteadyAct.error _ | apply SteadyAct.ok | apply State.anchorCf_steady | apply State.anchorGf_steady
      | apply State.wr64_steady | apply State.setCharges_steady | apply State.clearModels_steady | apply State.regrid_steady
      | apply State.updClk_steady | apply State.showGlide_steady | apply State.capAcquire_steady | apply State.genAcquire_steady | split | intro _
      | dsimp only
theorem State.synthDone_steady (h : z.Steady s) (cap : Bool) : z.Steady (s.synthDone cap) := by
  unfold State.synthDone
  with_reducible repeat' first
      | assumption | apply State.fs_steady | apply State.startCf_steady | apply State.catchUp_steady | apply State.loopNotice_steady
      | apply State.startGf_steady | apply State.alignProof_steady | apply State.unmute_steady | apply Steady.foldl | split | intro _ | dsimp only
theorem State.glideEnds_steady (h : z.Steady s) (cap : Bool) : z.Steady (s.glideEnds cap) := by
  unfold State.glideEnds
  with_reducible repeat' first
      | assumption | apply State.updClk_steady | apply State.showGlide_steady | apply State.loopNotice_steady | split | intro _ | dsimp only
theorem State.relock_steady (h : z.Steady s) (cap : Bool) : z.Steady (s.relock cap) := by
  unfold State.relock
  with_reducible repeat' first
      | assumption | apply State.count_steady | apply State.capAcquire_steady | apply State.genAcquire_steady | apply State.showGlide_steady | split
theorem State.clkReg_steady (h : z.Steady s) (k off : Nat) (w : Word) : z.SteadyAct (s.clkReg k off w) := by
  unfold State.clkReg
  with_reducible repeat' first
      | assumption | exact SteadyAct.error _ | apply SteadyAct.ok | apply State.refCmd_steady | apply State.outCfg_steady | apply State.plain_steady
      | split
theorem State.ppsMode_steady (h : z.Steady s) (k : Nat) (w : Word) : z.SteadyAct (s.ppsMode k w) := by
  unfold State.ppsMode
  with_reducible repeat' first | assumption | exact SteadyAct.error _ | apply SteadyAct.ok | apply State.plain_steady | split | dsimp only
theorem State.ppsAlign_steady (h : z.Steady s) (p : Nat) : z.Steady (s.ppsAlign p) := by
  unfold State.ppsAlign
  with_reducible repeat' first
      | assumption | rw [State.mk_lit] | apply Steady.lit | apply State.fs_steady | apply State.notify_steady | apply State.setTime_steady
      | apply State.wr64_steady | split | dsimp only
theorem State.ppsDiscipline_steady (h : z.Steady s) (p : Nat) : z.Steady (s.ppsDiscipline p) := by
  unfold State.ppsDiscipline
  with_reducible repeat' first
      | assumption | rw [State.mk_lit] | apply Steady.lit | apply State.fs_steady | apply State.count_steady | apply State.updSync_steady
      | apply State.syncSend_steady | apply State.correct_steady | apply State.notify_steady | split | intro _ | dsimp only
theorem State.ppsEdge_steady (h : z.Steady s) (ticks frac : Nat) : z.Steady (s.ppsEdge ticks frac) := by
  unfold State.ppsEdge
  with_reducible repeat' first
      | assumption | apply State.toTime_steady | apply State.count_steady | apply State.wr64_steady | apply State.fs_steady
      | apply State.updClk_steady | apply State.publish_steady | apply State.ppsAlign_steady | apply State.ppsDiscipline_steady
      | apply State.schedEdge_steady | apply State.settled_steady | split | intro _ | dsimp only
theorem State.ppsGap_steady (h : z.Steady s) : z.Steady (s.ppsGap) := by
  unfold State.ppsGap
  with_reducible repeat' first
      | assumption | apply State.toTime_steady | apply State.updClk_steady | apply State.count_steady | apply State.notify_steady | split | intro _
      | dsimp only
theorem State.roleWrite_steady (h : z.Steady s) (k : Nat) (w : Word) : z.SteadyAct (s.roleWrite k w) := by
  unfold State.roleWrite
  with_reducible repeat' first
      | assumption | exact SteadyAct.error _ | apply SteadyAct.ok | apply State.plain_steady | apply State.setSync_steady
      | apply State.updSync_steady | apply State.timeBeat_steady | split | intro _ | dsimp only
theorem State.joinCmd_steady (h : z.Steady s) : z.SteadyAct (s.joinCmd) := by
  unfold State.joinCmd
  with_reducible repeat' first
      | assumption | exact SteadyAct.error _ | apply SteadyAct.ok | apply State.setSync_steady | apply State.updSync_steady
      | apply State.syncSend_steady | split | intro _ | exact (rfl : (_ : List Nat) = _)
theorem State.leaveCmd_steady (h : z.Steady s) : z.SteadyAct (s.leaveCmd) := by
  unfold State.leaveCmd
  with_reducible repeat' first
      | assumption | exact SteadyAct.error _ | apply SteadyAct.ok | apply State.updSync_steady | apply State.setSync_steady
      | apply State.syncSend_steady | apply State.leaveRef_steady | split | intro _ | dsimp only
theorem State.syncCmd_steady (h : z.Steady s) (leave join : Bool) : z.SteadyAct (s.syncCmd leave join) := by
  unfold State.syncCmd
  with_reducible repeat' first
      | assumption | apply SteadyAct.ok | apply State.leaveCmd_steady | apply State.joinCmd_steady | apply SteadyAct.bind_act | split
theorem State.measured_steady (h : z.Steady s) : z.Steady (s.measured) := by
  unfold State.measured
  with_reducible repeat' first
      | assumption | apply State.fs_steady | apply State.setSync_steady | apply State.updClk_steady | split | intro _ | dsimp only
theorem State.joined_steady (h : z.Steady s) (ticks hops total : Nat) : z.Steady (s.joined ticks hops total) := by
  unfold State.joined
  with_reducible repeat' first
      | assumption | apply State.lockRises_steady | apply State.setTime_steady | apply State.fs_steady | apply State.setSync_steady
      | apply State.notify_steady | split | dsimp only
theorem State.drainDir_steady (h : z.Steady s) (up : Bool) (y0 : Nat) : z.Steady (s.drainDir up y0) := by
  induction y0 generalizing s up with
  | zero =>
    unfold State.drainDir
    with_reducible repeat' first | assumption | apply State.updSync_steady | apply State.syncSend_steady | split | dsimp only | (simp; done)
  | succ n ih =>
    unfold State.drainDir
    with_reducible repeat' first
        | assumption | apply ih | apply State.updSync_steady | apply State.syncSend_steady | split | dsimp only | (simp; done)
theorem State.drain_steady (h : z.Steady s) : z.Steady (s.drain) := by
  unfold State.drain
  with_reducible repeat' first | assumption | apply State.drainDir_steady | split
theorem State.symbolDue_steady (h : z.Steady s) (line tpub : Nat) : z.Steady (s.symbolDue line tpub) := by
  unfold State.symbolDue
  with_reducible repeat' first | assumption | apply State.updSync_steady | split | intro _ | exact (rfl : (_ : List Nat) = _)
theorem State.syncTransmit_steady (h : z.Steady s) (line : Nat) : z.Steady (s.syncTransmit line).2 := by
  unfold State.syncTransmit
  with_reducible repeat' first
      | assumption | apply State.drain_steady | apply State.updSync_steady | apply State.count_steady | apply State.symbolDue_steady | split
      | intro _ | dsimp only
theorem State.symbolGone_steady (h : z.Steady s) (line tpub : Nat) : z.Steady (s.symbolGone line tpub) := by
  unfold State.symbolGone
  with_reducible repeat' first | assumption | apply State.updSync_steady | intro _ | dsimp only
theorem State.symbolIn_steady (h : z.Steady s) (line : Nat) (up : Bool) (p : Nat) : z.Steady (s.symbolIn line up p) := by
  unfold State.symbolIn
  with_reducible repeat' first
      | assumption | apply State.count_steady | apply State.notify_steady | apply State.updSync_steady | apply State.publish_steady
      | apply State.symbolGone_steady | apply State.symbolDue_steady | split | intro _ | dsimp only
theorem State.triggerFrame_steady (h : z.Steady s) (fromUp : Bool) (a b : Option Nat) : z.Steady (s.triggerFrame fromUp a b) := by
  unfold State.triggerFrame
  with_reducible repeat' first | assumption | apply State.drain_steady | apply State.symbolIn_steady | split | dsimp only
theorem State.symbolOut_steady (h : z.Steady s) (line : Nat) : z.Steady (s.symbolOut line) := by
  unfold State.symbolOut
  with_reducible repeat' first
      | assumption | apply State.toTime_steady | apply State.updSync_steady | apply State.drain_steady | apply State.publish_steady
      | apply State.symbolGone_steady | split | intro _ | dsimp only
theorem State.split_steady (h : z.Steady s) (hop : Nat) (byTime : Bool) : z.Steady (s.split hop byTime) := by
  unfold State.split
  with_reducible repeat' first
      | assumption | apply State.leaveRef_steady | apply State.setSync_steady | apply State.syncSend_steady | apply State.notify_steady
theorem State.splitFrame_steady (h : z.Steady s) (hop : Nat) : z.Steady (s.splitFrame hop) := by
  unfold State.splitFrame
  with_reducible repeat' first | assumption | apply State.split_steady | apply State.syncSend_steady | split
theorem State.timeFrame_steady (h : z.Steady s) (ticks lead : Nat) : z.Steady (s.timeFrame ticks lead) := by
  unfold State.timeFrame
  with_reducible repeat' first | assumption | apply State.fs_steady | apply State.syncSend_steady | apply State.split_steady | split | dsimp only
theorem State.correctFrame_steady (h : z.Steady s) (at32 c4 : Nat) : z.Steady (s.correctFrame at32 c4) := by
  unfold State.correctFrame
  with_reducible repeat' first
      | assumption | apply State.count_steady | apply State.syncSend_steady | apply State.updSync_steady | apply State.corrections_steady | split
      | intro _ | dsimp only
theorem State.linkLost_steady (h : z.Steady s) (up : Bool) : z.Steady (s.linkLost up) := by
  unfold State.linkLost
  with_reducible repeat' first
      | assumption | apply State.fs_steady | apply State.leaveRef_steady | apply State.joinFails_steady | apply State.split_steady
      | apply State.updSync_steady | apply State.notify_steady | split | intro _ | dsimp only
theorem State.frameIn_steady (h : z.Steady s) (up crcOk : Bool) (f : State → State) (hf : ∀ t, z.Steady t → z.Steady (f t)) : z.Steady (s.frameIn up crcOk f) := by
  unfold State.frameIn
  extract_lets i last n mark t
  have hm : ∀ u m, z.Steady u → z.Steady (mark u m) := fun u m hu => State.updSync_steady hu _ (fun _ => by simp)
  have ht : z.Steady t := hm _ _ (State.count_steady h _ _ _)
  split
  · exact hf _ (hm _ _ h)
  · repeat' split
    all_goals first | exact ht | exact State.linkLost_steady ht _
theorem State.syncReg_steady (h : z.Steady s) (k off : Nat) (w : Word) : z.SteadyAct (s.syncReg k off w) := by
  unfold State.syncReg
  with_reducible repeat' first
      | assumption | apply SteadyAct.ok | apply State.roleWrite_steady | apply State.syncCmd_steady | apply State.plain_steady | split

/-! ### Sessions -/

theorem State.pump_steady (h : z.Steady s) (k : Nat) : z.Steady (s.pump k) := by
  unfold State.pump
  with_reducible repeat' first | assumption | apply State.sendRel_steady | apply State.updSes_steady | apply Steady.foldl | intro _
theorem State.reportLost_steady (h : z.Steady s) (k : Nat) : z.Steady (s.reportLost k) := by
  unfold State.reportLost
  with_reducible repeat' first | assumption | apply State.fs_steady | apply State.countBy_steady | apply State.notifyTo_steady | split | dsimp only
theorem State.acked_steady (h : z.Steady s) (k ack : Nat) : z.Steady (s.acked k ack) := by
  unfold State.acked
  with_reducible repeat' first | assumption | apply State.updSes_steady | apply State.reportLost_steady | apply State.pump_steady | split
theorem State.sendNotices_steady (h : z.Steady s) (k : Nat) : z.Steady (s.sendNotices k) := by
  unfold State.sendNotices
  with_reducible repeat' first | assumption | apply State.updSes_steady | apply State.sendRel_steady | split | dsimp only
theorem State.failover_steady (h : z.Steady s) (k p cause : Nat) : z.Steady (s.failover k p cause) := by
  unfold State.failover
  with_reducible repeat' first
      | assumption | apply State.fs_steady | apply State.count_steady | apply State.emit_steady | apply State.countBy_steady
      | apply State.updSes_steady | apply State.notifyTo_steady | apply Steady.foldl | intro _
theorem State.settlePort_steady (h : z.Steady s) (k : Nat) : z.Steady (s.settlePort k) := by
  unfold State.settlePort
  with_reducible repeat' first | assumption | apply State.failover_steady | split | dsimp only
theorem State.resendFails_steady (h : z.Steady s) (k : Nat) : z.Steady (s.resendFails k) := by
  unfold State.resendFails
  with_reducible repeat' first | assumption | apply State.failover_steady | split | dsimp only
theorem State.portDown_steady (h : z.Steady s) (p : Nat) : z.Steady (s.portDown p) := by
  unfold State.portDown
  with_reducible repeat' first
      | assumption | apply State.fs_steady | apply State.notifyAll_steady | apply State.settlePort_steady | apply Steady.foldl | split | intro _
theorem State.portRise_steady (h : z.Steady s) (p : Nat) : z.Steady (s.portRise p) := by
  unfold State.portRise
  with_reducible repeat' first
      | assumption | apply State.fs_steady | apply State.notifyAll_steady | apply State.settlePort_steady | apply Steady.foldl | split | intro _
theorem State.resend_steady (h : z.Steady s) (k seq : Nat) : z.Steady (s.resend k seq) := by
  unfold State.resend
  with_reducible repeat' first
      | assumption | rw [State.mk_lit] | apply Steady.lit | apply State.emit_steady | apply State.count_steady | apply State.updSes_steady
      | apply State.resendFails_steady | split | dsimp only
theorem State.streamOut_steady (h : z.Steady s) (n : Nat) : z.Steady (s.streamOut n) := by
  unfold State.streamOut
  with_reducible repeat' first
      | assumption | apply State.updTrc_steady | apply State.updSes_steady | apply State.fs_steady | apply State.sendPlain_steady | split
      | dsimp only
theorem State.freeBlock_steady (h : z.Steady s) (f : Flight) (delivered : Bool) : z.Steady (s.freeBlock f delivered) := by
  unfold State.freeBlock
  with_reducible repeat' first | assumption | apply State.updTrc_steady | apply State.ringFreed_steady
theorem State.gapBlock_steady (h : z.Steady s) (k : Nat) (f : Flight) : z.Steady (s.gapBlock k f) := by
  unfold State.gapBlock
  with_reducible repeat' first
      | assumption | apply State.freeBlock_steady | apply State.fs_steady | apply State.count_steady | apply State.updSes_steady
theorem State.confirmBlock_steady (h : z.Steady s) (k : Nat) (f : Flight) : z.Steady (s.confirmBlock k f) := by
  unfold State.confirmBlock
  with_reducible repeat' first | assumption | apply State.freeBlock_steady | apply State.fs_steady | apply State.updSes_steady
theorem State.streamAck_steady (h : z.Steady s) (k : Nat) (es : List AckEntry) : z.Steady (s.streamAck k es) := by
  unfold State.streamAck
  with_reducible repeat' first | assumption | apply State.gapBlock_steady | apply State.confirmBlock_steady | apply Steady.foldl | split | intro _
theorem State.blockDeadline_steady (h : z.Steady s) (k n acq blk : Nat) : z.Steady (s.blockDeadline k n acq blk) := by
  unfold State.blockDeadline
  with_reducible repeat' first
      | assumption | rw [State.mk_lit] | apply Steady.lit | apply State.gapBlock_steady | split | exact (rfl : (_ : List Nat) = _)
theorem State.gapReported_steady (h : z.Steady s) (k n : Nat) : z.Steady (s.gapReported k n) := by
  unfold State.gapReported
  with_reducible repeat' first
      | assumption | rw [State.mk_lit] | apply Steady.lit | apply State.updSes_steady | apply State.notifyTo_steady | split | dsimp only
theorem State.sessChange_steady (h : z.Steady s) (k : Nat) : z.Steady (s.sessChange k) := by
  unfold State.sessChange
  with_reducible repeat' first | assumption | apply State.notifyTo_steady | apply Steady.foldl | intro _
theorem State.orphanAcqs_steady (h : z.Steady s) (k : Nat) : z.Steady (s.orphanAcqs k) := by
  unfold State.orphanAcqs
  with_reducible repeat' first | assumption | apply State.acqStop_steady | apply Steady.foldl | split | intro _
theorem State.endSession_steady (h : z.Steady s) (k : Nat) : z.Steady (s.endSession k) := by
  unfold State.endSession
  with_reducible repeat' first
      | assumption | apply State.settled_steady | apply State.ownRun_steady | apply State.fs_steady | apply State.updSes_steady
      | apply State.orphanScens_steady | apply State.orphanQueues_steady | apply State.orphanAcqs_steady | apply State.gapBlock_steady
      | apply State.sessChange_steady | apply Steady.foldl | split | intro _
theorem State.leaseExpires_steady (h : z.Steady s) (k : Nat) : z.Steady (s.leaseExpires k) := by
  unfold State.leaseExpires
  with_reducible repeat' first
      | assumption | rw [State.mk_lit] | apply Steady.lit | apply State.endSession_steady | split | exact (rfl : (_ : List Nat) = _)
theorem State.graceExpires_steady (h : z.Steady s) (k : Nat) : z.Steady (s.graceExpires k) := by
  unfold State.graceExpires
  with_reducible repeat' first
      | assumption | rw [State.mk_lit] | apply Steady.lit | apply State.updSes_steady | apply State.sessChange_steady | split | dsimp only
theorem State.handshake_steady (h : z.Steady s) (r : OpenReq) (openId : Nat) (m : Msg) : z.Steady (s.handshake r openId m) := by
  unfold State.handshake
  with_reducible repeat' first | assumption | apply State.sendTo_steady
theorem State.openReq_steady (h : z.Steady s) (r : OpenReq) : z.Steady (s.openReq r) := by
  unfold State.openReq
  repeat' first
      | with_reducible assumption | rw [State.mk_lit] | with_reducible apply Steady.lit | with_reducible apply State.count_steady
      | with_reducible apply State.bump_steady | with_reducible apply State.handshake_steady | split | dsimp only | exact (rfl : (_ : List Nat) = _)
theorem State.proofLate_steady (h : z.Steady s) (i : Nat) : z.Steady (s.proofLate i) := by
  unfold State.proofLate
  with_reducible repeat' first | assumption | rw [State.mk_lit] | apply Steady.lit | split | exact (rfl : (_ : List Nat) = _)
theorem State.watchAuth_steady (h : z.Steady s) (h : Nat) : z.Steady (s.watchAuth h) := by
  unfold State.watchAuth
  with_reducible repeat' first | assumption | rw [State.mk_lit] | apply Steady.lit | dsimp only
theorem State.freshNumber_steady (h : z.Steady s) (k : Nat) : z.Steady (s.freshNumber k) := by
  unfold State.freshNumber
  with_reducible repeat' first | assumption | apply State.dropRegs_steady | apply State.zero_steady | apply State.updSes_steady
theorem State.openNumber_steady (h : z.Steady s) (c : Challenge) (k x : Nat) : z.Steady (s.openNumber c k x) := by
  unfold State.openNumber
  with_reducible repeat' first
      | assumption | apply State.freshNumber_steady | apply State.updSes_steady | apply State.fs_steady | apply State.wr_steady | split
theorem State.firstNotices_steady (h : z.Steady s) (k : Nat) : z.Steady (s.firstNotices k) := by
  unfold State.firstNotices
  with_reducible repeat' first | assumption | apply State.notifyTo_steady | apply State.reportLost_steady | split
theorem State.openProof_steady (h : z.Steady s) (port i : Nat) (nh : List Nat) (m rm : Nat) : z.Steady (s.openProof port i nh m rm) := by
  unfold State.openProof
  with_reducible repeat' first
      | assumption | rw [State.mk_lit] | apply Steady.lit | apply State.count_steady | apply State.watchAuth_steady | apply State.handshake_steady
      | apply State.openNumber_steady | apply State.sessChange_steady | apply State.firstNotices_steady | split | dsimp only
theorem State.ownCmd_steady (h : z.Steady s) (k op p : Nat) : z.SteadyAct (s.ownCmd k op p) := by
  unfold State.ownCmd
  with_reducible repeat' first
      | assumption | exact SteadyAct.error _ | apply SteadyAct.ok | rw [State.mk_lit] | apply Steady.lit | apply State.fs_steady
      | apply State.ownSettled_steady | split | dsimp only
theorem State.clearCounts_steady (h : z.Steady s) (mask again : Nat) (keys : List Nat) : z.Steady (s.clearCounts mask again keys) := by
  unfold State.clearCounts
  with_reducible repeat' first | assumption | apply State.wr_steady | apply Steady.foldl | split | intro _
theorem State.xportClear_steady (h : z.Steady s) (k : Nat) (w again : Nat) : z.SteadyAct (s.xportClear k w again) := by
  unfold State.xportClear
  with_reducible repeat' first | assumption | exact SteadyAct.error _ | apply SteadyAct.ok | apply State.clearCounts_steady | split
theorem State.noteClear_steady (h : z.Steady s) (k : Nat) (w again : Nat) : z.Steady (s.noteClear k w again) := by
  unfold State.noteClear
  with_reducible repeat' first | assumption | apply State.clearCounts_steady
theorem State.xportReg_steady (h : z.Steady s) (k off : Nat) (w : Word) : z.SteadyAct (s.xportReg k off w) := by
  unfold State.xportReg
  with_reducible repeat' first
      | assumption | apply SteadyAct.ok | apply State.ownCmd_steady | apply State.xportClear_steady | apply State.plain_steady
      | apply State.settlePort_steady | split
theorem State.rxFrame_steady (h : z.Steady s) (p : Nat) : z.Steady (s.rxFrame p) := by
  unfold State.rxFrame
  with_reducible repeat' first | assumption | apply State.inc64_steady
theorem State.onMsg_steady (h : z.Steady s) (h : Hdr) (f : State → State) (hf : ∀ t, z.Steady t → z.Steady (f t)) : z.Steady (s.onMsg h f) := by
  unfold State.onMsg
  with_reducible repeat' first
      | assumption | apply hf | apply State.rxFrame_steady | apply State.endSession_steady | apply State.count_steady | apply State.updSes_steady
      | apply State.acked_steady | apply State.resendFails_steady | split | dsimp only
theorem State.drainHeld_steady (h : z.Steady s) (k : Nat) (f : State → Nat → HostMsg → State) (y0 : Nat) (hf : ∀ t a m, z.Steady t → z.Steady (f t a m)) : z.Steady (s.drainHeld k f y0) := by
  induction y0 generalizing s k f with
  | zero =>
    unfold State.drainHeld
    with_reducible repeat' first | assumption | apply hf | apply State.updSes_steady | split
  | succ n ih =>
    unfold State.drainHeld
    with_reducible repeat' first | assumption | apply ih | apply hf | apply State.updSes_steady | split
theorem State.takeRel_steady (h : z.Steady s) (k seq : Nat) (m : HostMsg) (f : State → Nat → HostMsg → State) (hf : ∀ t a m, z.Steady t → z.Steady (f t a m)) : z.Steady (s.takeRel k seq m f) := by
  unfold State.takeRel
  with_reducible repeat' first
      | assumption | apply hf | apply State.count_steady | apply State.sendPlain_steady | apply State.updSes_steady | apply State.drainHeld_steady
      | split | dsimp only
theorem State.pullReply_steady (h : z.Steady s) (k : Nat) (y0 : HostMsg) : z.Steady (s.pullReply k y0) := by
  unfold State.pullReply
  with_reducible repeat' first | assumption | apply State.pullAnswer_steady | split
theorem State.closeSession_steady (h : z.Steady s) (k : Nat) : z.Steady (s.closeSession k) := by
  unfold State.closeSession
  with_reducible repeat' first | assumption | apply State.returnCredit_steady | apply State.sendPlain_steady | apply State.endSession_steady | split

/-! ### Blocks -/

theorem State.writeEn_steady (h : z.Steady s) (p : Nat) (en : Bool) : z.Steady (s.writeEn p en) := by
  unfold State.writeEn
  with_reducible repeat' first | assumption | apply State.fs_steady | split
theorem State.clearFault_steady (h : z.Steady s) (p : Nat) (again : Option (Nat × Nat)) : z.Steady (s.clearFault p again) := by
  unfold State.clearFault
  with_reducible repeat' first | assumption | apply State.wr_steady | apply State.pageFault_steady | split
theorem State.pageCtrl_steady (h : z.Steady s) (p : Nat) (w : Word) (again : Option (Nat × Nat)) : z.SteadyAct (s.pageCtrl p w again) := by
  unfold State.pageCtrl
  with_reducible repeat' first
      | assumption | exact SteadyAct.error _ | apply SteadyAct.ok | apply State.writeEn_steady | apply State.fs_steady
      | apply State.clearFault_steady | split | dsimp only
theorem State.blockReady_steady (h : z.Steady s) (p : Nat) : z.Steady (s.blockReady p) := by
  unfold State.blockReady
  with_reducible repeat' first | assumption | apply State.alignProof_steady | apply State.fs_steady | split
theorem State.blockFresh_steady (h : z.Steady s) (p : Nat) : z.Steady (s.blockFresh p) := by
  unfold State.blockFresh
  dsimp only
  split
  · exact Steady.lit h (by simp)
  · split
    · split
      · refine ⟨h.1, h.2.1, fun i => State.inv_of_lens (u := s) (h.2.2 i).regs (h.2.2 i).mem (h.2.2 i).frames ?_ (h.2.2 i)⟩
        simp [State.lens, (h.2.2 i).trigOuts, (h.2.2 i).trigIns]
      · exact Steady.lit h (by simp)
    · split
      · exact State.updTrc_steady h _ _
      · split
        · exact State.updTrc_steady h _ _
        · split
          · exact State.updTrc_steady h _ _
          · exact h
theorem State.blockResetDone_steady (h : z.Steady s) (p : Nat) : z.Steady (s.blockResetDone p) := by
  unfold State.blockResetDone
  dsimp only
  have hp : z.Steady (if 0x060 ≤ p ∧ p < 0x064 then s.packRest (capOf p) else s) := by
    split
    · exact State.packRest_steady h _
    · exact h
  revert hp
  generalize (if 0x060 ≤ p ∧ p < 0x064 then s.packRest (capOf p) else s) = r
  intro hp
  with_reducible repeat' first
      | assumption | apply State.dropRegs_steady | apply State.fs_steady | apply State.blockFresh_steady | apply State.wr_steady
      | apply State.mute_steady | apply State.logChain_steady | split
theorem State.ctrlBy_steady (h : z.Steady s) (o : Org) (p : Nat) (f : Word → Word) (again : Option (Nat × Nat)) : z.Steady (s.ctrlBy o p f again) := by
  unfold State.ctrlBy
  with_reducible repeat' first | assumption | apply State.hostReg_steady | apply State.pageCtrl_steady | intro _

/-! ### Trust -/

theorem State.putRecord_steady (h : z.Steady s) (ty : Nat) : z.Steady (s.putRecord ty) := by
  unfold State.putRecord
  with_reducible repeat' first | assumption | apply State.updTrust_steady | intro _ | dsimp only
theorem State.burnEpoch_steady (h : z.Steady s) : z.Steady (s.burnEpoch) := by
  unfold State.burnEpoch
  with_reducible repeat' first
      | assumption | apply State.fs_steady | apply State.updTrust_steady | apply State.notifyAll_steady | split | intro _ | dsimp only
theorem State.setKeys_steady (h : z.Steady s) (l : List HostKey) : z.Steady (s.setKeys l) := by
  unfold State.setKeys
  with_reducible repeat' first | assumption | apply State.updTrust_steady | apply State.fs_steady | (simp; done)
theorem State.saveKeys_steady (h : z.Steady s) : z.Steady (s.saveKeys) := by
  unfold State.saveKeys
  with_reducible repeat' first | assumption | apply State.updTrust_steady | apply State.putRecord_steady | (simp; done)
theorem State.takeBundle_steady (h : z.Steady s) (b : Bundle) : z.Steady (s.takeBundle b) := by
  unfold State.takeBundle
  with_reducible repeat' first | assumption | apply State.fs_steady
theorem State.lifecycleTo_steady (h : z.Steady s) (k : Nat) : z.SteadyAct (s.lifecycleTo k) := by
  unfold State.lifecycleTo
  with_reducible repeat' first
      | assumption | exact SteadyAct.error _ | apply SteadyAct.ok | apply State.takeBundle_steady | apply State.fs_steady
      | apply State.putRecord_steady | apply State.burnEpoch_steady | apply State.wipe_steady | apply State.setKeys_steady
      | apply State.saveKeys_steady | apply State.bump_steady | apply State.jWrite_steady | apply State.updTrust_steady | split | intro _
      | dsimp only
theorem State.keyLoad_steady (h : z.Steady s) (k : Nat) : z.SteadyAct (s.keyLoad k) := by
  unfold State.keyLoad
  with_reducible repeat' first
      | assumption | exact SteadyAct.error _ | apply SteadyAct.ok | apply State.takeBundle_steady | apply State.setKeys_steady
      | apply State.saveKeys_steady | split
theorem State.alarmClear_steady (h : z.Steady s) (k : Nat) : z.SteadyAct (s.alarmClear k) := by
  unfold State.alarmClear
  with_reducible repeat' first
      | assumption | exact SteadyAct.error _ | apply SteadyAct.ok | apply State.takeBundle_steady | apply State.fs_steady
      | apply State.sourceTo_steady | apply State.setKeys_steady | apply State.saveKeys_steady | split
theorem State.trustEnd_steady (h : z.Steady s) (k op : Nat) (r : Except Code State) (hr : z.SteadyAct r) : z.Steady (s.trustEnd k op r) := by
  unfold State.trustEnd
  with_reducible repeat' first
      | assumption | exact (‹z.SteadyAct (Except.ok _)›).of _ rfl | apply State.fs_steady | apply State.notifyTo_steady | split
theorem State.tamperRest_steady (h : z.Steady s) : z.Steady (s.tamperRest) := by
  unfold State.tamperRest
  with_reducible repeat' first
      | assumption | apply State.endSession_steady | apply State.fs_steady | apply State.publish_steady | apply State.sourceTo_steady
      | apply State.burnEpoch_steady | apply State.setKeys_steady | apply State.pageFault_steady | apply State.journal_steady
      | apply State.updTrust_steady | apply Steady.foldl | intro _ | dsimp only
theorem State.tamper_steady (h : z.Steady s) (lid : Bool) : z.Steady (s.tamper lid) := by
  unfold State.tamper
  with_reducible repeat' first
      | assumption | apply State.fs_steady | apply State.updTrust_steady | apply State.wipe_steady | apply State.tamperRest_steady | split | intro _
      | dsimp only
theorem State.showSlots_steady (h : z.Steady s) : z.Steady (s.showSlots) := by
  unfold State.showSlots
  with_reducible repeat' first | assumption | apply State.fs_steady
theorem State.bootPref_steady (h : z.Steady s) (slot trial : Nat) : z.Steady (s.bootPref slot trial) := by
  unfold State.bootPref
  with_reducible repeat' first | assumption | apply State.fs_steady | apply State.putRecord_steady
theorem State.fwStage_steady (h : z.Steady s) (k : Nat) (ok : Bool) : z.SteadyAct (s.fwStage k ok) := by
  unfold State.fwStage
  with_reducible repeat' first
      | assumption | exact SteadyAct.error _ | apply SteadyAct.ok | apply State.updTrust_steady | apply State.bootPref_steady
      | apply State.showSlots_steady | split | dsimp only | (simp; done)
theorem State.fwConfirm_steady (h : z.Steady s) (k : Nat) : z.SteadyAct (s.fwConfirm k) := by
  unfold State.fwConfirm
  with_reducible repeat' first
      | assumption | exact SteadyAct.error _ | apply SteadyAct.ok | apply State.bootPref_steady | apply State.fs_steady
      | apply State.showSlots_steady | split
theorem State.fallBack_steady (h : z.Steady s) (cause : Nat) : z.Steady (s.fallBack cause) := by
  unfold State.fallBack
  with_reducible repeat' first | assumption | apply State.bootPref_steady | apply State.updTrust_steady | split | (simp; done)
theorem State.settingsSave_steady (h : z.Steady s) (k : Nat) : z.SteadyAct (s.settingsSave k) := by
  unfold State.settingsSave
  with_reducible repeat' first
      | assumption | exact SteadyAct.error _ | apply SteadyAct.ok | apply State.updTrust_steady | apply State.putRecord_steady
      | apply State.fs_steady | split | intro _ | dsimp only
theorem State.atelierDown_steady (h : z.Steady s) (cause : Nat) : z.Steady (s.atelierDown cause) := by
  unfold State.atelierDown
  with_reducible repeat' first
      | assumption | rw [State.mk_lit] | apply Steady.lit | apply State.fs_steady | apply State.updTrust_steady | apply State.notifyAll_steady
      | apply State.pageFault_steady | apply State.journal_steady | apply State.fallBack_steady | split | intro _ | dsimp only
theorem State.rewritten_steady (h : z.Steady s) (ty : Nat) : z.Steady (s.rewritten ty) := by
  unfold State.rewritten
  with_reducible repeat' first | assumption | apply State.pageFault_steady | apply State.journal_steady
theorem State.atelierUp_steady (h : z.Steady s) : z.Steady (s.atelierUp) := by
  unfold State.atelierUp
  with_reducible repeat' first
      | assumption | apply State.fs_steady | apply State.jFlush_steady | apply State.rewritten_steady | apply State.updTrust_steady
      | apply State.count_steady | apply State.checkStarted_steady | apply State.notifyAll_steady | apply State.setMif_steady | apply Steady.foldl
      | split | intro _ | dsimp only
theorem State.trustOp_steady (h : z.Steady s) (k op : Nat) (ok : Bool) : z.SteadyAct (s.trustOp k op ok) := by
  unfold State.trustOp
  with_reducible repeat' first
      | assumption | exact SteadyAct.error _ | apply SteadyAct.ok | apply State.lifecycleTo_steady | apply State.keyLoad_steady
      | apply State.alarmClear_steady | apply State.fwStage_steady | apply State.fwConfirm_steady | apply State.settingsSave_steady
      | apply State.atelierDown_steady | apply State.updTrust_steady | split | (simp; done)
theorem State.trustCmd_steady (h : z.Steady s) (k op : Nat) (ok : Bool) : z.SteadyAct (s.trustCmd k op ok) := by
  unfold State.trustCmd
  with_reducible repeat' first
      | assumption | exact SteadyAct.error _ | apply SteadyAct.ok | apply State.trustEnd_steady | apply State.trustOp_steady | split
theorem State.loadSettings_steady (h : z.Steady s) : z.Steady (s.loadSettings) := by
  unfold State.loadSettings
  with_reducible repeat' first
      | assumption | apply State.plain_steady | apply State.fs_steady | apply State.updClk_steady | apply Steady.foldl | split | intro _
      | dsimp only
theorem State.moduleReset_steady (h : z.Steady s) (cause : Nat) : z.Steady (s.moduleReset cause) := by
  unfold State.moduleReset
  dsimp only
  refine State.loadSettings_steady (State.fs_steady (State.fs_steady (State.fs_steady ?_ _ _ _ _) _ _ _ _) _ _ _ _)
  refine ⟨h.1, h.2.1, fun i => ?_⟩
  have j := h.2.2 i
  refine ⟨?_, stWf_nil _, stWf_nil _, rfl, rfl, rfl, rfl, rfl, rfl, rfl, rfl, rfl, rfl, rfl, rfl, rfl, rfl, rfl, j.slots, rfl⟩
  have := stDrop_wf (fun a => !persistent a) j.regs
  simpa [stDrop, State.regsWf] using this
theorem State.boot_steady (h : z.Steady s) (goodA goodB : Bool) (damaged : List Nat) : z.Steady (s.boot goodA goodB damaged) := by
  unfold State.boot
  with_reducible repeat' first
      | assumption | apply State.updTrust_steady | apply State.showSlots_steady | apply State.fs_steady | apply State.wr_steady
      | apply State.setKeys_steady | apply State.pageFault_steady | apply State.journal_steady | apply State.tamperRest_steady | split | dsimp only
      | (simp; done)
theorem State.resetFalls_steady (h : z.Steady s) : z.Steady (s.resetFalls) := by
  unfold State.resetFalls
  with_reducible repeat' first | assumption | apply State.moduleReset_steady | split
theorem State.resetCmd_steady (h : z.Steady s) (w : Word) : z.SteadyAct (s.resetCmd w) := by
  unfold State.resetCmd
  with_reducible repeat' first | assumption | exact SteadyAct.error _ | apply SteadyAct.ok | apply State.updTrust_steady | split | (simp; done)
theorem State.trustBy_steady (h : z.Steady s) (o : Org) (op : Nat) (ok : Bool) : z.Steady (s.trustBy o op ok) := by
  unfold State.trustBy
  with_reducible repeat' first | assumption | apply State.hostReg_steady | apply State.trustCmd_steady | intro _

/-! ### Network -/

theorem State.updPort_steady (h : z.Steady s) (p : Nat) (f : Port → Port) : z.Steady (s.updPort p f) := by
  unfold State.updPort
  with_reducible repeat' first | assumption | rw [State.mk_lit] | apply Steady.lit | (simp; done)
theorem State.netSend_steady (h : z.Steady s) (p : Nat) (m : Msg) : z.Steady (s.netSend p m) := by
  unfold State.netSend
  with_reducible repeat' first | assumption | apply State.sendTo_steady | split
theorem State.rxDiscard_steady (h : z.Steady s) (p : Nat) : z.Steady (s.rxDiscard p) := by
  unfold State.rxDiscard
  with_reducible repeat' first | assumption | apply State.inc64_steady
theorem State.setQuad_steady (h : z.Steady s) (p off v : Nat) : z.Steady (s.setQuad p off v) := by
  unfold State.setQuad
  with_reducible repeat' first | assumption | apply State.wr_steady | apply Steady.foldl | intro _
theorem State.addrChange_steady (h : z.Steady s) (p family : Nat) : z.Steady (s.addrChange p family) := by
  unfold State.addrChange
  with_reducible repeat' first | assumption | apply State.notifyAll_steady
theorem State.bind4_steady (h : z.Steady s) (p addr : Nat) : z.Steady (s.bind4 p addr) := by
  unfold State.bind4
  with_reducible repeat' first | assumption | apply State.fs_steady | apply State.netSend_steady | apply State.addrChange_steady | split
theorem State.drop4_steady (h : z.Steady s) (p st : Nat) : z.Steady (s.drop4 p st) := by
  unfold State.drop4
  with_reducible repeat' first | assumption | apply State.fs_steady | apply State.addrChange_steady | split
theorem State.bind6_steady (h : z.Steady s) (p addr : Nat) : z.Steady (s.bind6 p addr) := by
  unfold State.bind6
  with_reducible repeat' first | assumption | apply State.setQuad_steady | apply State.fs_steady | apply State.addrChange_steady | split
theorem State.drop6_steady (h : z.Steady s) (p st : Nat) : z.Steady (s.drop6 p st) := by
  unfold State.drop6
  with_reducible repeat' first | assumption | apply State.fs_steady | apply State.updPort_steady | apply State.addrChange_steady | split
theorem State.dhcpStart_steady (h : z.Steady s) (p : Nat) : z.Steady (s.dhcpStart p) := by
  unfold State.dhcpStart
  with_reducible repeat' first | assumption | apply State.drop4_steady | apply State.netSend_steady
theorem State.start4_steady (h : z.Steady s) (p : Nat) : z.Steady (s.start4 p) := by
  unfold State.start4
  with_reducible repeat' first | assumption | apply State.drop4_steady | apply State.bind4_steady | apply State.dhcpStart_steady | split
theorem State.start6_steady (h : z.Steady s) (p : Nat) : z.Steady (s.start6 p) := by
  unfold State.start6
  with_reducible repeat' first | assumption | apply State.drop6_steady | apply State.bind6_steady | apply State.netSend_steady | split
theorem State.addrCfg_steady (h : z.Steady s) (k p : Nat) (w : Word) : z.Steady (s.addrCfg k p w) := by
  unfold State.addrCfg
  with_reducible repeat' first
      | assumption | apply State.plain_steady | apply State.drop4_steady | apply State.start4_steady | apply State.drop6_steady
      | apply State.start6_steady | split | dsimp only
theorem State.linkCtrl_steady (h : z.Steady s) (k p : Nat) (w : Word) : z.SteadyAct (s.linkCtrl k p w) := by
  unfold State.linkCtrl
  with_reducible repeat' first
      | assumption | exact SteadyAct.error _ | apply SteadyAct.ok | apply State.plain_steady | apply State.fs_steady | apply State.portDown_steady
      | split | dsimp only
theorem State.linkClear_steady (h : z.Steady s) (p w again : Nat) : z.Steady (s.linkClear p w again) := by
  unfold State.linkClear
  with_reducible repeat' first | assumption | apply State.wr64_steady | apply Steady.foldl | split | intro _
theorem State.linkReg_steady (h : z.Steady s) (k p off : Nat) (w : Word) : z.SteadyAct (s.linkReg k p off w) := by
  unfold State.linkReg
  with_reducible repeat' first
      | assumption | apply SteadyAct.ok | apply State.linkCtrl_steady | apply State.addrCfg_steady | apply State.bind4_steady
      | apply State.plain_steady | apply State.addrChange_steady | apply State.linkClear_steady | split
theorem State.learn_steady (h : z.Steady s) (p addr m : Nat) : z.Steady (s.learn p addr m) := by
  unfold State.learn
  with_reducible repeat' first | assumption | apply State.updPort_steady
theorem State.arpIn_steady (h : z.Steady s) (p : Nat) (y0 : ArpOp) : z.Steady (s.arpIn p y0) := by
  unfold State.arpIn
  with_reducible repeat' first | assumption | apply State.rxDiscard_steady | apply State.learn_steady | apply State.netSend_steady | split
theorem State.ndpIn_steady (h : z.Steady s) (p : Nat) (f : NdpOp) : z.Steady (s.ndpIn p f) := by
  unfold State.ndpIn
  with_reducible repeat' first
      | assumption | apply State.rxDiscard_steady | apply State.learn_steady | apply State.netSend_steady | apply State.updPort_steady
      | apply State.fs_steady | split | dsimp only
theorem State.dadEnds_steady (h : z.Steady s) (p : Nat) (dup : Bool) : z.Steady (s.dadEnds p dup) := by
  unfold State.dadEnds
  with_reducible repeat' first
      | assumption | apply State.setQuad_steady | apply State.drop6_steady | apply State.updPort_steady | apply State.bind6_steady | split
theorem State.echoIn_steady (h : z.Steady s) (p : Nat) (v6 : Bool) (dst src len : Nat) : z.Steady (s.echoIn p v6 dst src len) := by
  unfold State.echoIn
  with_reducible repeat' first | assumption | apply State.netSend_steady | apply State.rxDiscard_steady | split | dsimp only
theorem State.dhcpIn_steady (h : z.Steady s) (p : Nat) (f : DhcpOp) : z.Steady (s.dhcpIn p f) := by
  unfold State.dhcpIn
  with_reducible repeat' first
      | assumption | apply State.rxDiscard_steady | apply State.netSend_steady | apply State.updPort_steady | apply State.fs_steady
      | apply State.bind4_steady | apply State.dhcpStart_steady | split
theorem State.dhcpTimer_steady (h : z.Steady s) (p : Nat) (t : DhcpTimer) : z.Steady (s.dhcpTimer p t) := by
  unfold State.dhcpTimer
  with_reducible repeat' first
      | assumption | rw [State.mk_lit] | apply Steady.lit | apply State.netSend_steady | apply State.dhcpStart_steady | apply State.fs_steady
      | split | dsimp only
theorem State.ownBy_steady (h : z.Steady s) (o : Org) (op page : Nat) : z.Steady (s.ownBy o op page) := by
  unfold State.ownBy
  with_reducible repeat' first | assumption | apply State.hostReg_steady | apply State.ownCmd_steady | intro _

/-! ### Power -/

theorem State.showFeeds_steady (h : z.Steady s) : z.Steady (s.showFeeds) := by
  unfold State.showFeeds
  with_reducible repeat' first | assumption | apply State.fs_steady
theorem State.feedNote_steady (h : z.Steady s) : z.Steady (s.feedNote) := by
  unfold State.feedNote
  with_reducible repeat' first | assumption | apply State.count_steady | apply State.notifyAll_steady
theorem State.feedTo_steady (h : z.Steady s) (f volts ma : Nat) : z.Steady (s.feedTo f volts ma) := by
  unfold State.feedTo
  extract_lets g st old other t0 t1 t2 t3 p t4 q t5 t6
  have h1 : z.Steady t1 := State.fs_steady (State.fs_steady (State.fs_steady h _ _ _ _) _ _ _ _) _ _ _ _
  have h2 : z.Steady t2 := by
    simp only [t2]
    split
    · exact State.journal_steady (State.pageFault_steady h1 _ _ _) _ _ _
    · exact h1
  have h3 : z.Steady t3 := by
    simp only [t3]
    split
    · exact State.journal_steady (State.pageFault_steady h2 _ _ _) _ _ _
    · exact h2
  have h4 : z.Steady t4 := by
    simp only [t4]
    split
    · exact Steady.lit h3 rfl
    · exact h3
  have h5 : z.Steady t5 := by
    simp only [t5]
    split
    · exact Steady.lit h4 (by simp)
    · exact h4
  have h6 : z.Steady t6 := State.showFeeds_steady h5
  split
  · exact State.showFeeds_steady h1
  · split
    · exact State.feedNote_steady h6
    · exact h6
theorem State.feedRejoins_steady (h : z.Steady s) (f : Nat) : z.Steady (s.feedRejoins f) := by
  unfold State.feedRejoins
  with_reducible repeat' first | assumption | rw [State.mk_lit] | apply Steady.lit | apply State.showFeeds_steady | split | dsimp only
theorem State.feedCtrl_steady (h : z.Steady s) (k : Nat) (w : Word) : z.SteadyAct (s.feedCtrl k w) := by
  unfold State.feedCtrl
  with_reducible repeat' first
      | assumption | exact SteadyAct.error _ | apply SteadyAct.ok | apply State.plain_steady | apply State.showFeeds_steady | split | dsimp only
theorem State.powerFails_steady (h : z.Steady s) : z.Steady (s.powerFails) := by
  unfold State.powerFails
  with_reducible repeat' first | assumption | apply State.jWrite_steady | apply State.moduleReset_steady
theorem State.setRest_steady (h : z.Steady s) (st : Nat) : z.Steady (s.setRest st) := by
  unfold State.setRest
  with_reducible repeat' first | assumption | apply State.fs_steady
theorem State.restReached_steady (h : z.Steady s) : z.Steady (s.restReached) := by
  unfold State.restReached
  with_reducible repeat' first
      | assumption | apply State.setRest_steady | apply State.count_steady | apply State.unalign_steady | apply State.stopGf_steady
      | apply State.stopCf_steady | apply State.fs_steady | apply State.setSpadMode_steady | apply State.portDown_steady
      | apply State.notifyAll_steady | apply Steady.foldl | split | intro _
theorem State.wake_steady (h : z.Steady s) (cause w : Nat) : z.Steady (s.wake cause w) := by
  unfold State.wake
  with_reducible repeat' first
      | assumption | rw [State.mk_lit] | apply Steady.lit | apply State.setRest_steady | apply State.fs_steady | apply State.wr64_steady
      | apply State.setSpadMode_steady | apply State.genAcquire_steady | apply State.capAcquire_steady | apply State.showGlide_steady | split
      | dsimp only
theorem State.awake_steady (h : z.Steady s) : z.Steady s.awake := by
  unfold State.awake
  split
  · exact h
  · extract_lets w t0 t1 t2 t3 t4 t5 t6
    have h0 : z.Steady t0 := Steady.lit h rfl
    have h1 : z.Steady t1 := State.synthDone_steady (State.synthDone_steady h0 _) _
    have h2 : z.Steady t2 := by
      simp only [t2]
      split
      · exact State.setSpadMode_steady h1 _
      · exact h1
    have h4 : z.Steady t4 := State.jFlush_steady (State.fs_steady (State.fs_steady (State.setRest_steady h2 _) _ _ _ _) _ _ _ _)
    have h5 : z.Steady t5 := by
      simp only [t5]
      split
      · exact Steady.foldl _ (State.stopCf_steady h4) (fun u n hu => State.fs_steady hu _ _ _ _)
      · exact h4
    have h6 : z.Steady t6 := by
      refine Steady.foldl _ h5 (fun u n hu => ?_)
      split
      · exact hu
      · exact State.unmute_steady hu _ _
    exact State.notifyAll_steady h6 _
theorem State.restCmd_steady (h : z.Steady s) (k : Nat) (w : Word) : z.SteadyAct (s.restCmd k w) := by
  unfold State.restCmd
  with_reducible repeat' first
      | assumption | exact SteadyAct.error _ | apply SteadyAct.ok | apply State.setRest_steady | apply State.wake_steady | split | dsimp only
theorem State.thermOff_steady (h : z.Steady s) (sensor : Nat) : z.Steady (s.thermOff sensor) := by
  unfold State.thermOff
  with_reducible repeat' first
      | assumption | apply State.mute_steady | apply State.unalign_steady | apply State.acqCut_steady | apply State.fs_steady
      | apply State.stopCf_steady | apply State.pageFault_steady | apply State.journal_steady | apply Steady.foldl | intro _
theorem State.thermOn_steady (h : z.Steady s) : z.Steady (s.thermOn) := by
  unfold State.thermOn
  with_reducible repeat' first
      | assumption | apply State.fs_steady | apply State.startCf_steady | apply State.alignProof_steady | apply State.unmute_steady
      | apply Steady.foldl | split | intro _
theorem State.thermTo_steady (h : z.Steady s) (st sensor temp : Nat) : z.Steady (s.thermTo st sensor temp) := by
  unfold State.thermTo
  with_reducible repeat' first
      | assumption | apply State.fs_steady | apply State.count_steady | apply State.notifyAll_steady | apply State.publish_steady
      | apply State.sourceTo_steady | apply State.thermOff_steady | apply State.thermOn_steady | apply Steady.foldl | split | intro _ | dsimp only
theorem State.thermTrip_steady (h : z.Steady s) (sensor : Nat) : z.Steady (s.thermTrip sensor) := by
  unfold State.thermTrip
  with_reducible repeat' first | assumption | apply State.jWrite_steady | apply State.moduleReset_steady
theorem State.baseplate_steady (h : z.Steady s) (out : Bool) (temp : Nat) : z.Steady (s.baseplate out temp) := by
  unfold State.baseplate
  with_reducible repeat' first | assumption | apply State.fs_steady | apply State.notifyAll_steady | split | dsimp only
theorem State.loopCmd_steady (h : z.Steady s) (k : Nat) (w : Word) : z.SteadyAct (s.loopCmd k w) := by
  unfold State.loopCmd
  repeat' first
      | with_reducible assumption | with_reducible exact SteadyAct.error _ | with_reducible apply SteadyAct.ok | rw [State.mk_lit]
      | with_reducible apply Steady.lit | with_reducible apply State.fs_steady | split | dsimp only | exact (rfl : (_ : List Nat) = _)
theorem State.loopEnds_steady (h : z.Steady s) (ampl time : Int) : z.Steady (s.loopEnds ampl time) := by
  unfold State.loopEnds
  with_reducible repeat' first
      | assumption | rw [State.mk_lit] | apply Steady.lit | apply State.fs_steady | apply State.notifyTo_steady | split | dsimp only
theorem State.pwrReg_steady (h : z.Steady s) (k off : Nat) (w : Word) : z.SteadyAct (s.pwrReg k off w) := by
  unfold State.pwrReg
  with_reducible repeat' first
      | assumption | apply SteadyAct.ok | apply State.feedCtrl_steady | apply State.restCmd_steady | apply State.loopCmd_steady
      | apply State.clearCounts_steady | apply State.plain_steady | split
theorem State.thermReg_steady (h : z.Steady s) (off : Nat) (w : Word) : z.Steady (s.thermReg off w) := by
  unfold State.thermReg
  with_reducible repeat' first | assumption | apply State.clearCounts_steady | apply State.fs_steady | split
theorem State.tick_steady (h : z.Steady s) : z.Steady (s.tick) := by
  unfold State.tick
  with_reducible repeat' first
      | assumption | rw [State.mk_lit] | apply Steady.lit | apply State.updClk_steady | apply State.corrections_steady | apply State.timeBeat_steady
      | apply State.settled_steady | apply State.ownSettled_steady | apply State.resetFalls_steady | split | intro _
      | exact (rfl : (_ : List Nat) = _)

/-! ### Registers -/

theorem State.latch'_steady (h : z.Steady s) (k : Nat) (l : List (Nat × Word)) : z.Steady (s.latch' k l) := by
  unfold State.latch'
  with_reducible repeat' first | assumption | apply State.updSes_steady
theorem State.upToDate_steady (h : z.Steady s) (a : Nat) : z.Steady (s.upToDate a) := by
  unfold State.upToDate
  with_reducible repeat' first | assumption | apply State.settled_steady | split
theorem State.regReadIn_steady (h : z.Steady s) (k a : Nat) : z.SteadyRead (s.regReadIn k a) := by
  unfold State.regReadIn
  with_reducible repeat' first
      | assumption | exact SteadyRead.error _ | apply SteadyRead.ok | apply State.latch'_steady | apply State.wr_steady | apply State.bump_steady
      | split
theorem State.regRead_steady (h : z.Steady s) (k a : Nat) : z.SteadyRead (s.regRead k a) := by
  unfold State.regRead
  with_reducible repeat' first | assumption | apply State.upToDate_steady | apply State.regReadIn_steady
theorem State.markerClear_steady (h : z.Steady s) (b w again : Nat) : z.Steady (s.markerClear b w again) := by
  unfold State.markerClear
  with_reducible repeat' first | assumption | apply State.wr_steady | split
theorem State.cntClear_steady (h : z.Steady s) (k p : Nat) (kind : PageKind) (i off w again : Nat) : z.SteadyOpt (s.cntClear k p kind i off w again) := by
  unfold State.cntClear
  with_reducible repeat' first
      | assumption | apply SteadyAct.ok | apply SteadyOpt.none | apply SteadyOpt.some | apply State.clearCounts_steady
      | apply State.markerClear_steady | apply State.wr_steady | apply State.plain_steady | apply State.portClear_steady | apply State.fs_steady
      | apply State.linkClear_steady | apply State.xportClear_steady | apply State.noteClear_steady | split
theorem State.grvReg_steady (h : z.Steady s) (k g off : Nat) (w : Word) : z.SteadyAct (s.grvReg k g off w) := by
  unfold State.grvReg
  with_reducible repeat' first | assumption | apply State.capacityWrite_steady | apply State.commitCmd_steady | apply State.subWrite_steady | split
theorem State.genReg_steady (h : z.Steady s) (k n off : Nat) (w : Word) : z.SteadyAct (s.genReg k n off w) := by
  unfold State.genReg
  with_reducible repeat' first
      | assumption | apply SteadyAct.ok | apply State.grvReg_steady | apply State.muteWrite_steady | apply State.chainWrite_steady
      | apply State.stenWrite_steady | apply State.testEnd_steady | apply State.testGo_steady | apply State.snapFreeze_steady
      | apply State.snapRun_steady | apply State.proofFaultClear_steady | apply State.chainPlain_steady | apply State.plain_steady | split
theorem State.patReg_steady (h : z.Steady s) (k g off : Nat) (w : Word) : z.SteadyAct (s.patReg k g off w) := by
  unfold State.patReg
  with_reducible repeat' first
      | assumption | apply SteadyAct.ok | apply State.grvReg_steady | apply State.groupCfgWrite_steady | apply State.faultClear_steady
      | apply State.laneCfgWrite_steady | apply State.trigOutCfg_steady | apply State.subWrite_steady | split
theorem State.strmWrite_steady (h : z.Steady s) (k n off : Nat) (w : Word) : z.SteadyAct (s.strmWrite k n off w) := by
  unfold State.strmWrite
  with_reducible repeat' first
      | assumption | apply SteadyAct.ok | apply State.capDue_steady | apply State.acqStop_steady | apply State.acqStart_steady
      | apply State.ringEnable_steady | apply State.acctLatch_steady | apply State.strmReg_steady | split
theorem State.xhReg_steady (h : z.Steady s) (k i off : Nat) (w : Word) : z.SteadyAct (s.xhReg k i off w) := by
  unfold State.xhReg
  with_reducible repeat' first
      | assumption | exact SteadyAct.error _ | apply SteadyAct.ok | apply State.chanCmd_steady | apply State.injectOp_steady
      | apply State.groupWrite_steady | apply State.subWrite_steady | apply State.chCfg_steady | apply State.plain_steady | split | dsimp only
theorem State.dmaReg_steady (h : z.Steady s) (k off : Nat) (w : Word) : z.SteadyAct (s.dmaReg k off w) := by
  unfold State.dmaReg
  with_reducible repeat' first
      | assumption | exact SteadyAct.error _ | apply SteadyAct.ok | apply State.queueCmd_steady | apply State.tailTo_steady
      | apply State.plain_steady | split | dsimp only
theorem State.datuReg_steady (h : z.Steady s) (k off : Nat) (w : Word) : z.SteadyAct (s.datuReg k off w) := by
  unfold State.datuReg
  with_reducible repeat' first
      | assumption | apply SteadyAct.ok | apply State.xlatCmd_steady | apply State.frameCmd_steady | apply State.plateCmd_steady
      | apply State.plain_steady | split
theorem State.regEffect_steady (h : z.Steady s) (k p : Nat) (kind : PageKind) (i off : Nat) (w : Word) : z.SteadyAct (s.regEffect k p kind i off w) := by
  unfold State.regEffect
  with_reducible repeat' first
      | assumption | apply SteadyAct.ok | apply State.pageCtrl_steady | apply State.plain_steady | apply State.cntClear_steady
      | apply State.resetCmd_steady | apply State.bump_steady | apply State.trustCmd_steady | apply State.pwrReg_steady
      | apply State.thermReg_steady | apply State.clkReg_steady | apply State.ppsMode_steady | apply State.subWrite_steady
      | apply State.syncReg_steady | apply State.xhReg_steady | apply State.genReg_steady | apply State.patReg_steady
      | apply State.inCfgWrite_steady | apply State.trigCfg_steady | apply State.capReg_steady | apply State.strmWrite_steady
      | apply State.stencilReg_steady | apply State.calCmd_steady | apply State.memcCfg_steady | apply State.retrain_steady
      | apply State.bankTest_steady | apply State.dmaReg_steady | apply State.datuReg_steady | apply State.linkReg_steady
      | apply State.xportReg_steady | apply State.scenCmd_steady | apply State.schedCmd_steady | split | refine Steady.of_opt (by assumption) ?_
theorem State.pairEffect_steady (h : z.Steady s) (k a : Nat) (lo hi : Word) : z.SteadyAct (s.pairEffect k a lo hi) := by
  unfold State.pairEffect
  with_reducible repeat' first
      | assumption | apply SteadyAct.ok | apply State.rateWrite_steady | apply State.ringSizeWrite_steady | apply State.plain_steady | split
theorem Act.done_steady (h : z.Steady s) (r : Act) (hr : z.SteadyAct r) : z.Steady (Act.done s r).2 := by
  unfold Act.done
  with_reducible repeat' first | assumption | exact (‹z.SteadyAct (Except.ok _)›).of _ rfl | split
theorem State.regWrite_steady (h : z.Steady s) (k a : Nat) (w : Word) : z.Steady (s.regWrite k a w).2 := by
  unfold State.regWrite
  with_reducible repeat' first
      | assumption | apply SteadyAct.ok | apply Act.done_steady | apply State.updSes_steady | apply State.pairEffect_steady
      | apply State.regEffect_steady | apply SteadyAct.bind | split | intro _

/-! ### Messages -/

theorem State.acctWrite_steady (h : z.Steady s) (k a : Nat) (w : Word) : z.SteadyAct (s.acctWrite k a w) := by
  unfold State.acctWrite
  with_reducible repeat' first | assumption | exact SteadyAct.error _ | apply SteadyAct.ok | apply State.stw_steady | split | dsimp only
theorem State.windowWrite_steady (h : z.Steady s) (k a : Nat) (w : Word) : z.SteadyAct (s.windowWrite k a w) := by
  unfold State.windowWrite
  with_reducible repeat' first
      | assumption | split | exact SteadyAct.error _ | apply SteadyAct.ok | apply State.shadowWrite_steady | apply State.dirWrite_steady
      | apply State.descWrite_steady | apply State.plateWrite_steady | apply State.scenWrite_steady | apply State.schedWrite_steady
      | apply State.acctWrite_steady | apply State.maskWrite_steady | apply State.stw_steady | apply State.slotWrite_steady
theorem State.wordRead_steady (h : z.Steady s) (k a : Nat) : z.SteadyRead (s.wordRead k a) := by
  unfold State.wordRead
  with_reducible repeat' first
      | assumption | exact SteadyRead.error _ | apply SteadyRead.ok | apply SteadyRead.bind | intro _ | apply State.regRead_steady
      | apply State.latch'_steady | apply State.bump_steady | split
theorem State.farWrite_steady (h : z.Steady s) (k a : Nat) (w : Word) : z.SteadyAct (s.farWrite k a w) := by
  unfold State.farWrite
  with_reducible repeat' first
      | assumption | exact SteadyAct.error _ | apply SteadyAct.ok | apply State.noteRewrite_steady | apply State.stw_steady
      | apply State.windowWrite_steady | apply SteadyAct.bind | split | intro _ | refine Steady.of_act (by assumption) ?_
theorem State.wordWrite_steady (h : z.Steady s) (k a : Nat) (w : Word) : z.Steady (s.wordWrite k a w).2 := by
  unfold State.wordWrite
  with_reducible repeat' first | assumption | apply State.regWrite_steady | apply Act.done_steady | apply State.farWrite_steady | split
theorem State.windowLine_steady (h : z.Steady s) (prev : State) (k a i : Nat) (y0 : List Word) (hprev : z.Steady prev) : z.Steady (s.windowLine prev k a i y0).2 := by
  induction y0 generalizing s prev k a i with
  | nil =>
    unfold State.windowLine
    with_reducible repeat' first
        | assumption | apply State.heal_steady | apply State.windowWrite_steady | split | refine Steady.of_act (by assumption) ?_
  | cons x l ih =>
    unfold State.windowLine
    with_reducible repeat' first
        | assumption | apply ih | apply State.heal_steady | apply State.windowWrite_steady | split | refine Steady.of_act (by assumption) ?_
theorem State.lineWrite_steady (h : z.Steady s) (k a : Nat) (bs : List Byte) : z.Steady (s.lineWrite k a bs).2 := by
  unfold State.lineWrite
  with_reducible repeat' first
      | assumption | apply State.noteRewrite_steady | apply State.stBytes_steady | apply State.heal_steady | apply State.windowLine_steady | split
theorem State.readWords_steady (h : z.Steady s) (k a : Nat) (y0 : Nat) (y1 : List Word) : z.Steady (s.readWords k a y0 y1).2.2 := by
  induction y0 generalizing s k a y1 with
  | zero =>
    unfold State.readWords
    with_reducible repeat' first
        | assumption | apply State.wordRead_steady | apply State.hostEcc_steady | split | refine Steady.of_read (by assumption) ?_
  | succ n ih =>
    unfold State.readWords
    with_reducible repeat' first
        | assumption | apply ih | apply State.wordRead_steady | apply State.hostEcc_steady | split | refine Steady.of_read (by assumption) ?_
theorem State.writeWords_steady (h : z.Steady s) (k a done : Nat) (y0 : List Word) : z.Steady (s.writeWords k a done y0).2.2 := by
  induction y0 generalizing s k a done with
  | nil =>
    unfold State.writeWords
    with_reducible repeat' first
        | assumption | apply State.wordWrite_steady | apply State.hostEcc_steady | split | refine Steady.of_snd (by assumption) ?_
  | cons x l ih =>
    unfold State.writeWords
    with_reducible repeat' first
        | assumption | apply ih | apply State.wordWrite_steady | apply State.hostEcc_steady | split | refine Steady.of_snd (by assumption) ?_
theorem State.writeLines_steady (h : z.Steady s) (k a done : Nat) (y0 : Nat) (y1 : List Byte) : z.Steady (s.writeLines k a done y0 y1).2.2 := by
  induction y0 generalizing s k a done y1 with
  | zero =>
    unfold State.writeLines
    with_reducible repeat' first
        | assumption | apply State.lineWrite_steady | apply State.hostEcc_steady | split | refine Steady.of_snd (by assumption) ?_
  | succ n ih =>
    unfold State.writeLines
    with_reducible repeat' first
        | assumption | apply ih | apply State.lineWrite_steady | apply State.hostEcc_steady | split | refine Steady.of_snd (by assumption) ?_
theorem State.writeReport_steady (h : z.Steady s) (k seq : Nat) (posted : Bool) (c : Code) (done addr : Nat) : z.Steady (s.writeReport k seq posted c done addr) := by
  unfold State.writeReport
  with_reducible repeat' first | assumption | apply State.returnCredit_steady | apply State.postedFail_steady | apply State.respond_steady | split
theorem State.readCmd_steady (h : z.Steady s) (k seq a n : Nat) : z.Steady (s.readCmd k seq a n) := by
  unfold State.readCmd
  with_reducible repeat' first | assumption | apply State.respond_steady | apply State.readWords_steady | split
theorem State.writeCmd_steady (h : z.Steady s) (k seq : Nat) (posted : Bool) (a : Nat) (ws : List Word) : z.Steady (s.writeCmd k seq posted a ws) := by
  unfold State.writeCmd
  with_reducible repeat' first | assumption | apply State.writeReport_steady | apply State.writeWords_steady | split
theorem State.bulkCmd_steady (h : z.Steady s) (k seq : Nat) (posted : Bool) (a : Nat) (bs : List Byte) : z.Steady (s.bulkCmd k seq posted a bs) := by
  unfold State.bulkCmd
  with_reducible repeat' first | assumption | apply State.writeReport_steady | apply State.writeLines_steady | split | dsimp only
theorem State.carryOut_steady (h : z.Steady s) (k seq : Nat) (m : HostMsg) : z.Steady (s.carryOut k seq m) := by
  unfold State.carryOut
  with_reducible repeat' first
      | assumption | apply State.readCmd_steady | apply State.writeCmd_steady | apply State.bulkCmd_steady | apply State.closeSession_steady
      | apply State.pullReply_steady | split
theorem State.arrives_steady (h : z.Steady s) (h : Hdr) (m : HostMsg) : z.Steady (s.arrives h m) := by
  unfold State.arrives
  with_reducible repeat' first | assumption | apply State.onMsg_steady | apply State.takeRel_steady | apply State.carryOut_steady | intro _
theorem State.hostWord_steady (h : z.Steady s) (o : Org) (a : Nat) (w : Word) : z.Steady (s.hostWord o a w) := by
  unfold State.hostWord
  with_reducible repeat' first
      | assumption | apply State.count_steady | apply State.writeReport_steady | apply State.wordWrite_steady | apply State.hostEcc_steady | split
theorem State.hostFetch_steady (h : z.Steady s) (o : Org) (a : Nat) : z.Steady (s.hostFetch o a) := by
  unfold State.hostFetch
  with_reducible repeat' first | assumption | apply State.readCmd_steady | apply State.count_steady | split
theorem State.consume_steady (h : z.Steady s) (code c : Nat) : z.Steady (s.consume code c) := by
  unfold State.consume
  with_reducible repeat' first
      | assumption | apply State.overrun_steady | apply State.count_steady | apply State.trigEvent_steady | apply State.trigArrive_steady
      | apply State.groupSet_steady | apply State.startEvent_steady | apply State.startUnused_steady | apply State.syncTransmit_steady | split
      | dsimp only
theorem State.crossed_steady (h : z.Steady s) (code c n : Nat) : z.Steady (s.crossed code c n).1 := by
  unfold State.crossed
  with_reducible repeat' first | assumption | rw [State.mk_lit] | apply Steady.lit | dsimp only
theorem State.arrival_steady (h : z.Steady s) (code c n : Nat) : z.Steady (s.arrival code c n) := by
  unfold State.arrival
  with_reducible repeat' first
      | assumption | apply State.crossed_steady | apply State.mergeCount_steady | apply State.suppress_steady | apply State.setGrp_steady
      | apply State.acct_steady | apply State.consume_steady | split | dsimp only
theorem State.arriveIn_steady (h : z.Steady s) (code c n : Nat) : z.Steady (s.arriveIn code c n) := by
  unfold State.arriveIn
  with_reducible repeat' first | assumption | apply State.moveTo_steady | apply State.arrival_steady | split
theorem State.arriveAt_steady (h : z.Steady s) (code : Nat) : z.Steady (s.arriveAt code) := by
  unfold State.arriveAt
  with_reducible repeat' first | assumption | apply State.arriveIn_steady | split
theorem State.groupBy_steady (h : z.Steady s) (w : GroupBy) (grp : Nat) (enable : Bool) : z.Steady (s.groupBy w grp enable) := by
  unfold State.groupBy
  with_reducible repeat' first
      | assumption | apply State.hostReg_steady | apply State.groupWrite_steady | apply State.arriveAt_steady | split | intro _
theorem State.gapUnsent_steady (h : z.Steady s) (n : Nat) : z.Steady (s.gapUnsent n) := by
  unfold State.gapUnsent
  with_reducible repeat' first | assumption | apply State.gapBlock_steady | apply State.fs_steady | apply State.freeBlock_steady | split | dsimp only

/-! ### Playing -/

theorem State.afterPoint_steady (h : z.Steady s) (g : Nat) : z.Steady (s.afterPoint g) := by
  unfold State.afterPoint
  with_reducible repeat' first | assumption | apply State.takePoint_steady | apply State.scenEnds_steady | split
theorem State.commitLands_steady (h : z.Steady s) (g : Nat) : z.Steady (s.commitLands g) := by
  unfold State.commitLands
  with_reducible repeat' first | assumption | apply State.passEnd_steady | split

/-! ### The outcomes of commands -/

/-- An outcome that stops, or is a next state steady from `z`. -/
structure State.SteadyOut (z : State) (r : Host.Outcome State Fault Refusal) : Prop where
  of : ∀ t, r = .next t → z.Steady t
theorem SteadyOut.next (h : z.Steady t) : z.SteadyOut (.next t) := ⟨fun _ e => Host.Outcome.next.inj e ▸ h⟩
theorem SteadyOut.fault (c : Fault) : z.SteadyOut (.fault c) := ⟨fun _ e => nomatch e⟩
theorem State.onChan_steady (h : z.Steady t) (s : State) (cap : Bool) (n : Nat) : z.SteadyOut (s.onChan cap n t) := by
  unfold State.onChan
  split
  · exact SteadyOut.next h
  · exact SteadyOut.fault _
theorem State.onMif_steady (h : z.Steady t) (s : State) (n : Nat) : z.SteadyOut (s.onMif n t) := by
  unfold State.onMif
  split
  · exact SteadyOut.next h
  · exact SteadyOut.fault _
theorem State.onGraver_steady (h : z.Steady t) (s : State) (g : Nat) : z.SteadyOut (s.onGraver g t) := by
  unfold State.onGraver
  split
  · exact SteadyOut.next h
  · exact SteadyOut.fault _
theorem onPort2_steady (h : z.Steady t) (p : Nat) : z.SteadyOut (onPort2 p t) := by
  unfold onPort2
  split
  · exact SteadyOut.next h
  · exact SteadyOut.fault _
theorem State.onGroup_steady (h : z.Steady t) (s : State) (g : Nat) : z.SteadyOut (s.onGroup g t) := by
  unfold State.onGroup
  split
  · exact SteadyOut.next h
  · exact SteadyOut.fault _
theorem State.onPort_steady (h : z.Steady t) (s : State) (p : DriverPort) : z.SteadyOut (s.onPort p t) := by
  unfold State.onPort
  split
  · exact SteadyOut.next h
  · exact SteadyOut.fault _
theorem onTrig_steady (h : z.Steady t) (k : Nat) : z.SteadyOut (onTrig k t) := by
  unfold onTrig
  split
  · exact SteadyOut.next h
  · exact SteadyOut.fault _
theorem State.onCap_steady (h : z.Steady s) (n : Nat) (f : State → State) (hf : ∀ t, z.Steady t → z.Steady (f t)) : z.SteadyOut (s.onCap n f) := by
  unfold State.onCap
  split
  · exact SteadyOut.next (hf _ (State.capDue_steady h n))
  · exact SteadyOut.fault _

end Sys2Proof.Machine
end

