-- ==== Sys2Proof/Tests/Slice0.lean ====
section
/-! SUPPORT. Sys2Proof/Tests/Slice0.lean: the checks of WellFormed, single steps on small states, and for every statement with
hypotheses a state and operands that meet them. -/
namespace Sys2Proof.Tests
set_option Elab.async false
open Sys2Proof Sys2Proof.Machine

/-- Page `p` of `s` owned by session 1. -/
def mine (s : State) (p : Nat) : State := s.fs (base p) HDR_PAGE_OWNER_OWNER 1
/-- `State.reset` with sessions 1 and 2 open, and session 1 the owner of the first page of each kind. -/
def w0 : State := { State.reset with
  regs := [pCLK, pTIME, pSYNC, pGEN 0, pPAT 0, pCAP 0, pSTRM 0, pSTEN 0].map (fun p => (base p + 0x008, 1#32)), xport := { Xport.fresh with sess := [{ Sess.fresh with st := .opened, token := 11 }, { Sess.fresh with st := .opened, token := 22 }] ++ List.replicate 14 Sess.fresh } }
/-- Memory words of `s` set. -/
def put (s : State) (l : List (Nat × Nat)) : State := l.foldl (fun t e => t.stw e.1 e.2) s
/-- Register words of `s` set. -/
def reg (s : State) (l : List (Nat × Nat)) : State := l.foldl (fun t e => t.wr e.1 (BitVec.ofNat 32 e.2)) s
/-- The invariant, computed. -/
def invB (s : State) : Bool :=
  stWf (regReset s.variant) s.regs && stWf memDefault s.mem && stWf (fun _ => 0) s.frames && decide (s.xport.sess.length = 16 ∧ s.xport.ports.length = 2
    ∧ s.gens.length = 16 ∧ s.gravers.length = 20 ∧ s.scens.length = 64 ∧ s.proofs.length = 16 ∧ s.tracers.length = 4 ∧ s.lanes.outs.length = 4
    ∧ s.lanes.lastEdge.length = 4 ∧ s.clk.sync.slots.length = 2 ∧ s.clk.sync.bad.length = 2 ∧ s.dram.cool.length = 6 ∧ s.dram.panicAt.length = 28
    ∧ s.dma.taken.length = 16 ∧ s.dma.turn.length = 4 ∧ s.trust.slots.length = 2 ∧ s.power.okAt.length = 2)
theorem inv_of_invB {s : State} (h : invB s = true) : s.Inv := by
  simp only [invB, Bool.and_eq_true, decide_eq_true_eq] at h
  obtain ⟨⟨⟨a, b⟩, c⟩, d⟩ := h
  obtain ⟨d1, d2, d3, d4, d5, d6, d7, d8, d9, d10, d11, d12, d13, d14, d15, d16, d17⟩ := d
  exact ⟨a, b, c, d1, d2, d3, d4, d5, d6, d7, d8, d9, d10, d11, d12, d13, d14, d15, d16, d17⟩
/-- An outcome of a judgement is an acceptance. -/
def passes : Except Code Unit → Bool
  | .ok _ => true
  | .error _ => false
theorem accepts_of_passes {s : State} {o : Org} {a : Nat} {w : Word} (h : (s.isOpen o.sess && passes (s.judge o.sess a w)) = true) : s.Accepts o a w := by
  rw [Bool.and_eq_true] at h
  refine ⟨h.1, ?_⟩
  cases hj : s.judge o.sess a w with
  | ok u => rfl
  | error c => rw [hj] at h; exact absurd h.2 Bool.false_ne_true
theorem of_sessions {p : Nat → Prop} (h : ∀ i, i < 16 → p (i + 1)) (k : Nat) (h1 : 1 ≤ k) (h2 : k ≤ 16) : p k := by
  have := h (k - 1) (by omega)
  rwa [Nat.sub_add_cancel h1] at this
theorem of_open {s : State} (h : ∀ i, i < 17 → s.isOpen i = true → s.dual i = false) (k : Nat) (hk : s.isOpen k = true) : s.dual k = false :=
  h k (by simp [State.isOpen] at hk; omega) hk
theorem of_idle {s : State} (h : ∀ k, k < 64 → (s.scn k).act = none) (k : Nat) (a : ScenAct) (hk : k < 64) (ha : (s.scn k).act = some a) : a.launched = false := by
  rw [h k hk] at ha; cases ha
theorem of_some {α : Type} {o : Option α} {p : α → Prop} [DecidablePred p] (h : o.all (fun x => decide (p x)) = true) :
    ∀ x, o = some x → p x := by
  rintro x rfl
  exact of_decide_eq_true h
theorem of_some2 {α β : Type} {o : Option (α × β)} {p : α → β → Prop} [∀ x y, Decidable (p x y)]
    (h : o.all (fun e => decide (p e.1 e.2)) = true) : ∀ x y, o = some (x, y) → p x y := by
  rintro x y rfl
  exact of_decide_eq_true h
/-- The unit has nothing to take up to tick `t`, computed. -/
def idleB (s : State) (t : Nat) : Bool :=
  decide (s.unit.scenQ = [] ∧ s.unit.schedQ = []) && s.entryDue.all (fun e => decide (t + 3000 < e.2))
    && s.tracers.all (fun c => decide (c.startAt = none ∧ c.endAt = none))
theorem idle_of {s : State} {t : Nat} (h : idleB s t = true) : s.Idle t := by
  simp only [idleB, Bool.and_eq_true, decide_eq_true_eq, List.all_eq_true] at h
  obtain ⟨⟨⟨h1, h2⟩, h3⟩, h4⟩ := h
  refine ⟨h1, h2, of_some h3, fun n => ?_⟩
  simp only [State.trc, List.getD_eq_getElem?_getD]
  cases e : s.tracers[n]? with
  | none => exact ⟨rfl, rfl⟩
  | some c => exact h4 c (List.mem_of_getElem? e)
theorem crcBit_lt {c : Nat} (h : c < 2 ^ 32) : crcBit c < 2 ^ 32 := by
  unfold crcBit
  split
  · exact Nat.xor_lt_two_pow (by omega) (by decide)
  · omega
theorem crcByte_lt {c b : Nat} (h : c < 2 ^ 32) (hb : b < 2 ^ 32) : crcByte c b < 2 ^ 32 := by
  unfold crcByte
  exact crcBit_lt (crcBit_lt (crcBit_lt (crcBit_lt (crcBit_lt (crcBit_lt (crcBit_lt (crcBit_lt (Nat.xor_lt_two_pow h hb))))))))
theorem imageCrc_lt (s : State) (a : Nat) : s.imageCrc a < 2 ^ 32 := by
  unfold State.imageCrc
  refine Nat.xor_lt_two_pow ?_ (by decide)
  have : ∀ (l : List Nat) (c : Nat), c < 2 ^ 32 →
      l.foldl (fun c i => crcByte c (if 0x3C ≤ i ∧ i < 0x40 then 0 else (s.mb (a + i)).toNat)) c < 2 ^ 32 := by
    intro l
    induction l with
    | nil => exact fun c h => h
    | cons x t ih =>
      intro c h
      refine ih _ (crcByte_lt h ?_)
      split
      · decide
      · exact Nat.lt_of_lt_of_le (s.mb (a + x)).isLt (by decide)
  exact this _ _ (by decide)
theorem imageCrc_stw (s : State) (a w : Nat) : (s.stw (a + 0x3C) w).imageCrc a = s.imageCrc a := by
  have h : ∀ i, (if 0x3C ≤ i ∧ i < 0x40 then 0 else ((s.stw (a + 0x3C) w).mb (a + i)).toNat) = if 0x3C ≤ i ∧ i < 0x40 then 0 else (s.mb (a + i)).toNat := by
    intro i
    split
    · rfl
    · rw [State.stw, State.mb_st_ne _ _ _ _ _ (by omega)]
  unfold State.imageCrc
  simp only [h]
theorem ldw_seal (s : State) (a : Nat) : (s.stw (a + 0x3C) (s.imageCrc a)).ldw (a + 0x3C) = (s.stw (a + 0x3C) (s.imageCrc a)).imageCrc a := by
  rw [imageCrc_stw, State.stw, State.ldw, State.ld_st_self]
  exact Nat.mod_eq_of_lt (imageCrc_lt s a)
theorem ld_seal (w : State) (a x b n : Nat) (h : b + n ≤ a + 0x3C) : (w.stw (a + 0x3C) x).ld b n = w.ld b n := by
  rw [State.stw, State.ld_st_ne _ _ _ _ _ _ (Or.inl h)]
theorem mbits_seal (w : State) (a x hi lo : Nat) : (w.stw (a + 0x3C) x).mbits a hi lo = w.mbits a hi lo := by
  rw [State.mbits, State.mbits, State.ldw, State.ldw, ld_seal _ _ _ _ _ (by omega)]
theorem ldw4_seal (w : State) (a x : Nat) : (w.stw (a + 0x3C) x).ldw (a + 4) = w.ldw (a + 4) := by
  rw [State.ldw, State.ldw, ld_seal _ _ _ _ _ (by omega)]
theorem owns_stw (w : State) (a x k p : Nat) : (w.stw a x).owns k p = w.owns k p := by simp [State.owns, State.owner, State.fg, State.stw]
theorem serial_stw (w : State) (a x : Nat) : (w.stw a x).serial = w.serial := by simp [State.serial, State.stw, State.rd64]
theorem variant_stw (w : State) (a x : Nat) : (w.stw a x).variant = w.variant := by simp [State.stw]
theorem restoreCheck_ok {s : State} {k : Nat} (h1 : s.mbits (stageView k) 31 24 = 1) (hc : s.ldw (stageView k + 0x3C) = s.imageCrc (stageView k))
    (h2 : s.ld (stageView k + 0x24) 8 = s.serial ∧ s.mbits (stageView k) 23 16 = s.variant.gens ∧ s.mbits (stageView k) 15 8 = s.variant.caps)
    (h3 : (((List.range 16).filter (fun n => bit (s.ldw (stageView k + 4)) n)).any (fun n => !s.owns k (pGEN n))
      || ((List.range 4).filter (fun n => bit (s.ldw (stageView k + 4)) (16 + n))).any (fun n => !s.owns k (pCAP n))) = false) :
    s.restoreCheck k false 1 = .ok := by
  unfold State.restoreCheck
  rw [if_neg (by simp only [h1, hc, ne_eq, not_true_eq_false, or_self, not_false_eq_true]), if_neg (by simp only [h2.1, h2.2.1, h2.2.2, ne_eq, not_true_eq_false, or_self, not_false_eq_true]),
    if_neg (by rw [h3]; exact Bool.false_ne_true), if_neg (fun h => absurd h.1 (by decide)), if_neg (by rw [Bool.false_and]; exact Bool.false_ne_true)]
theorem restoreCheck_sealed {w : State} {k : Nat} (h1 : w.mbits (stageView k) 31 24 = 1)
    (h2 : w.ld (stageView k + 0x24) 8 = w.serial ∧ w.mbits (stageView k) 23 16 = w.variant.gens ∧ w.mbits (stageView k) 15 8 = w.variant.caps)
    (h3 : (((List.range 16).filter (fun n => bit (w.ldw (stageView k + 4)) n)).any (fun n => !w.owns k (pGEN n))
      || ((List.range 4).filter (fun n => bit (w.ldw (stageView k + 4)) (16 + n))).any (fun n => !w.owns k (pCAP n))) = false) :
    (w.stw (stageView k + 0x3C) (w.imageCrc (stageView k))).restoreCheck k false 1 = .ok := by
  refine restoreCheck_ok ?_ (ldw_seal w _) ?_ ?_
  · rw [mbits_seal, h1]
  · rw [mbits_seal, mbits_seal, ld_seal _ _ _ _ _ (by omega), serial_stw, variant_stw]
    exact h2
  · simp only [ldw4_seal, owns_stw]
    exact h3
theorem bundle_opens {s : State} {k n : Nat} {es : List (Nat × Nat × Nat)} {x : Bundle} (ho : (s.ownBytes k (s.trustSrc k) 64 && s.ownBytes k (s.trustSrc k) n) = true)
    (hn : n = 0x20 + 48 * s.mbits (s.trustSrc k + 8) 7 0 + 16)
    (hh : s.ldw (s.trustSrc k) = 0x4B424E44 ∧ ¬ s.ldw (s.trustSrc k + 4) ≤ s.fg (base pTRUST) TRUST_BUNDLE_CTR_VALUE ∧ ¬ 63 < s.mbits (s.trustSrc k + 8) 7 0)
    (he : es.length = s.mbits (s.trustSrc k + 8) 7 0 ∧ es.any (fun e => e.1 = 0 ∨ 0xFFFE < e.1) = false ∧ (distinct (es.map (·.1))).length = es.length)
    (hx : ⟨s.ldw (s.trustSrc k + 4), s.mbits (s.trustSrc k + 12) 2 0, es.map (fun e => ⟨e.1, e.2.1 % 8, e.2.2⟩)⟩ = x)
    (h : Config.bundleOpen s.serial ((s.bytesAt (s.trustSrc k) n).map (·.toNat)) = some es) :
    s.bundle k = .ok x := by
  subst hx hn
  rw [Bool.and_eq_true] at ho
  unfold State.bundle
  simp only [ho.1, ho.2, hh.1, hh.2.1, hh.2.2, h, he.1, he.2.1, he.2.2]
  simp
theorem verdict_opens {s : State} {c : Challenge} {nh : List Nat} {rm n : Nat} {key : HostKey} (hk : s.keyFor' c.req.hostId = some key)
    (hr : c.req.reclaim = false ∧ c.req.adopt = false) (hl : ¬ 8 ≤ s.openList.length) (hn : s.freeNumber = some n) :
    s.verdictOpen c nh (s.proofMac key.key c nh) rm = .ok (key, n) := by
  unfold State.verdictOpen
  simp only [hk, hr.1, hr.2, hl, hn]
  simp
theorem accepts_stw {w : State} {o : Org} {p : Nat} {v : Word} (a x : Nat) (hp : 0x06C ≤ pageNo p) (h : w.Accepts o p v) : (w.stw a x).Accepts o p v := by
  have hA : ∀ s : State, s.armedUses (pageNo p) = false := fun s => by
    simp [State.armedUses, State.scenNames, show ¬ pageNo p < 0x050 by omega, show ¬ pageNo p < 0x054 by omega, show ¬ pageNo p < 0x06C by omega]
  have : (w.stw a x).judge o.sess p v = w.judge o.sess p v := by
    simp [State.judge, State.judgeHead, State.judgeRest, State.restState, State.restServes, State.retired, State.mayWrite, State.owns, State.owner, State.rwaLocked, State.fg, State.fb, hA, State.stw, State.keyFor]
  refine ⟨?_, this.trans h.2⟩
  have := h.1
  unfold State.isOpen at *
  rwa [show (w.stw a x).ses o.sess = w.ses o.sess by simp [State.ses, State.stw]]
theorem numbered_cons (a : Nat) (p : ProofSample) (l : List ProofSample) : ∃ r, numbered a (p :: l) = (a, p) :: r := by
  simp only [numbered, List.length_cons, List.range_succ_eq_map, List.zipWith_cons_cons]
  exact ⟨_, rfl⟩
theorem residStats_mono (t : State) (n : Nat) (l : List (Nat × ProofSample)) : ∀ v : Nat × Nat,
    v.1 ≤ (l.foldl (fun v e => let r := (t.residual n e.1 e.2).natAbs; (v.1 + r * r, max v.2 r)) v).1 := by
  induction l with
  | nil => exact fun v => Nat.le_refl _
  | cons e l ih =>
    intro v
    rw [List.foldl_cons]
    refine Nat.le_trans ?_ (ih _)
    exact Nat.le_add_right _ _
/-- The code 0x800 measured lies below every expected value, which the mirror's result is limited to. -/
theorem residual_ne (t : State) (n a : Nat) : t.residual n a ⟨2048, 0⟩ ≠ 0 := by
  have hx : -8191 ≤ t.expected n a ⟨2048, 0⟩ := by
    simp only [State.expected, clampI, ite_self]
    omega
  have h4 : (4 : Int) * sext 12 2048 = -8192 := by decide
  simp only [State.residual, clampI, h4]
  omega
theorem residStats_pos (t : State) (n a : Nat) (l : List ProofSample) : 0 < (t.residStats n (numbered a (⟨2048, 0⟩ :: l))).1 := by
  obtain ⟨r, hn⟩ := numbered_cons a ⟨2048, 0⟩ l
  rw [hn, State.residStats, List.foldl_cons]
  refine Nat.lt_of_lt_of_le ?_ (residStats_mono t n r _)
  exact Nat.lt_of_lt_of_le (Nat.mul_pos (Int.natAbs_pos.2 (residual_ne t n a)) (Int.natAbs_pos.2 (residual_ne t n a))) (Nat.le_add_left _ _)
theorem overRms_of {t : State} {w : Word} {n a k : Nat} {l : List ProofSample} (h : getF w GEN_STEN_RMS_EN = 1 ∧ getF w GEN_STEN_RMS_LIMIT = 0) :
    overRms w (t.residStats n (numbered a (⟨2048, 0⟩ :: l))).1 k = true := by
  simp [overRms, h.1, h.2, residStats_pos]
theorem blockOver_of {t : State} {n a : Nat} {c : ChainSet} {l : List ProofSample} (hc : (t.gen n).ctrl = [c]) (hz : c.cycle = 0)
    (ha : c.active = true) (hlim : t.fg (base (pGEN n)) GEN_FAULT_CFG_CONT_LIMIT = 0) : t.blockOver n (numbered a (⟨2048, 0⟩ :: l)) = true := by
  have hs : ∀ b, t.skipAt n b = false := fun b => by
    simp [State.skipAt, State.proofSet, hc, hz, ha]
  simp only [State.blockOver, hs, hlim, Nat.mul_zero, Nat.zero_mul, residStats_pos, decide_true, Bool.not_false, Bool.and_true, List.all_eq_true, implies_true]
theorem no_bin {l : List Vertex} {ls : List Int} {v : Vertex} (h : l = [v] ∧ v.upper = none ∧ v.lower = none) :
    ¬∃ i : Nat, ∃ (_ : i < ls.length), excesses l ls[i] ↑i ≠ [] := by
  rintro ⟨i, _, hx⟩
  refine hx ?_
  simp [h.1, excesses, h.2.1, h.2.2]
theorem levels_silent {t : State} {n k : Nat} (h : (t.trc n).raw = List.replicate k 0 ∧ k = 1024
    ∧ t.fb (base (pSTEN n)) STEN_SP_CFG_SRC = false ∧ t.fg (base (pSTEN n)) STEN_SP_CFG_NSIZE = 0) :
    t.levels n 0 1 = (List.range 512).map (fun _ => -32768) := by
  obtain ⟨hr, hk, hs, hz⟩ := h
  have hf : (t.frameAt n 0).all (fun x => x == (0, 0)) = true := by
    simp only [State.frameAt, hz, hs, List.all_map, List.all_eq_true, List.mem_range, Function.comp]
    intro m hm
    have : m < k := by omega
    simp [State.inputAt, State.rawAt, hr, this]
  simp [State.levels, State.bins, hz, hs, hf, -List.reduceReplicate]
theorem some_bin {t : State} {n f m k : Nat} {l : List Vertex} (hf : f = 0 ∧ m = 1) (h : (t.trc n).raw = List.replicate k 0 ∧ k = 1024
    ∧ t.fb (base (pSTEN n)) STEN_SP_CFG_SRC = false ∧ t.fg (base (pSTEN n)) STEN_SP_CFG_NSIZE = 0) (hx : excesses l (-32768) 0 ≠ []) :
    ∃ i : Nat, ∃ (_ : i < (t.levels n f m).length), excesses l (t.levels n f m)[i] ↑i ≠ [] := by
  obtain ⟨rfl, rfl⟩ := hf
  exact ⟨0, by rw [levels_silent h, List.length_map, List.length_range]; decide, by simp only [levels_silent h, List.getElem_map]; exact hx⟩
theorem w0_inv : w0.Inv := inv_of_invB (by decide +kernel)

/-! ### MuteCausesFollowTheHost, ChannelEventsAreCounted -/
namespace Chain
def wSet : State := ({ w0 with gens := w0.gens.modify 0 (fun g => { g with settling := true }) }.fs (base pCLK) CLK_PAGE_STATUS_GEN_ACQ 0).fs (base (pGEN 0)) GEN_MUTE_CTRL_CAUSE 4
def M1 : Nat := 0x1000000000
def wLine (kind ampl : Nat) : State :=
  { put (w0.fs (base pCLK) CLK_PAGE_STATUS_GF_VALID 1) [(M1, 0x7FFF7FFF)] with now := 1000, gravers := w0.gravers.modify 0 (fun v => { v with line := [⟨0, 100, ⟨kind, 0, 0, 0, 1, 0, false, 0, 0, 0, 1⟩, [M1], [],
      { w0.desc 0 with toneOn := 3, tones := [⟨0, 0xFFFF, 0⟩, ⟨0, 0xFFFF, 0⟩] }, false, 0, 0, 0, { Nco.fresh with ampl := ampl }, 0, Sty.fresh, []⟩] }) }
/-- Each clause of `Obligations.MuteCausesFollowTheHost` has a state and operands that meet its hypotheses. -/
theorem witness_MuteCausesFollowTheHost :
    -- o := ⟨1, 7, false⟩, n := 0
    (let s : State := w0; s.Accepts ⟨1, 7, false⟩ (base (pGEN 0) + GEN_MUTE_CTRL) 2#32 ∧ 0 < s.variant.gens)
    -- o := ⟨1, 7, false⟩, n := 0, proofToo := false
    ∧ (let s : State := w0; s.Accepts ⟨1, 7, false⟩ (base (pGEN 0) + GEN_MUTE_CTRL) 4#32 ∧ 0 < s.variant.gens) :=
  ⟨⟨accepts_of_passes (by decide +kernel), by decide +kernel⟩,
  ⟨accepts_of_passes (by decide +kernel), by decide +kernel⟩⟩
/-- Each clause of `Obligations.ChannelEventsAreCounted` has a state and operands that meet its hypotheses. -/
theorem witness_ChannelEventsAreCounted :
    -- n := 0, cycle := 0
    (let s : State := wLine 1 0xFFFF; 0 < s.variant.gens
      ∧ (s.strokeHas 0 0 fun (j : Nat) (r : Run) (older later : List Run) => (s.scaled 0 0 j r older later).snd) = true)
    -- n := 0, cycle := 1
    ∧ (let s : State := wLine 1 0xFFFF; 0 < s.variant.gens
      ∧ (s.strokeHas 0 1 fun (j : Nat) (r : Run) (older later : List Run) => (s.scaled 0 1 j r older later).snd) = false)
    -- n := 0, cycle := 0
    ∧ (let s : State := wLine 3 0x8000; 0 < s.variant.gens
      ∧ (s.strokeHas 0 0 fun (j : Nat) (r : Run) (x x_1 : List Run) => (s.stylusAt 0 0 j r).snd) = true)
    -- n := 0, cycle := 0
    ∧ (let s : State := wLine 1 0xFFFF; 0 < s.variant.gens
      ∧ (s.strokeHas 0 0 fun (j : Nat) (r : Run) (x x_1 : List Run) => (s.stylusAt 0 0 j r).snd) = false)
    -- n := 0
    ∧ (let s : State := wSet; 0 < s.variant.gens ∧ (s.gen 0).settling = true ∧ s.fb (base pCLK) CLK_PAGE_STATUS_GEN_ACQ = false) :=
  ⟨by decide +kernel,
  by decide +kernel,
  by decide +kernel,
  by decide +kernel,
  by decide +kernel⟩
end Chain

/-! ### RecordsAreClaimedByTheirFirstWriter, PlateCommandsTakeEffect -/
namespace Records
def wRec : State := put w0 [(dirAddr 5 + 0x18, 2), (dirAddr 7 + 0x18, 0x101), (descAddr 5 + 0xC, 0xAB000001), (dirAddr 1 + 0x18, 0x77000001), (dirAddr 1, 0xFFFFFFFF)]
def wPl : State := put (reg w0 [(sbase 1 pDATU + DATU_ROOT, 0x100000)]) [(plateAddr 1 + 0x28, 0x101), (plateAddr 2 + 0x28, 0x102), (plateAddr 3 + 0x28, 0x102), (plateAddr 3+0x10, 0xFFFFFFFF), (plateAddr 5 + 0x10, 0x1), (plateAddr 5 + 0x20, 0x10000), (plateAddr 5+0x28, 0x101), (0x100000, 0x200001), (0x200000, 0x05000007), (0x200004, 1)]
def wPl2 : State := { wPl with plates := { wPl.plates with cmd := some ⟨1,3,2,0⟩ } }.fs (base pDATU) DATU_PLATE_STATUS_BUSY 1
/-- Each clause of `Obligations.RecordsAreClaimedByTheirFirstWriter` has a state and operands that meet its hypotheses. -/
theorem witness_RecordsAreClaimedByTheirFirstWriter :
    -- o := ⟨1, 7, false⟩, w := 0#32, r := 0, i := 0
    (let s : State := w0; s.AcceptsTable ⟨1, 7, false⟩ ∧ 0 < 0x10000 ∧ 0 < 6 ∧ (s.mbits (dirAddr 0 + 24) 7 0 = 0 ∨ s.mbits (dirAddr 0 + 24) 7 0 = 1)
      ∧ s.mbits (dirAddr 0 + 24) 23 8 = 0)
    -- o := ⟨1, 7, false⟩, w := 0#32, r := 5, i := 0
    ∧ (let s : State := wRec; s.AcceptsTable ⟨1, 7, false⟩ ∧ 5 < 0x10000 ∧ 0 < 8 ∧ s.mbits (dirAddr 5 + 24) 7 0 ≠ 0
      ∧ s.mbits (dirAddr 5 + 24) 7 0 ≠ 1)
    -- o := ⟨1, 7, false⟩, w := 0#32, r := 7, i := 0
    ∧ (let s : State := wRec; s.AcceptsTable ⟨1, 7, false⟩ ∧ 7 < 0x10000 ∧ 0 < 8 ∧ s.mbits (dirAddr 7 + 24) 7 0 = 1
      ∧ s.mbits (dirAddr 7 + 24) 23 8 ≠ 0)
    -- o := ⟨1, 7, false⟩, w := 0#32, d := 0, i := 0
    ∧ (let s : State := w0; s.AcceptsTable ⟨1, 7, false⟩ ∧ 0 < 0x4000 ∧ 0 < 64 ∧ 0 ≠ 3
      ∧ (s.mbits (descAddr 0 + 12) 7 0 = 0 ∨ s.mbits (descAddr 0 + 12) 7 0 = 1) ∧ s.mbits (descAddr 0 + 12) 23 8 = 0) :=
  ⟨⟨⟨by decide +kernel, by decide +kernel, by decide +kernel⟩, by decide +kernel⟩,
  ⟨⟨by decide +kernel, by decide +kernel, by decide +kernel⟩, by decide +kernel⟩,
  ⟨⟨by decide +kernel, by decide +kernel, by decide +kernel⟩, by decide +kernel⟩,
  ⟨⟨by decide +kernel, by decide +kernel, by decide +kernel⟩, by decide +kernel⟩⟩
/-- Each clause of `Obligations.PlateCommandsTakeEffect` has a state and operands that meet its hypotheses. -/
theorem witness_PlateCommandsTakeEffect :
    -- o := ⟨1, 7, false⟩, p := 1, i := 0, w := 0#32
    (let s : State := wPl; s.AcceptsTable ⟨1, 7, false⟩ ∧ 1 < 256 ∧ 0 < 16 ∧ s.plateOwner 1 = 1 ∧ s.plateState 1 = 1 ∧ s.plateBusyOn 1 = false)
    -- o := ⟨1, 7, false⟩, p := 0, op := 1
    ∧ (let s : State := wPl; s.Accepts ⟨1, 7, false⟩ (base pDATU + DATU_PLATE_CMD) (BitVec.ofNat 32 (1 * 2 ^ 28 + 0)) ∧ 0 < 256 ∧ 1 ≤ 1 ∧ 1 ≤ 4
      ∧ s.fb (base pDATU) DATU_PLATE_STATUS_BUSY = false ∧ (s.plateOp 1 0 1).fst = Code.ok)
    -- o := ⟨1, 7, false⟩, p := 0, op := 1
    ∧ (let s : State := wPl2; s.Accepts ⟨1, 7, false⟩ (base pDATU + DATU_PLATE_CMD) (BitVec.ofNat 32 (1 * 2 ^ 28 + 0)) ∧ 0 < 256 ∧ 1 ≤ 1 ∧ 1 ≤ 4
      ∧ s.fb (base pDATU) DATU_PLATE_STATUS_BUSY = true)
    -- o := ⟨1, 7, false⟩, p := 0, c := { sess := 1, plate := 3, op := 2, result := 0 }
    ∧ (let s : State := wPl2; 0 < 256 ∧ s.plates.cmd = some ⟨1, 3, 2, 0⟩ ∧ 3 < 256 ∧ 0 < 256 ∧ 1 ≤ 1) :=
  ⟨⟨⟨by decide +kernel, by decide +kernel, by decide +kernel⟩, by decide +kernel⟩,
  ⟨accepts_of_passes (by decide +kernel), by decide +kernel⟩,
  ⟨accepts_of_passes (by decide +kernel), by decide +kernel⟩,
  by decide +kernel⟩
end Records

/-! ### TableWritesAndCommitCommands, CommitStages, GraverMovesBetweenSteps -/
namespace Gravers
def wTab : State := w0.fs (gBase 0) GRV_TABLE_CFG_CAPACITY 2
def wArm : State := put wTab [(scenAddr 0 + 0x14, 1), (scenAddr 0 + 0xC0, 0x10003)]
def wPend : State := (wTab.fs (gBase 0) GRV_TABLE_STATUS_PENDING 1).fs (gBase 0) GRV_TABLE_STATUS_READY 1
def wSync : State := put (wTab.fs (gBase 0) GRV_TABLE_STATUS_SYNCING 1) [(commWin 0 + 64, 5), (commWin 0 + 128, 7), (shadowWin 0 + 64, 9), (shadowWin 0, 3), (commWin 0 + 0x3ffffc, 8)]
def wFail : State := ((wTab.fs (gBase 0) GRV_TABLE_STATUS_PENDING 1).fs (gBase 0) GRV_COMMIT_ENTRY_ENTRY 3)
def wPlay : State := (wTab.fs (gBase 0) GRV_STEP_NOW_PLAYING 1).fs (base pCLK) CLK_GEN_RATE_RATE_LO 0
def wReady : State := (wPlay.fs (gBase 0) GRV_TABLE_STATUS_PENDING 1).updGrv 0 (fun g => { g with checked := true })
def wTake : State := put (((wPlay.fs (gBase 0) GRV_TABLE_STATUS_PENDING 1).fs (gBase 0) GRV_TABLE_STATUS_READY 1).fs (gBase 0) GRV_COMMIT_ENTRY_ENTRY 1) [(commWin 0 + 64, 5), (commWin 0 + 128, 7), (shadowWin 0 + 64, 9), (shadowWin 0, 3), (commWin 0 + 0x3ffffc, 8)]
def mv (w0' : List (Nat × Nat)) : State := put (wTab.fs (gBase 0) GRV_STEP_NOW_PLAYING 1) w0'
def c0 : Nat := commWin 0
/-- Each clause of `Obligations.TableWritesAndCommitCommands` has a state and operands that meet its hypotheses. -/
theorem witness_TableWritesAndCommitCommands :
    -- o := ⟨1, 7, false⟩, g := 0, off := 0, w := 1#32
    (let s : State := wTab; s.AcceptsTable ⟨1, 7, false⟩ ∧ s.hasGraver 0 = true ∧ 0 < 0x400000 ∧ 0 % 4 = 0 ∧ s.owns 1 (gPage 0) = true
      ∧ s.fb (gBase 0) GRV_TABLE_STATUS_PENDING = false ∧ s.fb (gBase 0) GRV_TABLE_STATUS_SYNCING = false ∧ 0 < 64 * s.steps 0)
    -- o := ⟨1, 7, false⟩, g := 0, c := 1
    ∧ (let s : State := wTab; s.Accepts ⟨1, 7, false⟩ (gBase 0 + GRV_TABLE_CFG) 1#32 ∧ s.hasGraver 0 = true ∧ 1 ≤ 1 ∧ 1 ≤ 64
      ∧ 1 ≠ s.fg (gBase 0) GRV_TABLE_CFG_CAPACITY
      ∧ List.foldl (fun (n h : Nat) => n + s.fg (gBase h) GRV_TABLE_CFG_CAPACITY) 0 (List.filter (fun (h : Nat) => s.hasGraver h) (List.range 20)) - s.fg (gBase 0) GRV_TABLE_CFG_CAPACITY + 1 ≤ s.variant.poolUnits)
    -- o := ⟨1, 7, false⟩, g := 0
    ∧ (let s : State := wArm; s.Accepts ⟨1, 7, false⟩ (gBase 0 + GRV_COMMIT_CMD) 1#32 ∧ s.hasGraver 0 = true
      ∧ s.fb (gBase 0) GRV_TABLE_STATUS_PENDING = false ∧ s.fb (gBase 0) GRV_TABLE_STATUS_SYNCING = false ∧ (s.armedOn 0).isEmpty = false)
    -- o := ⟨1, 7, false⟩, g := 0
    ∧ (let s : State := wPend; s.Accepts ⟨1, 7, false⟩ (gBase 0 + GRV_COMMIT_CMD) 1#32 ∧ s.hasGraver 0 = true
      ∧ (s.fb (gBase 0) GRV_TABLE_STATUS_PENDING = true ∨ s.fb (gBase 0) GRV_TABLE_STATUS_SYNCING = true))
    -- o := ⟨1, 7, false⟩, g := 0
    ∧ (let s : State := wPend; s.Accepts ⟨1, 7, false⟩ (gBase 0 + GRV_COMMIT_CMD) 2#32 ∧ s.hasGraver 0 = true
      ∧ s.fb (gBase 0) GRV_TABLE_STATUS_PENDING = true ∧ s.armedOn 0 = []) :=
  ⟨⟨⟨by decide +kernel, by decide +kernel, by decide +kernel⟩, by decide +kernel⟩,
  ⟨accepts_of_passes (by decide +kernel), by decide +kernel⟩,
  ⟨accepts_of_passes (by decide +kernel), by decide +kernel⟩,
  ⟨accepts_of_passes (by decide +kernel), by decide +kernel⟩,
  ⟨accepts_of_passes (by decide +kernel), by decide +kernel⟩⟩
/-- Each clause of `Obligations.CommitStages` has a state and operands that meet its hypotheses. -/
theorem witness_CommitStages :
    -- g := 0, r := { code := Sys2Proof.Machine.Code.limit, kind := 2, num := 0, step := 3, detail := 0 }
    (let s : State := wFail; s.hasGraver 0 = true ∧ s.fb (gBase 0) GRV_TABLE_STATUS_PENDING = true ∧ (s.grv 0).checked = false
      ∧ s.tableFails (s.owner (gPage 0)) 0 (shadowWin 0) (s.fg (gBase 0) GRV_COMMIT_ENTRY_ENTRY :: List.map (fun (k : Nat) => s.entryOf k 0) (s.armedOn 0)) = some { code := Code.limit, kind := 2, num := 0, step := 3, detail := 0 })
    -- g := 0
    ∧ (let s : State := wReady; s.hasGraver 0 = true ∧ s.fb (gBase 0) GRV_TABLE_STATUS_PENDING = true ∧ (s.grv 0).checked = true
      ∧ s.fb (gBase 0) GRV_TABLE_STATUS_READY = false ∧ s.playing 0 = true)
    -- g := 0
    ∧ (let s : State := wTake; s.hasGraver 0 = true ∧ s.playing 0 = true ∧ s.fb (gBase 0) GRV_TABLE_STATUS_READY = true
      ∧ (s.playStrokes 0 (s.restOfPass 0)).handDue 0 = false ∧ s.timeDue 0 = none
      ∧ s.badLine (shadowWin 0 + 64 * s.fg (gBase 0) GRV_COMMIT_ENTRY_ENTRY) = false
      ∧ ((s.nextStep 0 (s.stepNow 0) (s.entryNow 0)).isSome = true ∨ (s.grv 0).latched = false ∧ (s.entryNow 0).repeat_ = 0))
    -- g := 0
    ∧ (let s : State := wSync; s.hasGraver 0 = true ∧ s.fb (gBase 0) GRV_TABLE_STATUS_SYNCING = true)
    -- g := 0, set := Sys2Proof.CacheSet.active, slot := 0
    ∧ (let s : State := wFail; s.hasGraver 0 = true ∧ s.nextFill 0 ≠ some (CacheSet.active, 0))
    -- g := 0, slot := 1
    ∧ (let s : State := wTab.fs (gBase 0) GRV_JCACHE_STATUS_ACTIVE 1; s.hasGraver 0 = true ∧ s.nextFill 0 = some (CacheSet.active, 1)) :=
  ⟨by decide +kernel,
  by decide +kernel,
  by decide +kernel,
  by decide +kernel,
  by decide +kernel,
  by decide +kernel⟩
/-- Each clause of `Obligations.GraverMovesBetweenSteps` has a state and operands that meet its hypotheses. -/
theorem witness_GraverMovesBetweenSteps :
    -- g := 0
    (let s : State := mv [(c0, 0x110000), (c0 + 8, 7)]; s.hasGraver 0 = true ∧ s.playing 0 = true ∧ s.fb (gBase 0) GRV_TABLE_STATUS_READY = false
      ∧ (s.entryNow 0).advance = 1 ∧ (s.grv 0).latched = false ∧ s.gravers.length = 20)
    -- g := 0, slot := 0
    ∧ (let s : State := mv [(c0 + 20, 0x10009)]; s.hasGraver 0 = true ∧ s.playing 0 = true ∧ s.fb (gBase 0) GRV_TABLE_STATUS_READY = false ∧ 0 < 4
      ∧ ((s.entryNow 0).jumps.getD 0 { target := 0, clr := false, evt := 0 }).evt ≠ 0 ∧ bit (s.fg (gBase 0) GRV_JUMP_CTRL_SLOT_MASK) 0 = false) :=
  ⟨by decide +kernel,
  by decide +kernel⟩
end Gravers

/-! ### ScenarioRecordsAndEntriesAreClaimed, ScenarioCommandsChangeState, ScenariosArmStartAndDisarm, ScheduleEntriesIssueActions -/
namespace Scens
def wScenRec : State := put w0 [(scenAddr 5 + 0xC0, 0x10001), (scenAddr 5 + 16, 0xFFFFFFFF), (scenAddr 6+0xC0, 0x20001), (scenAddr 7 + 0xC0, 0x10004),
  (schedAddr 5 + 0x10, 0xFF000103), (schedAddr 6 + 0x10, 0x102), (schedAddr 7+0x10, 0x201), (schedAddr 0, 0x400000), (schedAddr 5+0x18, 77)]
def wScen (st : Nat) (a : Option ScenAct) : State :=
  (put { w0 with trust := { w0.trust with started := true } } [(scenAddr 3 + 0xC0, 0x10000 + st), (scenAddr 3 + 0x14, 1),
     (dirAddr 0, 2), (dirAddr 0 + 4, 64), (dirAddr 0 + 0x18, 1), (descAddr 0 + 4, 1), (descAddr 0 + 0xC, 1)]).updScn 3 (fun x => { x with act := a })
def act0 (op : Nat) : ScenAct := ⟨op, 5000, 1, .command, false, false, false, false, false, false, false, none, 0⟩
def wArmable : State := ((wScen 1 none).fs (gBase 0) GRV_TABLE_CFG_CAPACITY 2).fs (base (pGEN 0)) HDR_PAGE_CTRL_EN 1
def wQd (l : List QCmd) : State := let s := wScen 3 none; { s with unit := { s.unit with scenQ := l, scenFree := 5 } }
def wSt : State := ((wScen 4 (some (act0 2))).fs (base pCLK) CLK_PAGE_STATUS_GF_VALID 1).fs (base pCLK) CLK_PAGE_STATUS_CF_VALID 1
def wSub : State := put (wScen 3 none) [(schedAddr 5, 0x02400000 + 3 * 256), (schedAddr 5 + 4, 9000), (schedAddr 5 + 0x10, 0x101), (schedAddr 6, 0x00400000 + 3*256),(schedAddr 6 + 0x10, 0x101)]
def wDue : State := { put wSub [(schedAddr 5 + 0x10, 0x102)] with scheds := [⟨5, some 9000, false⟩] }
def wExt : State := { { put wSub [(schedAddr 5 , 0x02800300), (schedAddr 5 + 0x10, 0x102)] with scheds := [⟨5, none, false⟩] } with clk := { wSub.clk with ppsSeen := true } }
/-- Each clause of `Obligations.ScenarioRecordsAndEntriesAreClaimed` has a state and operands that meet its hypotheses. -/
theorem witness_ScenarioRecordsAndEntriesAreClaimed :
    -- o := ⟨1, 7, false⟩, w := 0#32, k := 0, i := 0
    (let s : State := wScenRec; s.AcceptsTable ⟨1, 7, false⟩ ∧ 0 < 64 ∧ 0 < 64 ∧ 0 ≠ 48 ∧ (¬(0 = 4 ∧ bits (0#32).toNat 23 22 = 3)) ∧ (¬(0 = 5
      ∧ s.absentMember (0#32).toNat = true)) ∧ (¬(32 ≤ 0 ∧ 0 < 48 ∧ s.absentConsumer ((0#32).toNat / 0x10000) = true)) ∧ s.scenOwner 0 = 0
      ∧ s.scenState 0 = 0)
    -- o := ⟨1, 7, false⟩, w := 0#32, k := 5, i := 0
    ∧ (let s : State := wScenRec; s.AcceptsTable ⟨1, 7, false⟩ ∧ 5 < 64 ∧ 0 < 64 ∧ 0 ≠ 48 ∧ (¬(0 = 4 ∧ bits (0#32).toNat 23 22 = 3)) ∧ (¬(0 = 5
      ∧ s.absentMember (0#32).toNat = true)) ∧ (¬(32 ≤ 0 ∧ 0 < 48 ∧ s.absentConsumer ((0#32).toNat / 0x10000) = true)) ∧ s.scenOwner 5 = 1
      ∧ s.scenState 5 = 1)
    -- o := ⟨1, 7, false⟩, w := 0#32, k := 6, i := 0
    ∧ (let s : State := wScenRec; s.AcceptsTable ⟨1, 7, false⟩ ∧ 6 < 64 ∧ 0 < 64 ∧ s.scenOwner 6 ≠ 0 ∧ s.scenOwner 6 ≠ 1)
    -- o := ⟨1, 7, false⟩, w := 0#32, k := 7, i := 0
    ∧ (let s : State := wScenRec; s.AcceptsTable ⟨1, 7, false⟩ ∧ 7 < 64 ∧ 0 < 64 ∧ s.scenOwner 7 = 1 ∧ 1 < s.scenState 7)
    -- o := ⟨1, 7, false⟩, w := 0#32, e := 6, i := 0
    ∧ (let s : State := wScenRec; s.AcceptsTable ⟨1, 7, false⟩ ∧ 6 < 1024 ∧ 0 < 4 ∧ (s.schedOwner 6 = 0 ∨ s.schedOwner 6 = 1) ∧ s.schedState 6 = 2)
    -- o := ⟨1, 7, false⟩, w := 0#32, e := 0, i := 0
    ∧ (let s : State := wScenRec; s.AcceptsTable ⟨1, 7, false⟩ ∧ 0 < 1024 ∧ 0 < 4 ∧ (s.schedOwner 0 = 0 ∨ s.schedOwner 0 = 1) ∧ s.schedState 0 ≠ 2
      ∧ bits (0#32).toNat 23 22 = 0)
    -- o := ⟨1, 7, false⟩, w := 0#32, e := 0, i := 1
    ∧ (let s : State := wScenRec; s.AcceptsTable ⟨1, 7, false⟩ ∧ 0 < 1024 ∧ 1 < 4 ∧ (s.schedOwner 0 = 0 ∨ s.schedOwner 0 = 1) ∧ s.schedState 0 ≠ 2
      ∧ (1 = 0 → bits (0#32).toNat 23 22 ≠ 0)) :=
  ⟨⟨⟨by decide +kernel, by decide +kernel, by decide +kernel⟩, by decide +kernel⟩,
  ⟨⟨by decide +kernel, by decide +kernel, by decide +kernel⟩, by decide +kernel⟩,
  ⟨⟨by decide +kernel, by decide +kernel, by decide +kernel⟩, by decide +kernel⟩,
  ⟨⟨by decide +kernel, by decide +kernel, by decide +kernel⟩, by decide +kernel⟩,
  ⟨⟨by decide +kernel, by decide +kernel, by decide +kernel⟩, by decide +kernel⟩,
  ⟨⟨by decide +kernel, by decide +kernel, by decide +kernel⟩, by decide +kernel⟩,
  ⟨⟨by decide +kernel, by decide +kernel, by decide +kernel⟩, by decide +kernel⟩⟩
/-- Each clause of `Obligations.ScenarioCommandsChangeState` has a state and operands that meet its hypotheses. -/
theorem witness_ScenarioCommandsChangeState :
    -- o := ⟨1, 7, false⟩, k := 3
    (let s : State := wArmable; s.Inv ∧ s.Accepts ⟨1, 7, false⟩ (base pSCEN + SCEN_CMD) (BitVec.ofNat 32 (256 * 3 + 1)) ∧ s.TakesScen ∧ 3 < 64
      ∧ s.scenOwner 3 = 1 ∧ s.scenState 3 = 1 ∧ s.armFails 1 3 = none)
    -- o := ⟨1, 7, false⟩, k := 3
    ∧ (let s : State := wScen 3 none; s.Inv ∧ s.Accepts ⟨1, 7, false⟩ (base pSCEN + SCEN_CMD) (BitVec.ofNat 32 (256 * 3 + 2)) ∧ s.TakesScen ∧ 3 < 64
      ∧ s.scenOwner 3 = 1 ∧ s.scenState 3 = 3)
    -- o := ⟨1, 7, false⟩, k := 3
    ∧ (let s : State := wScen 7 none; s.Inv ∧ s.Accepts ⟨1, 7, false⟩ (base pSCEN + SCEN_CMD) (BitVec.ofNat 32 (256 * 3 + 6)) ∧ s.TakesScen ∧ 3 < 64
      ∧ s.scenOwner 3 = 1 ∧ s.scenState 3 = 7)
    -- o := ⟨1, 7, false⟩, k := 3
    ∧ (let s : State := wScen 5 none; s.Inv ∧ s.Accepts ⟨1, 7, false⟩ (base pSCEN + SCEN_CMD) (BitVec.ofNat 32 (256 * 3 + 5)) ∧ s.TakesScen ∧ 3 < 64
      ∧ s.scenOwner 3 = 1 ∧ s.scenState 3 = 5)
    -- o := ⟨1, 7, false⟩, k := 3
    ∧ (let s : State := wScen 5 none; s.Inv ∧ s.Accepts ⟨1, 7, false⟩ (base pSCEN + SCEN_CMD) (BitVec.ofNat 32 (256 * 3 + 3)) ∧ s.TakesScen ∧ 3 < 64
      ∧ s.scenOwner 3 = 1 ∧ s.scenState 3 = 5 ∧ (s.scn 3).act = none)
    -- o := ⟨1, 7, false⟩, k := 3
    ∧ (let s : State := wScen 5 none; s.Inv ∧ s.Accepts ⟨1, 7, false⟩ (base pSCEN + SCEN_CMD) (BitVec.ofNat 32 (256 * 3 + 4)) ∧ s.TakesScen ∧ 3 < 64
      ∧ s.scenOwner 3 = 1 ∧ s.scenState 3 = 5 ∧ (s.scn 3).act = none)
    -- o := ⟨1, 7, false⟩, k := 3
    ∧ (let s : State := wScen 3 none; s.Inv ∧ s.Accepts ⟨1, 7, false⟩ (base pSCEN + SCEN_CMD) (BitVec.ofNat 32 (256 * 3 + 7)) ∧ s.TakesScen ∧ 3 < 64
      ∧ s.scenOwner 3 = 1 ∧ s.scenState 3 = 3)
    -- o := ⟨1, 7, false⟩, k := 3
    ∧ (let s : State := wScen 2 (some (act0 1)); s.Inv ∧ s.Accepts ⟨1, 7, false⟩ (base pSCEN + SCEN_CMD) (BitVec.ofNat 32 (256 * 3 + 8)) ∧ s.TakesScen
      ∧ 3 < 64 ∧ s.scenOwner 3 = 1 ∧ (s.scenState 3 = 2 ∨ s.scenState 3 = 9))
    -- o := ⟨1, 7, false⟩, k := 3
    ∧ (let s : State := wArmable; s.Inv ∧ s.Accepts ⟨1, 7, false⟩ (base pSCEN + SCEN_CMD) (BitVec.ofNat 32 (256 * 3 + 9)) ∧ s.TakesScen ∧ 3 < 64
      ∧ s.scenOwner 3 = 1 ∧ s.scenState 3 = 1)
    -- o := ⟨1, 7, false⟩, k := 3
    ∧ (let s : State := wArmable; s.Inv ∧ s.Accepts ⟨1, 7, false⟩ (base pSCEN + SCEN_CMD) (BitVec.ofNat 32 (256 * 3 + 2)) ∧ s.TakesScen ∧ 3 < 64
      ∧ s.scenOwner 3 = 1 ∧ s.scenState 3 ≠ 3)
    -- o := ⟨1, 7, false⟩, k := 3
    ∧ (let s : State := wQd []; s.Inv ∧ s.Accepts ⟨1, 7, false⟩ (base pSCEN + SCEN_CMD) (BitVec.ofNat 32 (256 * 3 + 2)) ∧ s.Idle s.now ∧ 3 < 64
      ∧ s.scenOwner 3 = 1 ∧ s.now < s.unit.scenFree)
    -- o := ⟨1, 7, false⟩, k := 3
    ∧ (let s : State := wQd (List.replicate 16 ⟨1, 2, 3, 0⟩); s.Inv ∧ s.Accepts ⟨1, 7, false⟩ (base pSCEN + SCEN_CMD) (BitVec.ofNat 32 (256 * 3 + 2))
      ∧ 3 < 64 ∧ s.scenOwner 3 = 1 ∧ 16 ≤ s.settled.unit.scenQ.length) :=
  ⟨⟨inv_of_invB (by decide +kernel), accepts_of_passes (by decide +kernel), ⟨idle_of (by decide +kernel), by decide +kernel⟩, by decide +kernel⟩,
  ⟨inv_of_invB (by decide +kernel), accepts_of_passes (by decide +kernel), ⟨idle_of (by decide +kernel), by decide +kernel⟩, by decide +kernel⟩,
  ⟨inv_of_invB (by decide +kernel), accepts_of_passes (by decide +kernel), ⟨idle_of (by decide +kernel), by decide +kernel⟩, by decide +kernel⟩,
  ⟨inv_of_invB (by decide +kernel), accepts_of_passes (by decide +kernel), ⟨idle_of (by decide +kernel), by decide +kernel⟩, by decide +kernel⟩,
  ⟨inv_of_invB (by decide +kernel), accepts_of_passes (by decide +kernel), ⟨idle_of (by decide +kernel), by decide +kernel⟩, by decide +kernel⟩,
  ⟨inv_of_invB (by decide +kernel), accepts_of_passes (by decide +kernel), ⟨idle_of (by decide +kernel), by decide +kernel⟩, by decide +kernel⟩,
  ⟨inv_of_invB (by decide +kernel), accepts_of_passes (by decide +kernel), ⟨idle_of (by decide +kernel), by decide +kernel⟩, by decide +kernel⟩,
  ⟨inv_of_invB (by decide +kernel), accepts_of_passes (by decide +kernel), ⟨idle_of (by decide +kernel), by decide +kernel⟩, by decide +kernel⟩,
  ⟨inv_of_invB (by decide +kernel), accepts_of_passes (by decide +kernel), ⟨idle_of (by decide +kernel), by decide +kernel⟩, by decide +kernel⟩,
  ⟨inv_of_invB (by decide +kernel), accepts_of_passes (by decide +kernel), ⟨idle_of (by decide +kernel), by decide +kernel⟩, by decide +kernel⟩,
  ⟨inv_of_invB (by decide +kernel), accepts_of_passes (by decide +kernel), idle_of (by decide +kernel), by decide +kernel⟩,
  ⟨inv_of_invB (by decide +kernel), accepts_of_passes (by decide +kernel), by decide +kernel⟩⟩
/-- Each clause of `Obligations.ScenariosArmStartAndDisarm` has a state and operands that meet its hypotheses. -/
theorem witness_ScenariosArmStartAndDisarm :
    -- k := 3, a := { op := 1,   at_ := 5000,   sess := 1,   src := Sys2Proof.Machine.ActSrc.command …
    (let s : State := wScen 2 (some (act0 1)); s.Inv ∧ s.Idle s.now ∧ 3 < 64 ∧ s.scenState 3 = 2
      ∧ (s.scn 3).act = some { op := 1, at_ := 5000, sess := 1, src := ActSrc.command, atOnce := false, waits := false, judged := false, launched := false, told := false, gf := false, cf := false, first := none, last := 0 }
      ∧ 1 ≤ 1 ∧ 1 ≤ 16 ∧ s.scenOwner 3 = 1)
    -- k := 3
    ∧ (let s : State := wScen 9 (some (act0 7)); s.Inv ∧ s.Idle s.now ∧ 3 < 64 ∧ s.scenState 3 = 9 ∧ (s.scn 3).act ≠ none)
    -- k := 3, a := { op := 2,   at_ := 5000,   sess := 1,   src := Sys2Proof.Machine.ActSrc.command …
    ∧ (let s : State := wSt; s.Inv ∧ s.Idle (max s.now 5000) ∧ 3 < 64 ∧ s.scenState 3 = 4
      ∧ (s.scn 3).act = some { op := 2, at_ := 5000, sess := 1, src := ActSrc.command, atOnce := false, waits := false, judged := false, launched := false, told := false, gf := false, cf := false, first := none, last := 0 }
      ∧ 1 ≤ 1 ∧ 1 ≤ 16 ∧ List.filter (s.before 3) s.byPrio = [] ∧ (s.scn 3).saved = [] ∧ (s.scn 3).after = 0 ∧ s.routesOf 3 = [] ∧ s.capsOf 3 = []
      ∧ s.membersOf 3 ≠ [] ∧ (∀ (g : Nat), g ∈ s.membersOf 3 → (s.grv g).scen = 64 ∧ (s.grv g).hand = none
      ∧ s.badLine (commWin g + 64 * s.entryOf 3 g) = false) ∧ s.fb (base pCLK) CLK_PAGE_STATUS_GF_VALID = true) :=
  ⟨⟨inv_of_invB (by decide +kernel), idle_of (by decide +kernel), by decide +kernel⟩,
  ⟨inv_of_invB (by decide +kernel), idle_of (by decide +kernel), by decide +kernel⟩,
  ⟨inv_of_invB (by decide +kernel), idle_of (by decide +kernel), by decide +kernel⟩⟩
/-- Each clause of `Obligations.ScheduleEntriesIssueActions` has a state and operands that meet its hypotheses. -/
theorem witness_ScheduleEntriesIssueActions :
    -- e := 5, o := ⟨1, 7, false⟩
    (let s : State := wSub; s.Accepts ⟨1, 7, false⟩ (base pSCHED + SCHED_CMD) (BitVec.ofNat 32 (2 ^ 24 + 5)) ∧ s.TakesSched ∧ 5 < 1024
      ∧ s.submitCheck 1 5 = Code.ok
      ∧ Option.all (fun (t : Nat) => decide (s.now + 3000 < t)) (((s.submitDo 5).sched 5).bind fun (x : SchedX) => x.at_) = true)
    -- e := 0, o := ⟨1, 7, false⟩, c := Sys2Proof.Machine.Code.owner
    ∧ (let s : State := wSub; s.Accepts ⟨1, 7, false⟩ (base pSCHED + SCHED_CMD) (BitVec.ofNat 32 (2 ^ 24 + 0)) ∧ s.TakesSched ∧ 0 < 1024
      ∧ s.submitCheck 1 0 = Code.owner ∧ Code.owner ≠ Code.ok)
    -- e := 5, o := ⟨1, 7, false⟩, x := { i := 5, at_ := some 9000, fell := false }
    ∧ (let s : State := wDue; s.Accepts ⟨1, 7, false⟩ (base pSCHED + SCHED_CMD) (BitVec.ofNat 32 (2 * 2 ^ 24 + 5)) ∧ s.TakesSched ∧ 5 < 1024
      ∧ s.schedOwner 5 = 1 ∧ s.schedState 5 = 2 ∧ s.sched 5 = some ⟨5, some 9000, false⟩)
    -- e := 5, at_ := 9000
    ∧ (let s : State := wDue; { s with scheds := List.filter (fun (x : SchedX) => x.i != 5) s.scheds }.Idle (max s.now (9000 - 3000)) ∧ 5 < 1024
      ∧ s.scens.length = 64 ∧ s.entryDue = some (5, 9000) ∧ s.sched 5 = some ⟨5, some 9000, false⟩ ∧ s.schedState 5 = 2
      ∧ s.badLine (schedAddr 5) = false ∧ s.mbits (schedAddr 5) 27 24 = 2 ∧ s.schedOwner 5 ≠ 0
      ∧ s.scenOwner (s.mbits (schedAddr 5) 13 8) = s.schedOwner 5 ∧ s.scenState (s.mbits (schedAddr 5) 13 8) = 3)
    -- e := 5, x := { i := 5, at_ := none, fell := false }
    ∧ (let s : State := wExt; s.Idle (max s.now (s.lastPps.fst + (s.schedSecond 5 - 1 - s.lastPps.snd) * 3000000000 + 3000000)) ∧ 5 < 1024
      ∧ s.sched 5 = some ⟨5, none, false⟩ ∧ s.schedKey 5 = 2 ∧ s.clk.ppsSeen = true ∧ s.lastPps.snd ≤ s.schedSecond 5
      ∧ max s.now (s.lastPps.fst + (s.schedSecond 5 - 1 - s.lastPps.snd) * 3000000000 + 3000000) + 3000 < s.lastPps.fst + s.ldw (schedAddr 5 + 12) + (s.schedSecond 5 - s.lastPps.snd) * 3000000000) :=
  ⟨⟨accepts_of_passes (by decide +kernel), ⟨idle_of (by decide +kernel), by decide +kernel⟩, by decide +kernel⟩,
  ⟨accepts_of_passes (by decide +kernel), ⟨idle_of (by decide +kernel), by decide +kernel⟩, by decide +kernel⟩,
  ⟨accepts_of_passes (by decide +kernel), ⟨idle_of (by decide +kernel), by decide +kernel⟩, by decide +kernel⟩,
  ⟨idle_of (by decide +kernel), by decide +kernel⟩,
  ⟨idle_of (by decide +kernel), by decide +kernel⟩⟩
end Scens

/-! ### DriverFaultsAndTheirClearing, TriggersAndMarkers -/
namespace Lanes
def wOff (o c : Bool) : State := { ({ w0 with lanes := { w0.lanes with off := [⟨.lane 0 3, o, c, 5⟩, ⟨.lane 0 2, true, false, 0⟩] } }.fs (base (pPAT 0)) PAT_LANE_FAULT_DISABLED 0xC) with now := 9000000 }
def wTrig : State := ({ w0 with lanes := { w0.lanes with outs := [⟨false,false,2⟩,⟨true,false,1⟩,⟨true,true,1⟩,⟨false,true,0⟩], lastEdge := [none, some 4, some 1000000000000, some 9] } }.fs (base (pPAT 0)) TRG_TRIG_IN_CFG_EDGE 1)
def wTrig2 : State := [0,1,2,3].foldl (fun s k => s.fs (base (pPAT 0)) TRG_TRIG_IN_CFG_EDGE (k % 4) k) wTrig
def wMk : State := ((w0.fs (base (pXH 0)) XH_CH_CFG_PRODUCER 0x200 9).fs (base (pXH 0)) XH_CH_CFG_PRODUCER 0x300 10).fs (base (pXH 0)) XH_CH_CFG_PRODUCER 0x900 11
/-- Each clause of `Obligations.DriverFaultsAndTheirClearing` has a state and operands that meet its hypotheses. -/
theorem witness_DriverFaultsAndTheirClearing :
    -- g := 0, i := 0
    (let s : State := wOff true false; 0 < s.variant.pats ∧ 0 < 8 ∧ s.contBit (DriverPort.lane 0 0) = false)
    -- g := 0, i := 0, o := ⟨1, 7, false⟩, mask := 0
    ∧ (let s : State := wOff true false; s.Accepts ⟨1, 7, false⟩ (base (pPAT 0) + PAT_LANE_FAULT) 0#32 ∧ 0 < s.variant.pats ∧ 0 < 8 ∧ 0 < 256)
    -- g := 0, i := 0, o := ⟨1, 7, false⟩, mask := 0
    ∧ (let s : State := wOff true false; s.Accepts ⟨1, 7, false⟩ (base (pPAT 0) + PAT_LANE_FAULT) (BitVec.ofNat 32 (0 * 256)) ∧ 0 < s.variant.pats
      ∧ 0 < 8 ∧ 0 < 256)
    -- g := 0, i := 3, d := { who := Sys2Proof.DriverPort.lane 0 3, ovr := false, cont := false, at_ := 5 }
    ∧ (let s : State := wOff false false; 0 < s.variant.pats ∧ 3 < 8 ∧ s.offOf (DriverPort.lane 0 3) = some ⟨DriverPort.lane 0 3, false, false, 5⟩)
    -- g := 0, i := 0
    ∧ (let s : State := wOff true false; 0 < s.variant.pats ∧ 0 < 8) :=
  ⟨by decide +kernel,
  ⟨accepts_of_passes (by decide +kernel), by decide +kernel⟩,
  ⟨accepts_of_passes (by decide +kernel), by decide +kernel⟩,
  by decide +kernel,
  by decide +kernel⟩
/-- Each clause of `Obligations.TriggersAndMarkers` has a state and operands that meet its hypotheses. -/
theorem witness_TriggersAndMarkers :
    -- k := 0, rising := true, ticks := 0, frac := 0
    (let s : State := { wTrig2 with regs := (wMk.fs (base (pPAT 0)) TRG_TRIG_IN_CFG_EDGE 1).regs }; s.Inv
      ∧ (∀ (p : Nat), s.lanes.lastEdge.getD 0 none = some p → p + 0x10000 ≤ 0 * 0x10000 + 0) ∧ 0 < 4 ∧ 0 < 2 ^ 64 ∧ 0 < 0x10000
      ∧ bit (s.fg (base pPWR) PWR_REST_CFG_WAKE_TRIG) 0 = false ∧ s.edgeSelected 0 true = true)
    -- k := 0, rising := false, ticks := 0, frac := 0
    ∧ (let s : State := wTrig2; s.Inv ∧ 0 < 4 ∧ 0 < 2 ^ 64 ∧ 0 < 0x10000 ∧ bit (s.fg (base pPWR) PWR_REST_CFG_WAKE_TRIG) 0 = false
      ∧ s.edgeSelected 0 false = false)
    -- k := 0
    ∧ (let s : State := wTrig2; s.Inv ∧ 0 < 4 ∧ (s.trigOut 0).due ≠ 0)
    -- k := 2
    ∧ (let s : State := wTrig2; s.Inv ∧ 2 < 4 ∧ (s.trigOut 2).busy = true)
    -- n := 0, k := 0, c := 9, cycle := 0
    ∧ (let s : State := wMk; s.Inv ∧ 0 < s.variant.gens ∧ 0 < 2 ∧ s.chanOf ((if 0 = 0 then 512 else 768) + 0) = some 9 ∧ 0 < 9 ∧ 9 < 256) :=
  ⟨⟨inv_of_invB (by decide +kernel), of_some (by decide +kernel), by decide +kernel⟩,
  ⟨inv_of_invB (by decide +kernel), by decide +kernel⟩,
  ⟨inv_of_invB (by decide +kernel), by decide +kernel⟩,
  ⟨inv_of_invB (by decide +kernel), by decide +kernel⟩,
  ⟨inv_of_invB (by decide +kernel), by decide +kernel⟩⟩
end Lanes

/-! ### ProofVerdictsAndFaults, SelfTestsAndSnapshots -/
namespace Proofs
def wP (act : Bool) (now : Nat) (k : List Tenure) (f : State → State) : State :=
  f { put (w0.fs (base pCLK) CLK_PAGE_STATUS_GF_VALID 1) [(modelAddr 0 3, 0x08000800), (modelAddr 0 3 + 4, 0x200)] with now := now, gens := w0.gens.modify 0 (fun g => { g with ctrl := [⟨0, true, 0, 2, act, 3⟩] }), proofs := w0.proofs.modify 0 (fun p => { p with tenures := k }) }
def te : Tenure := ⟨0, none, 0, 3⟩
def w6 (s : State) : State := s.fs (base (pGEN 0)) GEN_STEN_CFG_WINDOW 6
def wV (s : State) : State := ((w6 s).fs (base (pGEN 0)) GEN_STEN_RMS_EN 1 |>.fs (base (pGEN 0)) GEN_STEN_RMS_ACTION 1).fs (base (pGEN 0)) GEN_STEN_RMS_LIMIT 0
def wIso (o c : Bool) : State := ({ w0 with lanes := { w0.lanes with off := [⟨.output 0, o, c, 5⟩] }, now := 9000000 }.fs (base (pGEN 0)) GEN_PROOF_FAULT_ISOLATED 1).fs (base (pGEN 0)) GEN_PROOF_FAULT_OVERLOAD 1
def wCon : State := wP true 100000 [] (fun s => s.fs (base (pGEN 0)) GEN_FAULT_CFG_CONT_LIMIT 0 |>.fs (base (pGEN 0)) GEN_FAULT_CFG_CONT_BLOCKS 0)
def wOpen (s : State) : State := { s with proofs := s.proofs.modify 0 (fun p => { p with openRun := 99 }) }
def setG (s : State) (l : List (Field × Nat)) : State := l.foldl (fun t e => t.fs (base (pGEN 0)) e.1 e.2) s
def wAct : State := wOpen (put (wP true 1000 [] (fun s => setG s [(GEN_PROOF_CTRL_OPEN_EN, 1), (GEN_PROOF_CTRL_EN, 1), (GEN_MUTE_CTRL_CAUSE, 0), (GEN_MUTE_CTRL_MUTED, 0), (GEN_PROOF_STATUS_ALIGNED, 1), (HDR_PAGE_CTRL_EN, 1), (GEN_CHAIN_CTRL_OUT_EN, 1)])) [(modelAddr 0 3, 0x80000000)])
def wT : State := put ((((((w0.fs (base (pGEN 0)) GEN_MUTE_CTRL_CAUSE 0).fs (base (pGEN 0)) GEN_CHAIN_CTRL_OUT_EN 1).fs (base (pGEN 0)) HDR_PAGE_CTRL_EN 1).fs (base (pGEN 0)) GEN_MUTE_CTRL_MUTED 0).fs (base (pGEN 0)) GEN_PROOF_STATUS_MODEL_VALID 1)) [(modelAddr 0 3, 0x80000000)]
def wTg (act : Bool) : State := let s := (wT.fs (base (pGEN 0)) GEN_PROOF_STATUS_TESTING 1).fs (base (pGEN 0)) GEN_TEST_LIMIT_RMS_LIMIT 100
  { s with clk := { s.clk with gf := ⟨0, 169, 0⟩ }, gens := s.gens.modify 0 (fun g => { g with ctrl := [⟨0, true, 0, 2, act, 3⟩] }), proofs := s.proofs.modify 0 (fun p => { p with selfTests := [⟨0, 0, none⟩] }) }
def wRec : State := let s := put ((w0.fs (base (pGEN 0)) GEN_SNAP_STATUS_RECORDING 1).fs (base (pGEN 0)) GEN_SNAP_CFG_LOG2LEN 2) [(snapBuf 0, 7), (snapBuf 0 + 8, 9)]
  { s with clk := { s.clk with gf := ⟨0, 169, 0⟩ } }
/-- Each clause of `Obligations.ProofVerdictsAndFaults` has a state and operands that meet its hypotheses. -/
theorem witness_ProofVerdictsAndFaults :
    -- n := 0, w := { first := 0, samples := (List.replicate 64 { meas := 0, burst := 0 }), before := [] }
    (let s : State := w0; s.Inv ∧ 0 < s.variant.gens ∧ s.winTenure 0 ⟨0, List.replicate 64 (⟨0, 0⟩ : ProofSample), []⟩ = none)
    -- n := 0, w := { first := 0, samples := (List.replicate 64 { meas := 0, burst := 0 }), before := [] }, e := { from_ := 0, to_ := none, sBase := 0, scen := 3 }
    ∧ (let s : State := wP false 1000 [te] w6; s.Inv ∧ 0 < s.variant.gens
      ∧ s.winTenure 0 ⟨0, List.replicate 64 (⟨0, 0⟩ : ProofSample), []⟩ = some ⟨0, none, 0, 3⟩
      ∧ (((numbered (8 * 0) (List.replicate 64 (⟨0, 0⟩ : ProofSample))).any fun (x : Nat × ProofSample) => (s.toGf (0 + winCycles (s.stenFor 0 0).cfg + 191)).skipAt 0 x.fst) || getF (s.stenFor 0 0).cfg GEN_STEN_CFG_BURNISH_SKIP == 1 && (numbered (8 * 0) (List.replicate 64 (⟨0, 0⟩ : ProofSample))).any fun (x : Nat × ProofSample) => (s.toGf (0 + winCycles (s.stenFor 0 0).cfg + 191)).trimFlagAt 0 x.fst) = true)
    -- n := 0, w := { first := 0, samples := (List.replicate 64 { meas := 0, burst := 0 }), before := [] }, e := { from_ := 0, to_ := none, sBase := 0, scen := 3 }
    ∧ (let s : State := wP true 1000 [te] w6; s.Inv ∧ 0 < s.variant.gens
      ∧ s.winTenure 0 ⟨0, List.replicate 64 (⟨0, 0⟩ : ProofSample), []⟩ = some ⟨0, none, 0, 3⟩
      ∧ (((numbered (8 * 0) (List.replicate 64 (⟨0, 0⟩ : ProofSample))).any fun (x : Nat × ProofSample) => (s.toGf (0 + winCycles (s.stenFor 0 0).cfg + 191)).skipAt 0 x.fst) || getF (s.stenFor 0 0).cfg GEN_STEN_CFG_BURNISH_SKIP == 1 && (numbered (8 * 0) (List.replicate 64 (⟨0, 0⟩ : ProofSample))).any fun (x : Nat × ProofSample) => (s.toGf (0 + winCycles (s.stenFor 0 0).cfg + 191)).trimFlagAt 0 x.fst) = false
      ∧ overRms (s.stenFor 0 0).rms ((s.toGf (0 + winCycles (s.stenFor 0 0).cfg + 191)).residStats 0 (numbered (8 * 0) (List.replicate 64 (⟨0, 0⟩ : ProofSample)))).fst (List.replicate 64 (⟨0, 0⟩ : ProofSample)).length = false
      ∧ overPeak (s.stenFor 0 0).peak ((s.toGf (0 + winCycles (s.stenFor 0 0).cfg + 191)).residStats 0 (numbered (8 * 0) (List.replicate 64 (⟨0, 0⟩ : ProofSample)))).snd = false)
    -- n := 0, w := { first := 0, samples := (List.replicate 64 { meas := 2048, burst := 0 }), before := [] }, e := { from_ := 0, to_ := none, sBase := 0, scen := 3 }
    ∧ (let s : State := wP true 1000 [te] wV; s.Inv
      ∧ overRms (s.stenFor 0 0).rms ((s.toGf (0 + winCycles (s.stenFor 0 0).cfg + 191)).residStats 0 (numbered (8 * 0) (List.replicate 64 (⟨2048, 0⟩ : ProofSample)))).fst (List.replicate 64 (⟨2048, 0⟩ : ProofSample)).length = true
      ∧ 0 < s.variant.gens ∧ s.winTenure 0 ⟨0, List.replicate 64 (⟨2048, 0⟩ : ProofSample), []⟩ = some ⟨0, none, 0, 3⟩
      ∧ (((numbered (8 * 0) (List.replicate 64 (⟨2048, 0⟩ : ProofSample))).any fun (x : Nat × ProofSample) => (s.toGf (0 + winCycles (s.stenFor 0 0).cfg + 191)).skipAt 0 x.fst) || getF (s.stenFor 0 0).cfg GEN_STEN_CFG_BURNISH_SKIP == 1 && (numbered (8 * 0) (List.replicate 64 (⟨2048, 0⟩ : ProofSample))).any fun (x : Nat × ProofSample) => (s.toGf (0 + winCycles (s.stenFor 0 0).cfg + 191)).trimFlagAt 0 x.fst) = false
      ∧ getF (s.stenFor 0 0).cfg GEN_STEN_CFG_CONSEC = 0
      ∧ verdictAct (s.stenFor 0 0) true (overPeak (s.stenFor 0 0).peak ((s.toGf (0 + winCycles (s.stenFor 0 0).cfg + 191)).residStats 0 (numbered (8 * 0) (List.replicate 64 (⟨2048, 0⟩ : ProofSample)))).snd) = 1
      ∧ s.fg (base (pGEN 0)) GEN_SNAP_CFG_FREEZE_ON = 0)
    -- n := 0, dc := 0
    ∧ (let s : State := w0; s.Inv ∧ 0 < s.variant.gens ∧ 0 < 0x10000)
    -- n := 0, o := ⟨1, 7, false⟩, again := false
    ∧ (let s : State := wIso true false; s.Inv ∧ s.Accepts ⟨1, 7, false⟩ (base (pGEN 0) + GEN_PROOF_FAULT) 1#32 ∧ 0 < s.variant.gens)
    -- n := 0, d := { who := Sys2Proof.DriverPort.output 0, ovr := false, cont := true, at_ := 5 }, dc := 0
    ∧ (let s : State := wIso false true; s.Inv ∧ 0 < s.variant.gens ∧ s.offOf (DriverPort.output 0) = some ⟨DriverPort.output 0, false, true, 5⟩)
    -- n := 0, first := 3928, l := (List.replicate 0x4000 { meas := 2048, burst := 0 }), r := 0
    ∧ (let s : State := wCon; s.Inv
      ∧ (∀ (i : Nat), i < s.fg (base (pGEN 0)) GEN_FAULT_CFG_CONT_BLOCKS + 1 → (s.toGf (3928 + 0x1000 * (s.fg (base (pGEN 0)) GEN_FAULT_CFG_CONT_BLOCKS + 1) + 168)).blockOver 0 (numbered (8 * (3928 + 0x1000 * i)) (List.take 0x4000 (List.drop (0x4000 * i) (List.replicate 0x4000 (⟨2048, 0⟩ : ProofSample))))) = true)
      ∧ 0 < s.variant.gens ∧ (s.toGf (3928 + 0x1000 * (s.fg (base (pGEN 0)) GEN_FAULT_CFG_CONT_BLOCKS + 1) + 168)).activeSince 0 = some 0
      ∧ 0 ≤ 3928 + 168 ∧ (3928 + 168 - 0) % 0x1000 = 0
      ∧ (List.replicate 0x4000 (⟨2048, 0⟩ : ProofSample)).length = 0x4000 * (s.fg (base (pGEN 0)) GEN_FAULT_CFG_CONT_BLOCKS + 1)
      ∧ s.fb (base (pGEN 0)) GEN_PROOF_FAULT_CONTENTION = false)
    -- n := 0, rl := 0, level := 0
    ∧ (let s : State := w0; s.Inv ∧ 0 < s.variant.gens ∧ 0 < 0x10000 ∧ (s.proofActive 0 = false ∨ 0 ≤ -480))
    -- n := 0, rl := 0, level := 0
    ∧ (let s : State := wAct; s.Inv ∧ 0 < s.variant.gens ∧ 0 < 0x10000 ∧ s.proofActive 0 = true ∧ -480 < 0
      ∧ 0 < s.fg (base (pGEN 0)) GEN_FAULT_CFG_OPEN_RL ∧ s.fb (base (pGEN 0)) GEN_PROOF_CTRL_OPEN_EN = true ∧ 99 ≤ (s.proof 0).openRun
      ∧ s.fb (base (pGEN 0)) GEN_PROOF_FAULT_OPEN = false) :=
  ⟨⟨w0_inv, by decide +kernel⟩,
  ⟨inv_of_invB (by decide +kernel), by decide +kernel⟩,
  ⟨inv_of_invB (by decide +kernel), by decide +kernel⟩,
  ⟨inv_of_invB (by decide +kernel), overRms_of (l := List.replicate 63 ⟨2048, 0⟩) (by decide +kernel), by decide +kernel⟩,
  ⟨w0_inv, by decide +kernel⟩,
  ⟨inv_of_invB (by decide +kernel), accepts_of_passes (by decide +kernel), by decide +kernel⟩,
  ⟨inv_of_invB (by decide +kernel), by decide +kernel⟩,
  ⟨inv_of_invB (by decide +kernel), fun i hi => by
      have h0 : wCon.fg (base (pGEN 0)) GEN_FAULT_CFG_CONT_BLOCKS = 0 := by decide +kernel
      obtain rfl : i = 0 := by omega
      rw [Nat.mul_zero, List.drop_zero, List.take_of_length_le (Nat.le_of_eq List.length_replicate), List.replicate_succ, h0]
      exact blockOver_of (c := ⟨0, true, 0, 2, true, 3⟩) (by decide +kernel) rfl rfl (by decide +kernel),
      by decide +kernel⟩,
  ⟨w0_inv, by decide +kernel⟩,
  ⟨inv_of_invB (by decide +kernel), by decide +kernel⟩⟩
/-- Each clause of `Obligations.SelfTestsAndSnapshots` has a state and operands that meet its hypotheses. -/
theorem witness_SelfTestsAndSnapshots :
    -- n := 0, o := ⟨1, 7, false⟩
    (let s : State := wT; s.Accepts ⟨1, 7, false⟩ (base (pGEN 0) + GEN_TEST_CMD) 1#32 ∧ 0 < s.variant.gens ∧ s.armedUses (pGEN 0) = false
      ∧ s.fb (base (pGEN 0)) GEN_PROOF_STATUS_TESTING = false ∧ s.modelValid 0 (s.modelSet 0) = true ∧ s.causes 0 = 0
      ∧ s.fb (base (pGEN 0)) GEN_CHAIN_CTRL_OUT_EN = true ∧ s.fb (base (pGEN 0)) HDR_PAGE_CTRL_EN = true
      ∧ s.fb (base (pGEN 0)) HDR_PAGE_CTRL_PARK = false)
    -- n := 0, o := ⟨1, 7, false⟩, l := []
    ∧ (let s : State := wTg true; s.Accepts ⟨1, 7, false⟩ (base (pGEN 0) + GEN_TEST_CMD) 2#32 ∧ 0 < s.variant.gens
      ∧ s.fb (base (pGEN 0)) GEN_PROOF_STATUS_TESTING = true)
    -- n := 0, l := []
    ∧ (let s : State := wTg true; 0 < s.variant.gens ∧ s.fb (base (pGEN 0)) GEN_PROOF_STATUS_TESTING = true
      ∧ List.filter (fun (e : Nat × ProofSample) => !{ s with now := max s.now (s.testDue 0) }.skipAt 0 e.fst) ({ s with now := max s.now (s.testDue 0) }.testSamples 0 []) ≠ [])
    -- n := 0, o := ⟨1, 7, false⟩
    ∧ (let s : State := w0; s.Accepts ⟨1, 7, false⟩ (base (pGEN 0) + GEN_SNAP_CMD) 1#32 ∧ 0 < s.variant.gens)
    -- n := 0, o := ⟨1, 7, false⟩, l := [{ meas := 1, burst := 0 }, { meas := 2, burst := 0 }, { meas := 3, burst := 0 } …
    ∧ (let s : State := wRec; s.Accepts ⟨1, 7, false⟩ (base (pGEN 0) + GEN_SNAP_CMD) 2#32 ∧ 0 < s.variant.gens
      ∧ s.fb (base (pGEN 0)) GEN_SNAP_STATUS_RECORDING = true
      ∧ ([⟨1, 0⟩, ⟨2, 0⟩, ⟨3, 0⟩, ⟨4, 0⟩] : List ProofSample).length = min ((8 * (s.gfNow - 168) - (s.proof 0).snapFrom) / 2) (2 ^ s.fg (base (pGEN 0)) GEN_SNAP_CFG_LOG2LEN)) :=
  ⟨⟨accepts_of_passes (by decide +kernel), by decide +kernel⟩,
  ⟨accepts_of_passes (by decide +kernel), by decide +kernel⟩,
  by decide +kernel,
  ⟨accepts_of_passes (by decide +kernel), by decide +kernel⟩,
  ⟨accepts_of_passes (by decide +kernel), by decide +kernel⟩⟩
end Proofs

/-! ### EventsTravelToTheirConsumers, ChannelOwnershipCommands, GroupsProducersAndSubscriptions -/
namespace Events
def ch (s : State) (c own attr prod : Nat) : State := (((s.setCh c XH_CH_STAT_OWNER own).setCh c XH_CH_STAT_ATTR attr).setCh c XH_CH_CFG_PRODUCER prod)
def wEv : State := let s := ch (ch (ch w0 9 1 0 0x200) 10 2 0 0) 70 1 1 0x100
  let s := (s.fs (base (pPAT 0)) TRG_TRIG_OUT_SUB_CHANNEL 9 0).fs (base (pPAT 0)) TRG_TRIG_OUT_SUB_CHANNEL 70 1
  { s with xh := { s.xh with published := [(9, 0), (70, 0), (3, 0)], crossing := [⟨0x400, 9, 0⟩, ⟨0x200, 9, 0⟩, ⟨0x701, 9, 0⟩, ⟨0x300, 70, 0⟩, ⟨0x100, 9, 0⟩,⟨0x500, 9, 0⟩, ⟨0x800, 9, 0⟩], stepSubs := [(0, 9)] } }
def wEvOff : State := (wEv.setGrp 0 XH_GRP_CTRL_STATE 0)
def wCh : State := ((ch (ch (ch w0 9 1 0 0) 10 2 0 0) 70 1 1 0).setGrp 2 XH_GRP_CTRL_OWNER 1).setGrp 2 XH_GRP_EN_SUB_CHANNEL 3
def wGr : State := ((((ch (ch (ch w0 9 1 0 0) 10 2 0 0) 70 1 1 0x201).setGrp 2 XH_GRP_CTRL_OWNER 1).setGrp 0 XH_GRP_CTRL_OWNER 1))
/-- Each clause of `Obligations.EventsTravelToTheirConsumers` has a state and operands that meet its hypotheses. -/
theorem witness_EventsTravelToTheirConsumers :
    -- c := 9, prod := 512
    (let s : State := wEv; 0 < 9 ∧ 9 < 256 ∧ 512 ≠ 0 ∧ s.chF 9 XH_CH_CFG_PRODUCER = 512 ∧ s.unclocked 9 = false)
    -- c := 3, p := 0, l := []
    ∧ (let s : State := wEv; s.Idle (max s.now (0 + 3)) ∧ 0 < 3 ∧ 3 < 256 ∧ s.waitingOn 3 = [0] ∧ s.chF 3 XH_CH_CFG_LEVEL_MODE = 0
      ∧ s.grpF (3 / 16) XH_GRP_CTRL_STATE ≠ 0)
    -- c := 3, p := 0, l := []
    ∧ (let s : State := wEvOff; s.Idle (max s.now (0 + 3)) ∧ 0 < 3 ∧ 3 < 256 ∧ s.waitingOn 3 = [0] ∧ s.chF 3 XH_CH_CFG_LEVEL_MODE = 0
      ∧ s.grpF (3 / 16) XH_GRP_CTRL_STATE = 0)
    -- c := 1
    ∧ (let s : State := w0; 0 < 1 ∧ 1 < 256 ∧ s.waitingOn 1 = [])
    -- c := 9, o := ⟨1, 7, false⟩
    ∧ (let s : State := wEv; s.Accepts ⟨1, 7, false⟩ (base (pXH 0) + XH_INJECT) 9#32 ∧ 0 < 9 ∧ 9 < 256 ∧ s.chOwner 9 = 1 ∧ s.chAttr 9 ≠ 2
      ∧ s.unclocked 9 = false) :=
  ⟨by decide +kernel,
  ⟨idle_of (by decide +kernel), by decide +kernel⟩,
  ⟨idle_of (by decide +kernel), by decide +kernel⟩,
  by decide +kernel,
  ⟨accepts_of_passes (by decide +kernel), by decide +kernel⟩⟩
/-- Each clause of `Obligations.ChannelOwnershipCommands` has a state and operands that meet its hypotheses. -/
theorem witness_ChannelOwnershipCommands :
    -- o := ⟨1, 7, false⟩, x := 8
    (let s : State := w0; s.Accepts ⟨1, 7, false⟩ (base (pXH 0) + XH_CHAN_CMD) (BitVec.ofNat 32 (1 * 2 ^ 24 + 8))
      ∧ s.fb (sbase 1 (pXH 0)) XH_CHAN_CMD_STATUS_BUSY = false ∧ 8 ≤ 8 ∧ 8 < 256 ∧ s.chOwner 8 = 0
      ∧ (s.grpF (8 / 16) XH_GRP_CTRL_OWNER = 0 ∨ s.grpF (8 / 16) XH_GRP_CTRL_OWNER = 1))
    -- o := ⟨1, 7, false⟩, x := 0
    ∧ (let s : State := w0; s.Accepts ⟨1, 7, false⟩ (base (pXH 0) + XH_CHAN_CMD) (BitVec.ofNat 32 (1 * 2 ^ 24 + 0))
      ∧ s.fb (sbase 1 (pXH 0)) XH_CHAN_CMD_STATUS_BUSY = false ∧ 0 < 256 ∧ s.chOwner 0 ≠ 0)
    -- o := ⟨1, 7, false⟩, x := 9
    ∧ (let s : State := wCh; s.Accepts ⟨1, 7, false⟩ (base (pXH 0) + XH_CHAN_CMD) (BitVec.ofNat 32 (2 * 2 ^ 24 + 9))
      ∧ s.fb (sbase 1 (pXH 0)) XH_CHAN_CMD_STATUS_BUSY = false ∧ 8 ≤ 9 ∧ 9 < 256 ∧ s.chOwner 9 = 1 ∧ s.chF 9 XH_CH_CFG_PRODUCER = 0
      ∧ s.subCount 9 = 0 ∧ s.chF 9 XH_CH_STAT_ARM_REFS = 0)
    -- o := ⟨1, 7, false⟩, x := 9
    ∧ (let s : State := wCh; s.Accepts ⟨1, 7, false⟩ (base (pXH 0) + XH_CHAN_CMD) (BitVec.ofNat 32 (3 * 2 ^ 24 + 9))
      ∧ s.fb (sbase 1 (pXH 0)) XH_CHAN_CMD_STATUS_BUSY = false ∧ 9 < 256 ∧ s.chOwner 9 = 1 ∧ s.chAttr 9 ≠ 2 ∧ s.chF 9 XH_CH_STAT_ARM_REFS = 0)
    -- o := ⟨1, 7, false⟩, x := 9
    ∧ (let s : State := wCh; s.Accepts ⟨1, 7, false⟩ (base (pXH 0) + XH_CHAN_CMD) (BitVec.ofNat 32 (4 * 2 ^ 24 + 9))
      ∧ s.fb (sbase 1 (pXH 0)) XH_CHAN_CMD_STATUS_BUSY = false ∧ 9 < 256 ∧ s.chOwner 9 = 1 ∧ s.chAttr 9 ≠ 2 ∧ s.chF 9 XH_CH_STAT_ARM_REFS = 0
      ∧ s.foreignSub 1 9 = false)
    -- o := ⟨1, 7, false⟩, x := 1
    ∧ (let s : State := w0; s.Accepts ⟨1, 7, false⟩ (base (pXH 0) + XH_CHAN_CMD) (BitVec.ofNat 32 (5 * 2 ^ 24 + 1))
      ∧ s.fb (sbase 1 (pXH 0)) XH_CHAN_CMD_STATUS_BUSY = false ∧ 0 < 1 ∧ 1 < 16 ∧ s.grpF 1 XH_GRP_CTRL_OWNER = 0
      ∧ (∀ (i : Nat), i < 16 → s.chOwner (16 * 1 + i) = 0 ∨ s.chOwner (16 * 1 + i) = 1))
    -- o := ⟨1, 7, false⟩, x := 2
    ∧ (let s : State := wCh; s.Accepts ⟨1, 7, false⟩ (base (pXH 0) + XH_CHAN_CMD) (BitVec.ofNat 32 (6 * 2 ^ 24 + 2))
      ∧ s.fb (sbase 1 (pXH 0)) XH_CHAN_CMD_STATUS_BUSY = false ∧ 0 < 2 ∧ 2 < 16 ∧ s.grpF 2 XH_GRP_CTRL_OWNER = 1
      ∧ (s.xh.routes.any fun (r : Route) => r.consumer == 1280 + 2 || r.consumer == 1536 + 2) = false) :=
  ⟨⟨accepts_of_passes (by decide +kernel), by decide +kernel⟩,
  ⟨accepts_of_passes (by decide +kernel), by decide +kernel⟩,
  ⟨accepts_of_passes (by decide +kernel), by decide +kernel⟩,
  ⟨accepts_of_passes (by decide +kernel), by decide +kernel⟩,
  ⟨accepts_of_passes (by decide +kernel), by decide +kernel⟩,
  ⟨accepts_of_passes (by decide +kernel), by decide +kernel⟩,
  ⟨accepts_of_passes (by decide +kernel), by decide +kernel⟩⟩
/-- Each clause of `Obligations.GroupsProducersAndSubscriptions` has a state and operands that meet its hypotheses. -/
theorem witness_GroupsProducersAndSubscriptions :
    -- o := ⟨1, 7, false⟩, g := 0
    (let s : State := wGr; s.Accepts ⟨1, 7, false⟩ (base (pXH (0 / 4)) + XH_GRP_CTRL (0 % 4)) 1#32 ∧ 0 < 16 ∧ s.grpF 0 XH_GRP_CTRL_OWNER = 1)
    -- o := ⟨1, 7, false⟩, g := 2
    ∧ (let s : State := wGr; s.Accepts ⟨1, 7, false⟩ (base (pXH (2 / 4)) + XH_GRP_CTRL (2 % 4)) 2#32 ∧ 2 < 16 ∧ s.grpF 2 XH_GRP_CTRL_OWNER = 1
      ∧ 2 ≠ 0)
    -- o := ⟨1, 7, false⟩, c := 9, prod := 512, pg := 64
    ∧ (let s : State := wGr; s.Accepts ⟨1, 7, false⟩ (chPage 9 + XH_CH_CFG (9 % 64)) (setF (s.rd (chPage 9 + XH_CH_CFG (9 % 64))) XH_CH_CFG_PRODUCER 512)
      ∧ 8 ≤ 9 ∧ 9 < 256 ∧ 512 < 0x10000 ∧ 512 ≠ 0 ∧ 512 ≠ s.chF 9 XH_CH_CFG_PRODUCER ∧ s.chOwner 9 = 1 ∧ s.chAttr 9 ≠ 2
      ∧ s.producerPage 512 = some 64 ∧ s.owner 64 = 1 ∧ (512 / 256 = 1 ∨ s.chanOf 512 = none) ∧ s.unclocked 9 = false
      ∧ s.chF 9 XH_CH_STAT_ARM_REFS = 0)
    -- o := ⟨1, 7, false⟩, code := 256, w := 0#32
    ∧ (let s : State := wGr; s.Accepts ⟨1, 7, false⟩ (subKey 256) 0#32 ∧ s.subCheck 256 (getF (0#32) (subField 256)) (gateOf 256 0#32) = Except.ok ()
      ∧ s.consumerAt (subKey 256) = some 256 ∧ 256 ≠ 1536 ∧ (256 / 256 = 5 ∨ 256 / 256 = 6 → s.consumerOwner 256 = 1))
    -- o := ⟨1, 7, false⟩, code := 256, w := 10#32, e := Sys2Proof.Machine.Code.owner
    ∧ (let s : State := wGr; s.Accepts ⟨1, 7, false⟩ (subKey 256) 10#32
      ∧ s.subCheck 256 (getF (10#32) (subField 256)) (gateOf 256 10#32) = Except.error Code.owner ∧ s.consumerAt (subKey 256) = some 256
      ∧ 256 ≠ 1536 ∧ (256 / 256 = 5 ∨ 256 / 256 = 6 → s.consumerOwner 256 = 1)
      ∧ getF (10#32) (subField 256) ≠ getF (s.rd (subKey 256)) (subField 256)) :=
  ⟨⟨accepts_of_passes (by decide +kernel), by decide +kernel⟩,
  ⟨accepts_of_passes (by decide +kernel), by decide +kernel⟩,
  ⟨accepts_of_passes (by decide +kernel), by decide +kernel⟩,
  ⟨accepts_of_passes (by decide +kernel), rfl, by decide +kernel⟩,
  ⟨accepts_of_passes (by decide +kernel), rfl, by decide +kernel⟩⟩
end Events

/-! ### FrontEndsAndTriggers, AcquisitionsAndTheRing, BlocksRatesAndRecords, StencilsJudge -/
namespace Captures
def mk0 : Mark := ⟨2,0,0,0,0,0,0,0,0,0,0⟩
def acq (f : Tracer → Tracer) : State := { (((((w0.fs (base pCLK) CLK_PAGE_STATUS_CF_VALID 1).fs (base (pSTRM 0)) STRM_ACQ_STATUS_ACQUIRING 1).fs (base (pCAP 0)) CAP_CAP_STATUS_ACQUIRING 1).fs (base (pCAP 0)) CAP_TRIG_CFG_TYPE 1).fs (base (pCAP 0)) CAP_TRIG_CFG_SLOPE 1).fs (base (pCAP 0)) HDR_PAGE_CTRL_EN 1 with tracers := w0.tracers.modify 0 (fun t => f { t with segs := [(0,0,2)], spans := [⟨0, none, 1, []⟩] }) }
def wA : State := acq id
def noTrig (s : State) : State := s.fs (base (pCAP 0)) CAP_TRIG_CFG_TYPE 0
def wP : State := wA.fs (base (pCAP 0)) CAP_CAP_STATUS_PROTECTED 1
def tr0 : TrigRec := ⟨0, 5000, 4, 9, true⟩
def wTr : State := acq (fun t => { t with trigs := [tr0, {tr0 with type := 1}] })
def wTr3 : State := acq (fun t => { t with trigs := [tr0, {tr0 with type := 1}, {tr0 with pos := 6000}] })
def wRing (en : Nat) (f : Tracer → Tracer) : State :=
  { put ((((acq f).fs (base (pSTRM 0)) STRM_RING_CTRL_EN en).fs (base (pSTRM 0)) STRM_RING_PLATE_PLATE 4).wr64 (base (pSTRM 0) + STRM_RING_SIZE) 0x10000) [(plateAddr 4 + 0x28, 0x102), (plateAddr 4 + 0x20, 0x10000)] with plates := ⟨none, [(4, [0x1000000000])], [⟨64, 20, 0, 5⟩], []⟩ }
def idle (s : State) : State := ((s.fs (base (pSTRM 0)) STRM_ACQ_STATUS_ACQUIRING 0).fs (base (pCAP 0)) CAP_CAP_STATUS_ACQUIRING 0).fs (base (pCAP 0)) CAP_CAP_STATUS_SETTLED 1
def blk : RingBlock := ⟨0, 0, 0, 16, 0, 0, false⟩
def sp (stop : Option Nat) (m : Nat) : Span := ⟨0, stop, 4, List.replicate m mk0⟩
def wB (stop : Option Nat) (m : Nat) : State := wRing 1 (fun t => { t with spans := [sp stop m], seq := 3, place := 15, held := [blk], raw := List.replicate 16 5 })
def w9 (l : Nat) : State := wRing 1 (fun t => { t with held := List.replicate l blk, spans := [sp none 64] })
def wK (k : Nat) : State := wRing 1 (fun t => { t with segs := [(4,16,2),(0,0,0)], kReq := some (k, 20), raw := List.replicate 24 0 })
def wRe (f : Tracer → Tracer) : State := ((wRing 1 f).fs (base (pSTRM 0)) STRM_ACQ_CFG_MODE 2).fs (base (pSTRM 0)) STRM_WATERMARK_HIGH 80
def vtx : List (Nat × Nat) := [(tdVertex 0 0 0, 0), (tdVertex 0 0 0 + 4, 0x00108000), (tdVertex 0 0 1, 100), (tdVertex 0 0 1 + 4, 0x00108000), (tdVertex 0 1 0 + 4, 0x7FFF8000), (spVertex 0 0 0 + 4, 0x00108000), (spVertex 0 0 1, 3), (spVertex 0 0 1 + 4, 0x00108000)]
def wS (f : Tracer → Tracer) : State := put ((((((acq f).fs (base (pSTEN 0)) STEN_TD_CFG_EN 1).fs (base (pSTEN 0)) STEN_TD_VERT_COUNT0 1).fs (base (pSTEN 0)) STEN_SP_VERT_COUNT0 1)).fs (base (pSTEN 0)) STEN_SP_CFG_EN 1) vtx
def wBad : State := put w0 [(tdVertex 0 1 0 + 4, 0x40008000)]
def wSp (lim : Nat) (z : Int) : State := put (((wS (fun t => { t with spSets := [(0, true, 0)], raw := List.replicate 1024 z, seen := 128 })).fs (base (pSTEN 0)) STEN_SP_CFG_NSIZE 0).fs (base (pSTEN 0)) STEN_SP_VERT_COUNT0 0) [(spVertex 0 0 0 + 4, lim)]
/-- Each clause of `Obligations.FrontEndsAndTriggers` has a state and operands that meet its hypotheses. -/
theorem witness_FrontEndsAndTriggers :
    -- n := 0
    (let s : State := w0; s.Inv ∧ 0 < s.variant.caps ∧ (s.trc 0).startAt = none ∧ (s.trc 0).endAt = none
      ∧ s.fb (base (pCAP 0)) HDR_PAGE_CTRL_EN = true)
    -- n := 0, c := 0
    ∧ (let s : State := wP; s.Inv ∧ 0 < s.variant.caps ∧ (s.trc 0).startAt = none ∧ (s.trc 0).endAt = none
      ∧ s.fb (base (pCAP 0)) CAP_CAP_STATUS_PROTECTED = true)
    -- n := 0, raw := []
    ∧ (let s : State := w0; s.Inv ∧ 0 < s.variant.caps ∧ (s.trc 0).startAt = none ∧ (s.trc 0).endAt = none
      ∧ s.fb (base (pCAP 0)) HDR_PAGE_CTRL_EN = true ∧ s.acquiring 0 = false ∧ (s.trc 0).c ≤ (s.trc 0).raw.length)
    -- n := 0, raw := [1, 2, 3, (-1), 5, 6, 7, 8]
    ∧ (let s : State := noTrig wA; s.Inv ∧ 0 < s.variant.caps ∧ (s.trc 0).startAt = none ∧ (s.trc 0).endAt = none
      ∧ s.fb (base (pCAP 0)) HDR_PAGE_CTRL_EN = true ∧ s.acquiring 0 = true ∧ (s.trc 0).pass = none ∧ (¬(1 ≤ s.fg (base (pCAP 0)) CAP_TRIG_CFG_TYPE
      ∧ s.fg (base (pCAP 0)) CAP_TRIG_CFG_TYPE ≤ 6)))
    -- n := 0, raw := [1, 2, 3, (-1), 5, 6, 7, 8]
    ∧ (let s : State := acq fun (t : Tracer) => { t with raw := [0, 1, 2, 3, 4, 5, 6, 900] }; s.Inv ∧ 0 < s.variant.caps ∧ (s.trc 0).startAt = none
      ∧ (s.trc 0).endAt = none ∧ s.fb (base (pCAP 0)) HDR_PAGE_CTRL_EN = true ∧ s.acquiring 0 = true ∧ (s.trc 0).pass = none
      ∧ [1, 2, 3, -1, 5, 6, 7, 8].length = 8 ∧ (s.trc 0).raw.length = 8 * ((s.trc 0).seen + 1)
      ∧ (∀ (x : Int), x ∈ [1, 2, 3, -1, 5, 6, 7, 8] → -2048 < x ∧ x < 2047))
    -- n := 0, l := [{ cyc := 0, pos := 5000, type := 1, width := 9, clipped := true }, { cyc := 0,  …
    ∧ (let s : State := wTr3.fs (base (pCAP 0)) CAP_TRIG_CFG_GATE 9; s.Inv ∧ 0 < s.variant.caps ∧ (s.trc 0).startAt = none ∧ (s.trc 0).endAt = none
      ∧ ([⟨0, 5000, 1, 9, true⟩, ⟨0, 6000, 4, 9, true⟩] : List TrigRec) ≠ [] ∧ s.trigGate 0 = false)
    -- n := 0, l := [{ cyc := 0, pos := 5000, type := 1, width := 9, clipped := true }], r := { cyc := 0, pos := 5000, type := 1, width := 9, clipped := true }
    ∧ (let s : State := wTr; s.Inv ∧ 0 < s.variant.caps ∧ (s.trc 0).startAt = none ∧ (s.trc 0).endAt = none
      ∧ ([⟨0, 5000, 1, 9, true⟩] : List TrigRec) ≠ [] ∧ ⟨0, 5000, 1, 9, true⟩ ∈ ([⟨0, 5000, 1, 9, true⟩] : List TrigRec) ∧ s.trigGate 0 = true
      ∧ s.inHoldoff 0 5000 = false
      ∧ (∀ (q : TrigRec), q ∈ [⟨0, 5000, 1, 9, true⟩] → s.inHoldoff 0 q.pos = false → q = ⟨0, 5000, 1, 9, true⟩ ∨ 5000 < q.pos))
    -- n := 0, r := { cyc := 0, pos := 5000, type := 4, width := 9, clipped := true }, rest := [{ cyc := 0, pos := 5000, type := 1, width := 9, clipped := true }]
    ∧ (let s : State := wTr; s.Inv ∧ 0 < s.variant.caps ∧ (s.trc 0).startAt = none ∧ (s.trc 0).endAt = none
      ∧ (s.trc 0).trigs = ([⟨0, 5000, 4, 9, true⟩, ⟨0, 5000, 1, 9, true⟩] : List TrigRec) ∧ 5000 / 1024 < 2 ^ 64 ∧ 4 ≤ 8 ∧ s.acqMode 0 = 0)
    -- n := 0, o := ⟨1, 7, false⟩, off := 260, w := 0#32
    ∧ (let s : State := w0; s.Inv ∧ s.Accepts ⟨1, 7, false⟩ (base (pCAP 0) + 260) 0#32 ∧ 0 < s.variant.caps ∧ (s.trc 0).startAt = none
      ∧ (s.trc 0).endAt = none ∧ 260 ∈ [CAP_TRIG_LEVEL, CAP_TRIG_WINDOW, CAP_TRIG_T1, CAP_TRIG_T2, CAP_TRIG_HOLDOFF]
      ∧ min ((s.trc 0).raw.length / 8) (s.capBegun 0) ≤ (s.trc 0).seen) :=
  ⟨⟨w0_inv, by decide +kernel⟩,
  ⟨inv_of_invB (by decide +kernel), by decide +kernel⟩,
  ⟨w0_inv, by decide +kernel⟩,
  ⟨inv_of_invB (by decide +kernel), by decide +kernel⟩,
  ⟨inv_of_invB (by decide +kernel), by decide +kernel⟩,
  ⟨inv_of_invB (by decide +kernel), by decide +kernel⟩,
  ⟨inv_of_invB (by decide +kernel), by decide +kernel⟩,
  ⟨inv_of_invB (by decide +kernel), by decide +kernel⟩,
  ⟨w0_inv, accepts_of_passes (by decide +kernel), by decide +kernel⟩⟩
/-- Each clause of `Obligations.AcquisitionsAndTheRing` has a state and operands that meet its hypotheses. -/
theorem witness_AcquisitionsAndTheRing :
    -- n := 0, o := ⟨1, 7, false⟩
    (let s : State := idle (wRing 1 id); s.Inv ∧ s.Accepts ⟨1, 7, false⟩ (base (pSTRM 0) + STRM_ACQ_CMD) 1#32 ∧ 0 < s.variant.caps
      ∧ s.armedUses (pCAP 0) = false ∧ s.acquiring 0 = false ∧ (s.trc 0).startAt = none ∧ s.fb (base (pCAP 0)) HDR_PAGE_CTRL_EN = true
      ∧ s.fb (base (pCAP 0)) HDR_PAGE_CTRL_PARK = false ∧ s.loopOn 0 = false ∧ s.captureFails 0 = false)
    -- n := 0, at_ := 0x1000
    ∧ (let s : State := acq fun (t : Tracer) => { t with startAt := some 0x1000 }; s.Inv ∧ 0 < s.variant.caps ∧ (s.trc 0).startAt = some 0x1000
      ∧ (s.trc 0).endAt = none ∧ s.fb (base pCLK) CLK_PAGE_STATUS_CF_VALID = true)
    -- n := 0, o := ⟨1, 7, false⟩
    ∧ (let s : State := wRing 1 id; s.Inv ∧ s.Accepts ⟨1, 7, false⟩ (base (pSTRM 0) + STRM_ACQ_CMD) 2#32 ∧ 0 < s.variant.caps ∧ s.acquiring 0 = true
      ∧ (s.trc 0).startAt = none ∧ (s.trc 0).endAt = none ∧ (s.trc 0).scen = 64
      ∧ 8 * s.capBegun 0 < 8 * (max (s.cfFirst (s.now + 3000)) ((s.trc 0).cBase + s.acquired 0 / 8) - (s.trc 0).cBase))
    -- n := 0, e := 8, cause := 3
    ∧ (let s : State := wRing 1 fun (t : Tracer) => { t with endAt := some (8, 3) }; s.Inv ∧ 0 < s.variant.caps ∧ s.acquiring 0 = true
      ∧ (s.trc 0).startAt = none ∧ (s.trc 0).endAt = some (8, 3) ∧ 3 < 16 ∧ 8 ≤ 8 * s.capBegun 0)
    -- n := 0, o := ⟨1, 7, false⟩
    ∧ (let s : State := idle (wRing 0 id); s.Inv ∧ s.Accepts ⟨1, 7, false⟩ (base (pSTRM 0) + STRM_RING_CTRL) 1#32 ∧ 0 < s.variant.caps
      ∧ (s.trc 0).startAt = none ∧ (s.trc 0).endAt = none ∧ s.ringOn 0 = false ∧ s.ringFails 0 = none)
    -- n := 0, o := ⟨1, 7, false⟩
    ∧ (let s : State := idle (wRing 1 id); s.Inv ∧ s.Accepts ⟨1, 7, false⟩ (base (pSTRM 0) + STRM_RING_CTRL) 0#32 ∧ 0 < s.variant.caps
      ∧ (s.trc 0).startAt = none ∧ s.ringOn 0 = true ∧ s.acquiring 0 = false)
    -- n := 0, o := ⟨1, 7, false⟩
    ∧ (let s : State := idle (wRing 1 id); s.Inv ∧ s.Accepts ⟨1, 7, false⟩ (base (pSTRM 0) + STRM_ACCT_LATCH) 1#32 ∧ 0 < s.variant.caps
      ∧ (s.trc 0).startAt = none ∧ (s.trc 0).endAt = none) :=
  ⟨⟨inv_of_invB (by decide +kernel), accepts_of_passes (by decide +kernel), by decide +kernel⟩,
  ⟨inv_of_invB (by decide +kernel), by decide +kernel⟩,
  ⟨inv_of_invB (by decide +kernel), accepts_of_passes (by decide +kernel), by decide +kernel⟩,
  ⟨inv_of_invB (by decide +kernel), by decide +kernel⟩,
  ⟨inv_of_invB (by decide +kernel), accepts_of_passes (by decide +kernel), by decide +kernel⟩,
  ⟨inv_of_invB (by decide +kernel), accepts_of_passes (by decide +kernel), by decide +kernel⟩,
  ⟨inv_of_invB (by decide +kernel), accepts_of_passes (by decide +kernel), by decide +kernel⟩⟩
/-- Each clause of `Obligations.BlocksRatesAndRecords` has a state and operands that meet its hypotheses. -/
theorem witness_BlocksRatesAndRecords :
    -- n := 0
    (let s : State := w9 15; s.Inv
      ∧ (∀ (at_ fill : Nat), (s.trc 0).raised = some (at_, fill) → at_ + 3000 * s.fg (base (pSTRM 0)) STRM_RATE_TIMING_RAISE_HOLD_US ≤ s.now
      ∧ fill < (s.trc 0).held.length) ∧ 0 < s.variant.caps ∧ (s.trc 0).startAt = none ∧ (s.trc 0).endAt = none ∧ s.acquiring 0 = true
      ∧ s.acqMode 0 ≠ 2 ∧ (Option.map (fun (x : Nat × Nat) => x.fst) (s.trc 0).kReq).getD (s.kNow 0) < 16
      ∧ s.fillAbove 0 (s.fg (base (pSTRM 0)) STRM_WATERMARK_HIGH) = true)
    -- n := 0
    ∧ (let s : State := wB none 1; s.Inv ∧ 0 < s.variant.caps ∧ (s.trc 0).startAt = none ∧ (s.trc 0).endAt = none ∧ s.acquiring 0 = true
      ∧ s.acqMode 0 ≠ 2 ∧ s.floorK 0 < (Option.map (fun (x : Nat × Nat) => x.fst) (s.trc 0).kReq).getD (s.kNow 0)
      ∧ s.fillBelow 0 (s.fg (base (pSTRM 0)) STRM_WATERMARK_LOW) = true)
    -- n := 0, k := 3, c0 := 20
    ∧ (let s : State := wK 3; s.Inv ∧ 0 < s.variant.caps ∧ (s.trc 0).startAt = none ∧ (s.trc 0).endAt = none ∧ (s.trc 0).kReq = some (3, 20)
      ∧ s.acquiring 0 = true ∧ 3 ≠ s.kNow 0 ∧ 3 ≤ 16)
    -- n := 0
    ∧ (let s : State := wRe id; s.Inv ∧ 0 < s.variant.caps ∧ (s.trc 0).startAt = none ∧ (s.trc 0).endAt = none ∧ s.acquiring 0 = true
      ∧ s.acqMode 0 = 2 ∧ (s.trc 0).record = none ∧ (s.trc 0).armedC = none ∧ s.fillBelow 0 (s.fg (base (pSTRM 0)) STRM_WATERMARK_HIGH) = true)
    -- n := 0, start := 3
    ∧ (let s : State := wRe fun (t : Tracer) => { t with record := some 3 }; s.Inv ∧ 0 < s.variant.caps ∧ (s.trc 0).startAt = none
      ∧ (s.trc 0).endAt = none ∧ (s.trc 0).record = some 3) :=
  ⟨⟨inv_of_invB (by decide +kernel), of_some2 (by decide +kernel), by decide +kernel⟩,
  ⟨inv_of_invB (by decide +kernel), by decide +kernel⟩,
  ⟨inv_of_invB (by decide +kernel), by decide +kernel⟩,
  ⟨inv_of_invB (by decide +kernel), by decide +kernel⟩,
  ⟨inv_of_invB (by decide +kernel), by decide +kernel⟩⟩
/-- Each clause of `Obligations.StencilsJudge` has a state and operands that meet its hypotheses. -/
theorem witness_StencilsJudge :
    -- n := 0
    (let s : State := (wS id).fs (base (pSTEN 0)) STEN_TD_CFG_ANCHOR 1; s.Inv ∧ 0 < s.variant.caps ∧ (s.trc 0).startAt = none
      ∧ (s.trc 0).endAt = none ∧ s.fb (base (pSTEN 0)) STEN_TD_CFG_ANCHOR = true ∧ s.fb (base (pSTEN 0)) STEN_TD_CFG_EN = true
      ∧ s.acquiring 0 = true ∧ (s.trc 0).pass = none)
    -- n := 0, raw := []
    ∧ (let s : State := wSp 0x7FFF8000 0; s.Inv
      ∧ (¬∃ i : Nat, ∃ (h : i < ((s.takeRaw 0 []).levels 0 ((s.takeRaw 0 []).nextVerdict 0).fst ((s.takeRaw 0 []).nextVerdict 0).snd).length), excesses ((s.takeRaw 0 []).mask 0 ((s.takeRaw 0 []).spSetAt 0 ((s.takeRaw 0 []).frameSpan 0 ((s.takeRaw 0 []).nextVerdict 0).fst).fst).snd true) ((s.takeRaw 0 []).levels 0 ((s.takeRaw 0 []).nextVerdict 0).fst ((s.takeRaw 0 []).nextVerdict 0).snd)[i] ↑i ≠ [])
      ∧ 0 < s.variant.caps ∧ (s.trc 0).startAt = none ∧ (s.trc 0).endAt = none ∧ ((s.takeRaw 0 []).trc 0).endAt = none
      ∧ (s.takeRaw 0 []).fb (base (pSTEN 0)) STEN_SP_CFG_STREAM_EN = false
      ∧ (s.takeRaw 0 []).frameReady 0 (((s.takeRaw 0 []).nextVerdict 0).fst + ((s.takeRaw 0 []).nextVerdict 0).snd - 1) = true
      ∧ ((s.takeRaw 0 []).spSetAt 0 ((s.takeRaw 0 []).frameSpan 0 ((s.takeRaw 0 []).nextVerdict 0).fst).fst).fst = true)
    -- n := 0, raw := []
    ∧ (let s : State := wSp 0x7FFF0000 0; s.Inv
      ∧ (∃ i : Nat, ∃ (h : i < ((s.takeRaw 0 []).levels 0 ((s.takeRaw 0 []).nextVerdict 0).fst ((s.takeRaw 0 []).nextVerdict 0).snd).length), excesses ((s.takeRaw 0 []).mask 0 ((s.takeRaw 0 []).spSetAt 0 ((s.takeRaw 0 []).frameSpan 0 ((s.takeRaw 0 []).nextVerdict 0).fst).fst).snd true) ((s.takeRaw 0 []).levels 0 ((s.takeRaw 0 []).nextVerdict 0).fst ((s.takeRaw 0 []).nextVerdict 0).snd)[i] ↑i ≠ [])
      ∧ 0 < s.variant.caps ∧ (s.trc 0).startAt = none ∧ (s.trc 0).endAt = none ∧ ((s.takeRaw 0 []).trc 0).endAt = none
      ∧ (s.takeRaw 0 []).fb (base (pSTEN 0)) STEN_SP_CFG_STREAM_EN = false
      ∧ (s.takeRaw 0 []).frameReady 0 (((s.takeRaw 0 []).nextVerdict 0).fst + ((s.takeRaw 0 []).nextVerdict 0).snd - 1) = true
      ∧ ((s.takeRaw 0 []).spSetAt 0 ((s.takeRaw 0 []).frameSpan 0 ((s.takeRaw 0 []).nextVerdict 0).fst).fst).fst = true
      ∧ (s.takeRaw 0 []).fg (base (pSTEN 0)) STEN_SP_CFG_CONSEC ≤ ((s.takeRaw 0 []).trc 0).spRun
      ∧ ((s.takeRaw 0 []).frameSpan 0 ((s.takeRaw 0 []).nextVerdict 0).fst).fst < 2 ^ 64
      ∧ (s.takeRaw 0 []).fb (base (pSTEN 0)) STEN_SP_CFG_ACT_STOP = false ∧ (s.takeRaw 0 []).fb (base (pSTEN 0)) STEN_SP_CFG_ACT_TRIG = false)
    -- n := 0, o := ⟨1, 7, false⟩, bank := 1, i := 0, j := 0, w := 0#32
    ∧ (let s : State := w0; s.Inv ∧ s.AcceptsTable ⟨1, 7, false⟩ ∧ 0 < s.variant.caps ∧ (s.trc 0).startAt = none ∧ (s.trc 0).endAt = none
      ∧ s.owns 1 (pSTEN 0) = true ∧ 1 < 2 ∧ 0 < 0x1000 ∧ 0 < 2 ∧ s.fg (base (pSTEN 0)) STEN_TD_CFG_BANK ≠ 1)
    -- n := 0, o := ⟨1, 7, false⟩, bank := 0, i := 0, j := 0, w := 0#32
    ∧ (let s : State := w0; s.Inv ∧ s.AcceptsTable ⟨1, 7, false⟩ ∧ 0 < s.variant.caps ∧ (s.trc 0).startAt = none ∧ (s.trc 0).endAt = none
      ∧ s.owns 1 (pSTEN 0) = true ∧ 0 < 2 ∧ 0 < 0x1000 ∧ 0 < 2 ∧ s.fg (base (pSTEN 0)) STEN_TD_CFG_BANK = 0)
    -- n := 0, o := ⟨1, 7, false⟩, bank := 1, i := 0, j := 0, w := 0#32
    ∧ (let s : State := w0; s.Inv ∧ s.AcceptsTable ⟨1, 7, false⟩ ∧ 0 < s.variant.caps ∧ (s.trc 0).startAt = none ∧ (s.trc 0).endAt = none
      ∧ s.owns 1 (pSTEN 0) = true ∧ 1 < 2 ∧ 0 < 1024 ∧ 0 < 2 ∧ s.fg (base (pSTEN 0)) STEN_SP_CFG_BANK ≠ 1)
    -- n := 0, o := ⟨1, 7, false⟩, w := 8#32
    ∧ (let s : State := wBad; s.Inv ∧ s.Accepts ⟨1, 7, false⟩ (base (pSTEN 0) + STEN_TD_CFG) 8#32 ∧ 0 < s.variant.caps ∧ (s.trc 0).startAt = none
      ∧ (s.trc 0).endAt = none
      ∧ ((s.plain 1 (base (pSTEN 0) + STEN_TD_CFG) 8#32).stencilSet 0).bankOk 0 (((s.plain 1 (base (pSTEN 0) + STEN_TD_CFG) 8#32).stencilSet 0).fg (base (pSTEN 0)) STEN_TD_CFG_BANK) false (((s.plain 1 (base (pSTEN 0) + STEN_TD_CFG) 8#32).stencilSet 0).periodOf 0) = false) :=
  ⟨⟨inv_of_invB (by decide +kernel), by decide +kernel⟩,
  ⟨inv_of_invB (by decide +kernel), no_bin (v := ⟨0, none, none⟩) (by decide +kernel), by decide +kernel⟩,
  ⟨inv_of_invB (by decide +kernel), some_bin (k := 1024) (by decide +kernel) (by decide +kernel) (by decide +kernel), by decide +kernel⟩,
  ⟨w0_inv, ⟨by decide +kernel, by decide +kernel, by decide +kernel⟩, by decide +kernel⟩,
  ⟨w0_inv, ⟨by decide +kernel, by decide +kernel, by decide +kernel⟩, by decide +kernel⟩,
  ⟨w0_inv, ⟨by decide +kernel, by decide +kernel, by decide +kernel⟩, by decide +kernel⟩,
  ⟨inv_of_invB (by decide +kernel), accepts_of_passes (by decide +kernel), by decide +kernel⟩⟩
end Captures

/-! ### ReferenceChainSwitches, RatesAcquireAndGlide, PpsEdgesAreCaptured, SyncChainsFormAndPart, SyncFramesReceived -/
namespace Times
def c : Nat := base pCLK
def wC (st pres bp : Nat) (f : Clk → Clk) : State := { ((w0.fs c CLK_REF_STATUS_STATE st).fs c CLK_REF_STATUS_PRESENT pres).fs c CLK_PAGE_STATUS_ON_BYPASS bp with clk := f w0.clk }
def rt (r : Nat) (g ac gl : Bool) (mode : Nat) : State := { ((((w0.wr64 (c + CLK_GEN_RATE) r).fs c CLK_PAGE_STATUS_GEN_ACQ (b2n ac)).fs c CLK_PAGE_STATUS_CAP_ACQ (b2n ac)).fs c CLK_PAGE_STATUS_GLIDING (b2n gl)).fs c CLK_RATE_CFG_MODE mode with clk := { w0.clk with genGlide := g, capGlide := gl } }
def pps (t n f : Nat) (seen gap : Bool) (mode : Nat) : State := { (((w0.wr64 (base pTIME + TIME_PPS_TIME) t).wr64 (base pTIME + TIME_PPS_COUNT) n).fs (base pTIME) TIME_PPS_FRAC_VALUE f).fs (base pTIME) TIME_PPS_CFG_MODE mode with clk := { w0.clk with ppsSeen := seen, ppsGap := gap, ppsAt := 0x10000 * t + f } }
def sy (st role up : Nat) (f : SyncBus → SyncBus) (ref : Nat := 0) : State := { ((((w0.fs (base pSYNC) SYNC_STATUS_STATE st).fs (base pSYNC) SYNC_CFG_ROLE role).fs (base pSYNC) SYNC_STATUS_UP_UP up).fs c CLK_REF_STATUS_STATE ref) with clk := { w0.clk with sync := f w0.clk.sync } }
/-- Each clause of `Obligations.ReferenceChainSwitches` has a state and operands that meet its hypotheses. -/
theorem witness_ReferenceChainSwitches :
    -- o := ⟨1, 7, false⟩
    (let s : State := wC 0 1 1 id; s.Accepts ⟨1, 7, false⟩ (base pCLK + CLK_REF_CMD) 1#32 ∧ s.syncState ≠ 1 ∧ s.syncState ≠ 2 ∧ s.refState = 0
      ∧ s.fb (base pCLK) CLK_REF_STATUS_PRESENT = true ∧ s.fb (base pCLK) CLK_REF_STATUS_FILTER_ABSENT = false
      ∧ s.devBeyond (s.fg (base pCLK) CLK_REF_LIMITS_FAULT_PPB) = false ∧ s.fg (base pSYNC) SYNC_CFG_ROLE ≠ 2)
    ∧ (let s : State := wC 1 1 1 id; s.syncState ≠ 1 ∧ s.syncState ≠ 2 ∧ s.refState = 1 ∧ s.fb (base pCLK) CLK_REF_STATUS_FILTER_ABSENT = false)
    -- o := ⟨1, 7, false⟩
    ∧ (let s : State := wC 2 1 0 id; s.Accepts ⟨1, 7, false⟩ (base pCLK + CLK_REF_CMD) 2#32 ∧ s.syncState ≠ 1 ∧ s.syncState ≠ 2 ∧ s.refState = 2)
    ∧ (let s : State := wC 2 1 0 id; s.syncState ≠ 1 ∧ s.syncState ≠ 2 ∧ s.refState = 2 ∧ s.fg (base pSYNC) SYNC_CFG_ROLE ≠ 2)
    ∧ (let s : State := (wC 2 1 0 id).fs (base pSYNC) SYNC_CFG_ROLE 2; s.syncState ≠ 1 ∧ s.syncState ≠ 2 ∧ s.fg (base pSYNC) SYNC_CFG_ROLE = 2)
    ∧ (let s : State := wC 2 1 0 id; s.syncState ≠ 1 ∧ s.syncState ≠ 2 ∧ s.refState = 2)
    -- d := 60000
    ∧ (let s : State := wC 2 1 0 fun (k : Clk) => { k with beyondWarn := 9, beyondFault := 9 }; s.syncState ≠ 1 ∧ s.syncState ≠ 2
      ∧ Int.natAbs 60000 < 2 ^ 31 ∧ s.refState = 2 ∧ 9 ≤ s.clk.beyondFault ∧ s.fg (base pCLK) CLK_REF_LIMITS_FAULT_PPB < Int.natAbs 60000)
    -- d := 0
    ∧ (let s : State := wC 0 1 1 id; s.syncState ≠ 1 ∧ s.syncState ≠ 2 ∧ Int.natAbs 0 < 2 ^ 31
      ∧ Int.natAbs 0 ≤ s.fg (base pCLK) CLK_REF_LIMITS_FAULT_PPB)
    -- n := 0
    ∧ (let s : State := wC 0 1 1 id; s.syncState ≠ 1 ∧ s.syncState ≠ 2 ∧ 0 ≤ 1000)
    -- n := 1001
    ∧ (let s : State := wC 2 1 0 id; s.syncState ≠ 1 ∧ s.syncState ≠ 2 ∧ 1000 < 1001 ∧ s.refState = 2)
    ∧ (let s : State := wC 1 1 1 id; s.Idle (max s.now (s.clk.acquireAt + 30000000000)) ∧ s.syncState ≠ 1 ∧ s.syncState ≠ 2 ∧ s.refState = 1
      ∧ s.clk.sync.correction = none) :=
  ⟨⟨accepts_of_passes (by decide +kernel), by decide +kernel⟩,
  by decide +kernel,
  ⟨accepts_of_passes (by decide +kernel), by decide +kernel⟩,
  by decide +kernel,
  by decide +kernel,
  by decide +kernel,
  by decide +kernel,
  by decide +kernel,
  by decide +kernel,
  by decide +kernel,
  ⟨idle_of (by decide +kernel), by decide +kernel⟩⟩
/-- Each clause of `Obligations.RatesAcquireAndGlide` has a state and operands that meet its hypotheses. -/
theorem witness_RatesAcquireAndGlide :
    -- o := ⟨1, 7, false⟩, r := 8000000000000
    (let s : State := rt 24000000000000 false false false 0; s.Inv ∧ s.Accepts ⟨1, 7, false⟩ (base pCLK + CLK_GEN_RATE) 8000000000000#32
      ∧ 8000000000000 ≤ 8000000000000 ∧ 8000000000000 ≤ 24000000000000 ∧ s.outsFail 8000000000000 s.capRate = false
      ∧ s.fb (base pCLK) CLK_PAGE_STATUS_GEN_ACQ = false ∧ s.clk.genGlide = false
      ∧ (8000000000000 ≤ s.genRate ∨ s.overPlace (chargesAt s.plates.charges s.genRate 8000000000000) = none)
      ∧ s.fb (base pCLK) CLK_RATE_CFG_MODE = false)
    -- o := ⟨1, 7, false⟩, r := 24000000000000
    ∧ (let s : State := rt 24000000000000 false false false 1; s.Inv ∧ s.Accepts ⟨1, 7, false⟩ (base pCLK + CLK_GEN_RATE) 24000000000000#32
      ∧ 8000000000000 ≤ 24000000000000 ∧ 24000000000000 ≤ 24000000000000 ∧ s.outsFail 24000000000000 s.capRate = false
      ∧ s.fb (base pCLK) CLK_PAGE_STATUS_GEN_ACQ = false ∧ s.clk.genGlide = false
      ∧ (24000000000000 ≤ s.genRate ∨ s.overPlace (chargesAt s.plates.charges s.genRate 24000000000000) = none)
      ∧ s.fb (base pCLK) CLK_RATE_CFG_MODE = true ∧ (max 24000000000000 s.genRate - min 24000000000000 s.genRate) * 1000000 ≤ 50 * s.genRate)
    -- o := ⟨1, 7, false⟩, r := 8000000000000
    ∧ (let s : State := rt 24000000000000 false false false 0; s.Inv ∧ s.Accepts ⟨1, 7, false⟩ (base pCLK + CLK_CAP_RATE) 8000000000000#32
      ∧ 4000000000000 ≤ 8000000000000 ∧ 8000000000000 ≤ s.capRate ∧ 8000000000000 ≤ 12000000000000 ∧ s.outsFail s.genRate 8000000000000 = false
      ∧ s.fb (base pCLK) CLK_PAGE_STATUS_CAP_ACQ = false ∧ s.clk.capGlide = false ∧ s.fb (base pCLK) CLK_RATE_CFG_MODE = false)
    ∧ (let s : State := rt 24000000000000 false true false 0; s.Inv
      ∧ (∀ (k : Nat) (a : ScenAct), k < 64 → (s.scn k).act = some a → a.launched = false) ∧ s.fb (base pCLK) CLK_PAGE_STATUS_GEN_ACQ = true
      ∧ s.clk.genWhy ≠ AcqWhy.wake)
    ∧ (let s : State := rt 24000000000000 false true false 0; s.Inv
      ∧ (∀ (k : Nat) (a : ScenAct), k < 64 → (s.scn k).act = some a → a.launched = false) ∧ s.fb (base pCLK) CLK_PAGE_STATUS_CAP_ACQ = true)
    ∧ (let s : State := rt 24000000000000 true false true 0; s.Inv ∧ s.clk.genGlide = true)
    ∧ (let s : State := rt 24000000000000 true false true 0; s.Inv ∧ s.clk.capGlide = true)
    ∧ (let s : State := rt 24000000000000 false false false 0; s.Inv ∧ s.fb (base pCLK) CLK_PAGE_STATUS_GEN_ACQ = false) :=
  ⟨⟨inv_of_invB (by decide +kernel), accepts_of_passes (by decide +kernel), by decide +kernel⟩,
  ⟨inv_of_invB (by decide +kernel), accepts_of_passes (by decide +kernel), by decide +kernel⟩,
  ⟨inv_of_invB (by decide +kernel), accepts_of_passes (by decide +kernel), by decide +kernel⟩,
  ⟨inv_of_invB (by decide +kernel), of_idle (by decide +kernel), by decide +kernel⟩,
  ⟨inv_of_invB (by decide +kernel), of_idle (by decide +kernel), by decide +kernel⟩,
  ⟨inv_of_invB (by decide +kernel), by decide +kernel⟩,
  ⟨inv_of_invB (by decide +kernel), by decide +kernel⟩,
  ⟨inv_of_invB (by decide +kernel), by decide +kernel⟩⟩
/-- Each clause of `Obligations.PpsEdgesAreCaptured` has a state and operands that meet its hypotheses. -/
theorem witness_PpsEdgesAreCaptured :
    -- ticks := 0, frac := 0
    (let s : State := pps 0 0 0 false false 0; s.Idle (max s.now 0) ∧ s.clk.sync.correction = none ∧ 0 < 2 ^ 48 ∧ 0 < 0x10000
      ∧ s.fg (base pTIME) TIME_PPS_CFG_MODE = 0 ∧ (∀ (e : SchedX), e ∈ s.scheds → e.at_.isSome = true) ∧ s.clk.ppsSeen = false)
    -- ticks := 3000001000, frac := 5, sec := 1
    ∧ (let s : State := pps 1000 7 5 true true 0; s.Idle (max s.now 3000001000) ∧ s.clk.sync.correction = none ∧ 3000001000 < 2 ^ 48 ∧ 5 < 0x10000
      ∧ s.fg (base pTIME) TIME_PPS_CFG_MODE = 0 ∧ (∀ (e : SchedX), e ∈ s.scheds → e.at_.isSome = true) ∧ s.clk.ppsSeen = true ∧ 0 < 1 ∧ 1 < 1000000
      ∧ s.lastPps.snd + 1 < 2 ^ 48 ∧ 0x10000 * 3000001000 + 5 = s.clk.ppsAt + 1 * 3000000000 * 0x10000)
    -- ticks := 0, frac := 0
    ∧ (let s : State := pps 1000 7 5 true true 0; s.Idle (max s.now 0) ∧ s.clk.sync.correction = none ∧ 0 < 2 ^ 48 ∧ 0 < 0x10000
      ∧ s.fg (base pTIME) TIME_PPS_CFG_MODE = 0 ∧ (∀ (e : SchedX), e ∈ s.scheds → e.at_.isSome = true) ∧ s.clk.ppsSeen = true
      ∧ 0x10000 * 0 + 0 < s.clk.ppsAt + 1500000000 * 0x10000)
    ∧ (let s : State := pps 0 0 0 false false 0; s.Idle (max s.now (s.clk.ppsAt / 0x10000 + 4500000000)) ∧ s.clk.sync.correction = none
      ∧ s.clk.ppsGap = false)
    -- o := ⟨1, 7, false⟩, m := 0
    ∧ (let s : State := pps 0 0 0 false false 0; s.Accepts ⟨1, 7, false⟩ (base pTIME + TIME_PPS_CFG) 0#32 ∧ s.clk.sync.correction = none ∧ 0 ≤ 2
      ∧ (0 = 1 → s.alignHeld = false) ∧ (0 = 2 → s.fg (base pSYNC) SYNC_CFG_ROLE ≠ 2))
    -- o := ⟨1, 7, false⟩, m := 1
    ∧ (let s : State := put (pps 0 0 0 false false 0) [(scenAddr 3 + 192, 0x10005)]; s.Accepts ⟨1, 7, false⟩ (base pTIME + TIME_PPS_CFG) 1#32
      ∧ s.clk.sync.correction = none ∧ 1 ≤ 2 ∧ s.alignHeld = true) :=
  ⟨⟨idle_of (by decide +kernel), by decide +kernel⟩,
  ⟨idle_of (by decide +kernel), by decide +kernel⟩,
  ⟨idle_of (by decide +kernel), by decide +kernel⟩,
  ⟨idle_of (by decide +kernel), by decide +kernel⟩,
  ⟨accepts_of_passes (by decide +kernel), by decide +kernel⟩,
  ⟨accepts_of_passes (by decide +kernel), by decide +kernel⟩⟩
/-- Each clause of `Obligations.SyncChainsFormAndPart` has a state and operands that meet its hypotheses. -/
theorem witness_SyncChainsFormAndPart :
    -- o := ⟨1, 7, false⟩, r := 0
    (let s : State := sy 0 0 0 id; s.Accepts ⟨1, 7, false⟩ (base pSYNC + SYNC_CFG) 0#32 ∧ 0 ≤ 2 ∧ s.syncState = 0)
    -- o := ⟨1, 7, false⟩
    ∧ (let s : State := sy 0 2 1 id; s.Accepts ⟨1, 7, false⟩ (base pSYNC + SYNC_CMD) 1#32 ∧ s.fg (base pSYNC) SYNC_CFG_ROLE = 2
      ∧ (s.syncState = 0 ∨ s.syncState = 4) ∧ s.fb (base pSYNC) SYNC_STATUS_UP_UP = true ∧ s.timeHeld = false)
    -- o := ⟨1, 7, false⟩
    ∧ (let s : State := sy 5 1 0 id; s.Accepts ⟨1, 7, false⟩ (base pSYNC + SYNC_CMD) 2#32 ∧ s.syncState = 5)
    -- o := ⟨1, 7, false⟩
    ∧ (let s : State := sy 3 2 1 id 2; s.Accepts ⟨1, 7, false⟩ (base pSYNC + SYNC_CMD) 2#32 ∧ s.syncState = 3 ∧ s.refState = 2)
    -- d := 1696
    ∧ (let s : State := sy 1 2 1 fun (b : SyncBus) => { b with echoes := 2, roundTrips := 400000 }; s.syncState = 1 ∧ 0 < s.clk.sync.echoes
      ∧ (s.clk.sync.roundTrips / s.clk.sync.echoes - 0x30000) / 2 = 1696 ∧ 1696 < 2 ^ 32)
    -- ticks := 0, hops := 0, total := 0
    ∧ (let s : State := sy 2 2 1 id 1; 0 < 31 ∧ 0 + s.fg (base pSYNC) SYNC_UP_DELAY_DELAY < 2 ^ 32 ∧ s.syncState = 2 ∧ s.refState = 1
      ∧ s.fb (base pCLK) CLK_REF_STATUS_FILTER_ABSENT = false ∧ 0 + 2 ^ 32 < 2 ^ 64)
    ∧ (let s : State := sy 3 2 1 id 2; s.syncState = 3 ∧ s.refState = 2) :=
  ⟨⟨accepts_of_passes (by decide +kernel), by decide +kernel⟩,
  ⟨accepts_of_passes (by decide +kernel), by decide +kernel⟩,
  ⟨accepts_of_passes (by decide +kernel), by decide +kernel⟩,
  ⟨accepts_of_passes (by decide +kernel), by decide +kernel⟩,
  by decide +kernel,
  by decide +kernel,
  by decide +kernel⟩
/-- Each clause of `Obligations.SyncFramesReceived` has a state and operands that meet its hypotheses. -/
theorem witness_SyncFramesReceived :
    -- up := false, x := none, y := none
    (let s : State := sy 0 0 0 id; s.clk.sync.waiting = [] ∧ (s.clk.sync.bad.getD (b2n !false) (0, 0)).fst ≠ 3)
    -- x := 0, y := 0
    ∧ (let s : State := sy 0 0 0 id; s.clk.sync.waiting = [] ∧ (s.clk.sync.bad.getD (b2n !true) (0, 0)).fst ≠ 3)
    -- k := 0, x := 0
    ∧ (let s : State := sy 3 2 1 (fun (b : SyncBus) => { b with bad := [(3, 0), (0, 0)] }) 2; s.clk.sync.waiting = []
      ∧ s.clk.sync.bad.getD 0 (0, 0) = (3, 0) ∧ s.now ≤ 0 + 64 ∧ s.fb (base pSYNC) SYNC_STATUS_UP_UP = true)
    -- p := 500
    ∧ (let s : State := sy 3 2 1 id 2; s.clk.sync.waiting = [] ∧ s.syncState = 3 ∧ s.now + 3 ≤ s.fullTime 500 24 ∧ s.clk.sync.due = []
      ∧ s.clk.sync.outs.contains (0, s.fullTime 500 24) = false)
    -- ticks := 0, lead := 0
    ∧ (let s : State := sy 3 2 1 id 2; s.clk.sync.waiting = [] ∧ s.syncState = 3 ∧ 0 < 2 ^ 24
      ∧ (0 + (s.fg (base pSYNC) SYNC_UP_DELAY_DELAY + 512) / 1024) % 2 ^ 56 = s.now % 2 ^ 56)
    -- sn := 0
    ∧ (let s : State := sy 3 2 1 id 2; s.clk.sync.waiting = [] ∧ s.syncState = 3)
    -- r := 0
    ∧ (let s : State := sy 1 2 1 id; s.clk.sync.waiting = [] ∧ s.syncState = 1)
    -- hop := 0
    ∧ (let s : State := sy 3 2 1 id 2; s.clk.sync.waiting = [] ∧ s.syncState = 3 ∧ s.refState = 2)
    -- at32 := 1, c4 := 0
    ∧ (let s : State := sy 3 2 1 id 2; s.clk.sync.waiting = [] ∧ s.syncState = 3 ∧ s.now < s.fullTime 1 32)
    -- line := 1, tpub := 777
    ∧ (let s : State := { sy 3 2 1 (fun (b : SyncBus) => { b with due := [(1, 777)] }) 2 with now := 500 }; s.Idle (max s.now 777)
      ∧ s.clk.sync.waiting = [] ∧ 1 < 2 ∧ s.clk.sync.due = [(1, 777)] ∧ s.clk.sync.correction = none
      ∧ bit (s.fg (base pPWR) PWR_REST_CFG_WAKE_SYNC) 1 = false) :=
  ⟨by decide +kernel,
  by decide +kernel,
  by decide +kernel,
  by decide +kernel,
  by decide +kernel,
  by decide +kernel,
  by decide +kernel,
  by decide +kernel,
  by decide +kernel,
  ⟨idle_of (by decide +kernel), by decide +kernel⟩⟩
end Times

/-! ### BurnishStepsAndEstimators, TimingBurstsSnapshotsAndRestores -/
namespace Cals
def k : Nat := base pCAL
def wBurn : State := { put ((w0.fs (base pCLK) CLK_PAGE_STATUS_GF_VALID 1).fs (base pCLK) CLK_PAGE_STATUS_CF_VALID 1) [(genCal 0, 0x08000700), (genCal 1, 0x07000800), (capCal 0 + 4, 0x01000200)] with now := 0x2DC6C1 }
def wEst (n : Nat) : State := ((((((w0.fs (base (pGEN 0)) HDR_PAGE_CTRL_EN 1).fs (base (pCAP 0)) HDR_PAGE_CTRL_EN 1).fs k CAL_GEN_CTRL_EST_EN 1 0).fs k CAL_CAP_CTRL_EST_EN 1 0).fs k CAL_EST_CFG_ACCEPT_N n).fs (base pTRUST) TRUST_FW_ATELIER_STATE 0).fs (base pDEV) DEV_FW_STATUS_ATELIER_READY 1
def wMod : State := { w0 with cal := { w0.cal with models := [⟨2, 3, List.range 52⟩] } }
def wGap (f : Cal → Cal) : State := { ((((((w0.fs k CAL_GEN_CTRL_TIMING_EN 1 0).fs k CAL_GEN_CTRL_IDLE_TERM_GAP 1 0).fs k CAL_CAP_CTRL_TIMING_EN 1 0).fs k CAL_CAP_CTRL_IDLE_TERM_GAP 1 0)).fs k CAL_GEN_STATUS_STARVED 1 0) with cal := f w0.cal }
def wRest : State := let v := stageView 1
  let s := put w0 [(v, 0x01100400), (v + 4, 1), (v + 0x1000, 0x07FF0123), (v + 0x1004, 99), (v + 0x10, w0.genRate), (v + 0x14, w0.genRate / 2^32)]
  s.st (v + 0x24) s.serial 8
/-- Each clause of `Obligations.BurnishStepsAndEstimators` has a state and operands that meet its hypotheses. -/
theorem witness_BurnishStepsAndEstimators :
    -- i := 3000000
    (let s : State := wBurn; s.Idle (max s.now s.nextBoundary) ∧ 3000000 = 3000 * s.fg (base pCAL) CAL_BURNISH_INTERVAL_US ∧ 0 < 3000000
      ∧ s.cal.takes = [] ∧ s.clk.sync.correction = none)
    -- cap := false, n := 0, e := 3, r := 0, b := { usable := 5,   level := 100,   bands := 5,   est := 0,   var := 77,   coefs := …
    ∧ (let s : State := wBurn; s.hasChan false 0 = true ∧ s.estTakes false 0 3 0 = true
      ∧ (2 * 5 < 2 ^ 20 ∨ s.excited false 3 ⟨5, 100, 5, 0, 77, [], 0, 0, true⟩ = false))
    -- cap := false, n := 0, e := 3, r := 0, b := { usable := 0x100000,   level := 100,   bands := 5,   est := 0,   var := 77,   c …
    ∧ (let s : State := wBurn; s.hasChan false 0 = true ∧ s.estTakes false 0 3 0 = true ∧ 2 ^ 20 ≤ 2 * 0x100000
      ∧ s.excited false 3 ⟨0x100000, 100, 5, 0, 77, [], 0, 0, true⟩ = true ∧ s.atelier = false)
    -- cap := false, n := 0, e := 3, r := 0, b := { usable := 0x100000,   level := 100,   bands := 5,   est := 0,   var := 77,   c …
    ∧ (let s : State := wEst 3; s.hasChan false 0 = true ∧ s.estTakes false 0 3 0 = true ∧ 2 ^ 20 ≤ 2 * 0x100000
      ∧ s.excited false 3 ⟨0x100000, 100, 5, 0, 77, [], 0, 0, true⟩ = true ∧ s.atelier = true
      ∧ s.estCount (estAddr false 0 3 0) + 1 < s.fg (base pCAL) CAL_EST_CFG_ACCEPT_N)
    -- cap := false, n := 0, e := 3, r := 0, b := { usable := 0x100000,   level := 100,   bands := 5,   est := 200,   var := 77,   …, o := 40
    ∧ (let s : State := wEst 0; s.hasChan false 0 = true ∧ s.estTakes false 0 3 0 = true ∧ 2 ^ 20 ≤ 2 * 0x100000
      ∧ s.excited false 3 ⟨0x100000, 100, 5, 200, 77, [], 0, 0, true⟩ = true ∧ s.atelier = true ∧ estTrim false 3 0 = some 40
      ∧ (false = true ∨ 3 ≠ 21) ∧ s.fg (base pCAL) CAL_EST_CFG_ACCEPT_N ≤ s.estCount (estAddr false 0 3 0) + 1 ∧ s.cal.atelierGap = none
      ∧ 192 ≤ Int.natAbs 200 ∧ 0 ≤ ↑(s.trimTgt ((if false = true then capCal 0 else genCal 0) + 40)) + estRound 200
      ∧ ↑(s.trimTgt ((if false = true then capCal 0 else genCal 0) + 40)) + estRound 200 ≤ ↑(trimMax false 40))
    -- n := 2, p := { gen := 2,   set_ := 3,   words := [0, 1, 2, 3, 4, 5, 6, 7, 8, 9, 10, 11, 12, 1 …
    ∧ (let s : State := wMod; 2 < s.variant.gens
      ∧ s.cal.models = [⟨2, 3, [0, 1, 2, 3, 4, 5, 6, 7, 8, 9, 10, 11, 12, 13, 14, 15, 16, 17, 18, 19, 20, 21, 22, 23, 24, 25, 26, 27, 28, 29, 30, 31, 32, 33, 34, 35, 36, 37, 38, 39, 40, 41, 42, 43, 44, 45, 46, 47, 48, 49, 50, 51]⟩]
      ∧ 3 < 8) :=
  ⟨⟨idle_of (by decide +kernel), by decide +kernel⟩,
  by decide +kernel,
  by decide +kernel,
  by decide +kernel,
  by decide +kernel,
  by decide +kernel⟩
/-- Each clause of `Obligations.TimingBurstsSnapshotsAndRestores` has a state and operands that meet its hypotheses. -/
theorem witness_TimingBurstsSnapshotsAndRestores :
    -- cap := false, n := 0, gap := Sys2Proof.BurstGap.idleTerm
    (let s : State := ((wGap id).fs (base pCLK) CLK_PAGE_STATUS_GF_VALID 1).fs (base pCLK) CLK_PAGE_STATUS_CF_VALID 1; s.hasChan false 0 = true
      ∧ s.xlatorValid false = true ∧ s.gapOk false 0 BurstGap.idleTerm = true ∧ s.burstDue false 0 BurstGap.idleTerm = true
      ∧ (s.cal.bursts.any fun (e : Nat × Nat) => e.fst == chanPage false 0) = false)
    -- cap := false, n := 0
    ∧ (let s : State := wGap id; s.hasChan false 0 = true ∧ s.cal.starving.contains (chanPage false 0) = false
      ∧ (if false = true then s.fb (base pCAL) CAL_CAP_CTRL_TIMING_EN else s.fb (base pCAL) CAL_GEN_CTRL_TIMING_EN) = true)
    -- o := ⟨1, 7, false⟩, sg := 0, sc := 0
    ∧ (let s : State := wGap id; s.Accepts ⟨1, 7, false⟩ (base pCAL + CAL_CMD) (BitVec.ofNat 32 (0x10000000 + 0 % 16 * 2 ^ 20 + 0 % 0x10000))
      ∧ s.fb (sbase 1 pCAL) CAL_CMD_STATUS_BUSY = false)
    -- o := ⟨1, 7, false⟩, im := false, parts := 0
    ∧ (let s : State := wGap id; s.Accepts ⟨1, 7, false⟩ (base pCAL + CAL_CMD) (BitVec.ofNat 32 (0x20000000 + b2n false * 2 ^ 27 + 0 % 8 * 2 ^ 24))
      ∧ s.fb (sbase 1 pCAL) CAL_CMD_STATUS_BUSY = false ∧ s.restoreCheck 1 false 0 ≠ Code.ok)
    -- o := ⟨1, 7, false⟩, im := false, parts := 1
    ∧ (let s : State := wRest.stw (stageView 1 + 0x3C) (wRest.imageCrc (stageView 1)); s.fb (sbase 1 pCAL) CAL_CMD_STATUS_BUSY = false
      ∧ s.Accepts ⟨1, 7, false⟩ (base pCAL + CAL_CMD) (BitVec.ofNat 32 (2 * 2 ^ 28 + b2n false * 2 ^ 27 + 1 % 8 * 2 ^ 24))
      ∧ s.restoreCheck 1 false 1 = .ok) :=
  ⟨by decide +kernel,
  by decide +kernel,
  ⟨accepts_of_passes (by decide +kernel), by decide +kernel⟩,
  ⟨accepts_of_passes (by decide +kernel), by decide +kernel⟩,
  ⟨by decide +kernel,
      accepts_stw _ _ (by decide) (accepts_of_passes (by decide +kernel)), restoreCheck_sealed (by decide +kernel) (by decide +kernel) (by decide +kernel)⟩⟩
end Cals

/-! ### DramControllersTrainScrubAndRefresh, PortsPanicAndTheScratchpadIsTested -/
namespace Drams
def m : Nat := base pMEMC
def allMif (s : State) (st : Nat) : State := (List.range 6).foldl (fun t i => t.fs (base (pMIF i)) MIF_STATUS_STATE st) s
def ln (w : Nat) : LaneEye := ⟨w, 3, w+1, 4⟩
def trn (w : Nat) : IfTraining := ⟨[ln w, ln 60, ln 60, ln 60, ln 60, ln 60, ln 60, ln 60], 40⟩
def wPan0 : State := { w0 with plates := ⟨none, [], [⟨64,3,0,5⟩], []⟩, now := 900000, dram := { w0.dram with panicAt := w0.dram.panicAt.set 3 (some 5) } }
def p : Nat := base pSPAD
def wPan : State := { (((w0.fs (portBase 3) MEMC_PORT_STATUS_PANIC 1 3).fs (portBase 3) MEMC_PORT_STATUS_EXTREME_PCT 80 2)) with now := 900000, dram := { w0.dram with panicAt := w0.dram.panicAt.set 3 (some 5) } }
def sp (md busy fail _pin bank : Nat) : State := put ((((w0.fs p SPAD_STATUS_MODE md).fs p SPAD_TEST_STATUS_BUSY busy).fs p SPAD_BANK_FAIL_BANKS fail).fs p SPAD_TEST_STATUS_BANK bank) [(0x100000000, 7), (0x105000000, 8), (0x104fffffc, 9), (0x1053ffffc, 1), (0x105400000, 2), (0x1000000000, 5), (2^56 + 0x08780000, 4), (calLive + 0x1000, 0x12345678)]
/-- Each clause of `Obligations.DramControllersTrainScrubAndRefresh` has a state and operands that meet its hypotheses. -/
theorem witness_DramControllersTrainScrubAndRefresh :
    -- o := ⟨1, 7, false⟩, w := 2#32
    (let s : State := w0; s.Inv ∧ s.Accepts ⟨1, 7, false⟩ (base pMEMC + MEMC_CFG) 2#32 ∧ 2#32 &&& 19#32 = s.rd (base pMEMC + MEMC_CFG) &&& 19#32)
    -- o := ⟨1, 7, false⟩, w := 0#32
    ∧ (let s : State := w0; s.Inv ∧ s.Accepts ⟨1, 7, false⟩ (base pMEMC + MEMC_CFG) 0#32 ∧ 0#32 &&& 19#32 ≠ s.rd (base pMEMC + MEMC_CFG) &&& 19#32
      ∧ s.cfgHeld = true)
    -- o := ⟨1, 7, false⟩, w := 0#32
    ∧ (let s : State := (allMif w0 2).fs m MEMC_STATUS_REINIT 0; s.Inv ∧ s.Accepts ⟨1, 7, false⟩ (base pMEMC + MEMC_CFG) 0#32
      ∧ 0#32 &&& 19#32 ≠ s.rd (base pMEMC + MEMC_CFG) &&& 19#32 ∧ s.cfgHeld = false
      ∧ getF (0#32) MEMC_CFG_DATA_RATE = s.fg (base pMEMC) MEMC_CFG_DATA_RATE)
    ∧ (let s : State := allMif w0 2; s.Inv ∧ s.fb (base pMEMC) MEMC_STATUS_REINIT = true ∧ (∀ (i : Nat), i < s.variant.mifs → 2 ≤ s.mifState i))
    -- r := { lanes := [{ rdWidth := 50, rdCentre := 3, wrWidth := 51, wrCentre := 4 },      …
    ∧ (let s : State := allMif w0 1; s.Inv ∧ s.mifState 0 = 1 ∧ (trn 50).lanes.length = 8 ∧ 26 ≤ narrowest (trn 50))
    -- r := { lanes := [{ rdWidth := 5, rdCentre := 3, wrWidth := 6, wrCentre := 4 },        …
    ∧ (let s : State := allMif w0 1; s.Inv ∧ s.mifState 0 = 1 ∧ (trn 5).lanes.length = 8 ∧ narrowest (trn 5) < 26)
    -- a := 0x1000000000, i := 0, x := 0, req := 0, inst := 0
    ∧ (let s : State := w0; s.Inv ∧ s.dramDecode 0x1000000000 = some (0, 0) ∧ s.fb (base pMEMC) MEMC_CFG_ECC_EN = true ∧ 0 ≠ 4)
    -- a := 0x1000000000, i := 0, x := 0, c := 0
    ∧ (let s : State := (allMif w0 2).fs m MEMC_STATUS_REINIT 0; s.Inv ∧ s.dramDecode 0x1000000000 = some (0, 0)
      ∧ s.fb (base pMEMC) MEMC_CFG_ECC_EN = true ∧ s.fg (base pMEMC) MEMC_SCRUB_HOURS ≠ 0 ∧ s.fb (base pMEMC) MEMC_STATUS_REINIT = false
      ∧ s.badLine 0x1000000000 = false)
    -- d0 := 0, d1 := 86
    ∧ (let s : State := w0; s.Inv ∧ -128 ≤ 0 ∧ 0 < 128 ∧ -128 ≤ 86 ∧ 86 < 128 ∧ (85 < 0 ∨ 85 < 86))
    -- o := ⟨1, 7, false⟩, i := 0
    ∧ (let s : State := (({ allMif w0 2 with trust := { w0.trust with started := true } }.fs m MEMC_STATUS_REINIT 0).fs (base pDEV) DEV_FW_STATUS_ATELIER_READY 1).fs (base pDEV) DEV_FW_STATUS_SIGNET_READY 1; s.Inv
      ∧ s.Accepts ⟨1, 7, false⟩ (base (pMIF 0) + MIF_CMD) 1#32 ∧ 0 < s.variant.mifs ∧ s.mifState 0 = 2
      ∧ s.fb (base pMEMC) MEMC_STATUS_REINIT = false ∧ s.plates.charges = [] ∧ s.atelier = true)
    -- i := 0, r := { lanes := [{ rdWidth := 5, rdCentre := 3, wrWidth := 6, wrCentre := 4 },        …
    ∧ (let s : State := allMif w0 3; s.Inv ∧ 0 < s.variant.mifs ∧ s.mifState 0 = 3 ∧ narrowest (trn 5) < 26)
    -- i := 0
    ∧ (let s : State := w0; s.Inv ∧ 0 < s.variant.mifs ∧ s.panicSince 0 = [])
    -- i := 0, t0 := 5, l := []
    ∧ (let s : State := wPan0; s.Inv
      ∧ s.Idle (max s.now (List.foldl min 5 [] + if s.fb (base (pMIF 0)) MIF_STATUS_REFRESH_2X = true then 0xB71B else 0x16E36))
      ∧ 0 < s.variant.mifs ∧ s.panicSince 0 = [5]) :=
  ⟨⟨w0_inv, accepts_of_passes (by decide +kernel), by decide +kernel⟩,
  ⟨w0_inv, accepts_of_passes (by decide +kernel), by decide +kernel⟩,
  ⟨inv_of_invB (by decide +kernel), accepts_of_passes (by decide +kernel), by decide +kernel⟩,
  ⟨inv_of_invB (by decide +kernel), by decide +kernel⟩,
  ⟨inv_of_invB (by decide +kernel), by decide +kernel⟩,
  ⟨inv_of_invB (by decide +kernel), by decide +kernel⟩,
  ⟨w0_inv, by decide +kernel⟩,
  ⟨inv_of_invB (by decide +kernel), by decide +kernel⟩,
  ⟨w0_inv, by decide +kernel⟩,
  ⟨inv_of_invB (by decide +kernel), accepts_of_passes (by decide +kernel), by decide +kernel⟩,
  ⟨inv_of_invB (by decide +kernel), by decide +kernel⟩,
  ⟨w0_inv, by decide +kernel⟩,
  ⟨inv_of_invB (by decide +kernel), idle_of (by decide +kernel), by decide +kernel⟩⟩
/-- Each clause of `Obligations.PortsPanicAndTheScratchpadIsTested` has a state and operands that meet its hypotheses. -/
theorem witness_PortsPanicAndTheScratchpadIsTested :
    -- q := 3, fill := 0
    (let s : State := { w0.fs (gBase 3) GRV_STEP_NOW_PLAYING 1 with plates := ⟨none, [], [⟨7, 3, 0, 5⟩], []⟩, gravers := w0.gravers.modify 3 fun (g : Graver) => { g with scen := 7 } }; s.Inv
      ∧ 3 < 28 ∧ s.rtPort 3 = true ∧ portWrites 3 = false ∧ 0 ≤ 100 ∧ s.fb (portBase 3) MEMC_PORT_STATUS_PANIC 3 = false ∧ 0 < 25
      ∧ s.portNeeds 3 = true)
    -- q := 3, fill := 0, t0 := 5
    ∧ (let s : State := wPan; s.Inv ∧ 3 < 28 ∧ s.rtPort 3 = true ∧ portWrites 3 = false ∧ 0 ≤ 100 ∧ s.fb (portBase 3) MEMC_PORT_STATUS_PANIC 3 = true
      ∧ (50 ≤ 0 ∨ s.portNeeds 3 = false) ∧ s.dram.panicAt.getD 3 none = some 5)
    -- a := 0, req := 0, inst := 0
    ∧ (let s : State := w0; s.Inv ∧ inTables 0 = false ∧ s.inGeneral 0 = false)
    -- a := 0x105000000, req := 0, inst := 0
    ∧ (let s : State := w0; s.Inv ∧ (inTables 0x105000000 = true ∨ s.inGeneral 0x105000000 = true))
    -- n := 0
    ∧ (let s : State := w0; s.Inv ∧ List.filter inTables s.badWords = [] ∧ s.spadMode ≠ 4)
    -- n := 0
    ∧ (let s : State := sp 3 0 0 0 0; s.Inv ∧ List.filter inTables s.badWords = [] ∧ s.spadMode = 3)
    -- o := ⟨1, 7, false⟩, a := 0, w := 1#32
    ∧ (let s : State := w0; s.Inv ∧ s.variant.small = false)
    -- o := ⟨1, 7, false⟩, b := 20
    ∧ (let s : State := w0; s.Inv ∧ s.Accepts ⟨1, 7, false⟩ (base pSPAD + SPAD_TEST_CMD) (BitVec.ofNat 32 (256 + 20)) ∧ 20 < 32
      ∧ s.generalBank 20 = true ∧ s.bankFailed 20 = false ∧ s.bankPinned 20 = false ∧ s.fb (base pSPAD) SPAD_TEST_STATUS_BUSY = false)
    -- o := ⟨1, 7, false⟩, b := 0
    ∧ (let s : State := w0; s.Inv ∧ s.Accepts ⟨1, 7, false⟩ (base pSPAD + SPAD_TEST_CMD) (BitVec.ofNat 32 (256 + 0)) ∧ 0 < 32
      ∧ (s.generalBank 0 = false ∨ s.bankFailed 0 = true ∨ s.bankPinned 0 = true))
    -- b := 20, pass := false
    ∧ (let s : State := sp 2 1 0 0 20; s.Inv ∧ s.fb (base pSPAD) SPAD_TEST_STATUS_BUSY = true ∧ s.fg (base pSPAD) SPAD_TEST_STATUS_BANK = 20)
    ∧ (let s : State := w0; s.Inv ∧ s.spadMode = 1) :=
  ⟨⟨inv_of_invB (by decide +kernel), by decide +kernel⟩,
  ⟨inv_of_invB (by decide +kernel), by decide +kernel⟩,
  ⟨w0_inv, by decide +kernel⟩,
  ⟨w0_inv, by decide +kernel⟩,
  ⟨w0_inv, by decide +kernel⟩,
  ⟨inv_of_invB (by decide +kernel), by decide +kernel⟩,
  ⟨w0_inv, by decide +kernel⟩,
  ⟨w0_inv, accepts_of_passes (by decide +kernel), by decide +kernel⟩,
  ⟨w0_inv, accepts_of_passes (by decide +kernel), by decide +kernel⟩,
  ⟨inv_of_invB (by decide +kernel), by decide +kernel⟩,
  ⟨w0_inv, by decide +kernel⟩⟩
end Drams

/-! ### FramesAndRootsChangeHands, QueuesTakeTheirOwnersCommands, ChunksStartAndFinish -/
namespace Dmas
def d : Nat := sbase 1 pDATU
def R0 : Nat := 0x1000200000
def wd : State := w0.fs (base pMEMC) MEMC_STATUS_REINIT 0
def fb (a : Nat) (s : State) : State := s.wr64 (d + DATU_FRAME_BASE) a
def own (l : List Nat) (k : Nat) (s : State) : State := l.foldl (fun t f => t.setFrame f k) s
def st8 (l : List (Nat × Nat)) (s : State) : State := l.foldl (fun t e => t.st e.1 e.2 8) s
def rfs : List Nat := (List.range 32).map (fun i => R0 / 0x10000 + i)
def T1 : Nat := 0x1000600000
def T2 : Nat := 0x1000620000
def wr : State := st8 [(R0, 1 + T1), (R0 + 8, 3 + T2), (T1, 7 + 0x1000700000), (T1 + 8, 3 + 0x105000000), (T1 + 16, 5 + 0x1000710000), (T2 + 24, 7 + 0x1000800000)]
  (own (rfs ++ [T1/0x10000, T1/0x10000+1, T2/0x10000, 0x100070, 0x10500, 0x100071] ++ (List.range 32).map (· + 0x100080)) 1 wd)
def inForce (s : State) : State := s.wr64 (d + DATU_ROOT) R0
def cm (root : Nat) (acc : Bool) (s : State) : State := { (s.fs d DATU_XLAT_STATUS_PENDING 1) with dma := { s.dma with commits := [⟨1, root, 7, acc⟩] } }
def newR (s : State) : State := (s.wr64 (d + DATU_NEW_ROOT) R0).fs d DATU_NEW_VERSION_VERSION 9
def pinB : State := put { cm R0 true wr with plates := ⟨none, [(3, [0x1000700000, 0])], [], []⟩ } [(plateAddr 3 + 0x28, 0x102)]
/-! queues -/
def b : Nat := base pDMA
def slot (q i op len src dst st : Nat) (s : State) : State := ((((s.stw (slotAddr q i) op).stw (slotAddr q i + 4) len).st (slotAddr q i + 8) src 8).st (slotAddr q i + 16) dst 8).stw (slotAddr q i + 0x1C) (st * 2^28)
def qq (q own head tail : Nat) (s : State) : State := (((s.fs b DMA_Q_CTRL_OWNER own q).fs b DMA_Q_RING_HEAD head q).fs b DMA_Q_RING_TAIL tail q)
def ch (c : Chunk) (s : State) : State := { s with dma := { s.dma with chunks := [c] } }
def M0 : Nat := 0x1000700000
def fillC (len : Nat) : Chunk := ⟨3, 0, 1, 0, len, M0, .fill 0x0123456789abcdef, none, false, false⟩
def one (op len src dst st : Nat) : State := qq 3 1 0 1 (slot 3 0 op len src dst st (inForce wr))
/-- Each clause of `Obligations.FramesAndRootsChangeHands` has a state and operands that meet its hypotheses. -/
theorem witness_FramesAndRootsChangeHands :
    -- o := ⟨1, 7, false⟩, n := 1
    (let s : State := fb 0x1000000000 w0; s.Accepts ⟨1, 7, false⟩ (base pDATU + DATU_FRAME_CMD) (BitVec.ofNat 32 (2 ^ 28 + 1)) ∧ 0 < 1 ∧ 1 < 2 ^ 21
      ∧ s.dma.frame = none ∧ s.rd64 (sbase 1 pDATU + DATU_FRAME_BASE) % 0x10000 = 0 ∧ (∃ f, f ∈ s.frameList 1 1 ∧ s.frameAvail f = false))
    -- o := ⟨1, 7, false⟩, n := 1
    ∧ (let s : State := fb 0x1000000000 wd; s.Accepts ⟨1, 7, false⟩ (base pDATU + DATU_FRAME_CMD) (BitVec.ofNat 32 (2 ^ 28 + 1)) ∧ 0 < 1 ∧ 1 < 2 ^ 21
      ∧ s.dma.frame = none ∧ s.rd64 (sbase 1 pDATU + DATU_FRAME_BASE) % 0x10000 = 0 ∧ (∀ f, f ∈ s.frameList 1 1 → s.frameAvail f = true
      ∧ (s.frameOwner f = 0 ∨ s.frameOwner f = 1)))
    -- o := ⟨1, 7, false⟩, n := 1
    ∧ (let s : State := fb 0x1000000000 (own [0x100000] 1 (st8 [(0x1000000000, 99), (0x1000010000, 77), (0x1000020000, 7)] wd)); s.Accepts ⟨1, 7, false⟩ (base pDATU + DATU_FRAME_CMD) (BitVec.ofNat 32 (2 * 2 ^ 28 + 1))
      ∧ 0 < 1 ∧ 1 < 2 ^ 21 ∧ s.dma.frame = none ∧ s.rd64 (sbase 1 pDATU + DATU_FRAME_BASE) % 0x10000 = 0
      ∧ (∀ f, f ∈ s.frameList 1 1 → s.frameOwner f = 1 ∧ s.tableFrame 1 f = false ∧ s.mapsFrame (s.rootOf 1) f = false ∧ s.underPlate f = false))
    -- c := { sess := 1, op := 2, count := 5, result := 300 }
    ∧ (let s : State := { wd with dma := { wd.dma with frame := some ⟨1, 2, 5, 300⟩ } }; s.dma.frame = some ⟨1, 2, 5, 300⟩)
    -- o := ⟨1, 7, false⟩
    ∧ (let s : State := fb 0x1000000000 w0; s.Accepts ⟨1, 7, false⟩ (base pDATU + DATU_XLAT_CMD) 1#32 ∧ s.commitOf 1 = none)
    -- o := ⟨1, 7, false⟩
    ∧ (let s : State := fb R0 (cm R0 false wr); s.Accepts ⟨1, 7, false⟩ (base pDATU + DATU_XLAT_CMD) 1#32 ∧ (s.commitOf 1).isSome = true)
    -- o := ⟨1, 7, false⟩, c := { sess := 1, root := 0, version := 7, accepted := true }
    ∧ (let s : State := newR (cm 0 true wd); s.Accepts ⟨1, 7, false⟩ (base pDATU + DATU_XLAT_CMD) 2#32 ∧ s.commitOf 1 = some ⟨1, 0, 7, true⟩)
    -- o := ⟨1, 7, false⟩, c := { sess := 1, root := 0x1000200000, version := 7, accepted := false }
    ∧ (let s : State := fb R0 (cm R0 false wr); s.Accepts ⟨1, 7, false⟩ (base pDATU + DATU_XLAT_CMD) 2#32
      ∧ s.commitOf 1 = some ⟨1, 0x1000200000, 7, false⟩)
    -- k := 1, c := { sess := 1, root := 0x1000200000, version := 7, accepted := false }
    ∧ (let s : State := fb R0 (cm R0 false wr); s.commitOf 1 = some ⟨1, 0x1000200000, 7, false⟩ ∧ s.rootFails ⟨1, 0x1000200000, 7, false⟩ = none)
    -- k := 1, c := { sess := 1, root := 0x1000200000, version := 7, accepted := false }, a := 0, block := 0x1000200000
    ∧ (let s : State := { cm R0 false wr with badWords := [R0 + 8] }; s.commitOf 1 = some ⟨1, 0x1000200000, 7, false⟩
      ∧ s.rootFails ⟨1, 0x1000200000, 7, false⟩ = some (Code.ecc, 0, 0x1000200000))
    -- k := 1, c := { sess := 1, root := 0x1000000000, version := 7, accepted := false }, code := Sys2Proof.Machine.Code.owner, a := 0, plate := 0
    ∧ (let s : State := cm 0x1000000000 false wr; s.commitOf 1 = some ⟨1, 0x1000000000, 7, false⟩
      ∧ s.rootFails ⟨1, 0x1000000000, 7, false⟩ = some (Code.owner, 0, 0) ∧ Code.owner ≠ Code.ecc)
    -- k := 1, c := { sess := 1, root := 0x1000200000, version := 7, accepted := true }, a := 0, plate := 3
    ∧ (let s : State := pinB; s.commitOf 1 = some ⟨1, 0x1000200000, 7, true⟩ ∧ (s.dma.chunks.any fun (x : Chunk) => x.sess == 1) = false
      ∧ s.pinBroken 1 0x1000200000 = some (0, 3))
    -- k := 1, c := { sess := 1, root := 0, version := 7, accepted := true }
    ∧ (let s : State := newR (cm 0 true wd); s.commitOf 1 = some ⟨1, 0, 7, true⟩ ∧ (s.dma.chunks.any fun (x : Chunk) => x.sess == 1) = false
      ∧ s.pinBroken 1 0 = none) :=
  ⟨⟨accepts_of_passes (by decide +kernel), by decide +kernel⟩,
  ⟨accepts_of_passes (by decide +kernel), by decide +kernel⟩,
  ⟨accepts_of_passes (by decide +kernel), by decide +kernel⟩,
  by decide +kernel,
  ⟨accepts_of_passes (by decide +kernel), by decide +kernel⟩,
  ⟨accepts_of_passes (by decide +kernel), by decide +kernel⟩,
  ⟨accepts_of_passes (by decide +kernel), by decide +kernel⟩,
  ⟨accepts_of_passes (by decide +kernel), by decide +kernel⟩,
  by decide +kernel,
  by decide +kernel,
  by decide +kernel,
  by decide +kernel,
  by decide +kernel⟩
/-- Each clause of `Obligations.QueuesTakeTheirOwnersCommands` has a state and operands that meet its hypotheses. -/
theorem witness_QueuesTakeTheirOwnersCommands :
    -- o := ⟨1, 7, false⟩, q := 0
    (let s : State := w0; s.Inv ∧ s.Accepts ⟨1, 7, false⟩ (base pDMA + DMA_Q_CMD 0) 1#32 ∧ 0 < 16 ∧ s.qOwner 0 = 0)
    -- o := ⟨1, 7, false⟩, q := 3
    ∧ (let s : State := qq 3 1 0 0 w0; s.Inv ∧ s.Accepts ⟨1, 7, false⟩ (base pDMA + DMA_Q_CMD 3) 1#32 ∧ 3 < 16 ∧ s.qOwner 3 ≠ 0)
    -- o := ⟨1, 7, false⟩, q := 3
    ∧ (let s : State := qq 3 1 0 0 w0; s.Inv ∧ s.Accepts ⟨1, 7, false⟩ (base pDMA + DMA_Q_CMD 3) 2#32 ∧ 3 < 16 ∧ s.qOwner 3 = 1
      ∧ s.queueBusy 3 = false)
    -- o := ⟨1, 7, false⟩, q := 3
    ∧ (let s : State := qq 3 1 5 7 (slot 3 5 3 64 9 0 1 (slot 3 6 3 64 9 0 1 w0)); s.Inv ∧ s.Accepts ⟨1, 7, false⟩ (base pDMA + DMA_Q_CMD 3) 2#32
      ∧ 3 < 16 ∧ s.qOwner 3 = 1 ∧ s.queueBusy 3 = true)
    -- o := ⟨1, 7, false⟩, q := 3
    ∧ (let s : State := qq 3 1 5 7 (slot 3 5 3 64 9 0 1 (slot 3 6 3 64 9 0 1 w0)); s.Inv ∧ s.Accepts ⟨1, 7, false⟩ (base pDMA + DMA_Q_CMD 3) 3#32
      ∧ 3 < 16 ∧ s.qOwner 3 = 1)
    -- o := ⟨1, 7, false⟩, q := 3, i := 5
    ∧ (let s : State := qq 3 1 5 7 (slot 3 5 3 64 9 0 4 (slot 3 6 3 64 9 0 1 w0)); s.Inv ∧ s.Accepts ⟨1, 7, false⟩ (base pDMA + DMA_Q_CMD 3) 4#32
      ∧ 3 < 16 ∧ s.qOwner 3 = 1 ∧ s.qHead 3 = 5 ∧ s.queueBusy 3 = true ∧ s.slotState 3 5 = 4)
    -- o := ⟨1, 7, false⟩, q := 3, i := 5
    ∧ (let s : State := qq 3 1 5 7 (slot 3 5 3 64 9 0 4 (slot 3 6 3 64 9 0 1 w0)); s.Inv ∧ s.Accepts ⟨1, 7, false⟩ (base pDMA + DMA_Q_CMD 3) 5#32
      ∧ 3 < 16 ∧ s.qOwner 3 = 1 ∧ s.qHead 3 = 5 ∧ s.queueBusy 3 = true ∧ s.slotState 3 5 = 4)
    -- o := ⟨1, 7, false⟩, q := 3, tail := 5
    ∧ (let s : State := qq 3 1 5 7 (slot 3 5 3 64 9 0 1 (slot 3 6 3 64 9 0 1 w0)); s.Inv
      ∧ s.Accepts ⟨1, 7, false⟩ (base pDMA + DMA_Q_RING 3) (BitVec.ofNat 32 (5 * 2 ^ 24)) ∧ 3 < 16 ∧ s.qOwner 3 = 1 ∧ 5 < 64
      ∧ 63 < (s.fg (base pDMA) DMA_Q_RING_TAIL 3 + 64 - s.qHead 3) % 64 + (5 + 64 - s.fg (base pDMA) DMA_Q_RING_TAIL 3) % 64)
    -- o := ⟨1, 7, false⟩, q := 3, tail := 1
    ∧ (let s : State := qq 3 1 0 0 w0; s.Inv ∧ s.Accepts ⟨1, 7, false⟩ (base pDMA + DMA_Q_RING 3) (BitVec.ofNat 32 (1 * 2 ^ 24)) ∧ 3 < 16
      ∧ s.qOwner 3 = 1 ∧ 1 < 64
      ∧ (s.fg (base pDMA) DMA_Q_RING_TAIL 3 + 64 - s.qHead 3) % 64 + (1 + 64 - s.fg (base pDMA) DMA_Q_RING_TAIL 3) % 64 ≤ 63)
    -- o := ⟨1, 7, false⟩, a := 0x8803000, w := 1#32
    ∧ (let s : State := w0; s.Inv ∧ s.AcceptsTable ⟨1, 7, false⟩ ∧ 0x8800000 ≤ 0x8803000 ∧ 0x8803000 < 0x8810000 ∧ 0x8803000 % 4 = 0
      ∧ s.qOwner ((0x8803000 - 0x8800000) / 0x1000) ≠ 1)
    -- o := ⟨1, 7, false⟩, a := 0x8803144, w := 1#32
    ∧ (let s : State := qq 3 1 5 7 (slot 3 5 3 64 9 0 1 (slot 3 6 3 64 9 0 1 w0)); s.Inv ∧ s.AcceptsTable ⟨1, 7, false⟩ ∧ 0x8800000 ≤ 0x8803144
      ∧ 0x8803144 < 0x8810000 ∧ 0x8803144 % 4 = 0 ∧ s.qOwner ((0x8803144 - 0x8800000) / 0x1000) = 1
      ∧ s.slotOut ((0x8803144 - 0x8800000) / 0x1000) ((0x8803144 - 0x8800000) % 0x1000 / 64) = true)
    -- o := ⟨1, 7, false⟩, a := 0x8803004, w := 1#32
    ∧ (let s : State := qq 3 1 0 0 w0; s.Inv ∧ s.AcceptsTable ⟨1, 7, false⟩ ∧ 0x8800000 ≤ 0x8803004 ∧ 0x8803004 < 0x8810000 ∧ 0x8803004 % 4 = 0
      ∧ s.qOwner ((0x8803004 - 0x8800000) / 0x1000) = 1
      ∧ s.slotOut ((0x8803004 - 0x8800000) / 0x1000) ((0x8803004 - 0x8800000) % 0x1000 / 64) = false) :=
  ⟨⟨w0_inv, accepts_of_passes (by decide +kernel), by decide +kernel⟩,
  ⟨inv_of_invB (by decide +kernel), accepts_of_passes (by decide +kernel), by decide +kernel⟩,
  ⟨inv_of_invB (by decide +kernel), accepts_of_passes (by decide +kernel), by decide +kernel⟩,
  ⟨inv_of_invB (by decide +kernel), accepts_of_passes (by decide +kernel), by decide +kernel⟩,
  ⟨inv_of_invB (by decide +kernel), accepts_of_passes (by decide +kernel), by decide +kernel⟩,
  ⟨inv_of_invB (by decide +kernel), accepts_of_passes (by decide +kernel), by decide +kernel⟩,
  ⟨inv_of_invB (by decide +kernel), accepts_of_passes (by decide +kernel), by decide +kernel⟩,
  ⟨inv_of_invB (by decide +kernel), accepts_of_passes (by decide +kernel), by decide +kernel⟩,
  ⟨inv_of_invB (by decide +kernel), accepts_of_passes (by decide +kernel), by decide +kernel⟩,
  ⟨w0_inv, ⟨by decide +kernel, by decide +kernel, by decide +kernel⟩, by decide +kernel⟩,
  ⟨inv_of_invB (by decide +kernel), ⟨by decide +kernel, by decide +kernel, by decide +kernel⟩, by decide +kernel⟩,
  ⟨inv_of_invB (by decide +kernel), ⟨by decide +kernel, by decide +kernel, by decide +kernel⟩, by decide +kernel⟩⟩
/-- Each clause of `Obligations.ChunksStartAndFinish` has a state and operands that meet its hypotheses. -/
theorem witness_ChunksStartAndFinish :
    -- q := 3
    (let s : State := one 3 64 5 0 1; s.Inv ∧ s.dma.chunks = [] ∧ s.nextQueue = some 3 ∧ s.slotState 3 (s.qHead 3) = 1
      ∧ (s.descAt 3 (s.qHead 3)).bad = false ∧ (s.descAt 3 (s.qHead 3)).op = 3)
    -- q := 3
    ∧ (let s : State := one 3 0 5 0 1; s.Inv ∧ s.dma.chunks = [] ∧ s.nextQueue = some 3 ∧ s.slotState 3 (s.qHead 3) = 1
      ∧ (s.descAt 3 (s.qHead 3)).bad = true)
    -- c := { q := 3,   slot := 0,   sess := 1,   to_ := 0,   len := 64,   dst := 0x10006000 …, w := 0x123456789ABCDEF
    ∧ (let s : State := ch { fillC 64 with dst := T1 } (one 3 64 5 0 2); s.Inv
      ∧ s.dma.chunks = [⟨3, 0, 1, 0, 64, 0x1000600000, DmaSrc.fill 0x123456789ABCDEF, none, false, false⟩] ∧ 3 < 16 ∧ 0 < 64
      ∧ s.chunkHeld ⟨3, 0, 1, 0, 64, 0x1000600000, DmaSrc.fill 0x123456789ABCDEF, none, false, false⟩ = false ∧ dramBase ≤ 0x1000600000
      ∧ s.dma.stopping = [] ∧ s.protectedAt 1 0x1000600000 = true)
    -- c := { q := 3,   slot := 0,   sess := 1,   to_ := 0,   len := 64,   dst := 0x10007000 …, w := 0x123456789ABCDEF
    ∧ (let s : State := ch (fillC 64) (one 3 64 5 0 2); s.Inv
      ∧ s.dma.chunks = [⟨3, 0, 1, 0, 64, 0x1000700000, DmaSrc.fill 0x123456789ABCDEF, none, false, false⟩] ∧ 3 < 16 ∧ 0 < 64
      ∧ s.chunkHeld ⟨3, 0, 1, 0, 64, 0x1000700000, DmaSrc.fill 0x123456789ABCDEF, none, false, false⟩ = false ∧ dramBase ≤ 0x1000700000
      ∧ s.dma.stopping = [] ∧ s.protectedAt 1 0x1000700000 = false ∧ s.ldw (slotAddr 3 0 + 32) + 64 < 2 ^ 32)
    -- c := { q := 3,   slot := 0,   sess := 1,   to_ := 0,   len := 64,   dst := 0x10007000 …, w := 0x123456789ABCDEF, r := 2, x := 0x123456789
    ∧ (let s : State := ch { fillC 64 with fault := some (2, 0x123456789) } (one 3 64 5 0 2); s.Inv
      ∧ s.dma.chunks = [⟨3, 0, 1, 0, 64, 0x1000700000, DmaSrc.fill 0x123456789ABCDEF, some (2, 0x123456789), false, false⟩] ∧ 3 < 16 ∧ 0 < 64
      ∧ s.chunkHeld ⟨3, 0, 1, 0, 64, 0x1000700000, DmaSrc.fill 0x123456789ABCDEF, some (2, 0x123456789), false, false⟩ = false
      ∧ dramBase ≤ 0x1000700000 ∧ s.dma.stopping = [] ∧ 2 < 16 ∧ 2 ≠ 3) :=
  ⟨⟨inv_of_invB (by decide +kernel), by decide +kernel⟩,
  ⟨inv_of_invB (by decide +kernel), by decide +kernel⟩,
  ⟨inv_of_invB (by decide +kernel), by decide +kernel⟩,
  ⟨inv_of_invB (by decide +kernel), by decide +kernel⟩,
  ⟨inv_of_invB (by decide +kernel), by decide +kernel⟩⟩
end Dmas

/-! ### MessagesOfASessionAreTaken, ReadsWritesAndBulksOfDram, SessionsOpenAndEnd -/
namespace Links
def M0 : Nat := 0x1000700000
def rel (n : Nat) : Rel := ⟨n, .ack, 5, 6, 0⟩
def ses (k : Nat) (f : Sess → Sess) (s : State) : State := s.updSes k f
def chk (c : Chunk) (s : State) : State := { s with dma := { s.dma with chunks := [c] } }
def pull (len : Nat) : Chunk := ⟨3, 0, 2, 0, len, M0, .pull 77 0x123 none, none, false, false⟩
def wd : State := (w0.fs (base pMEMC) MEMC_STATUS_REINIT 0).setFrame (M0/0x10000) 2
def bl (n : Nat) : List Byte := (List.range n).map (fun i => BitVec.ofNat 8 (i * 7 + 1))
def rq : OpenReq := ⟨0, 5, 0, 0, 0, false, false, false, 100, 0, 0⟩
def sr (s : State) : State := s.fs (base pDEV) DEV_FW_STATUS_SIGNET_READY 1
def cha (r : OpenReq) (t : Nat) : Challenge := ⟨4, 99, r, t⟩
def chs (l : List Challenge) (s : State) : State := { s with xport := { s.xport with challenges := l, openIds := 9 } }
/-- Each clause of `Obligations.MessagesOfASessionAreTaken` has a state and operands that meet its hypotheses. -/
theorem witness_MessagesOfASessionAreTaken :
    -- h := { sess := 1, token := 11, seq := 1, ack := 0, port := 0, lengthOk := true }, k := 5
    (let s : State := w0; s.Inv ∧ s.Hears ⟨1, 11, 1, 0, 0, true⟩ ∧ ∃ u : State, exec (.ack ⟨1, 11, 1, 0, 0, true⟩) s = .next u ∧ s.dual 1 = false
      ∧ (s.ses 1).waiting = [] ∧ (s.ses 1).notices = [] ∧ 1 ≤ 5 ∧ 5 ≠ 1)
    -- h := { sess := 1, token := 11, seq := 1, ack := 0, port := 0, lengthOk := true }, g := 0
    ∧ (let s : State := w0; s.Inv ∧ s.Hears ⟨1, 11, 1, 0, 0, true⟩ ∧ ∃ u : State, exec (.ack ⟨1, 11, 1, 0, 0, true⟩) s = .next u
      ∧ (0 % 2 ^ 32 + 2 ^ 32 - u.fg (sbase 1 pXPORT) XPORT_GRANT_COUNT) % 2 ^ 32 < 2 ^ 31)
    -- h := { sess := 1, token := 11, seq := 1, ack := 0, port := 0, lengthOk := true }, g := 0x80000000
    ∧ (let s : State := w0; s.Inv ∧ s.Hears ⟨1, 11, 1, 0, 0, true⟩ ∧ ∃ u : State, exec (.ack ⟨1, 11, 1, 0, 0, true⟩) s = .next u
      ∧ 2 ^ 31 ≤ (0x80000000 % 2 ^ 32 + 2 ^ 32 - u.fg (sbase 1 pXPORT) XPORT_GRANT_COUNT) % 2 ^ 32)
    -- h := { sess := 2, token := 22, seq := 1, ack := 0, port := 0, lengthOk := true }
    ∧ (let s : State := ses 2 (fun (q : Sess) => { q with rxNext := 6, txNext := 6, unacked := [rel 2, rel 3, rel 4, rel 5] }) w0; s.Inv
      ∧ s.Hears ⟨2, 22, 1, 0, 0, true⟩ ∧ ∃ u : State, exec (.ack ⟨2, 22, 1, 0, 0, true⟩) s = .next u ∧ 1 < (u.ses 2).rxNext)
    -- h := { sess := 2, token := 22, seq := 1, ack := 0, port := 0, lengthOk := true }, c := { q := 3,   slot := 0,   sess := 2,   to_ := 0,   len := 2,   dst := 0x100070000 …, tag := 77, o := 291, data := [1#8, 2#8]
    ∧ (let s : State := chk (pull 2) w0; s.Inv ∧ s.Hears ⟨2, 22, 1, 0, 0, true⟩ ∧ ∃ u : State, exec (.ack ⟨2, 22, 1, 0, 0, true⟩) s = .next u
      ∧ u.dma.chunks = [⟨3, 0, 2, 0, 2, 0x1000700000, DmaSrc.pull 77 291 none, none, false, false⟩] ∧ 1 = (u.ses 2).rxNext ∧ (u.ses 2).held = []
      ∧ [1#8, 2#8].length = 2)
    -- h := { sess := 2, token := 22, seq := 1, ack := 0, port := 0, lengthOk := true }, c := { q := 3,   slot := 0,   sess := 2,   to_ := 0,   len := 2,   dst := 0x100070000 …, tag := 77, o := 291, data := []
    ∧ (let s : State := chk (pull 2) w0; s.Inv ∧ s.Hears ⟨2, 22, 1, 0, 0, true⟩ ∧ ∃ u : State, exec (.ack ⟨2, 22, 1, 0, 0, true⟩) s = .next u
      ∧ u.dma.chunks = [⟨3, 0, 2, 0, 2, 0x1000700000, DmaSrc.pull 77 291 none, none, false, false⟩] ∧ 1 = (u.ses 2).rxNext ∧ (u.ses 2).held = []
      ∧ ([] : List Byte).length ≠ 2)
    -- c := { q := 3,   slot := 0,   sess := 2,   to_ := 0,   len := 2,   dst := 0x100070000 …, tag := 77, o := 291, first := 5
    ∧ (let s : State := ses 2 (fun (q : Sess) => { q with pulls := [(77, 5)] }) (chk (pull 2) w0); s.dma.chunks = [⟨3, 0, 2, 0, 2, 0x1000700000, DmaSrc.pull 77 291 none, none, false, false⟩]
      ∧ (s.ses 2).pulls = [(77, 5)]) :=
  ⟨⟨w0_inv, ⟨by decide +kernel, by decide +kernel, by decide +kernel, by decide +kernel, by decide +kernel⟩, _, rfl, by decide +kernel⟩,
  ⟨w0_inv, ⟨by decide +kernel, by decide +kernel, by decide +kernel, by decide +kernel, by decide +kernel⟩, _, rfl, by decide +kernel⟩,
  ⟨w0_inv, ⟨by decide +kernel, by decide +kernel, by decide +kernel, by decide +kernel, by decide +kernel⟩, _, rfl, by decide +kernel⟩,
  ⟨inv_of_invB (by decide +kernel), ⟨by decide +kernel, by decide +kernel, by decide +kernel, by decide +kernel, by decide +kernel⟩, _, rfl,
      by decide +kernel⟩,
  ⟨inv_of_invB (by decide +kernel), ⟨by decide +kernel, by decide +kernel, by decide +kernel, by decide +kernel, by decide +kernel⟩, _, rfl,
      by decide +kernel⟩,
  ⟨inv_of_invB (by decide +kernel), ⟨by decide +kernel, by decide +kernel, by decide +kernel, by decide +kernel, by decide +kernel⟩, _, rfl,
      by decide +kernel⟩,
  by decide +kernel⟩
/-- Each clause of `Obligations.ReadsWritesAndBulksOfDram` has a state and operands that meet its hypotheses. -/
theorem witness_ReadsWritesAndBulksOfDram :
    -- h := { sess := 2, token := 22, seq := 1, ack := 0, port := 0, lengthOk := true }, a := 0x1000700000, n := 1
    (let s : State := wd; s.Inv ∧ s.Hears ⟨2, 22, 1, 0, 0, true⟩ ∧ ∃ u : State, exec (.ack ⟨2, 22, 1, 0, 0, true⟩) s = .next u
      ∧ 1 = (u.ses 2).rxNext ∧ (u.ses 2).held = [] ∧ (u.ses 2).waiting = [] ∧ 0x1000700000 % 4 = 0 ∧ 0 < 1 ∧ 1 ≤ 256 ∧ dramBase ≤ 0x1000700000
      ∧ 0x1000700000 + 4 * 1 ≤ 2 ^ 48 ∧ (u.updSes 2 fun (q : Sess) => { q with rxNext := 1 + 1 }).fb (base pMEMC) MEMC_STATUS_REINIT = false
      ∧ (∀ (i : Nat), i < 4 * 1 → ((u.updSes 2 fun (q : Sess) => { q with rxNext := 1 + 1 }).dramDecode (0x1000700000 + i)).isSome = true
      ∧ (u.updSes 2 fun (q : Sess) => { q with rxNext := 1 + 1 }).frameOwner ((0x1000700000 + i) / 0x10000) = 2)
      ∧ (u.updSes 2 fun (q : Sess) => { q with rxNext := 1 + 1 }).restState < 2
      ∧ (u.updSes 2 fun (q : Sess) => { q with rxNext := 1 + 1 }).badWords = [])
    -- h := { sess := 1, token := 11, seq := 1, ack := 0, port := 0, lengthOk := true }, a := 0, n := 0
    ∧ (let s : State := wd; s.Inv ∧ s.Hears ⟨1, 11, 1, 0, 0, true⟩ ∧ ∃ u : State, exec (.ack ⟨1, 11, 1, 0, 0, true⟩) s = .next u
      ∧ 1 = (u.ses 1).rxNext ∧ (u.ses 1).held = [] ∧ (u.ses 1).waiting = [] ∧ (0 % 4 ≠ 0 ∨ 0 = 0 ∨ 256 < 0 ∨ 2 ^ 48 ≤ 0))
    -- h := { sess := 2, token := 22, seq := 1, ack := 0, port := 0, lengthOk := true }, posted := false, a := 0x1000700000, ws := [1#32], i := 0
    ∧ (let s : State := wd; s.Inv ∧ s.Hears ⟨2, 22, 1, 0, 0, true⟩ ∧ ∃ u : State, exec (.ack ⟨2, 22, 1, 0, 0, true⟩) s = .next u
      ∧ 1 = (u.ses 2).rxNext ∧ (u.ses 2).held = [] ∧ (u.ses 2).waiting = [] ∧ 0x1000700000 % 4 = 0 ∧ 0 < [1#32].length ∧ [1#32].length ≤ 64
      ∧ dramBase ≤ 0x1000700000 ∧ 0x1000700000 + 4 * [1#32].length ≤ 2 ^ 48
      ∧ (u.updSes 2 fun (q : Sess) => { q with rxNext := 1 + 1 }).fb (base pMEMC) MEMC_STATUS_REINIT = false
      ∧ (∀ (i : Nat), i < 4 * [1#32].length → ((u.updSes 2 fun (q : Sess) => { q with rxNext := 1 + 1 }).dramDecode (0x1000700000 + i)).isSome = true
      ∧ (u.updSes 2 fun (q : Sess) => { q with rxNext := 1 + 1 }).frameOwner ((0x1000700000 + i) / 0x10000) = 2)
      ∧ (u.updSes 2 fun (q : Sess) => { q with rxNext := 1 + 1 }).restState < 2
      ∧ (u.updSes 2 fun (q : Sess) => { q with rxNext := 1 + 1 }).retired = false
      ∧ (u.updSes 2 fun (q : Sess) => { q with rxNext := 1 + 1 }).rootOf 2 = 0
      ∧ (u.updSes 2 fun (q : Sess) => { q with rxNext := 1 + 1 }).dma.commits = []
      ∧ (u.updSes 2 fun (q : Sess) => { q with rxNext := 1 + 1 }).plates.extents = []
      ∧ (u.updSes 2 fun (q : Sess) => { q with rxNext := 1 + 1 }).badWords = [])
    -- h := { sess := 2, token := 22, seq := 1, ack := 0, port := 0, lengthOk := true }, posted := false, a := 0x1000700000, bs := (bl 64), i := 0
    ∧ (let s : State := wd; s.Inv ∧ s.Hears ⟨2, 22, 1, 0, 0, true⟩ ∧ ∃ u : State, exec (.ack ⟨2, 22, 1, 0, 0, true⟩) s = .next u
      ∧ 1 = (u.ses 2).rxNext ∧ (u.ses 2).held = [] ∧ (u.ses 2).waiting = [] ∧ 0x1000700000 % 64 = 0 ∧ 0 < (bl 64).length ∧ (bl 64).length % 64 = 0
      ∧ (bl 64).length ≤ 0x2000 ∧ dramBase ≤ 0x1000700000 ∧ 0x1000700000 + (bl 64).length ≤ 2 ^ 48
      ∧ (u.updSes 2 fun (q : Sess) => { q with rxNext := 1 + 1 }).fb (base pMEMC) MEMC_STATUS_REINIT = false
      ∧ (∀ (i : Nat), i < (bl 64).length → ((u.updSes 2 fun (q : Sess) => { q with rxNext := 1 + 1 }).dramDecode (0x1000700000 + i)).isSome = true
      ∧ (u.updSes 2 fun (q : Sess) => { q with rxNext := 1 + 1 }).frameOwner ((0x1000700000 + i) / 0x10000) = 2)
      ∧ (u.updSes 2 fun (q : Sess) => { q with rxNext := 1 + 1 }).restState < 2
      ∧ (u.updSes 2 fun (q : Sess) => { q with rxNext := 1 + 1 }).retired = false
      ∧ (u.updSes 2 fun (q : Sess) => { q with rxNext := 1 + 1 }).rootOf 2 = 0
      ∧ (u.updSes 2 fun (q : Sess) => { q with rxNext := 1 + 1 }).dma.commits = []
      ∧ (u.updSes 2 fun (q : Sess) => { q with rxNext := 1 + 1 }).plates.extents = [])
    -- h := { sess := 2, token := 22, seq := 1, ack := 0, port := 0, lengthOk := true }, posted := false, a := 0x1000700000, bs := (bl 64), w := 0
    ∧ (let s : State := wd; s.Inv ∧ s.Hears ⟨2, 22, 1, 0, 0, true⟩ ∧ ∃ u : State, exec (.ack ⟨2, 22, 1, 0, 0, true⟩) s = .next u
      ∧ 1 = (u.ses 2).rxNext ∧ (u.ses 2).held = [] ∧ (u.ses 2).waiting = [] ∧ 0x1000700000 % 64 = 0 ∧ 0 < (bl 64).length ∧ (bl 64).length % 64 = 0
      ∧ (bl 64).length ≤ 0x2000 ∧ dramBase ≤ 0x1000700000 ∧ 0x1000700000 + (bl 64).length ≤ 2 ^ 48
      ∧ (u.updSes 2 fun (q : Sess) => { q with rxNext := 1 + 1 }).fb (base pMEMC) MEMC_STATUS_REINIT = false
      ∧ (∀ (i : Nat), i < (bl 64).length → ((u.updSes 2 fun (q : Sess) => { q with rxNext := 1 + 1 }).dramDecode (0x1000700000 + i)).isSome = true
      ∧ (u.updSes 2 fun (q : Sess) => { q with rxNext := 1 + 1 }).frameOwner ((0x1000700000 + i) / 0x10000) = 2)
      ∧ (u.updSes 2 fun (q : Sess) => { q with rxNext := 1 + 1 }).restState < 2
      ∧ (u.updSes 2 fun (q : Sess) => { q with rxNext := 1 + 1 }).retired = false
      ∧ (u.updSes 2 fun (q : Sess) => { q with rxNext := 1 + 1 }).rootOf 2 = 0
      ∧ (u.updSes 2 fun (q : Sess) => { q with rxNext := 1 + 1 }).dma.commits = []
      ∧ (u.updSes 2 fun (q : Sess) => { q with rxNext := 1 + 1 }).plates.extents = [])
    -- h := { sess := 1, token := 11, seq := 1, ack := 0, port := 0, lengthOk := true }, posted := false, a := 0, bs := []
    ∧ (let s : State := wd; s.Inv ∧ s.Hears ⟨1, 11, 1, 0, 0, true⟩ ∧ ∃ u : State, exec (.ack ⟨1, 11, 1, 0, 0, true⟩) s = .next u
      ∧ 1 = (u.ses 1).rxNext ∧ (u.ses 1).held = [] ∧ (u.ses 1).waiting = []
      ∧ (0 % 64 ≠ 0 ∨ ([] : List Byte).length = 0 ∨ ([] : List Byte).length % 64 ≠ 0 ∨ 0x2000 < ([] : List Byte).length ∨ 2 ^ 48 ≤ 0))
    -- h := { sess := 2, token := 22, seq := 1, ack := 0, port := 0, lengthOk := true }
    ∧ (let s : State := w0; s.Inv ∧ s.Hears ⟨2, 22, 1, 0, 0, true⟩ ∧ ∃ u : State, exec (.ack ⟨2, 22, 1, 0, 0, true⟩) s = .next u ∧ u.Idle u.now
      ∧ 1 = (u.ses 2).rxNext ∧ (u.ses 2).held = [] ∧ (u.ses 2).waiting = [] ∧ u.hasEstate 2 = false ∧ (u.ses 2).flights = [] ∧ u.xport.ownQ = []) :=
  ⟨⟨inv_of_invB (by decide +kernel), ⟨by decide +kernel, by decide +kernel, by decide +kernel, by decide +kernel, by decide +kernel⟩, _, rfl,
      by decide +kernel⟩,
  ⟨inv_of_invB (by decide +kernel), ⟨by decide +kernel, by decide +kernel, by decide +kernel, by decide +kernel, by decide +kernel⟩, _, rfl,
      by decide +kernel⟩,
  ⟨inv_of_invB (by decide +kernel), ⟨by decide +kernel, by decide +kernel, by decide +kernel, by decide +kernel, by decide +kernel⟩, _, rfl,
      by decide +kernel⟩,
  ⟨inv_of_invB (by decide +kernel), ⟨by decide +kernel, by decide +kernel, by decide +kernel, by decide +kernel, by decide +kernel⟩, _, rfl,
      by decide +kernel⟩,
  ⟨inv_of_invB (by decide +kernel), ⟨by decide +kernel, by decide +kernel, by decide +kernel, by decide +kernel, by decide +kernel⟩, _, rfl,
      by decide +kernel⟩,
  ⟨inv_of_invB (by decide +kernel), ⟨by decide +kernel, by decide +kernel, by decide +kernel, by decide +kernel, by decide +kernel⟩, _, rfl,
      by decide +kernel⟩,
  ⟨w0_inv, ⟨by decide +kernel, by decide +kernel, by decide +kernel, by decide +kernel, by decide +kernel⟩, _, rfl, idle_of (by decide +kernel),
      by decide +kernel⟩⟩
/-- Each clause of `Obligations.SessionsOpenAndEnd` has a state and operands that meet its hypotheses. -/
theorem witness_SessionsOpenAndEnd :
    -- r := { port := 0,   fromAddr := 5,   fromUdp := 0,   hostId := 0,   target := 0,   du …
    (let s : State := sr w0; s.Inv ∧ s.fb (base pDEV) DEV_FW_STATUS_SIGNET_READY = true ∧ s.xport.auth = []
      ∧ (List.filter (fun (c : Challenge) => decide (s.now ≤ c.sentAt + 300000000)) s.xport.challenges).length < 16)
    -- r := { port := 0,   fromAddr := 5,   fromUdp := 0,   hostId := 0,   target := 0,   du …
    ∧ (let s : State := sr (chs (List.map (fun (i : Nat) => ⟨i, 1, rq, 0⟩) (List.range 16)) w0); s.Inv
      ∧ s.fb (base pDEV) DEV_FW_STATUS_SIGNET_READY = true ∧ s.xport.auth = []
      ∧ 16 ≤ (List.filter (fun (c : Challenge) => decide (s.now ≤ c.sentAt + 300000000)) s.xport.challenges).length)
    -- c := { openId := 4,   nonce := 99,   req := { port := 1,            fromAddr := 5,    …, nh := [1, 2], m := 0, rm := 0, e := Sys2Proof.Machine.Code.auth
    ∧ (let s : State := chs [cha { rq with port := 1, hostId := 3 } 0] w0; s.Inv
      ∧ { s.rxFrame 1 with xport := { s.xport with challenges := [] } }.verdictOpen ⟨4, 99, ⟨1, 5, 0, 3, 0, false, false, false, 100, 0, 0⟩, 0⟩ [1, 2] 0 0 = Except.error Code.auth
      ∧ s.xport.challenges = [⟨4, 99, ⟨1, 5, 0, 3, 0, false, false, false, 100, 0, 0⟩, 0⟩] ∧ s.now ≤ 0 + 300000000)
    -- c := { openId := 4,   nonce := 99,   req := { port := 0,            fromAddr := 5,    …, nh := [1, 2], m := 0x248B, rm := 0, key := { id := 0, perms := 7, key := 99 }, k := 3
    ∧ (let s : State := sr (chs [cha rq 0] w0); let v : State := { s.rxFrame 0 with xport := { s.xport with challenges := [] } }; s.Inv
      ∧ v.verdictOpen (cha rq 0) [1, 2] (v.proofMac Config.key0 (cha rq 0) [1, 2]) 0 = .ok (⟨0, 7, Config.key0⟩, 3)
      ∧ s.xport.challenges = [cha rq 0] ∧ s.now ≤ 0 + 300000000 ∧ (s.ses 3).st = SessState.free ∧ 1 ≤ 3 ∧ 3 ≤ 16)
    -- i := 4, c := { openId := 4,   nonce := 99,   req := { port := 1,            fromAddr := 5,    …
    ∧ (let s : State := chs [cha { rq with port := 1, hostId := 3 } 0] w0; s.Inv
      ∧ s.xport.challenges = [⟨4, 99, ⟨1, 5, 0, 3, 0, false, false, false, 100, 0, 0⟩, 0⟩])
    -- k := 2
    ∧ (let s : State := w0; s.Inv ∧ s.Idle (max s.now (s.leaseEnd 2)) ∧ s.isOpen 2 = true ∧ s.hasEstate 2 = false ∧ (s.ses 2).flights = []
      ∧ s.xport.ownQ = [])
    -- k := 3
    ∧ (let s : State := { chs [cha { rq with target := 3, reclaim := true, leaseMs := 5 } 0] (ses 3 (fun (q : Sess) => { q with st := SessState.orphan, hostId := 0, secret := 77, orphanAt := 500 }) w0) with now := 5 }; s.Inv
      ∧ 1 ≤ 3 ∧ 3 ≤ 16 ∧ (s.ses 3).st = SessState.orphan)
    -- o := ⟨1, 7, false⟩, p := 64
    ∧ (let s : State := { w0 with xport := { w0.xport with ownFree := 9 } }; s.Inv
      ∧ s.Accepts ⟨1, 7, false⟩ (base pXPORT + XPORT_OWN_CMD) (BitVec.ofNat 32 (2 ^ 28 + 64)) ∧ s.fb (sbase 1 pXPORT) XPORT_OWN_STATUS_BUSY = false
      ∧ 64 ∈ s.ownable ∧ s.now < s.xport.ownFree)
    -- o := ⟨1, 7, false⟩, p := 65
    ∧ (let s : State := w0; s.Inv ∧ s.Accepts ⟨1, 7, false⟩ (base pXPORT + XPORT_OWN_CMD) (BitVec.ofNat 32 (2 ^ 28 + 65))
      ∧ s.fb (sbase 1 pXPORT) XPORT_OWN_STATUS_BUSY = false ∧ s.xport.ownQ = [] ∧ s.xport.ownFree ≤ s.now ∧ 65 ∈ s.ownable ∧ s.owner 65 = 0)
    -- o := ⟨1, 7, false⟩, p := 16
    ∧ (let s : State := w0; s.Inv ∧ s.Accepts ⟨1, 7, false⟩ (base pXPORT + XPORT_OWN_CMD) (BitVec.ofNat 32 (2 ^ 28 + 16))
      ∧ s.fb (sbase 1 pXPORT) XPORT_OWN_STATUS_BUSY = false ∧ s.xport.ownQ = [] ∧ s.xport.ownFree ≤ s.now ∧ 16 ∈ s.ownable ∧ s.owner 16 ≠ 0)
    -- o := ⟨1, 7, false⟩, p := 16
    ∧ (let s : State := w0; s.Inv ∧ s.Accepts ⟨1, 7, false⟩ (base pXPORT + XPORT_OWN_CMD) (BitVec.ofNat 32 (2 * 2 ^ 28 + 16))
      ∧ s.fb (sbase 1 pXPORT) XPORT_OWN_STATUS_BUSY = false ∧ s.xport.ownQ = [] ∧ s.xport.ownFree ≤ s.now ∧ 16 ∈ s.ownable ∧ s.owner 16 = 1
      ∧ (s.armedUses 16 || s.pageAcquires 16 || s.pageOnFabric 16) = false)
    -- o := ⟨1, 7, false⟩, p := 96
    ∧ (let s : State := { w0 with tracers := w0.tracers.set 0 { w0.trc 0 with startAt := some 4 } }; s.Inv
      ∧ s.Accepts ⟨1, 7, false⟩ (base pXPORT + XPORT_OWN_CMD) (BitVec.ofNat 32 (2 * 2 ^ 28 + 96))
      ∧ s.fb (sbase 1 pXPORT) XPORT_OWN_STATUS_BUSY = false ∧ s.xport.ownQ = [] ∧ s.xport.ownFree ≤ s.now ∧ 96 ∈ s.ownable ∧ s.owner 96 = 1
      ∧ (s.armedUses 96 || s.pageAcquires 96 || s.pageOnFabric 96) = true) :=
  ⟨⟨inv_of_invB (by decide +kernel), by decide +kernel⟩,
  ⟨inv_of_invB (by decide +kernel), by decide +kernel⟩,
  ⟨inv_of_invB (by decide +kernel), rfl, by decide +kernel⟩,
  ⟨inv_of_invB (by decide +kernel), verdict_opens (key := ⟨0, 7, Config.key0⟩) rfl ⟨rfl, rfl⟩ (by decide +kernel) (by decide +kernel),
      by decide +kernel⟩,
  ⟨inv_of_invB (by decide +kernel), by decide +kernel⟩,
  ⟨w0_inv, idle_of (by decide +kernel), by decide +kernel⟩,
  ⟨inv_of_invB (by decide +kernel), by decide +kernel⟩,
  ⟨inv_of_invB (by decide +kernel), accepts_of_passes (by decide +kernel), by decide +kernel⟩,
  ⟨w0_inv, accepts_of_passes (by decide +kernel), by decide +kernel⟩,
  ⟨w0_inv, accepts_of_passes (by decide +kernel), by decide +kernel⟩,
  ⟨w0_inv, accepts_of_passes (by decide +kernel), by decide +kernel⟩,
  ⟨inv_of_invB (by decide +kernel), accepts_of_passes (by decide +kernel), by decide +kernel⟩⟩
end Links

/-! ### TheModuleSendsAndItsPortsChange, TheNetworkLayerAnswers -/
namespace Ports
def x1 : Nat := sbase 1 pXPORT
def ses (k : Nat) (f : Sess → Sess) (s : State) : State := s.updSes k f
def rel (n : Nat) : Rel := ⟨n, .closed, 5, 6, 0⟩
def nr (n : Nat) (m : Option Nat) : NoticeRec := ⟨n, w0.note pXPORT 0 n, m, 0⟩
def ringb (n : Nat) (snt : Bool) : RingBlock := ⟨0, 3, n, 40, 7, 99, snt⟩
def trk (n : Nat) (l : List RingBlock) (s : State) : State := s.updTrc n (fun v => { v with held := l, acq := 3 })
def fl (c n : Nat) : Flight := ⟨c, 3, n, 40, 7, 99, 5⟩
def up (p : Nat) (s : State) : State := s.fs (base (pLINK p)) LINK_STATUS_UP 1
def dn (p : Nat) (s : State) : State := s.fs (base (pLINK p)) LINK_STATUS_UP 0
def cr (n : Nat) (s : State) : State := s.fs x1 XPORT_GRANT_COUNT n
def cfg (v4 v6 : Nat) (p : Nat) (s : State) : State := (s.fs (linkBase p) LINK_ADDR_CFG_V4_MODE v4).fs (linkBase p) LINK_ADDR_CFG_V6_MODE v6
def st46 (a b p : Nat) (s : State) : State := (s.fs (linkBase p) LINK_STATUS_V4_STATE a).fs (linkBase p) LINK_STATUS_V6_STATE b
def tent (p a : Nat) (s : State) : State := s.updPort p (fun q => { q with tentative := some a, dhcpLeaseS := 99, dhcpAckAt := 7, dhcpServer := 12 })
/-- Each clause of `Obligations.TheModuleSendsAndItsPortsChange` has a state and operands that meet its hypotheses. -/
theorem witness_TheModuleSendsAndItsPortsChange :
    -- k := 1
    (let s : State := w0; s.Inv ∧ s.isOpen 1 = true)
    -- k := 1, r := { seq := 3, msg := Sys2Proof.Machine.Msg.closed, firstAt := 5, sentAt := 6, rese …
    ∧ (let s : State := ses 1 (fun (q : Sess) => { q with unacked := [rel 3] }) w0; s.Inv ∧ s.isOpen 1 = true ∧ s.dual 1 = false
      ∧ (s.ses 1).unacked = [⟨3, Msg.closed, 5, 6, 0⟩])
    -- n := 0, k := 1, b := { place := 0, acq := 3, seq := 5, raw := 40, firstC := 7, time := 99, sent := false }
    ∧ (let s : State := trk 0 [ringb 5 false] (cr 3 w0); s.Inv ∧ 0 < s.variant.caps ∧ (s.trc 0).startAt = none ∧ (s.trc 0).endAt = none
      ∧ s.owner (pSTRM 0) = 1 ∧ s.isOpen 1 = true ∧ (s.trc 0).held = [⟨0, 3, 5, 40, 7, 99, false⟩] ∧ 0 < s.streamCredit 1 ∧ s.streamTurn 1 0 = true)
    -- n := 0
    ∧ (let s : State := w0; s.Inv ∧ 0 < s.variant.caps ∧ (s.trc 0).startAt = none ∧ (s.trc 0).endAt = none
      ∧ (s.streamCredit (s.owner (pSTRM 0)) = 0 ∨ s.streamTurn (s.owner (pSTRM 0)) 0 = false))
    -- h := { sess := 1, token := 11, seq := 1, ack := 0, port := 0, lengthOk := true }, f := { chan := 0, acq := 3, blk := 5, raw := 40, firstC := 7, time := 99, sentAt := 5 }
    ∧ (let s : State := trk 0 [ringb 5 true, ringb 6 true] (ses 1 (fun (q : Sess) => { q with flights := [fl 0 5] }) w0); s.Inv
      ∧ s.Hears ⟨1, 11, 1, 0, 0, true⟩)
    -- k := 1, f := { chan := 0, acq := 3, blk := 5, raw := 40, firstC := 7, time := 99, sentAt := 5 }
    ∧ (let s : State := trk 0 [ringb 5 true, ringb 6 true] (ses 1 (fun (q : Sess) => { q with flights := [fl 0 5] }) w0); s.Inv ∧ 1 ≤ 1 ∧ 1 ≤ 16
      ∧ (s.ses 1).flights = [⟨0, 3, 5, 40, 7, 99, 5⟩] ∧ 0 < 4 ∧ (s.trc 0).gap = none ∧ (s.ses 1).gapRuns = [])
    -- k := 1, r := { chan := 1, acq := 3, firstBlk := 4, blocks := 2, raw := 40, firstC := 7, time  …
    ∧ (let s : State := trk 1 [ringb 5 true, ringb 6 true] (ses 1 (fun (q : Sess) => { q with flights := [fl 1 6], gapRuns := [⟨1, 3, 4, 2, 40, 7, 99, 5⟩] }) w0); s.Inv
      ∧ 1 ≤ 1 ∧ 1 ≤ 16 ∧ (s.ses 1).gapRuns = [⟨1, 3, 4, 2, 40, 7, 99, 5⟩])
    -- k := 1
    ∧ (let s : State := ses 1 (fun (q : Sess) => { q with notices := List.map (fun (i : Nat) => nr i none) (List.range 70) }) w0; s.Inv
      ∧ s.isOpen 1 = true ∧ (s.ses 1).waiting = [] ∧ (s.ses 1).unacked = [] ∧ (s.ses 1).notices ≠ []
      ∧ (∀ (r : NoticeRec), r ∈ (s.ses 1).notices → r.inMsg = none))
    -- p := 1, los := false
    ∧ (let s : State := dn 0 (up 1 w0); s.Inv ∧ (∀ (k : Nat), s.isOpen k = true → s.dual k = false) ∧ 1 < 2 ∧ s.restState = 0 ∧ s.portUp 1 = true)
    -- p := 0
    ∧ (let s : State := w0; s.Inv ∧ (∀ (k : Nat), s.isOpen k = true → s.dual k = false) ∧ 0 < 2 ∧ s.portUp 0 = false
      ∧ s.fb (linkBase 0) LINK_STATUS_BYPASSED = false ∧ s.v4Mode 0 = 0 ∧ s.v6Mode 0 = 0)
    -- o := ⟨1, 7, false⟩, p := 0
    ∧ (let s : State := w0; s.Inv ∧ s.Accepts ⟨1, 7, false⟩ (linkBase 0 + LINK_CTRL) (setF (s.rd (linkBase 0 + LINK_CTRL)) LINK_CTRL_BYPASS 1) ∧ 0 < 2
      ∧ s.fb (linkBase 0) LINK_CTRL_BYPASS = false ∧ s.portUp (1 - 0) = false)
    -- o := ⟨1, 7, false⟩, p := 0
    ∧ (let s : State := dn 0 (up 1 w0); s.Inv
      ∧ s.Accepts ⟨1, 7, false⟩ (linkBase 0 + LINK_CTRL) (setF (s.rd (linkBase 0 + LINK_CTRL)) LINK_CTRL_BYPASS 1)
      ∧ (∀ (k : Nat), s.isOpen k = true → s.dual k = false) ∧ 0 < 2 ∧ s.fb (linkBase 0) LINK_CTRL_BYPASS = false ∧ s.portUp (1 - 0) = true) :=
  ⟨⟨w0_inv, by decide +kernel⟩,
  ⟨inv_of_invB (by decide +kernel), by decide +kernel⟩,
  ⟨inv_of_invB (by decide +kernel), by decide +kernel⟩,
  ⟨w0_inv, by decide +kernel⟩,
  ⟨inv_of_invB (by decide +kernel), ⟨by decide +kernel, by decide +kernel, by decide +kernel, by decide +kernel, by decide +kernel⟩⟩,
  ⟨inv_of_invB (by decide +kernel), by decide +kernel⟩,
  ⟨inv_of_invB (by decide +kernel), by decide +kernel⟩,
  ⟨inv_of_invB (by decide +kernel), by decide +kernel⟩,
  ⟨inv_of_invB (by decide +kernel), of_open (by decide +kernel), by decide +kernel⟩,
  ⟨w0_inv, of_open (by decide +kernel), by decide +kernel⟩,
  ⟨w0_inv, accepts_of_passes (by decide +kernel), by decide +kernel⟩,
  ⟨inv_of_invB (by decide +kernel), accepts_of_passes (by decide +kernel), of_open (by decide +kernel), by decide +kernel⟩⟩
/-- Each clause of `Obligations.TheNetworkLayerAnswers` has a state and operands that meet its hypotheses. -/
theorem witness_TheNetworkLayerAnswers :
    -- p := 0
    (let s : State := up 0 (up 1 w0); s.Inv ∧ 0 < 2 ∧ s.v4Mode 0 = 0)
    -- p := 0
    ∧ (let s : State := up 0 (up 1 w0); s.Inv ∧ 0 < 2 ∧ s.v6Mode 0 = 0)
    -- p := 0
    ∧ (let s : State := up 0 (up 1 w0); s.Inv ∧ 0 < 2 ∧ s.v4Mode 0 ≠ 2)
    -- p := 0, a := 0, m := 0
    ∧ (let s : State := up 0 (st46 2 2 0 (cfg 1 1 0 w0)); s.Inv ∧ 0 < 2 ∧ s.portUp 0 = true ∧ s.v4Mode 0 ≠ 0 ∧ s.v4State 0 = 2)
    -- p := 0, a := 0, m := 0
    ∧ (let s : State := up 0 (st46 2 2 0 (cfg 1 1 0 w0)); s.Inv ∧ 0 < 2 ∧ s.portUp 0 = true ∧ s.v6Mode 0 ≠ 0)
    -- p := 0, a := 0, len := 0
    ∧ (let s : State := up 0 (st46 2 2 0 (cfg 1 1 0 w0)); s.Inv ∧ 0 < 2 ∧ s.portUp 0 = true ∧ s.v4State 0 = 2 ∧ 0 ≤ s.fg (linkBase 0) LINK_UDP_MTU)
    -- p := 0, a := 0, srv := 0
    ∧ (let s : State := up 0 (st46 1 0 0 (cfg 2 2 0 w0)); s.Inv ∧ 0 < 2 ∧ s.portUp 0 = true ∧ s.v4Mode 0 = 2 ∧ s.v4State 0 = 1)
    -- p := 0, a := 0, srv := 0, mask := 0, gw := 0, lease := 0
    ∧ (let s : State := up 0 (st46 1 0 0 (cfg 2 2 0 w0)); s.Inv ∧ 0 < 2 ∧ s.portUp 0 = true ∧ s.v4Mode 0 = 2 ∧ 0 < 2 ^ 32 ∧ 0 < 2 ^ 32)
    -- p := 0
    ∧ (let s : State := up 0 (st46 2 2 0 (cfg 2 2 0 w0)); s.Inv ∧ 0 < 2 ∧ s.portUp 0 = true ∧ s.v4Mode 0 = 2 ∧ s.v4State 0 = 2)
    -- p := 0
    ∧ (let s : State := up 0 (st46 1 0 0 (cfg 2 2 0 w0)); s.Inv ∧ 0 < 2 ∧ s.portUp 0 = true ∧ s.v4Mode 0 = 2)
    -- p := 0, a := 0, m := 0
    ∧ (let s : State := up 0 (st46 2 2 0 (cfg 1 1 0 w0)); s.Inv ∧ 0 < 2 ∧ s.portUp 0 = true ∧ s.v4Mode 0 ≠ 0)
    -- p := 0, pre := 0, r := 0, m := 0
    ∧ (let s : State := up 0 (st46 1 0 0 (cfg 2 2 0 w0)); s.Inv ∧ 0 < 2 ∧ s.portUp 0 = true ∧ s.v6Mode 0 = 2 ∧ s.v6State 0 = 0
      ∧ (s.port 0).tentative = none)
    -- p := 0, a := 5
    ∧ (let s : State := tent 0 5 (up 0 (st46 0 0 0 (cfg 0 0 0 w0))); s.Inv ∧ 0 < 2 ∧ (s.port 0).tentative = some 5 ∧ 5 < 2 ^ 128) :=
  ⟨⟨inv_of_invB (by decide +kernel), by decide +kernel⟩,
  ⟨inv_of_invB (by decide +kernel), by decide +kernel⟩,
  ⟨inv_of_invB (by decide +kernel), by decide +kernel⟩,
  ⟨inv_of_invB (by decide +kernel), by decide +kernel⟩,
  ⟨inv_of_invB (by decide +kernel), by decide +kernel⟩,
  ⟨inv_of_invB (by decide +kernel), by decide +kernel⟩,
  ⟨inv_of_invB (by decide +kernel), by decide +kernel⟩,
  ⟨inv_of_invB (by decide +kernel), by decide +kernel⟩,
  ⟨inv_of_invB (by decide +kernel), by decide +kernel⟩,
  ⟨inv_of_invB (by decide +kernel), by decide +kernel⟩,
  ⟨inv_of_invB (by decide +kernel), by decide +kernel⟩,
  ⟨inv_of_invB (by decide +kernel), by decide +kernel⟩,
  ⟨inv_of_invB (by decide +kernel), by decide +kernel⟩⟩
end Ports

/-! ### RegistersAreWrittenReadAndCleared -/
namespace Regs
def pend (s : State) : State := s.updSes 1 (fun q => { q with writeShadow := [(base pDATU + DATU_FRAME_BASE + 4, 0xABCD1234#32), (base pTRUST + TRUST_SRC + 4, 7#32)], readShadow := [(base pTIME + 0x44, 9#32)] })
def cnts (s : State) : State := [(pCLK, 0x0A0, 2), (pTIME, 0x080, 4), (pSYNC, 0x060, 5), (pCAL, 0x060, 4), (pSPAD, 0x060, 5), (pDMA, 0x044, 2), (pPWR, 0x080, 2)].foldl (fun s (p, f, n) => (List.range n).foldl (fun u i => u.wr (base p + f + 4 * i) (BitVec.ofNat 32 (i + 7))) s) s
/-- Each clause of `Obligations.RegistersAreWrittenReadAndCleared` has a state and operands that meet its hypotheses. -/
theorem witness_RegistersAreWrittenReadAndCleared :
    -- o := ⟨1, 7, false⟩, a := 0x10040, w := 0#32, c := Sys2Proof.Machine.Code.format
    (let s : State := w0; s.Inv ∧ s.judge 1 0x10040 0#32 = Except.error Code.format ∧ s.isOpen 1 = true ∧ 0x10040 < 0x1000000 ∧ 0x10040 % 4 = 0
      ∧ s.inPairW 0x10040 = false)
    -- o := ⟨1, 7, false⟩, p := 0, w := 0#32
    ∧ (let s : State := w0; s.Inv ∧ s.isOpen 1 = true ∧ (pageOf s.variant 0).isSome = true ∧ s.restState < 2)
    -- o := ⟨1, 7, false⟩, w := 0#32
    ∧ (let s : State := w0; s.Inv ∧ s.isOpen 1 = true ∧ s.fb (base pDEV) HDR_PAGE_CTRL_BUSY = false)
    -- o := ⟨1, 7, false⟩, a := 80
    ∧ (let s : State := w0; s.Inv ∧ s.isOpen 1 = true ∧ 80 < 0x1000000 ∧ 80 % 8 = 0 ∧ s.inPair 80 = true ∧ s.restState < 2 ∧ s.upToDate 80 = s)
    -- o := ⟨1, 7, false⟩, a := 84
    ∧ (let s : State := w0; s.Inv ∧ s.isOpen 1 = true ∧ 84 < 0x1000000 ∧ 84 % 8 = 4 ∧ s.inPair 84 = true ∧ s.restState < 2 ∧ s.upToDate 84 = s)
    -- o := ⟨1, 7, false⟩, a := 0x10064, w := 0#32
    ∧ (let s : State := w0; s.Inv ∧ s.judgeHead 1 0x10064 = Except.ok () ∧ s.isOpen 1 = true ∧ 0x10064 < 0x1000000 ∧ 0x10064 % 8 = 4
      ∧ s.inPairW 0x10064 = true)
    -- o := ⟨1, 7, false⟩, a := 0x41054, w := 0#32, c := Sys2Proof.Machine.Code.owner
    ∧ (let s : State := w0; s.Inv ∧ s.judgeHead 1 0x41054 = Except.error Code.owner ∧ s.isOpen 1 = true ∧ 0x41054 < 0x1000000 ∧ 0x41054 % 8 = 4
      ∧ s.inPairW 0x41054 = true)
    -- o := ⟨1, 7, false⟩, lo := 0#32, hi := 2882343476#32
    ∧ (let s : State := pend (cnts w0); s.Inv ∧ s.judgeHead 1 (base pDATU + DATU_FRAME_BASE) = Except.ok ()
      ∧ s.judgeHead 1 (base pDATU + DATU_FRAME_BASE + 4) = Except.ok () ∧ s.isOpen 1 = true ∧ s.restState = 0
      ∧ List.find? (fun (e : Nat × Word) => e.fst == base pDATU + DATU_FRAME_BASE + 4) (s.ses 1).writeShadow = some (base pDATU + DATU_FRAME_BASE + 4, 2882343476#32))
    -- o := ⟨1, 7, false⟩, a := 0x50480
    ∧ (let s : State := w0; s.Inv ∧ s.isOpen 1 = true ∧ (0x50480 = base (pPAT 0) + TRG_TRIG_IN_MERGED ∨ 0x50480 = base (pPAT 0) + TRG_TRIG_CNT)
      ∧ s.restState < 2)
    -- o := ⟨1, 7, false⟩, p := 16, off := 168, first := 160, n := 2, mask := 0#32, again := 0#32
    ∧ (let s : State := w0; s.Inv ∧ s.Accepts ⟨1, 7, false⟩ (base 16 + 168) 0#32 ∧ s.isOpen 1 = true
      ∧ (16, 168, 160, 2) ∈ [(pCLK, CLK_CNT_CLEAR, 160, 2), (pTIME, TIME_CNT_CLEAR, 128, 4), (pSYNC, SYNC_CNT_CLEAR, 96, 5), (pCAL, CAL_CNT_CLEAR, 96, 4), (pSPAD, SPAD_CNT_CLEAR, 96, 5), (pDMA, DMA_CNT_CLEAR, 68, 2), (pPWR, PWR_CNT_CLEAR, 128, 2)])
    -- o := ⟨1, 7, false⟩, p := 0, mask := 0#32, again := 0#32
    ∧ (let s : State := w0; s.Inv ∧ s.Accepts ⟨1, 7, false⟩ (base 0 + 24) 0#32 ∧ s.isOpen 1 = true) :=
  ⟨⟨w0_inv, rfl, by decide +kernel⟩,
  ⟨w0_inv, by decide +kernel⟩,
  ⟨w0_inv, by decide +kernel⟩,
  ⟨w0_inv, by decide +kernel⟩,
  ⟨w0_inv, by decide +kernel⟩,
  ⟨w0_inv, rfl, by decide +kernel⟩,
  ⟨w0_inv, rfl, by decide +kernel⟩,
  ⟨inv_of_invB (by decide +kernel), rfl, rfl, by decide +kernel⟩,
  ⟨w0_inv, by decide +kernel⟩,
  ⟨w0_inv, accepts_of_passes (by decide +kernel), by decide +kernel⟩,
  ⟨w0_inv, accepts_of_passes (by decide +kernel), by decide +kernel⟩⟩
end Regs

/-! ### BlocksAreEnabledParkedAndReset -/
namespace Blocks
def pgs : List Nat := [pGEN 0, pPAT 0, pCAP 0, pSTRM 0, pSTEN 0, pCLK, pTIME, pSYNC, pDEV, 0x3ff, pDMA]
def ctl (f : State → Nat → State) (s : State) : State := pgs.foldl f s
def en (v r : Nat) (s : State) : State := ctl (fun t p => (t.fs (base p) HDR_PAGE_CTRL_EN v).fs (base p) HDR_PAGE_CTRL_READY r) s
def busy (s : State) : State := ctl (fun t p => ((t.fs (base p) HDR_PAGE_CTRL_BUSY 1).wr (base p + 0x1c) 0xffff1234#32).wr (base p + 0x44) 5#32) s
def held (s : State) : State := { s with tracers := s.tracers.map (fun t => { t with startAt := some 5 }) }
def lt (s : State) : State := { s with gens := s.gens.set 0 { s.gen 0 with late := some (5, 6, 7), slots := [(5,false),(6,true),(7,true)] } }
/-- Each clause of `Obligations.BlocksAreEnabledParkedAndReset` has a state and operands that meet its hypotheses. -/
theorem witness_BlocksAreEnabledParkedAndReset :
    -- o := ⟨1, 7, false⟩, p := 64, en := false
    (let s : State := w0; s.Inv ∧ s.Accepts ⟨1, 7, false⟩ (base 64 + 12) (setF (s.rd (base 64 + 12)) HDR_PAGE_CTRL_EN (b2n false))
      ∧ getF (s.rd (base 64 + 12)) HDR_PAGE_CTRL_RESET = 0 ∧ getF (s.rd (base 64 + 12)) HDR_PAGE_CTRL_FAULT_CLR = 0
      ∧ s.pageIs 64 PageKind.parkCap = true ∧ s.blockHeld 64 = false)
    -- o := ⟨1, 7, false⟩, p := 64, park := false
    ∧ (let s : State := w0; s.Inv ∧ s.Accepts ⟨1, 7, false⟩ (base 64 + 12) (setF (s.rd (base 64 + 12)) HDR_PAGE_CTRL_PARK (b2n false))
      ∧ getF (s.rd (base 64 + 12)) HDR_PAGE_CTRL_RESET = 0 ∧ getF (s.rd (base 64 + 12)) HDR_PAGE_CTRL_FAULT_CLR = 0
      ∧ s.pageIs 64 PageKind.parkCap = true ∧ s.blockHeld 64 = false)
    -- o := ⟨1, 7, false⟩, p := 96
    ∧ (let s : State := held (en 1 1 w0); s.Inv ∧ s.Accepts ⟨1, 7, false⟩ (base 96 + 12) (setF (s.rd (base 96 + 12)) HDR_PAGE_CTRL_EN 0)
      ∧ s.pageIs 96 PageKind.parkCap = true ∧ s.blockHeld 96 = true ∧ s.fb (base 96) HDR_PAGE_CTRL_EN = true
      ∧ getF (s.rd (base 96 + 12)) HDR_PAGE_CTRL_RESET = 0)
    -- o := ⟨1, 7, false⟩, p := 64
    ∧ (let s : State := en 1 0 w0; s.Inv ∧ s.pageIs 64 PageKind.parkCap = true ∧ s.fb (base 64) HDR_PAGE_CTRL_EN = true
      ∧ s.fb (base 64) HDR_PAGE_CTRL_READY = false)
    -- o := ⟨1, 7, false⟩, p := 96
    ∧ (let s : State := held (en 1 1 w0); s.Inv ∧ s.Accepts ⟨1, 7, false⟩ (base 96 + 12) (setF (s.rd (base 96 + 12)) HDR_PAGE_CTRL_RESET 1)
      ∧ s.pageIs 96 PageKind.resetCap = true ∧ (s.blockHeld 96 || s.commitPends 96) = true)
    -- o := ⟨1, 7, false⟩, p := 64
    ∧ (let s : State := w0; s.Inv ∧ s.Accepts ⟨1, 7, false⟩ (base 64 + 12) (setF (s.rd (base 64 + 12)) HDR_PAGE_CTRL_RESET 1)
      ∧ s.pageIs 64 PageKind.resetCap = true ∧ (s.blockHeld 64 || s.commitPends 64) = false
      ∧ getF (s.rd (base 64 + 12)) HDR_PAGE_CTRL_FAULT_CLR = 0)
    -- o := ⟨1, 7, false⟩, p := 64
    ∧ (let s : State := busy w0; s.Inv ∧ s.pageIs 64 PageKind.resetCap = true ∧ s.fb (base 64) HDR_PAGE_CTRL_BUSY = true ∧ (64 ≤ 64
      ∧ 64 < 80 → bit (s.causes (64 - 64)) 2 = false ∧ bit (s.causes (64 - 64)) 3 = false) ∧ (96 ≤ 64 ∧ 64 < 100 → s.packRest (capOf 64) = s))
    -- o := ⟨1, 7, false⟩, p := 64, code := 64, detail := 64
    ∧ (let s : State := w0; s.Inv ∧ s.Accepts ⟨1, 7, false⟩ (base 64 + 12) (setF (s.rd (base 64 + 12)) HDR_PAGE_CTRL_FAULT_CLR 1)
      ∧ getF (s.rd (base 64 + 12)) HDR_PAGE_CTRL_RESET = 0 ∧ 0 < 64 ∧ 64 < 0x10000 ∧ 64 < 256)
    -- o := ⟨1, 7, false⟩, p := 64, n := 0, desc := 0, late := 0
    ∧ (let s : State := w0; s.Inv ∧ 0 < s.variant.gens ∧ (s.gen 0).late = none)
    -- o := ⟨1, 7, false⟩, p := 64, n := 0, desc := 5, late := 6, step := 6, time := 7
    ∧ (let s : State := lt w0; s.Inv ∧ 0 < s.variant.gens ∧ (s.gen 0).late = some (5, 6, 7) ∧ 0 < 6) :=
  ⟨⟨w0_inv, accepts_of_passes (by decide +kernel), by decide +kernel⟩,
  ⟨w0_inv, accepts_of_passes (by decide +kernel), by decide +kernel⟩,
  ⟨inv_of_invB (by decide +kernel), accepts_of_passes (by decide +kernel), by decide +kernel⟩,
  ⟨inv_of_invB (by decide +kernel), by decide +kernel⟩,
  ⟨inv_of_invB (by decide +kernel), accepts_of_passes (by decide +kernel), by decide +kernel⟩,
  ⟨w0_inv, accepts_of_passes (by decide +kernel), by decide +kernel⟩,
  ⟨inv_of_invB (by decide +kernel), by decide +kernel⟩,
  ⟨w0_inv, accepts_of_passes (by decide +kernel), by decide +kernel⟩,
  ⟨w0_inv, by decide +kernel⟩,
  ⟨inv_of_invB (by decide +kernel), by decide +kernel⟩⟩
end Blocks

/-! ### TrustCommandsEnd -/
namespace Trusts
def b : Nat := base pTRUST
def c1 : Nat := sbase 1 pTRUST
def M0 : Nat := 0x1000700000
def wd : State := ((w0.fs (base pMEMC) MEMC_STATUS_REINIT 0).setFrame (M0/0x10000) 1).wr64 (c1 + TRUST_SRC) M0
def lc (n : Nat) (s : State) : State := s.fs b TRUST_LIFECYCLE_STATE n
def bun (cnt ctr tgt : Nat) (s : State) : State := put s [(M0, 0x4B424E44), (M0 + 4, ctr), (M0 + 8, cnt), (M0 + 12, tgt)]
def image (key sec n : Nat) (s : State) : State := (put s [(M0, 0x45534657), (M0+4, 1), (M0+8, 0x05123456), (M0+12, sec), (M0+16, n), (M0+0x1c, key)]).fs c1 TRUST_LENGTH_BYTES n
def alarm (s : State) : State := s.fs b TRUST_LIFECYCLE_ALARM 1
def rdy (s : State) : State := (s.fs (base pDEV) DEV_FW_STATUS_SIGNET_READY 1).fs (base pDEV) DEV_FW_STATUS_ATELIER_READY 1
def im : Image := ⟨0x123456, 3, 300, 1, 77⟩
def slots (l : List Slot) (s : State) : State := { s with trust := { s.trust with slots := l } }
def okset (l : Nat) (s : State) : State := (List.range 64).foldl (fun t i => t.stw (M0 + 4 * i) (if i = 2 then l else if i = 0 then 1 else match settingsRegs.find? (fun e => e.2 == i) with | some e => (s.rd e.1).toNat | none => 0)) s
/-- Each clause of `Obligations.TrustCommandsEnd` has a state and operands that meet its hypotheses. -/
theorem witness_TrustCommandsEnd :
    -- o := ⟨1, 7, false⟩, n := 1, i := .lifecycle ⟨1, 7, false⟩, e := Sys2Proof.Machine.Code.owner
    (let s : State := w0; s.Inv ∧ (∀ (k : Nat), 1 ≤ k → k ≤ 16 → s.fb (sbase k pTRUST) TRUST_CMD_STATUS_BUSY = false)
      ∧ s.Accepts ⟨1, 7, false⟩ (base pTRUST + TRUST_CMD) (BitVec.ofNat 32 (1 * 2 ^ 28)) ∧ s.trustOp 1 1 true = Except.error Code.owner
      ∧ s.trust.recovery = false
      ∧ (1, Instr.lifecycle ⟨1, 7, false⟩) ∈ [(1, Instr.lifecycle ⟨1, 7, false⟩), (2, Instr.keyLoad ⟨1, 7, false⟩), (3, Instr.alarmClear ⟨1, 7, false⟩), (4, Instr.fwStage ⟨1, 7, false⟩ true), (5, Instr.fwConfirm ⟨1, 7, false⟩), (6, Instr.settingsSave ⟨1, 7, false⟩), (7, Instr.atelierRestart ⟨1, 7, false⟩), (8, Instr.journalClear ⟨1, 7, false⟩)]
      ∧ Code.owner ≠ Code.ok)
    -- o := ⟨1, 7, false⟩, x := { counter := 5, target := 1, keys := [{ id := 5, perms := 3, key := 77 }, { id : …
    ∧ (let s : State := bun 2 5 1 wd; Config.bundleOpen s.serial ((s.bytesAt M0 144).map (·.toNat)) = some [(5, 3, 77), (6, 3, 78)] → s.Inv
      ∧ (∀ (k : Nat), 1 ≤ k → k ≤ 16 → s.fb (sbase k pTRUST) TRUST_CMD_STATUS_BUSY = false) ∧ s.bundle 1 = .ok ⟨5, 1, [⟨5, 3, 77⟩, ⟨6, 3, 78⟩]⟩
      ∧ s.Accepts ⟨1, 7, false⟩ (base pTRUST + TRUST_CMD) (BitVec.ofNat 32 (1 * 2 ^ 28)) ∧ s.trust.recovery = false ∧ s.alarm = false
      ∧ lifecycleOk s.lifecycle 1 = true ∧ 17 < s.fg (base pTRUST) TRUST_LIFECYCLE_EPOCHS_LEFT)
    -- o := ⟨1, 7, false⟩, x := { counter := 5, target := 1, keys := [{ id := 5, perms := 3, key := 77 }, { id : …
    ∧ (let s : State := bun 2 5 1 wd; Config.bundleOpen s.serial ((s.bytesAt M0 144).map (·.toNat)) = some [(5, 3, 77), (6, 3, 78)] → s.Inv
      ∧ (∀ (k : Nat), 1 ≤ k → k ≤ 16 → s.fb (sbase k pTRUST) TRUST_CMD_STATUS_BUSY = false) ∧ s.bundle 1 = .ok ⟨5, 1, [⟨5, 3, 77⟩, ⟨6, 3, 78⟩]⟩
      ∧ s.Accepts ⟨1, 7, false⟩ (base pTRUST + TRUST_CMD) (BitVec.ofNat 32 (2 * 2 ^ 28)) ∧ s.trust.recovery = false ∧ s.lifecycle ≠ 2
      ∧ s.lifecycle ≠ 4)
    -- o := ⟨1, 7, false⟩, x := { counter := 5, target := 1, keys := [{ id := 5, perms := 3, key := 77 }] }
    ∧ (let s : State := alarm (bun 1 5 1 wd); Config.bundleOpen s.serial ((s.bytesAt M0 96).map (·.toNat)) = some [(5, 3, 77)] → s.Inv
      ∧ (∀ (k : Nat), 1 ≤ k → k ≤ 16 → s.fb (sbase k pTRUST) TRUST_CMD_STATUS_BUSY = false) ∧ s.bundle 1 = .ok ⟨5, 1, [⟨5, 3, 77⟩]⟩
      ∧ s.Accepts ⟨1, 7, false⟩ (base pTRUST + TRUST_CMD) (BitVec.ofNat 32 (3 * 2 ^ 28)) ∧ s.trust.recovery = false ∧ s.alarm = true
      ∧ s.inTamper = false)
    -- o := ⟨1, 7, false⟩, a := 0x1000700000, n := 300
    ∧ (let s : State := image 1 5 300 wd; Config.signatureOk ((s.bytesAt M0 300).map (·.toNat)) = true →
    Config.signatureOk ((s.bytesAt M0 300).map (·.toNat)) = true
      ∧ s.Inv ∧ (∀ (k : Nat), 1 ≤ k → k ≤ 16 → s.fb (sbase k pTRUST) TRUST_CMD_STATUS_BUSY = false)
      ∧ s.Accepts ⟨1, 7, false⟩ (base pTRUST + TRUST_CMD) (BitVec.ofNat 32 (4 * 2 ^ 28)) ∧ s.trust.recovery = false ∧ s.trustSrc 1 = 0x1000700000
      ∧ s.fg (sbase 1 pTRUST) TRUST_LENGTH_BYTES = 300 ∧ s.permits 1 1 = true ∧ 256 ≤ 300 ∧ 300 ≤ 0x1000000 ∧ s.ownBytes 1 0x1000700000 300 = true
      ∧ s.ldw 0x1000700000 = 0x45534657 ∧ s.ldw (0x1000700000 + 4) = 1 ∧ s.ldw (0x1000700000 + 16) = 300 ∧ s.ldw (0x1000700000 + 28) ≤ 3
      ∧ bit s.trust.revoked (s.ldw (0x1000700000 + 28)) = false ∧ s.fg (base pTRUST) TRUST_FW_SEC_MIN ≤ s.ldw (0x1000700000 + 12))
    -- o := ⟨1, 7, false⟩, m := { version := 0x123456, secVersion := 3, length := 300, keyIndex := 1, content := 77 }
    ∧ (let s : State := slots [⟨some im, true, 5⟩, ⟨none, false, 0⟩] (wd.fs b TRUST_FW_TRIAL 1); s.Inv
      ∧ (∀ (k : Nat), 1 ≤ k → k ≤ 16 → s.fb (sbase k pTRUST) TRUST_CMD_STATUS_BUSY = false)
      ∧ s.Accepts ⟨1, 7, false⟩ (base pTRUST + TRUST_CMD) (BitVec.ofNat 32 (5 * 2 ^ 28)) ∧ s.trust.recovery = false
      ∧ (s.slot s.running).image = some ⟨0x123456, 3, 300, 1, 77⟩ ∧ 3 < 256 ∧ s.permits 1 1 = true ∧ s.fb (base pTRUST) TRUST_FW_TRIAL = true)
    -- o := ⟨1, 7, false⟩
    ∧ (let s : State := okset 0 wd; s.Inv ∧ (∀ (k : Nat), 1 ≤ k → k ≤ 16 → s.fb (sbase k pTRUST) TRUST_CMD_STATUS_BUSY = false)
      ∧ s.Accepts ⟨1, 7, false⟩ (base pTRUST + TRUST_CMD) (BitVec.ofNat 32 (6 * 2 ^ 28)) ∧ s.trust.recovery = false ∧ s.permits 1 2 = true
      ∧ s.ownBytes 1 (s.trustSrc 1) 256 = true ∧ s.settingsBad (List.map (fun (i : Nat) => s.ldw (s.trustSrc 1 + 4 * i)) (List.range 64)) = false
      ∧ (bits ((List.map (fun (i : Nat) => s.ldw (s.trustSrc 1 + 4 * i)) (List.range 64)).getD 2 0) 1 1 = s.fg (base pTRUST) TRUST_TAMPER_LOOP_EN ∨ s.lifecycle = 1 ∨ s.lifecycle = 3))
    -- o := ⟨1, 7, false⟩
    ∧ (let s : State := (rdy wd).fs b TRUST_FW_ATELIER_STATE 0; s.Inv
      ∧ (∀ (k : Nat), 1 ≤ k → k ≤ 16 → s.fb (sbase k pTRUST) TRUST_CMD_STATUS_BUSY = false)
      ∧ s.Accepts ⟨1, 7, false⟩ (base pTRUST + TRUST_CMD) (BitVec.ofNat 32 (7 * 2 ^ 28)) ∧ s.trust.recovery = false ∧ s.permits 1 1 = true
      ∧ s.fb (base pDEV) DEV_FW_STATUS_SIGNET_READY = true ∧ s.fg (base pTRUST) TRUST_FW_ATELIER_STATE = 0 ∧ s.restState < 2
      ∧ s.fb (base pTRUST) TRUST_FW_TRIAL = false)
    -- o := ⟨1, 7, false⟩
    ∧ (let s : State := bun 3 5 4 (lc 3 wd); s.Inv ∧ (∀ (k : Nat), 1 ≤ k → k ≤ 16 → s.fb (sbase k pTRUST) TRUST_CMD_STATUS_BUSY = false)
      ∧ s.Accepts ⟨1, 7, false⟩ (base pTRUST + TRUST_CMD) (BitVec.ofNat 32 (8 * 2 ^ 28)) ∧ s.trust.recovery = false ∧ s.permits 1 2 = true
      ∧ s.lifecycle = 3) :=
  ⟨⟨w0_inv, of_sessions (by decide +kernel), accepts_of_passes (by decide +kernel), rfl, by decide +kernel⟩,
  fun h => ⟨inv_of_invB (by decide +kernel),
      of_sessions (by decide +kernel), bundle_opens (n := 144) (by decide +kernel) (by decide +kernel) (by decide +kernel) (by decide +kernel) (by decide +kernel) h,
      accepts_of_passes (by decide +kernel), by decide +kernel⟩,
  fun h => ⟨inv_of_invB (by decide +kernel),
      of_sessions (by decide +kernel), bundle_opens (n := 144) (by decide +kernel) (by decide +kernel) (by decide +kernel) (by decide +kernel) (by decide +kernel) h,
      accepts_of_passes (by decide +kernel), by decide +kernel⟩,
  fun h => ⟨inv_of_invB (by decide +kernel),
      of_sessions (by decide +kernel), bundle_opens (n := 96) (by decide +kernel) (by decide +kernel) (by decide +kernel) (by decide +kernel) (by decide +kernel) h,
      accepts_of_passes (by decide +kernel), by decide +kernel⟩,
  fun h => ⟨h, inv_of_invB (by decide +kernel), of_sessions (by decide +kernel), accepts_of_passes (by decide +kernel), by decide +kernel⟩,
  ⟨inv_of_invB (by decide +kernel), of_sessions (by decide +kernel), accepts_of_passes (by decide +kernel), by decide +kernel⟩,
  ⟨inv_of_invB (by decide +kernel), of_sessions (by decide +kernel), accepts_of_passes (by decide +kernel), by decide +kernel⟩,
  ⟨inv_of_invB (by decide +kernel), of_sessions (by decide +kernel), accepts_of_passes (by decide +kernel), by decide +kernel⟩,
  ⟨inv_of_invB (by decide +kernel), of_sessions (by decide +kernel), accepts_of_passes (by decide +kernel), by decide +kernel⟩⟩
end Trusts

/-! ### AtelierTamperAndBoot -/
namespace Boots
def b : Nat := base pTRUST
def d : Nat := base pDEV
def sg (s : State) : State := s.fs d DEV_FW_STATUS_SIGNET_READY 1
def at_ (n : Nat) (s : State) : State := (s.fs d DEV_FW_STATUS_ATELIER_READY 1).fs b TRUST_FW_ATELIER_STATE n
def w : State := (sg w0).fs d DEV_FW_STATUS_ATELIER_READY 0
def tr (f : Trust → Trust) (s : State) : State := { s with trust := f s.trust }
def im : Image := ⟨0x123456, 3, 300, 1, 77⟩
def slots (l : List Slot) (s : State) : State := tr (fun t => { t with slots := l }) s
def clos (s : State) : State := (List.range 16).foldl (fun s k => s.updSes (k+1) (fun _ => Sess.fresh)) s
def two : List Slot := [⟨some im, true, 5⟩, ⟨some { im with keyIndex := 2 }, true, 50⟩]
/-- Each clause of `Obligations.AtelierTamperAndBoot` has a state and operands that meet its hypotheses. -/
theorem witness_AtelierTamperAndBoot :
    (let s : State := tr (fun (t : Trust) => { t with restarts := [5, 6] }) (at_ 0 (sg w0)); s.Inv ∧ s.atelier = true
      ∧ s.fb (base pDEV) DEV_FW_STATUS_SIGNET_READY = true ∧ s.fg (base pTRUST) TRUST_FW_ATELIER_STATE = 0 ∧ s.restState < 2
      ∧ s.fb (base pTRUST) TRUST_FW_TRIAL = false)
    -- cause := 2
    ∧ (let s : State := tr (fun (t : Trust) => { t with held := [], restarting := some 2 }) (at_ 1 w); s.Inv
      ∧ s.fb (base pDEV) DEV_FW_STATUS_SIGNET_READY = true ∧ s.fg (base pTRUST) TRUST_FW_ATELIER_STATE = 1 ∧ s.trust.recovery = false
      ∧ s.restState < 2 ∧ s.trust.damaged = [] ∧ s.trust.held = [] ∧ s.trust.restarting = some 2)
    ∧ (let s : State := sg w0; s.Inv ∧ s.fb (base pDEV) DEV_FW_STATUS_SIGNET_READY = true ∧ s.fg (base pTRUST) TRUST_FW_ATELIER_STATE = 1
      ∧ s.trust.recovery = false ∧ s.restState < 2 ∧ s.trust.damaged = [] ∧ s.trust.held = [] ∧ s.trust.restarting = none)
    ∧ (let s : State := w0; s.Inv ∧ s.onTrial = false)
    ∧ (let s : State := (slots two (at_ 0 (sg w0))).fs b TRUST_FW_TRIAL 1; s.Inv ∧ s.onTrial = true)
    -- lid := true
    ∧ (let s : State := sg (clos w0); s.Inv ∧ s.openList = [] ∧ (true = true ∨ s.fb (base pTRUST) TRUST_TAMPER_LOOP_EN = true)
      ∧ 17 < s.fg (base pTRUST) TRUST_LIFECYCLE_EPOCHS_LEFT ∧ s.fb (base pDEV) DEV_FW_STATUS_SIGNET_READY = true)
    ∧ (let s : State := w0; s.Inv ∧ s.fb (base pTRUST) TRUST_TAMPER_LOOP_EN = false)
    -- i := 0, m := { version := 0x123456, secVersion := 3, length := 300, keyIndex := 1, content := 77 }
    ∧ (let s : State := (slots two (at_ 0 (sg w0))).fs b TRUST_FW_TRIAL 1; s.Inv ∧ s.atelier = true ∧ 0 < 2
      ∧ (s.slot 0).image = some ⟨0x123456, 3, 300, 1, 77⟩ ∧ s.slotValid (1 - 0) = true)
    -- r := { type := 3, seq := 5, hours := 7 }
    ∧ (let s : State := tr (fun (t : Trust) => { t with records := [⟨3, 5, 7⟩] }) ((at_ 0 w).fs b TRUST_HOURS_VALUE 36000); s.Inv ∧ s.atelier = true
      ∧ s.trust.records = [⟨3, 5, 7⟩] ∧ 7 + 0x88F8 ≤ s.hours)
    -- o := ⟨1, 7, false⟩, key := 0xB007
    ∧ (let s : State := w0; s.Inv ∧ s.Accepts ⟨1, 7, false⟩ (base pDEV + DEV_RESET_CMD) (BitVec.ofNat 32 (0xB007 * 0x10000 + 1)) ∧ 0xB007 < 0x10000)
    -- o := ⟨1, 7, false⟩, key := 0
    ∧ (let s : State := w0; s.Inv ∧ s.Accepts ⟨1, 7, false⟩ (base pDEV + DEV_RESET_CMD) (BitVec.ofNat 32 (0 * 0x10000 + 1)) ∧ 0 < 0x10000
      ∧ 0 ≠ 0xB007)
    -- cause := 0
    ∧ (let s : State := w0; s.Inv ∧ 0 ≠ 1 ∧ 0 ≠ 4 ∧ Option.map (fun (x : Nat × Nat) => x.fst) s.trust.resetDue ≠ some 0)
    -- cause := 1
    ∧ (let s : State := w0; s.Inv ∧ 1 < 16 ∧ (1 = 1 ∨ 1 = 4 ∨ Option.map (fun (x : Nat × Nat) => x.fst) s.trust.resetDue = some 1)
      ∧ s.trust.settings = none)
    -- goodA := false, goodB := false, damaged := []
    ∧ (let s : State := sg w0; s.Inv ∧ (s.fb (base pDEV) DEV_FW_STATUS_SIGNET_READY = true ∨ s.tooHot = true))
    -- goodA := true, goodB := false, damaged := [], m := { version := 0, secVersion := 0, length := 256, keyIndex := 0, content := 0 }, p := 0
    ∧ (let s : State := w0; s.Inv ∧ s.fb (base pDEV) DEV_FW_STATUS_SIGNET_READY = false ∧ s.tooHot = false ∧ s.fg (base pTRUST) TRUST_FW_PREFERRED = 0
      ∧ (s.slot 0).image = some ⟨0, 0, 256, 0, 0⟩ ∧ (if 0 = 0 then true else false) = true ∧ s.fg (base pTRUST) TRUST_FW_SEC_MIN ≤ 0 ∧ 0 < 4
      ∧ bit s.trust.revoked 0 = false ∧ s.trust.tamperLeft = false ∧ 0 < 2 ^ 24)
    -- goodA := false, goodB := false
    ∧ (let s : State := slots [⟨none, false, 5⟩, ⟨none, false, 0⟩] w0; s.Inv ∧ s.fb (base pDEV) DEV_FW_STATUS_SIGNET_READY = false ∧ s.tooHot = false
      ∧ (s.slot 0).image = none ∧ (s.slot 1).image = none ∧ s.trust.tamperLeft = false) :=
  ⟨⟨inv_of_invB (by decide +kernel), by decide +kernel⟩,
  ⟨inv_of_invB (by decide +kernel), by decide +kernel⟩,
  ⟨inv_of_invB (by decide +kernel), by decide +kernel⟩,
  ⟨w0_inv, by decide +kernel⟩,
  ⟨inv_of_invB (by decide +kernel), by decide +kernel⟩,
  ⟨inv_of_invB (by decide +kernel), by decide +kernel⟩,
  ⟨w0_inv, by decide +kernel⟩,
  ⟨inv_of_invB (by decide +kernel), by decide +kernel⟩,
  ⟨inv_of_invB (by decide +kernel), by decide +kernel⟩,
  ⟨w0_inv, accepts_of_passes (by decide +kernel), by decide +kernel⟩,
  ⟨w0_inv, accepts_of_passes (by decide +kernel), by decide +kernel⟩,
  ⟨w0_inv, by decide +kernel⟩,
  ⟨w0_inv, by decide +kernel⟩,
  ⟨inv_of_invB (by decide +kernel), by decide +kernel⟩,
  ⟨w0_inv, by decide +kernel⟩,
  ⟨inv_of_invB (by decide +kernel), by decide +kernel⟩⟩
end Boots

/-! ### FeedsChangeAndTheLoopbackTestRuns, RestAndThermalStates -/
namespace Powers
def p : Nat := base pPWR
def tr (f : Trust → Trust) (s : State) : State := { s with trust := f s.trust }
def fd (a b : Nat) (hi : List Nat) (s : State) : State := { ((s.fs p PWR_FEED_STATUS_FEED0 a).fs p PWR_FEED_STATUS_FEED1 b) with power := { s.power with high := hi } }
def rdy (s : State) : State := (s.fs (base pDEV) DEV_FW_STATUS_SIGNET_READY 1).fs (base pDEV) DEV_FW_STATUS_ATELIER_READY 1
def capok (s : State) : State := (s.fs (base (pCAP 0)) HDR_PAGE_CTRL_EN 1).fs (base (pCAP 0)) CAP_CAP_STATUS_SETTLED 1
def busy (s : State) : State := { s.fs p PWR_LOOP_STATUS_BUSY 1 with power := { s.power with loopBy := 1 } }
def rs (n : Nat) (s : State) : State := s.fs p PWR_REST_STATUS_STATE n
def mem0 (s : State) : State := s.fs (base pMEMC) MEMC_STATUS_REINIT 0
def go (s : State) : State := tr (fun t => { t with started := true }) (rdy ((mem0 s).fs (base (pLINK 0)) LINK_STATUS_UP 1))
def sched (n : Nat) (s : State) : State := { s with scheds := [⟨3, some n, false⟩] }
/-- Each clause of `Obligations.FeedsChangeAndTheLoopbackTestRuns` has a state and operands that meet its hypotheses. -/
theorem witness_FeedsChangeAndTheLoopbackTestRuns :
    -- f := 0, volts := 0, ma := 0
    (let s : State := fd 0 2 [0] w0; s.Inv ∧ 0 < 2 ∧ 0 < 0x10000 ∧ 0 < 0x10000)
    -- o := ⟨1, 7, false⟩, i0 := true, i1 := false
    ∧ (let s : State := w0; s.Inv ∧ s.Accepts ⟨1, 7, false⟩ (base pPWR + PWR_FEED_CTRL) (BitVec.ofNat 32 (b2n true + 2 * b2n false)) ∧ (true = true
      ∧ s.fb (base pPWR) PWR_FEED_CTRL_ISOLATE0 = false ∨ false = true ∧ s.fb (base pPWR) PWR_FEED_CTRL_ISOLATE1 = false) ∧ (¬(s.feed 0 = 2
      ∧ true = false ∧ ¬0 ∈ s.power.high ∨ s.feed 1 = 2 ∧ false = false ∧ ¬1 ∈ s.power.high)))
    -- o := ⟨1, 7, false⟩, i0 := false, i1 := true
    ∧ (let s : State := w0; s.Inv ∧ s.Accepts ⟨1, 7, false⟩ (base pPWR + PWR_FEED_CTRL) (BitVec.ofNat 32 (b2n false + 2 * b2n true)) ∧ (¬(false = true
      ∧ s.fb (base pPWR) PWR_FEED_CTRL_ISOLATE0 = false ∨ true = true ∧ s.fb (base pPWR) PWR_FEED_CTRL_ISOLATE1 = false) ∨ s.feed 0 = 2
      ∧ false = false ∧ ¬0 ∈ s.power.high ∨ s.feed 1 = 2 ∧ true = false ∧ ¬1 ∈ s.power.high))
    -- f := 1
    ∧ (let s : State := fd 2 2 [1] w0; s.Inv ∧ 1 < 2 ∧ s.feed 1 = 2 ∧ s.power.high.contains 1 = true)
    -- f := 0
    ∧ (let s : State := w0; s.Inv ∧ 0 < 2 ∧ (s.feed 0 ≠ 2 ∨ s.power.high.contains 0 = false))
    ∧ (let s : State := w0; s.Inv ∧ s.trust.lost = 0 ∧ s.trust.settings = none)
    -- o := ⟨1, 7, false⟩, n := 0
    ∧ (let s : State := capok (w0.fs (base (pSTRM 0)) STRM_ACQ_STATUS_ACQUIRING 1); s.Inv
      ∧ s.Accepts ⟨1, 7, false⟩ (base pPWR + PWR_LOOP_CMD) (BitVec.ofNat 32 (256 + 0)) ∧ 0 < s.variant.caps ∧ s.owns 1 (pCAP 0) = true
      ∧ (s.acquiring 0 || s.armedUses (pCAP 0)) = true)
    -- o := ⟨1, 7, false⟩, n := 0
    ∧ (let s : State := capok w0; s.Inv ∧ s.Accepts ⟨1, 7, false⟩ (base pPWR + PWR_LOOP_CMD) (BitVec.ofNat 32 (256 + 0)) ∧ 0 < s.variant.caps
      ∧ s.owns 1 (pCAP 0) = true ∧ (s.acquiring 0 || s.armedUses (pCAP 0)) = false ∧ s.fb (base (pCAP 0)) HDR_PAGE_CTRL_EN = true
      ∧ s.fb (base (pCAP 0)) CAP_CAP_STATUS_SETTLED = true ∧ s.restState = 0 ∧ s.fb (base pPWR) PWR_LOOP_STATUS_BUSY = false)
    -- ampl := 0, time := 0
    ∧ (let s : State := busy (capok w0); s.Inv ∧ s.fb (base pPWR) PWR_LOOP_STATUS_BUSY = true ∧ Int.natAbs 0 < 0x8000 ∧ Int.natAbs 0 < 0x8000) :=
  ⟨⟨inv_of_invB (by decide +kernel), by decide +kernel⟩,
  ⟨w0_inv, accepts_of_passes (by decide +kernel), by decide +kernel⟩,
  ⟨w0_inv, accepts_of_passes (by decide +kernel), by decide +kernel⟩,
  ⟨inv_of_invB (by decide +kernel), by decide +kernel⟩,
  ⟨w0_inv, by decide +kernel⟩,
  ⟨w0_inv, by decide +kernel⟩,
  ⟨inv_of_invB (by decide +kernel), accepts_of_passes (by decide +kernel), by decide +kernel⟩,
  ⟨inv_of_invB (by decide +kernel), accepts_of_passes (by decide +kernel), by decide +kernel⟩,
  ⟨inv_of_invB (by decide +kernel), by decide +kernel⟩⟩
/-- Each clause of `Obligations.RestAndThermalStates` has a state and operands that meet its hypotheses. -/
theorem witness_RestAndThermalStates :
    -- o := ⟨2, 9, false⟩
    (let s : State := w0; s.Inv ∧ s.Accepts ⟨2, 9, false⟩ (base pPWR + PWR_REST_CMD) 1#32 ∧ s.owns 2 pCLK = false)
    -- o := ⟨1, 7, false⟩, c := Sys2Proof.Machine.Code.state
    ∧ (let s : State := w0; s.Inv ∧ s.Accepts ⟨1, 7, false⟩ (base pPWR + PWR_REST_CMD) 1#32 ∧ s.owns 1 pCLK = true ∧ s.restFails = some Code.state)
    -- o := ⟨1, 7, false⟩
    ∧ (let s : State := go w0; s.Inv ∧ s.Accepts ⟨1, 7, false⟩ (base pPWR + PWR_REST_CMD) 1#32 ∧ s.owns 1 pCLK = true ∧ s.restFails = none)
    ∧ (let s : State := rs 1 (go w0); s.Inv ∧ s.restState = 1)
    -- o := ⟨1, 7, false⟩
    ∧ (let s : State := w0; s.Inv ∧ s.Accepts ⟨1, 7, false⟩ (base pPWR + PWR_REST_CMD) 2#32 ∧ s.restState = 0)
    -- o := ⟨1, 7, false⟩
    ∧ (let s : State := rs 1 (go w0); s.Inv ∧ s.Accepts ⟨1, 7, false⟩ (base pPWR + PWR_REST_CMD) 2#32 ∧ (s.restState = 1 ∨ s.restState = 2))
    -- w := 500000000
    ∧ (let s : State := rs 2 (sched 500000000 w0); s.Inv ∧ s.restState = 2 ∧ s.nextDue = some 500000000)
    ∧ (let s : State := w0; s.Inv ∧ s.nextDue = none)
    ∧ (let s : State := (rs 3 (go w0)).fs (base pSPAD) SPAD_STATUS_MODE 3; s.Inv ∧ s.restState = 3)
    -- sensor := 0, temp := 0, st := 0
    ∧ (let s : State := w0; s.Inv ∧ s.hasSensor 0 = true ∧ 0 < 0x10000
      ∧ (0 = s.fg (base pTHERM) THERM_STATE_STATE ∨ thermFits (s.fg (base pTHERM) THERM_STATE_STATE) 0 (sext 16 0) = false))
    -- sensor := 0, temp := 1700
    ∧ (let s : State := w0; s.Inv ∧ s.hasSensor 0 = true ∧ 1700 < 0x10000 ∧ s.fg (base pTHERM) THERM_STATE_STATE = 0 ∧ 100 * 16 ≤ sext 16 1700)
    -- sensor := 0, temp := 2000
    ∧ (let s : State := w0; s.Inv ∧ s.hasSensor 0 = true ∧ 2000 < 0x10000 ∧ s.fg (base pTHERM) THERM_STATE_STATE = 0 ∧ 120 * 16 ≤ sext 16 2000)
    -- sensor := 0
    ∧ (let s : State := w0; s.Inv ∧ s.hasSensor 0 = true ∧ s.trust.lost = 0 ∧ s.trust.settings = none)
    -- out := false, temp := 0
    ∧ (let s : State := w0; s.Inv ∧ 0 < 0x10000) :=
  ⟨⟨w0_inv, accepts_of_passes (by decide +kernel), by decide +kernel⟩,
  ⟨w0_inv, accepts_of_passes (by decide +kernel), by decide +kernel⟩,
  ⟨inv_of_invB (by decide +kernel), accepts_of_passes (by decide +kernel), by decide +kernel⟩,
  ⟨inv_of_invB (by decide +kernel), by decide +kernel⟩,
  ⟨w0_inv, accepts_of_passes (by decide +kernel), by decide +kernel⟩,
  ⟨inv_of_invB (by decide +kernel), accepts_of_passes (by decide +kernel), by decide +kernel⟩,
  ⟨inv_of_invB (by decide +kernel), by decide +kernel⟩,
  ⟨w0_inv, by decide +kernel⟩,
  ⟨inv_of_invB (by decide +kernel), by decide +kernel⟩,
  ⟨w0_inv, by decide +kernel⟩,
  ⟨w0_inv, by decide +kernel⟩,
  ⟨w0_inv, by decide +kernel⟩,
  ⟨w0_inv, by decide +kernel⟩,
  ⟨w0_inv, by decide +kernel⟩⟩
end Powers

/-! ### AnEmptyQueueLetsATickPass, OrdinaryPagesTakeWritesOfTheirOwnersOnly, AbsentPagesReadZeroAndRefuseWrites, ScratchpadAboveTheRangeIsRefused, PostedWritesThatStopShortAreTold, MessagesThatFailTheirChecksAreDiscarded, WritablePairsCommitTogether, ResetLeavesTheStatedValues, HappeningsOfAbsentBlocksFault, AnswersAndNoticesReachTheirSessions -/
namespace Machine26
def nr (n : Nat) (m : Option Nat) : NoticeRec := ⟨n, w0.note pXPORT 0 n, m, 0⟩
def rel (n : Nat) : Rel := ⟨n, .ack, 5, 6, 0⟩
def full (s : State) : State := s.updSes 1 (fun q => { q with unacked := (List.range 1024).map (fun i => rel (i + 3)), txNext := 2000, notices := (List.range 1024).map (fun i => nr i none) })
def unm (m : Word) (s : State) : State := [pNOTE, pXPORT, pCLK, pGEN 0].foldl (fun s p => s.wr (sbase 1 p + 0x14) m) s
/-- Each clause of `Obligations.AnEmptyQueueLetsATickPass` has a state and operands that meet its hypotheses. -/
theorem witness_AnEmptyQueueLetsATickPass :
    (let s : State := w0; (∀ (e : Nat × Int), s.clk.sync.correction = some e → (s.now + 1) % 2 ^ 64 < e.fst) ∧ s.Idle ((s.now + 1) % 2 ^ 64)
      ∧ (∀ (e : Nat × Nat), s.trust.resetDue = some e → (s.now + 1) % 2 ^ 64 < e.snd) ∧ s.pending = [] ∧ (s.clk.hold = 0 ∨ s.clk.heldAt ≠ s.now)
      ∧ (s.fg (base pSYNC) SYNC_STATUS_STATE ≠ 5 ∨ (s.now + 1) % 2 ^ 64 < s.clk.sync.timeAt)
      ∧ (s.xport.ownQ = [] ∨ (s.now + 1) % 2 ^ 64 < s.xport.ownFree))
    ∧ (let s : State := { w0 with clk := { w0.clk with hold := 3 } }; s.pending = [] ∧ 0 < s.clk.hold ∧ s.clk.heldAt = s.now) :=
  ⟨⟨of_some (by decide +kernel), idle_of (by decide +kernel), of_some (by decide +kernel), by decide +kernel⟩,
  by decide +kernel⟩
/-- Each clause of `Obligations.OrdinaryPagesTakeWritesOfTheirOwnersOnly` has a state and operands that meet its hypotheses. -/
theorem witness_OrdinaryPagesTakeWritesOfTheirOwnersOnly :
    -- o := ⟨1, 7, false⟩, a := 0x41000, w := 0#32
    (let s : State := w0; s.isOpen 1 = true ∧ 0x41000 < 0x1000000 ∧ 0x41000 % 4 = 0 ∧ s.restState < 2 ∧ 0x41000 % 0x1000 ≠ 20
      ∧ 0x41000 % 0x1000 ≠ 24 ∧ s.pageIs (pageNo 0x41000) PageKind.ordinary = true ∧ s.owner (pageNo 0x41000) ≠ 1)
    -- o := ⟨1, 7, false⟩, a := 0x10000, w := 0#32
    ∧ (let s : State := w0; s.judge 1 0x10000 0#32 = Except.ok () ∧ s.isOpen 1 = true ∧ 0x10000 < 0x1000000 ∧ 0x10000 % 4 = 0 ∧ s.restState < 2
      ∧ 0x10000 % 0x1000 ≠ 20 ∧ 0x10000 % 0x1000 ≠ 24 ∧ s.pageIs (pageNo 0x10000) PageKind.ordinary = true) :=
  ⟨by decide +kernel,
  ⟨rfl, by decide +kernel⟩⟩
/-- Each clause of `Obligations.AbsentPagesReadZeroAndRefuseWrites` has a state and operands that meet its hypotheses. -/
theorem witness_AbsentPagesReadZeroAndRefuseWrites :
    -- o := ⟨1, 7, false⟩, a := 0x3FF000, w := 0#32
    let s : State := w0; s.isOpen 1 = true ∧ 0x3FF000 < 0x1000000 ∧ 0x3FF000 % 4 = 0 ∧ pageOf s.variant (pageNo 0x3FF000) = none :=
    by decide +kernel
/-- Each clause of `Obligations.ScratchpadAboveTheRangeIsRefused` has a state and operands that meet its hypotheses. -/
theorem witness_ScratchpadAboveTheRangeIsRefused :
    -- o := ⟨1, 7, false⟩, a := 0x105000000
    let s : State := { w0 with variant := Variant.ea0410 }; s.isOpen 1 = true ∧ 0x105000000 % 4 = 0
      ∧ spadBase + s.variant.banks * 0x400000 ≤ 0x105000000 ∧ 0x105000000 < 0x108000000 ∧ s.restState < 2 ∧ s.retired = false :=
    by decide +kernel
/-- Each clause of `Obligations.PostedWritesThatStopShortAreTold` has a state and operands that meet its hypotheses. -/
theorem witness_PostedWritesThatStopShortAreTold :
    -- k := 1, seq := 0, c := Sys2Proof.Machine.Code.limit, done := 0, addr := 0
    (let s : State := w0; s.Inv ∧ s.isOpen 1 = true ∧ Code.limit ≠ Code.ok ∧ bit (s.fg (sbase 1 pNOTE) HDR_PAGE_NOTICE_MASK_MASK) 1 = true
      ∧ (s.ses 1).notices.length < 1024)
    -- h := { sess := 1, token := 11, seq := 1, ack := 0, port := 0, lengthOk := true }, a := 1, ws := [], bs := []
    ∧ (let s : State := w0; s.Inv ∧ s.Hears ⟨1, 11, 1, 0, 0, true⟩ ∧ 1 % 4 ≠ 0 ∧ ∃ u : State, exec (.ack ⟨1, 11, 1, 0, 0, true⟩) s = .next u
      ∧ 1 = (u.ses 1).rxNext ∧ (u.ses 1).held = [] ∧ (u.ses 1).waiting = []) :=
  ⟨⟨w0_inv, by decide +kernel⟩,
  ⟨w0_inv, ⟨by decide +kernel, by decide +kernel, by decide +kernel, by decide +kernel, by decide +kernel⟩, by decide +kernel, _, rfl,
      by decide +kernel⟩⟩
/-- Each clause of `Obligations.MessagesThatFailTheirChecksAreDiscarded` has a state and operands that meet its hypotheses. -/
theorem witness_MessagesThatFailTheirChecksAreDiscarded :
    -- h := { sess := 1, token := 11, seq := 1, ack := 0, port := 0, lengthOk := true }, p := 0, why := Sys2Proof.DiscardWhy.outside
    (let s : State := w0; s.Inv ∧ 0 < 2)
    -- h := { sess := 3, token := 0, seq := 0, ack := 0, port := 0, lengthOk := true }
    ∧ (let s : State := w0; s.Inv ∧ s.isOpen 3 = false)
    -- h := { sess := 2, token := 22, seq := 6, ack := 9, port := 3, lengthOk := true }
    ∧ (let s : State := w0; s.Inv ∧ s.isOpen 2 = true ∧ s.now < s.leaseEnd 2 ∧ ((s.ses 2).token ≠ 22 ∨ s.usesPort 2 (3 % 2) = false))
    -- h := { sess := 1, token := 11, seq := 0, ack := 0, port := 0, lengthOk := false }
    ∧ (let s : State := w0; s.Inv ∧ s.isOpen 1 = true ∧ s.now < s.leaseEnd 1 ∧ (s.ses 1).token = 11 ∧ s.usesPort 1 (0 % 2) = true) :=
  ⟨⟨w0_inv, by decide +kernel⟩,
  ⟨w0_inv, by decide +kernel⟩,
  ⟨w0_inv, by decide +kernel⟩,
  ⟨w0_inv, by decide +kernel⟩⟩
/-- Each clause of `Obligations.WritablePairsCommitTogether` has a state and operands that meet its hypotheses. -/
theorem witness_WritablePairsCommitTogether :
    -- o := ⟨1, 7, false⟩, a := 0x10064, w := 0#32
    (let s : State := w0; s.Inv ∧ s.judgeHead 1 0x10064 = Except.ok () ∧ s.isOpen 1 = true ∧ 0x10064 < 0x1000000 ∧ 0x10064 % 8 = 4
      ∧ s.inPairW 0x10064 = true)
    -- o := ⟨1, 7, false⟩, a := 0x41054, w := 0#32, c := Sys2Proof.Machine.Code.owner
    ∧ (let s : State := w0; s.Inv ∧ s.judgeHead 1 0x41054 = Except.error Code.owner ∧ s.isOpen 1 = true ∧ 0x41054 < 0x1000000 ∧ 0x41054 % 8 = 4
      ∧ s.inPairW 0x41054 = true)
    -- o := ⟨1, 7, false⟩, a := 0x10060, lo := 0#32, c := Sys2Proof.Machine.Code.busy
    ∧ (let s : State := w0.fs (base pCLK) HDR_PAGE_CTRL_BUSY 1; let a : Nat := base pCLK + 0x060; let t : State := s.updSes 1 (fun q => { q with writeShadow := q.writeShadow.filter (fun e => e.1 != a + 4) }); s.Inv
      ∧ t.judge 1 a 0#32 = .error .busy ∧ s.isOpen 1 = true ∧ a < 0x1000000 ∧ a % 8 = 0 ∧ s.inPairW a = true)
    -- o := ⟨1, 7, false⟩, a := 0x11068, lo := 0#32, u := { variant := Sys2Proof.Variant.ea1640,   regs := [(0x10008, 0x00000001#32),      …
    ∧ (let s : State := w0; s.Inv
      ∧ (s.updSes 1 fun (q : Sess) => { q with writeShadow := List.filter (fun (e : Nat × Word) => e.fst != 0x11068 + 4) q.writeShadow }).judge 1 0x11068 0#32 = Except.ok ()
      ∧ (s.updSes 1 fun (q : Sess) => { q with writeShadow := List.filter (fun (e : Nat × Word) => e.fst != 0x11068 + 4) q.writeShadow }).judge 1 (0x11068 + 4) ((Option.map (fun (x : Nat × Word) => x.snd) (List.find? (fun (e : Nat × Word) => e.fst == 0x11068 + 4) (s.ses 1).writeShadow)).getD (s.rd (s.keyFor 1 (0x11068 + 4)))) = Except.ok ()
      ∧ (∃ u, (s.updSes 1 fun (q : Sess) => { q with writeShadow := List.filter (fun (e : Nat × Word) => e.fst != 0x11068 + 4) q.writeShadow }).pairEffect 1 0x11068 (0#32) ((Option.map (fun (x : Nat × Word) => x.snd) (List.find? (fun (e : Nat × Word) => e.fst == 0x11068 + 4) (s.ses 1).writeShadow)).getD (s.rd (s.keyFor 1 (0x11068 + 4)))) = .ok u)
      ∧ s.isOpen 1 = true ∧ 0x11068 < 0x1000000 ∧ 0x11068 % 8 = 0 ∧ s.inPairW 0x11068 = true)
    -- o := ⟨1, 7, false⟩, a := 0x11068, lo := 0#32
    ∧ (let s : State := w0; s.Inv
      ∧ (s.updSes 1 fun (q : Sess) => { q with writeShadow := List.filter (fun (e : Nat × Word) => e.fst != 0x11068 + 4) q.writeShadow }).judge 1 0x11068 0#32 = Except.ok ()
      ∧ (s.updSes 1 fun (q : Sess) => { q with writeShadow := List.filter (fun (e : Nat × Word) => e.fst != 0x11068 + 4) q.writeShadow }).judge 1 (0x11068 + 4) ((Option.map (fun (x : Nat × Word) => x.snd) (List.find? (fun (e : Nat × Word) => e.fst == 0x11068 + 4) (s.ses 1).writeShadow)).getD (s.rd (s.keyFor 1 (0x11068 + 4)))) = Except.ok ()
      ∧ s.isOpen 1 = true ∧ 0x11068 < 0x1000000 ∧ 0x11068 % 8 = 0 ∧ s.inPairW 0x11068 = true ∧ 0x11068 ≠ base pCLK + CLK_GEN_RATE
      ∧ 0x11068 ≠ base pCLK + CLK_CAP_RATE ∧ (¬(100 ≤ pageNo 0x11068 ∧ pageNo 0x11068 < 104 ∧ 0x11068 % 0x1000 = STRM_RING_SIZE))) :=
  ⟨⟨w0_inv, rfl, by decide +kernel⟩,
  ⟨w0_inv, rfl, by decide +kernel⟩,
  ⟨inv_of_invB (by decide +kernel), rfl, by decide +kernel⟩,
  ⟨w0_inv, rfl, rfl, ⟨_, rfl⟩, by decide +kernel⟩,
  ⟨w0_inv, rfl, rfl, by decide +kernel⟩⟩
/-- Each clause of `Obligations.ResetLeavesTheStatedValues` has a state and operands that meet its hypotheses. -/
theorem witness_ResetLeavesTheStatedValues :
    -- k := 1
    (1 ≤ 1 ∧ 1 ≤ 16)
    -- a := 0x100000000
    ∧ (spadBase ≤ 0x100000000) :=
  ⟨by decide +kernel,
  by decide +kernel⟩
/-- Each clause of `Obligations.HappeningsOfAbsentBlocksFault` has a state and operands that meet its hypotheses. -/
theorem witness_HappeningsOfAbsentBlocksFault :
    -- n := 16
    (let s : State := w0; s.variant.gens ≤ 16)
    -- n := 4
    ∧ (let s : State := w0; s.variant.caps ≤ 4)
    -- n := 8
    ∧ (let s : State := w0; s.variant.mifs ≤ 8)
    -- n := 2
    ∧ (2 ≤ 2) :=
  ⟨by decide +kernel,
  by decide +kernel,
  by decide +kernel,
  by decide +kernel⟩
/-- Each clause of `Obligations.AnswersAndNoticesReachTheirSessions` has a state and operands that meet its hypotheses. -/
theorem witness_AnswersAndNoticesReachTheirSessions :
    -- k := 1, seq := 1, c := Sys2Proof.Machine.Code.ok, done := 1, addr := 1, data := []
    (let s : State := w0; s.Inv ∧ s.isOpen 1 = true ∧ (s.ses 1).unacked.length < 1024)
    -- k := 1, seq := 1, c := Sys2Proof.Machine.Code.ok, done := 1, addr := 1, data := []
    ∧ (let s : State := full w0; s.Inv ∧ s.isOpen 1 = true ∧ 1024 ≤ (s.ses 1).unacked.length)
    -- k := 1, o := ⟨1, 7, true⟩
    ∧ (let s : State := w0; s.Inv ∧ s.isOpen 1 = true)
    -- k := 1, n := { page := 162, code := 3, time := 0, w0 := 5, w1 := 0, w2 := 0, w3 := 0 }
    ∧ (let s : State := unm (0#32) w0; s.Inv ∧ s.isOpen 1 = true ∧ 3 < 32 ∧ 162 < 0x1000 ∧ 162 ≠ pNOTE
      ∧ bit (s.fg (sbase 1 162) HDR_PAGE_NOTICE_MASK_MASK) 3 = false)
    -- k := 1, n := { page := 162, code := 3, time := 0, w0 := 5, w1 := 0, w2 := 0, w3 := 0 }
    ∧ (let s : State := w0; s.Inv ∧ s.isOpen 1 = true ∧ 3 < 32 ∧ 162 < 0x1000 ∧ 162 ≠ pNOTE
      ∧ (¬bit (s.fg (sbase 1 162) HDR_PAGE_NOTICE_MASK_MASK) 3 = false) ∧ (s.ses 1).notices.length < 1024
      ∧ (s.ses 1).later s.now (s.formOf ⟨162, 3, 0, 5, 0, 0, 0⟩) = [])
    -- k := 1, n := { page := 162, code := 3, time := 0, w0 := 5, w1 := 0, w2 := 0, w3 := 0 }
    ∧ (let s : State := full w0; s.Inv ∧ s.isOpen 1 = true ∧ 3 < 32 ∧ 162 < 0x1000 ∧ 162 ≠ pNOTE
      ∧ (¬bit (s.fg (sbase 1 162) HDR_PAGE_NOTICE_MASK_MASK) 3 = false) ∧ 1024 ≤ (s.ses 1).notices.length) :=
  ⟨⟨w0_inv, by decide +kernel⟩,
  ⟨inv_of_invB (by decide +kernel), by decide +kernel⟩,
  ⟨w0_inv, by decide +kernel⟩,
  ⟨inv_of_invB (by decide +kernel), by decide +kernel⟩,
  ⟨w0_inv, by decide +kernel⟩,
  ⟨inv_of_invB (by decide +kernel), by decide +kernel⟩⟩
end Machine26

/-! ### EveryStepKeepsTheInvariant, CommandsLeaveVariantAndQueue, and the clauses above that need no state -/
namespace Steps
/-- A state of the invariant with a command waiting, whose step answers a next state; and one with none waiting. -/
theorem witness_EveryStepKeepsTheInvariant :
    ({ w0 with pending := [.refLoss] }.Inv ∧ ∃ t : State, step { w0 with pending := [.refLoss] } = .next t)
    ∧ w0.Inv ∧ ∃ t : State, step w0 = .next t :=
  ⟨⟨inv_of_invB (by decide +kernel), _, rfl⟩, inv_of_invB (by decide +kernel), _, rfl⟩
theorem witness_CommandsLeaveVariantAndQueue : ∃ t : State, exec .refLoss w0 = .next t := ⟨_, rfl⟩
theorem witness_HappeningsOfAbsentPanicsSensorsAndPages : 28 ≤ 28 ∧ w0.hasSensor 8 = false ∧ pageOf w0.variant 0x0FF = none := by decide +kernel
end Steps

/-! ### Well-formedness: a term that each check refuses -/
namespace Wf
/-- A single access of session 1, and of no session. -/
def o : Org := ⟨1, 7, false⟩
def oBad : Org := ⟨17, 7, false⟩
def h : Hdr := ⟨1, 11, 1, 0, 0, true⟩
def rq : OpenReq := ⟨0, 5, 0, 3, 0, false, false, false, 100, 0, 0⟩
theorem test_wf_takes : [Instr.registerWrite o 0x10064 0, .openReq rq, .close h, .noticeRawClear o 0xFFF 0 0, .retransmit 16 1, .portUp 1,
    .read h 0x100 256, .write h true 0x100 [1], .bulk h true 0x100 (List.replicate 64 0), .submit o 1023, .inject o 255,
    .laneContention (.lane 3 7), .flashRefresh (.record 6)].all (fun i => i.wf) = true := by decide +kernel
theorem test_wf_refuses_sessions : [Instr.registerWrite oBad 0x10064 0, .registerWrite ⟨0, 7, false⟩ 0x10064 0, .close { h with sess := 0 },
    .bareAckSend 17, .groupEnable (.write oBad) 3].all (fun i => !i.wf) = true := by decide +kernel
theorem test_wf_refuses_headers : [Instr.close { h with port := 2 }, .ack { h with token := 2 ^ 64 }, .portUp 2].all (fun i => !i.wf) = true := by
  decide +kernel
theorem test_wf_refuses_addresses : [Instr.registerWrite o 0x10066 0, .shadowLowRead o (2 ^ 48), .hostMemoryAccess h (.read 2 1),
    .hostMemoryAccess h (.write true (2 ^ 48) [1]), .hostMemoryAccess h (.bulk true 1 (List.replicate 64 0))].all (fun i => !i.wf) = true := by
  decide +kernel
theorem test_wf_refuses_sizes : [Instr.read h 0x100 0, .read h 0x100 257, .write h true 0x100 [], .write h true 0x100 (List.replicate 65 0),
    .bulk h true 0x100 (List.replicate 63 0), .bulk h true 0x100 (List.replicate 65 0), .streamAck h [], .streamAck h [⟨0, false, 4, 1, 0⟩]].all
      (fun i => !i.wf) = true := by decide +kernel
theorem test_wf_refuses_open_requests : [Instr.openReq { rq with port := 2 }, .openReq { rq with hostId := 65536 }, .openReq { rq with target := 256 },
    .openReq { rq with leaseMs := 65536 }, .openReq { rq with alt := 2 ^ 128 }, .openReq { rq with altUdp := 65536 }].all (fun i => !i.wf) = true := by
  decide +kernel
theorem test_wf_refuses_numbers : [Instr.claimPage o 4096, .plateClaim o 256, .submit o 1024, .claimGroup o 16, .spadTestGo o 32, .retrain o 6,
    .queueClaim o 16, .stream 4, .outputSettled 16, .timingBurst true 4 .quiet, .timingBurst false 16 .quiet, .laneFormatSettled 4, .commitGo o 20,
    .trigOutEvent 4, .arm o 64, .inject o 256, .graverJump 0 4 0 [] (0, 0), .markerEdge 0 2 0, .jcacheFillDone 0 .active 6,
    .tableCapacityWrite o 0 65, .thermalTrip 8, .feedHighRejoin 2, .syncPublish 2, .portPanic 28 0].all (fun i => !i.wf) = true := by decide +kernel
theorem test_wf_refuses_fields : [Instr.pullErr h 0 256, .moduleResetCmd o 65536 true, .moduleReset 0, .moduleReset 5, .trigInEdge 0 true 0 65536,
    .acqBegin 4, .genRateWrite o (2 ^ 48), .ppsCapture 0 65536, .ppsModeWrite o 4, .roleWrite o 4, .take o 65536 0, .take o 0 16,
    .restore o true 8, .tailWrite o 0 64, .feedChange 2 0 0, .flashRefresh (.record 0), .flashRefresh (.slot 2)].all (fun i => !i.wf) = true := by
  decide +kernel
theorem test_wf_refuses_drivers : [DriverPort.lane 4 0, .lane 0 8, .trigIn 4, .trigOut 4, .output 16].all (fun p => !(Instr.laneContention p).wf) = true := by
  decide +kernel
end Wf

/-! ### Single steps, with what the manual's worked examples say -/
namespace Single
/-- The command answers a next state, and `p` holds of it. -/
def after (c : Instr) (s : State) (p : State → Bool) : Bool :=
  match exec c s with
  | .next t => p t
  | _ => false
def o : Org := ⟨1, 7, true⟩

/-- 17_register_map.md, worked example: the high word 0x0000_4000 at 0x045054 waits in the write shadow. -/
def wGen5 : State := mine w0 (pGEN 5)
theorem test_high_word_waits : after (.shadowHighWrite o 0x45054 0x4000) wGen5
    (fun t => t.rd 0x45054 == wGen5.rd 0x45054 && (t.ses 1).writeShadow == [(0x45054, 0x4000)]) = true := by decide +kernel
/-- The same example: the low word at 0x045050 commits both. -/
def wShadow : State := wGen5.updSes 1 (fun q => { q with writeShadow := [(0x45054, 0x4000)] })
theorem test_low_word_commits_both : after (.shadowLowWrite o 0x45050 0) wShadow
    (fun t => t.rd 0x45054 == 0x4000 && t.rd 0x45050 == 0 && (t.ses 1).writeShadow == []) = true := by decide +kernel
/-- The same example: armed meanwhile, scenario 12 uses GEN5, so neither word changes, the shadow empties, and POSTED_FAIL_COUNT rises by 1. -/
def wArmed : State := put wShadow [(scenAddr 12 + 0x14, 0x20), (scenAddr 12 + 0xC0, 0x00010002)]
theorem test_armed_pair_is_locked : after (.shadowLowWrite o 0x45050 0) wArmed
    (fun t => t.rd 0x45054 == wArmed.rd 0x45054 && (t.ses 1).writeShadow == []
      && t.fg (sbase 1 pXPORT) XPORT_POSTED_FAIL_COUNT_COUNT == 1) = true := by decide +kernel

/-- 08_capture_triggers.md, worked example: CAP1 at 10 GS/s, with the register words that the example writes. -/
def wCap1 : State :=
  let b := base (pCAP 1)
  let s := reg w0 [(b + 0x100, 0x00000215), (b + CAP_TRIG_LEVEL, 0x00A40333), (b + CAP_TRIG_T1, 0x5000), (b + CAP_TRIG_T2, 0x6400),
    (b + CAP_TRIG_HOLDOFF, 0x2710)]
  let s := (s.wr64 (base pCLK + CLK_CAP_RATE) 10000000000000).fs (base (pSTRM 1)) STRM_ACQ_STATUS_ACQUIRING 1
  s.updTrc 1 (fun t => { t with grids := [(⟨5000000000 * 2 ^ 40, 0, 0⟩, 10000000000000)], segs := [(0, 0, 3)] })
/-- The pulse of the example, and the second pulse, 400 ns later. -/
def pulse : TrigRec := ⟨125004, 1024 * 1000025 + 768, 5, 23040, false⟩
def pulse2 : TrigRec := ⟨125504, 1024 * 1004026 + 512, 5, 23040, false⟩
theorem test_pulse_is_taken : ((wCap1.judgeTriggers 1 [pulse]).trc 1).trigs = [pulse] := by decide +kernel
def wCap1b : State := wCap1.judgeTriggers 1 [pulse]
theorem test_second_pulse_falls_in_holdoff : (wCap1b.judgeTriggers 1 [pulse2]).fg (base (pCAP 1)) CAP_TRIG_HOLDOFF_COUNT_COUNT = 1
    ∧ ((wCap1b.judgeTriggers 1 [pulse2]).trc 1).trigs.length = 1 := by decide +kernel
theorem test_trigger_record : after (.triggerRecord 1) wCap1b (fun t =>
    let b := base (pCAP 1)
    t.rd64 (b + CAP_TRIG_POS) == 1000025 && t.fg b CAP_TRIG_SUB_SUBSAMPLE == 768 && t.rd64 (b + CAP_TRIG_TIME) == 5000300007
      && t.fg b CAP_TRIG_SUB_FRAC == 47513 && t.fg b CAP_TRIG_WIDTH_WIDTH == 0x5A00 && t.fg b CAP_TRIG_STATUS_TYPE == 5) = true := by decide +kernel

/-- 10_crosshatch_event_fabric.md, worked example: channel 36 of producer 0x0900 in group 2, which a write to 0x0A0 has disabled, TRIG_OUT0 subscribing. -/
def wXh : State :=
  let s := reg (mine w0 (pPAT 0)) [(0x20340, 0x00000900), (base (pPAT 0) + TRG_TRIG_OUT_SUB 0, 36)]
  (((s.setCh 36 XH_CH_STAT_OWNER 1).setGrp 2 XH_GRP_CTRL_STATE 0).setGrp 2 XH_GRP_CTRL_OWNER 1)
theorem test_producer_publishes : after (.eventPublish 36 0x900) wXh (fun t => t.xh.published == [(36, 0)]) = true := by decide +kernel
/-- The event is counted in SUPP_GROUP of the record at 0x0868_4000 and in GRP2_SUPP. -/
theorem test_disabled_group_suppresses : after (.eventFabricTick 36 0) { wXh with xh := { wXh.xh with published := [(36, 0)] } }
    (fun t => t.ld 0x08684010 8 == 1 && t.grpF 2 XH_GRP_SUPP_COUNT == 1 && t.xh.crossing == []) = true := by decide +kernel
/-- With group 2 enabled it passes. -/
theorem test_enabled_group_passes : after (.eventFabricTick 36 0) { (wXh.setGrp 2 XH_GRP_CTRL_STATE 1) with xh := { wXh.xh with published := [(36, 0)] } }
    (fun t => t.ld 0x08684010 8 == 0 && t.xh.crossing.map (fun e => (e.consumer, e.chan)) == [(0x400, 36)]) = true := by decide +kernel

/-- R475: a page that nobody owns is the session's after CLAIM_PAGE, and nobody's after RELEASE_PAGE. -/
theorem test_claim_page : after (.claimPage o (pGEN 5)) w0 (fun t => t.owner (pGEN 5) == 1) = true := by decide +kernel
theorem test_release_page : after (.releasePage o (pGEN 5)) wGen5 (fun t => t.owner (pGEN 5) == 0) = true := by decide +kernel
/-- R489: a bit set in the same cycle as its clearing stays set. -/
def wNote : State := w0.wr (sbase 1 (pGEN 5) + 0x018) 3
theorem test_notice_raw_clear : after (.noticeRawClear o (pGEN 5) 3 2) wNote (fun t => t.rd (sbase 1 (pGEN 5) + 0x018) == 2) = true := by decide +kernel
/-- R482: a page that the page index does not list reads 0. -/
theorem test_unlisted_page_reads_zero : after (.shadowLowRead ⟨1, 7, false⟩ 0x00FF000) w0
    (fun t => (t.xport.sent.head?).map (·.msg) == some (.response 7 0 1 0 [0])) = true := by decide +kernel
/-- R336: with nothing waiting, device time advances by one tick (assumption log, entry 6). -/
theorem test_tick : (match step w0 with | .next t => t.now == w0.now + 1 | _ => false) = true := by decide +kernel
end Single

end Sys2Proof.Tests
end

section
/-! Every command is steady: it keeps the variant, the queue of commands and the invariant, arm by arm of `exec`, by the lemma of the
operation that gives the command its meaning. -/
namespace Sys2Proof.Machine
open Sys2Proof
variable {z s t : State}

/-! ### Choices -/

/-- Of two states that are both steady from `z`, the one that a condition picks. -/
theorem Steady.ite {p : Prop} [Decidable p] (h : z.Steady s) (k : z.Steady t) : z.Steady (if p then s else t) := by
  split
  · exact h
  · exact k
theorem SteadyAct.ite {p : Prop} [Decidable p] {a b : Act} (h : z.SteadyAct a) (k : z.SteadyAct b) : z.SteadyAct (if p then a else b) := by
  split
  · exact h
  · exact k
theorem SteadyOut.ite {p : Prop} [Decidable p] {a b : Host.Outcome State Fault Refusal} (h : z.SteadyOut a) (k : z.SteadyOut b) :
    z.SteadyOut (if p then a else b) := by
  split
  · exact h
  · exact k
/-- Device time set. -/
theorem Steady.setNow (h : z.Steady s) (n : Nat) : z.Steady { s with now := n } := Steady.lit h rfl

/-! ### The commands whose meaning chooses among several operations, or changes a field of its own -/

theorem execCounterClear_steady (h : z.Steady s) (o : Org) (a : Nat) (mask again : Word) : z.SteadyOut (execCounterClear o a mask again s) := by
  refine SteadyOut.next (State.hostReg_steady h _ _ _ _ fun t ht => ?_)
  split
  · exact SteadyAct.error _
  · split
    case h_1 e => exact Steady.of_opt e (State.cntClear_steady ht _ _ _ _ _ _ _)
    case h_2 => exact State.regEffect_steady ht ..
theorem execNoticeRawClear_steady (h : z.Steady s) (o : Org) (p : Nat) (mask again : Word) : z.SteadyOut (execNoticeRawClear o p mask again s) :=
  SteadyOut.next (State.hostReg_steady h _ _ _ _ fun _ ht => SteadyAct.ok (State.wr_steady (State.plain_steady ht ..) ..))
theorem execCredit_steady (h : z.Steady s) (m : Hdr) (grant : Nat) : z.SteadyOut (execCredit m grant s) :=
  SteadyOut.next (State.onMsg_steady h _ _ fun _ ht => Steady.ite (State.fs_steady ht ..) ht)
theorem execPortDown_steady (h : z.Steady s) (p : Nat) (los : Bool) : z.SteadyOut (execPortDown p los s) := by
  have ht := State.portDown_steady (State.fs_steady (State.fs_steady h (linkBase p) LINK_STATUS_LOS (b2n los) 0) (linkBase p) LINK_STATUS_ALIGNED 0 0) (p % 2)
  exact onPort2_steady (Steady.ite (State.wake_steady ht ..) ht) ..
theorem execOutputSettled_steady (h : z.Steady s) (n : Nat) : z.SteadyOut (execOutputSettled n s) := by
  have ht := State.updGen_steady h n (fun g => { g with settling := false })
  exact SteadyOut.ite (SteadyOut.fault _) (SteadyOut.next (Steady.ite (State.unmute_steady ht ..) ht))
theorem execFill_steady (h : z.Steady s) (g : Nat) (cause : FillCause) (first missing before after : Nat) :
    z.SteadyOut (execFill g cause first missing before after s) := by
  have ht : ∀ n f, z.Steady ((s.countFill g n).updGrv g f) := fun n f => State.updGrv_steady (State.countFill_steady h ..) ..
  cases cause with
  | ecc => exact State.onGraver_steady (Steady.ite (ht _ _) (State.notify_steady (ht _ _) _)) ..
  | underrun =>
    refine State.onGraver_steady (Steady.ite ?_ (State.notify_steady ?_ _)) .. <;>
      exact Steady.ite (State.countBy_steady (ht _ _) ..) (State.countBy_steady (ht _ _) ..)
theorem execStylusSlotLoad_steady (h : z.Steady s) (n desc late : Nat) : z.SteadyOut (execStylusSlotLoad n desc late s) := by
  have ht := State.updGen_steady h n (fun g => { g with slots := g.slots.map (fun e => if e.1 = desc then (desc, true) else e) })
  refine SteadyOut.ite (SteadyOut.fault _) (SteadyOut.next ?_)
  split
  · exact Steady.ite (State.lateEnds_steady ht ..) ht
  · exact ht
theorem execShadowResyncDone_steady (h : z.Steady s) (g : Nat) : z.SteadyOut (execShadowResyncDone g s) :=
  State.onGraver_steady (Steady.ite (Steady.lit (State.fs_steady (State.copyMem_steady h ..) ..) rfl) h) ..
theorem execActionTime_steady (h : z.Steady s) (k : Nat) : z.SteadyOut (execActionTime k s) := by
  refine SteadyOut.next (State.actTime_steady ?_ _)
  split
  · exact Steady.ite (State.settled_steady h) (State.moveTo_steady h _)
  · exact State.settled_steady h
theorem execSchedDue_steady (h : z.Steady s) (i : Nat) : z.SteadyOut (execSchedDue i s) := by
  refine SteadyOut.next ?_
  split
  · exact State.moveTo_steady h _
  · exact State.settled_steady h
theorem execLaneFormatSettled_steady (h : z.Steady s) (g : Nat) : z.SteadyOut (execLaneFormatSettled g s) := by
  refine State.onGroup_steady ?_ ..
  exact Steady.lit h rfl
theorem execLaneOvercurrent_steady (h : z.Steady s) (p : DriverPort) : z.SteadyOut (execLaneOvercurrent p s) := by
  refine State.onPort_steady ?_ ..
  split
  · exact h
  · exact State.overcurrent_steady h _
theorem execLaneContention_steady (h : z.Steady s) (p : DriverPort) : z.SteadyOut (execLaneContention p s) := by
  refine State.onPort_steady ?_ ..
  split
  · exact h
  · exact h
  · exact State.contention_steady h _
theorem execReenableHoldExpiry_steady (h : z.Steady s) (p : DriverPort) : z.SteadyOut (execReenableHoldExpiry p s) := by
  refine State.onPort_steady ?_ ..
  split
  · exact State.reexamine_steady (Steady.setNow h _) _
  · exact State.tryEnable_steady (Steady.setNow h _) _
theorem execFrontEndSettled_steady (h : z.Steady s) (n : Nat) : z.SteadyOut (execFrontEndSettled n s) := by
  refine State.onCap_steady h _ _ fun _ ht => ?_
  exact Steady.ite (State.fs_steady ht ..) ht
theorem execStencilMaskWrite_steady (h : z.Steady s) (o : Org) (a : Nat) (w : Word) : z.SteadyOut (execStencilMaskWrite o a w s) := by
  refine SteadyOut.next (Steady.ite (State.hostMem_steady h _ _ _ fun _ ht => ?_) (State.hostReg_steady h _ _ _ _ fun _ ht => ?_))
  · exact SteadyAct.ite (State.maskWrite_steady ht ..) (SteadyAct.error _)
  · exact SteadyAct.ite (State.stencilReg_steady ht ..) (SteadyAct.error _)
theorem execTrigInEdge_steady (h : z.Steady s) (k : Nat) (rising : Bool) (ticks frac : Nat) : z.SteadyOut (execTrigInEdge k rising ticks frac s) := by
  have ht := State.trigEdge_steady h k rising ticks frac
  exact onTrig_steady (Steady.ite (State.wake_steady ht ..) ht) ..
theorem execWindowVerdict_steady (h : z.Steady s) (n : Nat) (w : ProofWindow) : z.SteadyOut (execWindowVerdict n w s) := by
  refine State.onChan_steady ?_ ..
  split
  · exact h
  · have hv := State.verdict_steady (State.toGf_steady h (w.first + winCycles (s.stenFor n w.first).cfg + 191)) n w
    exact Steady.ite (State.proofStop_steady hv ..) hv
theorem execProofTestDone_steady (h : z.Steady s) (n : Nat) (samples : List ProofSample) : z.SteadyOut (execProofTestDone n samples s) :=
  State.onChan_steady (Steady.ite (State.testEnd_steady (Steady.setNow h _) ..) h) ..
theorem execModelTakesEffect_steady (h : z.Steady s) (n : Nat) : z.SteadyOut (execModelTakesEffect n s) := by
  refine State.onChan_steady ?_ ..
  split
  · exact State.modelsTake_steady (State.toGf_steady h _) ..
  · exact State.modelsTake_steady h ..
theorem execEventFabricTick_steady (h : z.Steady s) (c merged : Nat) : z.SteadyOut (execEventFabricTick c merged s) := by
  refine SteadyOut.next ?_
  split
  · exact State.fabricTick_steady (State.moveTo_steady h _) ..
  · exact h
theorem execLevelHoldExpiry_steady (h : z.Steady s) (c : Nat) : z.SteadyOut (execLevelHoldExpiry c s) := by
  refine SteadyOut.next ?_
  split
  · exact Steady.ite (State.moveTo_steady h _) h
  · exact h
theorem execUnlock_steady (h : z.Steady s) : z.SteadyOut (execUnlock s) := by
  have ht := State.fs_steady h (base pCLK) CLK_REF_STATUS_LOCK_HIGH 0 0
  exact SteadyOut.next (Steady.ite (State.refSwitch_steady ht _) ht)
theorem execSyncPublish_steady (h : z.Steady s) (line : Nat) : z.SteadyOut (execSyncPublish line s) := by
  have ht := State.symbolOut_steady h (line % 2)
  exact SteadyOut.next (Steady.ite (State.wake_steady ht ..) ht)
theorem execBurnishBoundary_steady (h : z.Steady s) : z.SteadyOut (execBurnishBoundary s) :=
  SteadyOut.next (State.burnish_steady (Steady.lit (Steady.foldl _ (State.toTime_steady h _) fun _ _ ht => State.takeNow_steady ht ..) rfl))
theorem execMemEcc_steady (h : z.Steady s) (a req inst : Nat) : z.SteadyOut (execMemEcc a req inst s) := by
  have ht := State.memUe_steady (State.markBad_steady h a) a req inst
  exact SteadyOut.next (Steady.ite (Steady.ite (State.gapUnsent_steady ht _) ht) h)
theorem execDramTempPoll_steady (h : z.Steady s) (temps : List (Int × Int)) : z.SteadyOut (execDramTempPoll temps s) :=
  SteadyOut.next (Steady.foldl _ h fun _ _ ht => State.pollOne_steady ht ..)
theorem execSpadCollision_steady (h : z.Steady s) (host : Bool) (o : Org) (a : Nat) (w : Word) : z.SteadyOut (execSpadCollision host o a w s) := by
  have hc : ∀ f, z.Steady (s.count (base pSPAD) f) := fun f => State.count_steady h ..
  exact SteadyOut.next (Steady.ite
    (Steady.ite (hc _) (Steady.ite (State.writeReport_steady (hc _) ..) (State.count_steady (hc _) ..)))
    (Steady.ite (State.hostWord_steady (hc _) ..) (hc _)))
theorem execHostMemoryAccess_steady (h : z.Steady s) (m : Hdr) (a : MemAccess) : z.SteadyOut (execHostMemoryAccess m a s) := by
  cases a <;> exact SteadyOut.next (State.arrives_steady h ..)
theorem execFwTrialTimeout_steady (h : z.Steady s) : z.SteadyOut (execFwTrialTimeout s) :=
  SteadyOut.next (Steady.ite (State.fallBack_steady (Steady.setNow h _) _) h)
theorem execFlashRefresh_steady (h : z.Steady s) (what : Refresh) : z.SteadyOut (execFlashRefresh what s) := by
  refine SteadyOut.next (Steady.ite ?_ h)
  split
  · exact State.putRecord_steady h _
  · exact State.updTrust_steady h _ fun _ => List.length_modify ..
theorem execRestScheduleWake_steady (h : z.Steady s) : z.SteadyOut (execRestScheduleWake s) := by
  refine SteadyOut.next ?_
  split
  · exact State.wake_steady h ..
  · exact h
theorem execStrokeClip_steady (h : z.Steady s) (n cycle : Nat) : z.SteadyOut (execStrokeClip n cycle s) := by
  have ht := State.count_steady h (base (pGEN n)) GEN_CLIP_COUNT_COUNT 0
  exact SteadyOut.ite (SteadyOut.fault _) (SteadyOut.ite (SteadyOut.next h) (SteadyOut.next (Steady.ite ht (State.notify_steady ht _))))

/-! ### Every command -/

/-- Whatever command runs, the state it answers, if any, is steady from the state before. -/
theorem exec_steady (c : Instr) (s : State) : s.SteadyOut (exec c s) := by
  have h := Steady.refl s
  cases c with
  | registerWrite => exact SteadyOut.next (State.hostWord_steady h ..)
  | shadowLowRead => exact SteadyOut.next (State.hostFetch_steady h ..)
  | shadowHighWrite => exact SteadyOut.next (State.hostWord_steady h ..)
  | shadowLowWrite => exact SteadyOut.next (State.hostWord_steady h ..)
  | clearOnRead => exact SteadyOut.next (State.hostFetch_steady h ..)
  | counterClear => exact execCounterClear_steady h ..
  | noticeRawClear => exact execNoticeRawClear_steady h ..
  | openReq => exact SteadyOut.next (State.openReq_steady (State.rxFrame_steady h ..) ..)
  | openProof => exact SteadyOut.next (State.openProof_steady (State.rxFrame_steady h ..) ..)
  | openProofTimeout => exact SteadyOut.next (State.proofLate_steady h ..)
  | close => exact SteadyOut.next (State.arrives_steady h ..)
  | read => exact SteadyOut.next (State.arrives_steady h ..)
  | write => exact SteadyOut.next (State.arrives_steady h ..)
  | bulk => exact SteadyOut.next (State.arrives_steady h ..)
  | ack => exact SteadyOut.next (State.onMsg_steady h _ _ fun _ ht => ht)
  | bareAckSend => exact SteadyOut.next (Steady.ite (State.sendPlain_steady h ..) h)
  | retransmit => exact SteadyOut.next (State.resend_steady h ..)
  | credit => exact execCredit_steady h ..
  | heartbeat => exact SteadyOut.next (State.onMsg_steady h _ _ fun _ ht => State.sendPlain_steady ht ..)
  | pullData => exact SteadyOut.next (State.arrives_steady h ..)
  | pullErr => exact SteadyOut.next (State.arrives_steady h ..)
  | pullTimeout => exact SteadyOut.next (State.pullLate_steady h ..)
  | stream => exact State.onCap_steady h _ _ fun _ ht => State.streamOut_steady ht ..
  | streamAck => exact SteadyOut.next (State.onMsg_steady h _ _ fun _ ht => Steady.ite (State.count_steady ht ..) (State.streamAck_steady ht ..))
  | streamBlockDeadline => exact SteadyOut.next (State.blockDeadline_steady h ..)
  | deliveryGap => exact SteadyOut.next (State.gapReported_steady h ..)
  | notice => exact SteadyOut.next (State.sendNotices_steady h ..)
  | leaseExpiry => exact SteadyOut.next (State.leaseExpires_steady h ..)
  | graceExpiry => exact SteadyOut.next (State.graceExpires_steady h ..)
  | claimPage => exact SteadyOut.next (State.ownBy_steady h ..)
  | releasePage => exact SteadyOut.next (State.ownBy_steady h ..)
  | portDown => exact execPortDown_steady h ..
  | portUp => exact onPort2_steady (Steady.ite h (State.start6_steady (State.start4_steady (State.portRise_steady h ..) ..) ..)) ..
  | portBypass => exact SteadyOut.next (State.hostReg_steady h _ _ _ _ fun _ ht => State.linkCtrl_steady ht ..)
  | arpFrame => exact onPort2_steady (State.arpIn_steady (State.rxFrame_steady h ..) ..) ..
  | ndpFrame => exact onPort2_steady (State.ndpIn_steady (State.rxFrame_steady h ..) ..) ..
  | icmpEcho => exact onPort2_steady (State.echoIn_steady (State.rxFrame_steady h ..) ..) ..
  | dhcpMessage => exact onPort2_steady (State.dhcpIn_steady (State.rxFrame_steady h ..) ..) ..
  | dhcpLeaseTimer => exact onPort2_steady (State.dhcpTimer_steady h ..) ..
  | moduleResetCmd => exact SteadyOut.next (State.hostReg_steady h _ _ _ _ fun _ ht => State.resetCmd_steady ht ..)
  | moduleReset => exact SteadyOut.next (Steady.ite (State.moduleReset_steady h ..) h)
  | boot => exact SteadyOut.next (State.boot_steady h ..)
  | blockEnable => exact SteadyOut.next (State.ctrlBy_steady h ..)
  | blockReady => exact SteadyOut.ite (SteadyOut.next (State.blockReady_steady h ..)) (SteadyOut.fault _)
  | blockPark => exact SteadyOut.next (State.ctrlBy_steady h ..)
  | blockReset => exact SteadyOut.next (State.ctrlBy_steady h ..)
  | blockResetDone => exact SteadyOut.ite (SteadyOut.next (State.blockResetDone_steady h ..)) (SteadyOut.fault _)
  | faultClr => exact SteadyOut.next (State.ctrlBy_steady h ..)
  | muteSet => exact SteadyOut.next (State.hostReg_steady h _ _ _ _ fun _ ht => SteadyAct.ok (State.muteWrite_steady ht ..))
  | muteClear => exact SteadyOut.next (State.hostReg_steady h _ _ _ _ fun _ ht => SteadyAct.ok (State.muteWrite_steady ht ..))
  | outputSettled => exact execOutputSettled_steady h ..
  | fill => exact execFill_steady h ..
  | stylusSlotLoad => exact execStylusSlotLoad_steady h ..
  | graverJump => exact State.onGraver_steady (State.afterPoint_steady (State.jump_steady h ..) ..) ..
  | jumpCancelEvent => exact State.onGraver_steady (State.jumpCancel_steady h ..) ..
  | eventCutAdvance => exact State.onGraver_steady (Steady.ite (State.afterPoint_steady (State.advanceStep_steady h ..) ..) h) ..
  | advanceLatch => exact State.onGraver_steady (State.latch_steady h ..) ..
  | timeAdvance => exact State.onGraver_steady (State.afterPoint_steady (State.timeStep_steady h ..) ..) ..
  | passEnd => exact State.onGraver_steady (State.afterPoint_steady (State.passEnd_steady h ..) ..) ..
  | tableEcc => exact State.onGraver_steady (State.afterPoint_steady (State.tableEcc_steady h ..) ..) ..
  | markerEdge => exact SteadyOut.ite (SteadyOut.fault _) (SteadyOut.next (State.markerCycle_steady (State.toGf_steady h ..) ..))
  | jcacheFillDone => exact State.onGraver_steady (Steady.ite (State.fs_steady h ..) h) ..
  | commitGo => exact SteadyOut.next (State.hostReg_steady h _ _ _ _ fun _ ht => State.commitCmd_steady ht ..)
  | commitCancel => exact SteadyOut.next (State.hostReg_steady h _ _ _ _ fun _ ht => State.commitCmd_steady ht ..)
  | commitCheckDone => exact State.onGraver_steady (State.commitCheck_steady h ..) ..
  | commitReady => exact State.onGraver_steady (State.commitReady_steady h ..) ..
  | commitTakesEffect => exact State.onGraver_steady (State.afterPoint_steady (State.commitLands_steady h ..) ..) ..
  | shadowResyncDone => exact execShadowResyncDone_steady h ..
  | shadowWindowWrite => exact SteadyOut.next (State.hostMem_steady h _ _ _ fun _ ht => SteadyAct.ite (State.shadowWrite_steady ht ..) (SteadyAct.error _))
  | tableCapacityWrite => exact SteadyOut.next (State.hostReg_steady h _ _ _ _ fun _ ht => State.capacityWrite_steady ht ..)
  | directoryWrite => exact SteadyOut.next (State.hostMem_steady h _ _ _ fun _ ht => SteadyAct.ite (State.dirWrite_steady ht ..) (SteadyAct.error _))
  | descriptorWrite => exact SteadyOut.next (State.hostMem_steady h _ _ _ fun _ ht => SteadyAct.ite (State.descWrite_steady ht ..) (SteadyAct.error _))
  | plateRecordWrite => exact SteadyOut.next (State.hostMem_steady h _ _ _ fun _ ht => SteadyAct.ite (State.plateWrite_steady ht ..) (SteadyAct.error _))
  | plateClaim => exact SteadyOut.next (State.plateCmdBy_steady h ..)
  | platePin => exact SteadyOut.next (State.plateCmdBy_steady h ..)
  | plateUnpin => exact SteadyOut.next (State.plateCmdBy_steady h ..)
  | plateRelease => exact SteadyOut.next (State.plateCmdBy_steady h ..)
  | plateDone => exact SteadyOut.next (State.plateFinish_steady h ..)
  | scenRecordWrite => exact SteadyOut.next (State.hostMem_steady h _ _ _ fun _ ht => SteadyAct.ite (State.scenWrite_steady ht ..) (SteadyAct.error _))
  | arm => exact SteadyOut.next (State.scenCmdBy_steady h ..)
  | armDone => exact SteadyOut.next (State.armFinish_steady (State.settled_steady h ..) ..)
  | start => exact SteadyOut.next (State.scenCmdBy_steady h ..)
  | stop => exact SteadyOut.next (State.scenCmdBy_steady h ..)
  | stopBoundary => exact SteadyOut.next (State.scenCmdBy_steady h ..)
  | park => exact SteadyOut.next (State.scenCmdBy_steady h ..)
  | resume => exact SteadyOut.next (State.scenCmdBy_steady h ..)
  | disarm => exact SteadyOut.next (State.scenCmdBy_steady h ..)
  | disarmDone => exact SteadyOut.next (State.disarmFinish_steady (State.settled_steady h ..) ..)
  | cancel => exact SteadyOut.next (State.scenCmdBy_steady h ..)
  | scenRelease => exact SteadyOut.next (State.scenCmdBy_steady h ..)
  | actionTime => exact execActionTime_steady h ..
  | startEvent => exact SteadyOut.next (State.arriveAt_steady h ..)
  | schedEntryWrite => exact SteadyOut.next (State.hostMem_steady h _ _ _ fun _ ht => SteadyAct.ite (State.schedWrite_steady ht ..) (SteadyAct.error _))
  | submit => exact SteadyOut.next (State.schedCmdBy_steady h ..)
  | remove => exact SteadyOut.next (State.schedCmdBy_steady h ..)
  | schedDue => exact execSchedDue_steady h ..
  | schedExtrapolate => exact SteadyOut.next (State.schedExtrap_steady h ..)
  | laneFormatSettled => exact execLaneFormatSettled_steady h ..
  | laneOvercurrent => exact execLaneOvercurrent_steady h ..
  | laneContention => exact execLaneContention_steady h ..
  | overcurrentClear => exact SteadyOut.next (State.hostReg_steady h _ _ _ _ fun _ ht => SteadyAct.ok (State.faultClear_steady ht ..))
  | contentionClear => exact SteadyOut.next (State.hostReg_steady h _ _ _ _ fun _ ht => SteadyAct.ok (State.faultClear_steady ht ..))
  | reenableHoldExpiry => exact execReenableHoldExpiry_steady h ..
  | trigInEdge => exact execTrigInEdge_steady h ..
  | trigOutEvent => exact onTrig_steady (Steady.ite h (State.updOut_steady h ..)) ..
  | trigOutPulseEnd => exact onTrig_steady (Steady.ite (State.updOut_steady h ..) h) ..
  | windowVerdict => exact execWindowVerdict_steady h ..
  | overload => exact State.onChan_steady (State.overload_steady h ..) ..
  | overloadClear => exact SteadyOut.next (State.hostReg_steady h _ _ _ _ fun _ ht => SteadyAct.ok (State.proofFaultClear_steady ht ..))
  | overloadReexamDone => exact State.onChan_steady (State.reexamDone_steady h ..) ..
  | proofContention => exact State.onChan_steady (State.contBlocks_steady h ..) ..
  | proofOpen => exact State.onChan_steady (State.proofOpen_steady h ..) ..
  | testGo => exact SteadyOut.next (State.hostReg_steady h _ _ _ _ fun _ ht => State.testGo_steady ht ..)
  | testAbort => exact SteadyOut.next (State.hostReg_steady h _ _ _ _ fun _ ht => SteadyAct.ok (State.testEnd_steady ht ..))
  | proofTestDone => exact execProofTestDone_steady h ..
  | snapRun => exact SteadyOut.next (State.hostReg_steady h _ _ _ _ fun _ ht => SteadyAct.ok (State.snapRun_steady ht ..))
  | snapFreeze => exact SteadyOut.next (State.hostReg_steady h _ _ _ _ fun _ ht => SteadyAct.ok (State.snapFreeze_steady ht ..))
  | modelTakesEffect => exact execModelTakesEffect_steady h ..
  | frontEndSettled => exact execFrontEndSettled_steady h ..
  | inputOvervolt => exact State.onCap_steady h _ _ fun _ ht => State.protectEnter_steady ht ..
  | protectExit => exact State.onCap_steady h _ _ fun _ ht => State.protectLeave_steady ht ..
  | triggerCandidate => exact State.onCap_steady h _ _ fun _ ht => State.takeRaw_steady ht ..
  | triggerRecord => exact State.onCap_steady h _ _ fun _ ht => State.triggerRecord_steady ht ..
  | trigConfigWrite => exact SteadyOut.next (State.hostReg_steady h _ _ _ _ fun _ ht => SteadyAct.ite (State.trigCfg_steady ht ..) (SteadyAct.error _))
  | avgFactorChange => exact State.onCap_steady h _ _ fun _ ht => State.factorChange_steady ht ..
  | acqStart => exact SteadyOut.next (State.hostReg_steady h _ _ _ _ fun _ ht => State.acqStart_steady (State.capDue_steady ht ..) ..)
  | acqStop => exact SteadyOut.next (State.hostReg_steady h _ _ _ _ fun _ ht => SteadyAct.ok (State.acqStop_steady (State.capDue_steady ht ..) ..))
  | acqBegin => exact State.onCap_steady h _ _ fun _ ht => State.acqBeginDue_steady ht ..
  | rearmInstant => exact State.onCap_steady h _ _ fun _ ht => State.rearm_steady ht ..
  | recordEnd => exact State.onCap_steady h _ _ fun _ ht => State.recordEnd_steady ht ..
  | ringEnable => exact SteadyOut.next (State.hostReg_steady h _ _ _ _ fun _ ht => State.ringEnable_steady (State.capDue_steady ht ..) ..)
  | blockClose => exact State.onCap_steady h _ _ fun _ ht => State.closeBlock_steady (State.takeRaw_steady ht ..) ..
  | blockFlush => exact State.onCap_steady h _ _ fun _ ht => State.closeBlock_steady (State.takeRaw_steady ht ..) ..
  | rateRaise => exact State.onCap_steady h _ _ fun _ ht => State.rateRaise_steady ht ..
  | rateLower => exact State.onCap_steady h _ _ fun _ ht => State.rateLower_steady ht ..
  | acctLatch => exact SteadyOut.next (State.hostReg_steady h _ _ _ _ fun _ ht => SteadyAct.ok (State.acctLatch_steady (State.capDue_steady ht ..) ..))
  | tdPassStart => exact State.onCap_steady h _ _ fun _ ht => State.tdPass_steady ht ..
  | tdViolation => exact State.onCap_steady h _ _ fun _ ht => State.judgePass_steady (State.takeRaw_steady ht ..) ..
  | spectralVerdict => exact State.onCap_steady h _ _ fun _ ht => State.streamNext_steady (State.spectral_steady (State.takeRaw_steady ht ..) ..) ..
  | stencilMaskWrite => exact execStencilMaskWrite_steady h ..
  | eventPublish => exact SteadyOut.next (Steady.ite (State.publish_steady h ..) h)
  | eventFabricTick => exact execEventFabricTick_steady h ..
  | eventArrival => exact SteadyOut.next (State.arriveIn_steady h ..)
  | levelHoldExpiry => exact execLevelHoldExpiry_steady h ..
  | claim => exact SteadyOut.next (State.chanCmdBy_steady h ..)
  | release => exact SteadyOut.next (State.chanCmdBy_steady h ..)
  | setShared => exact SteadyOut.next (State.chanCmdBy_steady h ..)
  | setPrivate => exact SteadyOut.next (State.chanCmdBy_steady h ..)
  | claimGroup => exact SteadyOut.next (State.chanCmdBy_steady h ..)
  | releaseGroup => exact SteadyOut.next (State.chanCmdBy_steady h ..)
  | groupEnable => exact SteadyOut.next (State.groupBy_steady h ..)
  | groupDisable => exact SteadyOut.next (State.groupBy_steady h ..)
  | inject => exact SteadyOut.next (State.hostReg_steady h _ _ _ _ fun _ ht => State.injectOp_steady ht ..)
  | producerRegister => exact SteadyOut.next (State.hostReg_steady h _ _ _ _ fun _ ht => State.chCfg_steady ht ..)
  | subscriptionWrite => exact SteadyOut.next (State.hostReg_steady h _ _ _ _ fun _ ht => State.subWrite_steady ht ..)
  | select => exact SteadyOut.next (State.hostReg_steady h _ _ _ _ fun _ ht => State.refCmd_steady ht ..)
  | bypass => exact SteadyOut.next (State.hostReg_steady h _ _ _ _ fun _ ht => State.refCmd_steady ht ..)
  | refLoss => exact SteadyOut.next (State.refLost_steady h ..)
  | lockDeclared => exact SteadyOut.next (State.lockRises_steady h ..)
  | unlock => exact execUnlock_steady h ..
  | refMonitorGate => exact SteadyOut.next (State.monitorGate_steady h ..)
  | lockMonGate => exact SteadyOut.next (State.lockGate_steady h ..)
  | refAcquireTimeout =>
    exact SteadyOut.ite (SteadyOut.next (State.joinFails_steady (State.acquireEnds_steady (State.toTime_steady h ..) ..) ..)) (SteadyOut.next h)
  | genRateWrite => exact SteadyOut.next (State.hostReg_steady h _ _ _ _ fun _ ht => State.rateWrite_steady ht ..)
  | capRateWrite => exact SteadyOut.next (State.hostReg_steady h _ _ _ _ fun _ ht => State.rateWrite_steady ht ..)
  | synthAcquired => exact SteadyOut.next (State.checkStarted_steady (State.synthDone_steady h ..) ..)
  | glideDone => exact SteadyOut.next (State.glideEnds_steady h ..)
  | synthRelock => exact SteadyOut.next (State.relock_steady h ..)
  | sscChange => exact SteadyOut.next (State.updClk_steady h _ fun _ => rfl)
  | ppsCapture => exact SteadyOut.next (State.ppsEdge_steady h ..)
  | ppsMissing => exact SteadyOut.next (State.ppsGap_steady h ..)
  | ppsModeWrite => exact SteadyOut.next (State.hostReg_steady h _ _ _ _ fun _ ht => State.ppsMode_steady ht ..)
  | roleWrite => exact SteadyOut.next (State.hostReg_steady h _ _ _ _ fun _ ht => State.roleWrite_steady ht ..)
  | join => exact SteadyOut.next (State.hostReg_steady h _ _ _ _ fun _ ht => State.syncCmd_steady ht ..)
  | leave => exact SteadyOut.next (State.hostReg_steady h _ _ _ _ fun _ ht => State.syncCmd_steady ht ..)
  | measureDone => exact SteadyOut.next (State.measured_steady h ..)
  | syncJoined => exact SteadyOut.next (State.joined_steady h ..)
  | syncTriggerFrame => exact SteadyOut.next (State.frameIn_steady h _ _ _ fun _ ht => State.triggerFrame_steady ht ..)
  | syncTimeFrame => exact SteadyOut.next (State.frameIn_steady h _ _ _ fun _ ht => State.timeFrame_steady ht ..)
  | syncMeasureFrame => exact SteadyOut.next (State.frameIn_steady h _ _ _ fun _ ht => Steady.ite (State.updSync_steady (State.syncSend_steady ht ..) _ fun _ => rfl) ht)
  | syncEchoFrame => exact SteadyOut.next (State.frameIn_steady h _ _ _ fun _ ht => Steady.ite (State.updSync_steady ht _ fun _ => rfl) ht)
  | syncSplitFrame => exact SteadyOut.next (State.frameIn_steady h _ _ _ fun _ ht => State.splitFrame_steady ht ..)
  | syncCorrectFrame => exact SteadyOut.next (State.frameIn_steady h _ _ _ fun _ ht => State.correctFrame_steady ht ..)
  | syncLinkDown => exact SteadyOut.next (State.linkLost_steady h ..)
  | syncPublish => exact execSyncPublish_steady h ..
  | burnishBoundary => exact execBurnishBoundary_steady h ..
  | estimatorBlock => exact State.onChan_steady (State.estBlock_steady h ..) ..
  | timingBurst => exact State.onChan_steady (State.burstStart_steady h ..) ..
  | timingBurstEnd => exact State.onChan_steady (State.burstEnd_steady h ..) ..
  | timingCalStarved => exact State.onChan_steady (State.starved_steady h ..) ..
  | take => exact SteadyOut.next (State.hostReg_steady h _ _ _ _ fun _ ht => State.calCmd_steady ht ..)
  | restore => exact SteadyOut.next (State.hostReg_steady h _ _ _ _ fun _ ht => State.calCmd_steady ht ..)
  | memcCfgWrite => exact SteadyOut.next (State.hostReg_steady h _ _ _ _ fun _ ht => State.memcCfg_steady ht ..)
  | memReinitDone => exact SteadyOut.next (State.reinitDone_steady h ..)
  | dramTrainingDone => exact SteadyOut.next (State.trainingDone_steady h ..)
  | memEcc => exact execMemEcc_steady h ..
  | patrolScrub => exact SteadyOut.next (State.scrub_steady h ..)
  | dramTempPoll => exact execDramTempPoll_steady h ..
  | retrain => exact SteadyOut.next (State.hostReg_steady h _ _ _ _ fun _ ht => State.retrain_steady ht ..)
  | retrainDone => exact State.onMif_steady (State.retrained_steady h ..) ..
  | portPanic => exact SteadyOut.ite (SteadyOut.next (State.portFill_steady h ..)) (SteadyOut.fault _)
  | mandatoryRefresh => exact State.onMif_steady (State.mandRefresh_steady h ..) ..
  | spadEcc => exact SteadyOut.next (Steady.ite (State.lineUe_steady h ..) h)
  | spadPatrol => exact SteadyOut.next (Steady.ite h (State.patrol_steady h ..))
  | spadCollision => exact execSpadCollision_steady h ..
  | spadRecoveryDone => exact SteadyOut.next (State.recovered_steady h ..)
  | spadTestGo => exact SteadyOut.next (State.hostReg_steady h _ _ _ _ fun _ ht => State.bankTest_steady ht ..)
  | spadTestDone => exact SteadyOut.next (State.testDone_steady h ..)
  | frameClaim => exact SteadyOut.next (State.frameBy_steady h ..)
  | frameRelease => exact SteadyOut.next (State.frameBy_steady h ..)
  | frameDone => exact SteadyOut.next (State.frameFinish_steady h ..)
  | hostMemoryAccess => exact execHostMemoryAccess_steady h ..
  | commit => exact SteadyOut.next (State.hostReg_steady h _ _ _ _ fun _ ht => State.xlatCmd_steady ht ..)
  | xlatCancel => exact SteadyOut.next (State.hostReg_steady h _ _ _ _ fun _ ht => State.xlatCmd_steady ht ..)
  | xlatCheckDone => exact SteadyOut.next (State.xlatChecked_steady h ..)
  | xlatDone => exact SteadyOut.next (State.xlatEffect_steady h ..)
  | dmaSlotWrite => exact SteadyOut.next (State.hostMem_steady h _ _ _ fun _ ht => SteadyAct.ite (State.slotWrite_steady ht ..) (SteadyAct.error _))
  | tailWrite => exact SteadyOut.next (State.hostReg_steady h _ _ _ _ fun _ ht => State.tailTo_steady ht ..)
  | queueClaim => exact SteadyOut.next (State.queueBy_steady h ..)
  | queueRelease => exact SteadyOut.next (State.queueBy_steady h ..)
  | queueCancel => exact SteadyOut.next (State.queueBy_steady h ..)
  | dmaResume => exact SteadyOut.next (State.queueBy_steady h ..)
  | dmaAbort => exact SteadyOut.next (State.queueBy_steady h ..)
  | dmaChunkStart => exact SteadyOut.next (State.chunkStart_steady h ..)
  | dmaChunkDone => exact SteadyOut.next (State.chunkDone_steady h ..)
  | lifecycle => exact SteadyOut.next (State.trustBy_steady h ..)
  | keyLoad => exact SteadyOut.next (State.trustBy_steady h ..)
  | alarmClear => exact SteadyOut.next (State.trustBy_steady h ..)
  | fwStage => exact SteadyOut.next (State.trustBy_steady h ..)
  | fwConfirm => exact SteadyOut.next (State.trustBy_steady h ..)
  | settingsSave => exact SteadyOut.next (State.trustBy_steady h ..)
  | atelierRestart => exact SteadyOut.next (State.trustBy_steady h ..)
  | journalClear => exact SteadyOut.next (State.trustBy_steady h ..)
  | atelierHeartbeatTimeout => exact SteadyOut.next (Steady.ite (State.atelierDown_steady h ..) h)
  | atelierTrap => exact SteadyOut.next (Steady.ite (State.atelierDown_steady h ..) h)
  | atelierRunning => exact SteadyOut.next (State.atelierUp_steady h ..)
  | fwTrialTimeout => exact execFwTrialTimeout_steady h ..
  | tamper => exact SteadyOut.next (State.tamper_steady h ..)
  | flashRefresh => exact execFlashRefresh_steady h ..
  | hoursUpdate => exact SteadyOut.next (State.putRecord_steady (State.count_steady h ..) ..)
  | feedChange => exact SteadyOut.ite (SteadyOut.next (State.feedTo_steady h ..)) (SteadyOut.fault _)
  | feedIsolate => exact SteadyOut.next (State.hostReg_steady h _ _ _ _ fun _ ht => State.feedCtrl_steady ht ..)
  | feedHighRejoin => exact SteadyOut.ite (SteadyOut.next (State.feedRejoins_steady h ..)) (SteadyOut.fault _)
  | powerFail => exact SteadyOut.next (State.powerFails_steady h ..)
  | restEnter => exact SteadyOut.next (State.hostReg_steady h _ _ _ _ fun _ ht => State.restCmd_steady ht ..)
  | restEntered => exact SteadyOut.next (State.restReached_steady h ..)
  | restWake => exact SteadyOut.next (State.hostReg_steady h _ _ _ _ fun _ ht => State.restCmd_steady ht ..)
  | restScheduleWake => exact execRestScheduleWake_steady h ..
  | restWakeDone => exact SteadyOut.next (State.awake_steady h ..)
  | thermState => exact SteadyOut.ite (SteadyOut.next (State.thermTo_steady h ..)) (SteadyOut.fault _)
  | thermalTrip => exact SteadyOut.ite (SteadyOut.next (State.thermTrip_steady h ..)) (SteadyOut.fault _)
  | baseplateRange => exact SteadyOut.next (State.baseplate_steady h ..)
  | loopCmdGo => exact SteadyOut.next (State.hostReg_steady h _ _ _ _ fun _ ht => State.loopCmd_steady ht ..)
  | capLoopDone => exact SteadyOut.next (State.loopEnds_steady h ..)
  | strokeClip => exact execStrokeClip_steady h ..
  | adcClip => exact State.onCap_steady h _ _ fun _ ht => State.takeRaw_steady ht ..
  | stylusLimit => exact SteadyOut.ite (SteadyOut.fault _) (SteadyOut.ite (SteadyOut.next h) (SteadyOut.next (State.fs_steady (State.count_steady h ..) ..)))
  | refInPresent => exact SteadyOut.next (State.fs_steady h ..)
  | syncLinkUp => exact SteadyOut.next (State.fs_steady h ..)
  | tamperInputRestored => exact SteadyOut.next (Steady.ite (State.fs_steady h ..) (State.fs_steady h ..))
  | spadStartupTestDone => exact SteadyOut.next (State.startupTest_steady h ..)
  | duplicateAddressDetection => exact onPort2_steady (State.dadEnds_steady h ..) ..
  | unsupportedFrame => exact onPort2_steady (State.rxDiscard_steady (State.rxFrame_steady h ..) ..) ..
  | discardedMessage => exact onPort2_steady (State.count_steady (State.rxFrame_steady h ..) ..) ..
/-- Settles O51: that a state is steady from another says so, and every command leads to such a state. -/
theorem commandsLeaveVariantAndQueue : Obligations.CommandsLeaveVariantAndQueue := by
  intro c s t e
  obtain ⟨hv, hp, -⟩ := (exec_steady c s).of t e
  exact ⟨hv, hp⟩

/-- The queue takes no part in the invariant. -/
theorem State.Inv.withPending (h : s.Inv) (l : List Instr) : State.Inv { s with pending := l } :=
  State.inv_of_lens (u := s) h.regs h.mem h.frames rfl h

/-- Settles O50: a tick keeps the invariant, and so does every command. -/
theorem everyStepKeepsTheInvariant : Obligations.EveryStepKeepsTheInvariant := by
  intro s t hs e
  unfold step at e
  split at e
  · exact Host.Outcome.next.inj e ▸ (State.tick_steady (Steady.refl s)).2.2 hs
  · obtain ⟨-, -, hkeep⟩ := (exec_steady _ _).of t e
    exact hkeep (hs.withPending _)

/-- Settles O49: the stores are empty at reset, and every list of records has its length. -/
theorem theInvariantHoldsAtReset : Obligations.TheInvariantHoldsAtReset := by
  unfold Obligations.TheInvariantHoldsAtReset
  exact ⟨stWf_nil _, stWf_nil _, rfl, rfl, rfl, rfl, rfl, rfl, rfl, rfl, rfl, rfl, rfl, rfl, rfl, rfl, rfl, rfl, rfl, rfl⟩

end Sys2Proof.Machine
end

section
/-! What one host access of a word comes to (R454, R461, R462), and what an address with nothing behind it answers (R3, R4). -/
namespace Sys2Proof.Machine
open Sys2Proof
variable {s t : State} {o : Org} {a : Nat} {w : Word} {c : Code}

/-! ### One access, by its outcome -/

theorem State.hostEcc_of_ne (hc : c ≠ .ecc) : s.hostEcc c a = s := if_neg hc

/-- A write of a word that is carried out is acknowledged. -/
theorem State.hostWord_acked (ho : s.isOpen o.sess = true) (ha : a % 4 = 0) (hw : s.wordWrite o.sess a w = (.ok, t)) :
    s.hostWord o a w = t.ackWrite o := by
  have hne : ¬ Code.ok = Code.ecc := by decide
  simp [State.hostWord, ho, ha, hw, State.writeReport, State.ackWrite, State.hostEcc_of_ne hne]

/-- A write of a word that is refused, but not for an uncorrectable line, is reported and leaves what the refusal left. -/
theorem State.hostWord_refused (ho : s.isOpen o.sess = true) (ha : a % 4 = 0) (hw : s.wordWrite o.sess a w = (c, t))
    (hc : c ≠ .ok ∧ c ≠ .ecc) : s.hostWord o a w = t.turnedAway o a c := by
  simp [State.hostWord, ho, ha, hw, State.writeReport, State.turnedAway, hc.1, State.hostEcc_of_ne hc.2]

/-- A read of a word that is answered. -/
theorem State.hostFetch_answered (ho : s.isOpen o.sess = true) (ha : a % 4 = 0) (hlt : a < 2 ^ 48)
    (hr : s.wordRead o.sess a = .ok (w, t)) : s.hostFetch o a = t.respond o.sess o.seq .ok 1 0 [w] := by
  have hlt' : ¬ 281474976710656 ≤ a := by omega
  simp [State.hostFetch, State.readCmd, State.readWords, ho, ha, hlt', hr]

/-- A read of a word that is refused, but not for an uncorrectable line. -/
theorem State.hostFetch_refused (ho : s.isOpen o.sess = true) (ha : a % 4 = 0) (hlt : a < 2 ^ 48)
    (hr : s.wordRead o.sess a = .error c) (hc : c ≠ .ok ∧ c ≠ .ecc) :
    s.hostFetch o a = s.respond o.sess o.seq c 0 a [] := by
  have hlt' : ¬ 281474976710656 ≤ a := by omega
  simp [State.hostFetch, State.readCmd, State.readWords, ho, ha, hlt', hr, hc.1, State.hostEcc_of_ne hc.2]

/-! ### Scratchpad above the implemented range (R4) -/

/-- Every access to a scratchpad address above the variant's range fails its gate with ADDRESS. -/
theorem State.memGate_above (k : Nat) (write : Bool) (hlo : spadBase + s.variant.banks * 0x400000 ≤ a) (hhi : a < 0x108000000) :
    s.memGate k a write = .error .address := by
  have hgen : s.inGeneral a = false := by
    have : ¬ a < spadBase + s.variant.banks * 0x400000 := by omega
    simp [State.inGeneral, State.inSpad, this]
  have hd : ¬ dramBase ≤ a := by unfold dramBase; omega
  have hlt : a < dramBase := by omega
  simp [State.memGate, hd, hlt, hgen]

theorem inWindows_of_spad (h : spadBase ≤ a) : inWindows a = false := by
  unfold spadBase at h
  simp only [inWindows, List.any_eq_false, List.mem_cons, List.not_mem_nil, or_false, decide_eq_true_eq]
  rintro r (rfl | rfl | rfl | rfl | rfl | rfl | rfl | rfl | rfl | rfl | rfl | rfl | rfl | rfl) <;> dsimp only <;> omega

theorem inMemory_of_spad (hlo : spadBase ≤ a) (hhi : a < 0x108000000) : inMemory a = true := by
  simp [inMemory, hlo, hhi]

/-- Settles O54: whatever the access, the address fails the gate of the memory with ADDRESS before anything is read or stored. -/
theorem scratchpadAboveTheRangeIsRefused : Obligations.ScratchpadAboveTheRangeIsRefused := by
  intro s o a ho ha hlo hhi hrest hret
  have hbase : spadBase ≤ a := Nat.le_trans (Nat.le_add_right _ _) hlo
  have hfar : ¬ a < 0x01000000 := by unfold spadBase at hbase; omega
  have hw := inWindows_of_spad hbase
  have hm := inMemory_of_spad hbase hhi
  have hgate := fun write => State.memGate_above (s := s) o.sess write hlo hhi
  have hrest' : ¬ 2 ≤ s.restState := by omega
  have hne : Code.address ≠ .ok ∧ Code.address ≠ .ecc := by decide
  refine ⟨?_, fun w => ?_, fun bs => ?_⟩
  · have hr : s.wordRead o.sess a = .error .address := by
      simp [State.wordRead, hfar, hw, hm, hrest', hgate, bind, Except.bind]
    exact congrArg Host.Outcome.next (State.hostFetch_refused ho ha (by omega) hr hne)
  · have hr : s.wordWrite o.sess a w = (.address, s) := by
      simp [State.wordWrite, State.farWrite, Act.done, hfar, hw, hm, hrest', hret, hgate, bind, Except.bind]
    exact congrArg Host.Outcome.next (State.hostWord_refused ho ha hr hne)
  · simp [State.lineWrite, hw, hm, hrest', hret, hgate]

/-! ### Absent pages (R3) -/

/-- A read of a word of an absent page answers 0; on the pages from 0x060 to 0x06B the scenario unit and the acquisitions are first
brought up to the present tick, as they are on a page that is there. -/
theorem State.execShadowLowRead_absent (ho : s.isOpen o.sess = true) (hlt : a < 0x01000000) (ha : a % 4 = 0)
    (hp : pageOf (s.upToDate a).variant (pageNo a) = none) :
    exec (.shadowLowRead o a) s = .next ((s.upToDate a).respond o.sess o.seq .ok 1 0 [0#32]) := by
  have hr : s.wordRead o.sess a = .ok (0#32, s.upToDate a) := by
    simp [State.wordRead, State.regRead, State.regReadIn, hlt, hp]
  exact congrArg Host.Outcome.next (State.hostFetch_answered ho ha (by omega) hr)

/-- An EA-0410, which has the one capture channel 0. Session 1 has written two commands in tick 0, of which the unit took the first at once;
the second, RELEASE for scenario 0, was due in tick 1, and a row that names a later instant has moved device time on to tick 24. -/
def releaseWaits : State :=
  { State.reset with
    variant := .ea0410
    now := 24
    xport := { Xport.fresh with sess := { Sess.fresh with st := .opened } :: List.replicate 15 Sess.fresh }
    unit := ⟨[⟨1, 9, 0, 0⟩], [], 1, 0⟩ }

/-- The read brings the unit up to the present tick, and the command leaves the queue. -/
theorem releaseWaits_upToDate : (releaseWaits.upToDate 0x61000).unit.scenQ = [] ∧ (releaseWaits.upToDate 0x61000).variant = .ea0410 := by
  decide +kernel

/-- Refutes O53: on an EA-0410 a read of the absent page CAP1, at 0x0006_1000, answers 0, but it also lets the scenario unit take the
command that waits in its queue, so the state is not the one that only the answer leaves. -/
theorem not_absentPagesReadZeroAndRefuseWrites : ¬ Obligations.AbsentPagesReadZeroAndRefuseWrites := by
  intro h
  obtain ⟨hq, hv⟩ := releaseWaits_upToDate
  have ho : releaseWaits.isOpen 1 = true := by decide +kernel
  have hread := (h releaseWaits ⟨1, 7, false⟩ 0x61000 0#32 ho (by decide) (by decide) (by decide)).1
  rw [State.execShadowLowRead_absent ho (by decide) (by decide) (by rw [hv]; decide)] at hread
  have hunit := congrArg (fun t : State => t.unit.scenQ) (Host.Outcome.next.inj hread)
  simp only [State.respond_unit, hq] at hunit
  exact absurd hunit (by decide)

end Sys2Proof.Machine
end

section
/-! One register read or written (R481, R489 to R496): which fields stand at a word of the common header, what a whole-word field takes,
which key a session reaches, when the order of R490 lets a write through, and what the write then leaves. -/
namespace Sys2Proof.Machine
open Sys2Proof
variable {s t : State} {o : Org} {a k p off : Nat} {w : Word} {c : Code} {kind : PageKind} {i : Nat} {f : Field}

/-! ### Addresses -/

theorem pageNo_base_add (h : off < 0x1000) : pageNo (base p + off) = p := by
  unfold pageNo base; omega

theorem base_add_mod (h : off < 0x1000) : (base p + off) % 0x1000 = off := by
  unfold base; omega

/-- The pages of R483 end at 0x0B1. -/
theorem lt_of_pageOf {v : Variant} (h : (pageOf v p).isSome = true) : p < 0xB2 := by
  refine Decidable.byContradiction fun hp => ?_
  have hnone : pageOf v p = none := by
    have hv : v.gens ≤ 16 ∧ v.pats ≤ 4 ∧ v.caps ≤ 4 ∧ v.mifs ≤ 6 := by cases v <;> decide
    unfold pageOf
    repeat rw [if_neg (by omega)]
  simp [hnone] at h

/-! ### Words that one field fills -/

/-- A field of all 32 bits. -/
def Field.Whole (f : Field) : Prop := f.lo = 0 ∧ f.hi = 31

theorem setF_whole (hf : f.Whole) (old : Word) : setF old f (getF w f) = w := by
  obtain ⟨hlo, hhi⟩ := hf
  ext j hj
  simp only [← BitVec.getLsbD_eq_getElem, getLsbD_setF, testBit_getF, hlo, hhi]
  simp [hj]

theorem maskF_whole (hf : f.Whole) : maskF f = BitVec.allOnes 32 := by
  obtain ⟨hlo, hhi⟩ := hf
  refine BitVec.eq_of_getLsbD_eq fun j hj => ?_
  rw [getLsbD_maskF, hlo, hhi, BitVec.getLsbD_allOnes]
  simp [hj]

theorem plainWrite_rw_whole (hf : f.Whole) (ha : f.acc = .rw ∨ f.acc = .shw) (old : Word) : plainWrite [f] old w = w := by
  rcases ha with ha | ha <;> simp [plainWrite, ha, setF_whole hf]

theorem plainWrite_w1c_whole (hf : f.Whole) (ha : f.acc = .w1c) (old : Word) : plainWrite [f] old w = old &&& ~~~ w := by
  simp only [plainWrite, List.foldl_cons, List.foldl_nil, ha, maskF_whole hf, BitVec.and_allOnes]

/-- A field of all 32 bits with no stated range refuses no word. -/
theorem outOfRange_whole (hmin : f.vmin = 0) (hmax : 2 ^ (f.hi + 1 - f.lo) ≤ f.vmax + 1) : outOfRange [f] w = false := by
  have := getF_lt w f
  have hle : ¬ f.vmax < getF w f := by omega
  simp [outOfRange, hmin, hle]

/-! ### The common header (R484, R489) -/

theorem fieldsAt_noticeMask (kind : PageKind) (i : Nat) : fieldsAt kind i 0x014 = [HDR_PAGE_NOTICE_MASK_MASK] := by
  cases kind <;> rfl

theorem fieldsAt_noticeRaw (kind : PageKind) (i : Nat) : fieldsAt kind i 0x018 = [HDR_PAGE_NOTICE_RAW_RAW] := by
  cases kind <;> rfl

theorem absentWord_header (v : Variant) (kind : PageKind) (h : off < 0x40) : absentWord v kind off = false := by
  have h1 : ¬ 0x100 ≤ off := by omega
  have h2 : ¬ 0x200 ≤ off := by omega
  have h3 : ¬ 0x210 ≤ off := by omega
  have h4 : ¬ 0x400 ≤ off := by omega
  cases kind <;> simp [absentWord, h1, h2, h3, h4]

/-! ### Keys (R493) -/

theorem State.keyFor_notice (hp : pageOf s.variant p = some (kind, i)) (hoff : off = 0x014 ∨ off = 0x018) :
    s.keyFor k (base p + off) = sbase k p + off := by
  have hlt : off < 0x1000 := by omega
  simp only [State.keyFor, pageNo_base_add hlt, base_add_mod hlt, hp]
  rw [if_pos (hoff.elim .inl fun h => .inr (.inl h))]
  unfold base sbase; omega

theorem State.keyFor_perSession (hp : pageOf s.variant p = some (kind, i)) (hlt : off < 0x1000) (hs : perSession kind off = true) :
    s.keyFor k (base p + off) = sbase k p + off := by
  simp only [State.keyFor, pageNo_base_add hlt, base_add_mod hlt, hp]
  rw [if_pos (.inr (.inr hs))]
  unfold base sbase; omega

/-- What the plain effect of a write leaves: its key takes the word that the access codes make of it. -/
theorem State.plain_of_page (hp : pageOf s.variant (pageNo a) = some (kind, i)) :
    s.plain k a w = s.wr (s.keyFor k a) (plainWrite (fieldsAt kind i (a % 0x1000)) (s.rd (s.keyFor k a)) w) := by
  simp only [State.plain, hp]

theorem State.plain_noticeMask (hp : pageOf s.variant p = some (kind, i)) :
    s.plain k (base p + 0x014) w = s.wr (sbase k p + 0x014) w := by
  rw [State.plain_of_page (by rw [pageNo_base_add (by omega), hp]), State.keyFor_notice hp (.inl rfl), base_add_mod (by omega),
    fieldsAt_noticeMask, plainWrite_rw_whole ⟨rfl, rfl⟩ (.inl rfl)]

theorem State.plain_noticeRaw (hp : pageOf s.variant p = some (kind, i)) :
    s.plain k (base p + 0x018) w = s.wr (sbase k p + 0x018) (s.rd (sbase k p + 0x018) &&& ~~~ w) := by
  rw [State.plain_of_page (by rw [pageNo_base_add (by omega), hp]), State.keyFor_notice hp (.inr rfl), base_add_mod (by omega),
    fieldsAt_noticeRaw, plainWrite_w1c_whole ⟨rfl, rfl⟩ rfl]

/-! ### What an update leaves of the registers and the memory -/

theorem State.keepsBut_wr (s : State) (key : Nat) (w : Word) : s.KeepsBut (s.wr key w) (fun j => j = key) :=
  ⟨fun _ hj => State.rd_wr_ne _ _ _ _ hj, fun x _ => State.wr_mb _ _ _ x⟩

theorem State.keepsBut_updSes (s : State) (k : Nat) (g : Sess → Sess) : s.KeepsBut (s.updSes k g) (fun _ => False) :=
  ⟨fun _ _ => rfl, fun _ _ => rfl⟩

/-- The session changed, where its number is one of the sixteen. -/
theorem State.ses_updSes_self (hs : s.Inv) (ho : s.isOpen k = true) (g : Sess → Sess) : (s.updSes k g).ses k = g (s.ses k) := by
  obtain ⟨h1, h16⟩ := State.isOpen_range ho
  have hk : ¬ k = 0 := by omega
  have hlen : k - 1 < s.xport.sess.length := by rw [hs.sess]; omega
  simp [State.ses, State.updSes, hk, List.getD_eq_getElem?_getD, hlen]

/-! ### The order of judgement (R490) -/

theorem State.judgeHead_error (h : s.judgeHead k a = .error c) : c ≠ .ok ∧ c ≠ .ecc := by
  unfold State.judgeHead at h
  repeat' split at h
  all_goals cases h <;> decide

theorem State.judgeRest_error (h : s.judgeRest k a w = .error c) : c ≠ .ok ∧ c ≠ .ecc := by
  unfold State.judgeRest at h
  repeat' split at h
  all_goals cases h <;> decide

/-- No check of R490 refuses with OK or ECC. -/
theorem State.judge_error (h : s.judge k a w = .error c) : c ≠ .ok ∧ c ≠ .ecc := by
  unfold State.judge at h
  cases hh : s.judgeHead k a with
  | ok u => exact State.judgeRest_error (by simpa [hh, bind, Except.bind] using h)
  | error d =>
    rw [hh] at h
    exact State.judgeHead_error (hh.trans h)

theorem State.judge_ok (hh : s.judgeHead k a = .ok ()) (hr : s.judgeRest k a w = .ok ()) : s.judge k a w = .ok () := by
  simp [State.judge, hh, hr, bind, Except.bind]

/-- Orders 1 to 4 let a write through: the word is there and served, the module is not retired, the party may write, and no reset runs. -/
theorem State.judgeHead_ok (hp : pageOf s.variant (pageNo a) = some (kind, i)) (habs : absentWord s.variant kind (a % 0x1000) = false)
    (hserved : s.restServes kind i = true ∨ s.restState < 2) (hret : s.retired = false ∨ a = base pDEV + 0x06C)
    (hparty : s.mayWrite k (pageNo a) kind (a % 0x1000) = true) (hbusy : s.fb (base (pageNo a)) HDR_PAGE_CTRL_BUSY = false) :
    s.judgeHead k a = .ok () := by
  have hrest : ¬ (2 ≤ s.restState ∧ (!s.restServes kind i) = true) := by
    rcases hserved with h | h
    · simp [h]
    · omega
  have hkept : (s.retired && a != base pDEV + 0x06C) = false := by
    rcases hret with h | h <;> simp [h]
  simp only [State.judgeHead, hp]
  simp only [habs, hrest, hkept, hparty, hbusy, Bool.not_true, Bool.false_eq_true, if_false, ite_self]

/-- A word whose fields have neither the access code RWA nor a range that the write leaves passes orders 5 and 6, outside the entry into
Rest. -/
theorem State.judgeRest_ok (hp : pageOf s.variant (pageNo a) = some (kind, i)) (hr : restBreaks kind (a % 0x1000) w = false ∨ s.restState ≠ 1)
    (hrwa : changesRwa (fieldsAt kind i (a % 0x1000)) (s.rd (s.keyFor k a)) w = false)
    (hrange : outOfRange (fieldsAt kind i (a % 0x1000)) w = false) (hcombo : badCombo kind (a % 0x1000) w = false) :
    s.judgeRest k a w = .ok () := by
  have hbreak : ¬ (s.restState = 1 ∧ restBreaks kind (a % 0x1000) w = true) := by
    rcases hr with hr | hr <;> simp [hr]
  simp [State.judgeRest, hp, hrwa, hrange, hcombo, hbreak]

/-- Every session may write its own notice registers of a page that is there, while Rest is not entered (R490, R535). -/
theorem State.judge_notice (hp : pageOf s.variant p = some (kind, i)) (hr : s.restState < 2) (hoff : off = 0x014 ∨ off = 0x018) :
    s.judge k (base p + off) w = .ok () := by
  have hlt : off < 0x1000 := by omega
  have hrest : ¬ 2 ≤ s.restState := by omega
  refine State.judge_ok ?_ ?_
  · simp [State.judgeHead, pageNo_base_add hlt, base_add_mod hlt, hp, absentWord_header s.variant kind (show off < 0x40 by omega), hrest, hoff]
  · simp [State.judgeRest, pageNo_base_add hlt, base_add_mod hlt, hp, hoff]

/-! ### A word written to a register -/

theorem State.wordWrite_judged (hlt : a < 0x01000000) (hpair : s.inPairW a = false) (hj : s.judge k a w = .error c) :
    s.wordWrite k a w = (c, s) := by
  simp only [State.wordWrite, hlt, if_true, State.regWrite]
  split
  case h_1 hp =>
    have hc : s.judge k a w = .error .address := by simp [State.judge, State.judgeHead, hp, bind, Except.bind]
    rw [Except.error.inj (hj.symm.trans hc)]
  case h_2 => simp [hpair, hj, Act.done, bind, Except.bind]

theorem State.wordWrite_done (hlt : a < 0x01000000) (hp : pageOf s.variant (pageNo a) = some (kind, i)) (hpair : s.inPairW a = false)
    (hj : s.judge k a w = .ok ()) (he : s.regEffect k (pageNo a) kind i (a % 0x1000) w = .ok t) : s.wordWrite k a w = (.ok, t) := by
  simp [State.wordWrite, State.regWrite, hlt, hp, hpair, hj, he, Act.done, bind, Except.bind]

end Sys2Proof.Machine
end

section
/-! The clauses of `Obligations.RegistersAreWrittenReadAndCleared`, one lemma each, and their assembly (R489, R490, R493 to R496, R70). -/
namespace Sys2Proof.Machine
open Sys2Proof
variable {s t : State} {o : Org} {a k p off : Nat} {w : Word} {c : Code} {kind : PageKind} {i : Nat}

/-! ### Plain registers -/

theorem State.inPairW_of_page (hp : pageOf s.variant (pageNo a) = some (kind, i)) :
    s.inPairW a = (fieldsAt kind i (a % 0x1000)).any Field.isShw := by
  simp only [State.inPairW, hp]

theorem State.inPair_of_page (hp : pageOf s.variant (pageNo a) = some (kind, i)) :
    s.inPair a = (fieldsAt kind i (a % 0x1000)).any Field.isSh := by
  simp only [State.inPair, hp]

/-- Below 0x040 every register but PAGE_CTRL takes the plain effect. -/
theorem State.regEffect_header (hlt : off < 0x40) (hne : off ≠ 0x00C) :
    s.regEffect k p kind i off w = .ok (s.plain k (base p + off) w) := by
  simp [State.regEffect, hlt, hne]

/-- A write that R490 refuses is reported and changes nothing. -/
theorem execRegisterWrite_judged (ho : s.isOpen o.sess = true) (hlt : a < 0x01000000) (ha : a % 4 = 0) (hpair : s.inPairW a = false)
    (hj : s.judge o.sess a w = .error c) : exec (.registerWrite o a w) s = .next (s.turnedAway o a c) :=
  congrArg Host.Outcome.next (State.hostWord_refused ho ha (State.wordWrite_judged hlt hpair hj) (State.judge_error hj))

/-- A session writes its own NOTICE_MASK of any page that is there. -/
theorem execRegisterWrite_noticeMask (ho : s.isOpen o.sess = true) (hp : (pageOf s.variant p).isSome = true) (hr : s.restState < 2) :
    exec (.registerWrite o (base p + 0x014) w) s = .next ((s.wr (sbase o.sess p + 0x014) w).ackWrite o) := by
  have hplt := lt_of_pageOf hp
  obtain ⟨⟨kind, i⟩, hp⟩ := Option.isSome_iff_exists.mp hp
  have hno : pageOf s.variant (pageNo (base p + 0x014)) = some (kind, i) := by rw [pageNo_base_add (by omega), hp]
  have hpair : s.inPairW (base p + 0x014) = false := by
    rw [State.inPairW_of_page hno, base_add_mod (by omega), fieldsAt_noticeMask]; rfl
  have heff : s.regEffect o.sess (pageNo (base p + 0x014)) kind i ((base p + 0x014) % 0x1000) w = .ok (s.wr (sbase o.sess p + 0x014) w) := by
    rw [pageNo_base_add (by omega), base_add_mod (by omega), State.regEffect_header (by omega) (by omega), State.plain_noticeMask hp]
  have hbase : base p = p * 0x1000 := rfl
  exact congrArg Host.Outcome.next (State.hostWord_acked ho (by omega)
    (State.wordWrite_done (by omega) hno hpair (State.judge_notice hp hr (.inl rfl)) heff))

/-- DEV.SCRATCH takes a write of any session while the page is not in reset (R490, R508). -/
theorem State.judge_scratch (hb : s.fb (base pDEV) HDR_PAGE_CTRL_BUSY = false) : s.judge k (base pDEV + DEV_SCRATCH) w = .ok () := by
  have hp : pageOf s.variant (pageNo (base pDEV + DEV_SCRATCH)) = some (.dev, 0) := rfl
  refine State.judge_ok ?_ (State.judgeRest_ok hp (.inl rfl) rfl (outOfRange_whole (f := DEV_SCRATCH_VALUE) rfl (by decide)) rfl)
  exact State.judgeHead_ok hp rfl (.inl rfl) (.inr rfl) rfl hb

theorem execRegisterWrite_scratch (ho : s.isOpen o.sess = true) (hb : s.fb (base pDEV) HDR_PAGE_CTRL_BUSY = false) :
    exec (.registerWrite o (base pDEV + DEV_SCRATCH) w) s = .next ((s.wr (sbase o.sess pDEV + DEV_SCRATCH) w).ackWrite o) := by
  have hp : pageOf s.variant pDEV = some (.dev, 0) := rfl
  have hplain : s.plain o.sess (base pDEV + DEV_SCRATCH) w = s.wr (sbase o.sess pDEV + DEV_SCRATCH) w := by
    rw [State.plain_of_page (kind := .dev) (i := 0) rfl, State.keyFor_perSession hp (by decide) rfl]
    exact congrArg _ (plainWrite_rw_whole (f := DEV_SCRATCH_VALUE) ⟨rfl, rfl⟩ (.inl rfl) _)
  have heff : s.regEffect o.sess pDEV .dev 0 DEV_SCRATCH w = .ok (s.plain o.sess (base pDEV + DEV_SCRATCH) w) := rfl
  exact congrArg Host.Outcome.next (State.hostWord_acked ho (by decide)
    (State.wordWrite_done (by decide) rfl rfl (State.judge_scratch hb) (heff.trans (congrArg _ hplain))))

/-- NOTICE_RAW clears the bits written, but for those set in the same cycle (R489). -/
theorem execNoticeRawClear_accepted {again : Word} (h : s.Accepts o (base p + 0x018) w) :
    exec (.noticeRawClear o p w again) s
      = .next ((((s.wr (sbase o.sess p + 0x018) (s.rd (sbase o.sess p + 0x018) &&& ~~~ w)).wr (sbase o.sess p + 0x018)
          ((s.rd (sbase o.sess p + 0x018) &&& ~~~ w) ||| again))).ackWrite o) := by
  obtain ⟨⟨kind, i⟩, hp⟩ : ∃ x, pageOf s.variant p = some x := by
    cases hp : pageOf s.variant p with
    | some x => exact ⟨x, rfl⟩
    | none =>
      have hj := h.2
      simp [State.judge, State.judgeHead, pageNo_base_add, hp, bind, Except.bind] at hj
  refine congrArg Host.Outcome.next (State.hostReg_acked _ _ _ _ _ _ h ?_)
  simp only [State.plain_noticeRaw hp, State.rd_wr_self]

/-! ### Shadowed pairs (R494, R495) -/

theorem State.inPair_page (h : s.inPair a = true) : ∃ kind i, pageOf s.variant (pageNo a) = some (kind, i) := by
  unfold State.inPair at h
  split at h
  · cases h
  · exact ⟨_, _, ‹_›⟩

theorem State.inPairW_page (h : s.inPairW a = true) : ∃ kind i, pageOf s.variant (pageNo a) = some (kind, i) := by
  unfold State.inPairW at h
  split at h
  · cases h
  · exact ⟨_, _, ‹_›⟩

/-- The words that a read of the low word at `a` latches. -/
def State.latched (s : State) (k a : Nat) : List (Nat × Word) :=
  (a + 4, s.peek k (a + 4)) :: if latchedWith (a + 8) then [(a + 8, s.peek k (a + 8))] else []

theorem State.wordRead_low (hlt : a < 0x01000000) (h8 : a % 8 = 0) (hpair : s.inPair a = true) (hr : s.restState < 2)
    (hu : s.upToDate a = s) : s.wordRead k a = .ok (s.peek k a, s.latch' k (s.latched k a)) := by
  obtain ⟨kind, i, hp⟩ := State.inPair_page hpair
  have hrest : ¬ 2 ≤ s.restState := by omega
  simp [State.wordRead, State.regRead, State.regReadIn, State.latched, hlt, hu, hp, hrest, hpair, h8]

theorem State.wordRead_high (hlt : a < 0x01000000) (h8 : a % 8 = 4) (hpair : s.inPair a = true) (hr : s.restState < 2)
    (hu : s.upToDate a = s) : s.wordRead k a = .ok (s.shadowOf k a, s) := by
  obtain ⟨kind, i, hp⟩ := State.inPair_page hpair
  have hrest : ¬ 2 ≤ s.restState := by omega
  simp [State.wordRead, State.regRead, State.regReadIn, hlt, hu, hp, hrest, hpair, h8]

/-- The high word of the pair is what the shadow then holds. -/
theorem State.shadowOf_latch' (hs : s.Inv) (ho : s.isOpen k = true) : (s.latch' k (s.latched k a)).shadowOf k (a + 4) = s.peek k (a + 4) := by
  simp [State.shadowOf, State.latch', State.latched, State.ses_updSes_self hs ho]

/-- The high word of a writable pair goes to the write shadow. -/
theorem State.wordWrite_high (hlt : a < 0x01000000) (h8 : a % 8 = 4) (hpair : s.inPairW a = true) (hh : s.judgeHead k a = .ok ()) :
    s.wordWrite k a w = (.ok, s.updSes k (fun q => { q with writeShadow := (a, w) :: q.writeShadow.filter (fun e => e.1 != a) })) := by
  obtain ⟨kind, i, hp⟩ := State.inPairW_page hpair
  simp [State.wordWrite, State.regWrite, hlt, hp, hpair, h8, hh, Act.done, bind, Except.bind]

theorem State.wordWrite_high_refused (hlt : a < 0x01000000) (h8 : a % 8 = 4) (hpair : s.inPairW a = true) (hh : s.judgeHead k a = .error c) :
    s.wordWrite k a w = (c, s) := by
  obtain ⟨kind, i, hp⟩ := State.inPairW_page hpair
  simp [State.wordWrite, State.regWrite, hlt, hp, hpair, h8, hh, Act.done, bind, Except.bind]

/-- The session's write shadow without the word at `a`. -/
def State.unshadow (s : State) (k a : Nat) : State :=
  s.updSes k (fun q => { q with writeShadow := q.writeShadow.filter (fun e => e.1 != a) })

theorem State.writeShadow_unshadow (hs : s.Inv) (ho : s.isOpen k = true) :
    ((s.unshadow k a).ses k).writeShadow.find? (fun e => e.1 == a) = none := by
  simp [State.unshadow, State.ses_updSes_self hs ho, List.find?_eq_none]

/-- The low word of a writable pair commits it with the high word that waits. -/
theorem State.wordWrite_low {hi : Word} (hlt : a < 0x01000000) (h8 : a % 8 = 0) (hpair : s.inPairW a = true)
    (hsh : (s.ses k).writeShadow.find? (fun e => e.1 == a + 4) = some (a + 4, hi)) (hlo : (s.unshadow k (a + 4)).judge k a w = .ok ())
    (hhi : (s.unshadow k (a + 4)).judge k (a + 4) hi = .ok ()) (he : (s.unshadow k (a + 4)).pairEffect k a w hi = .ok t) :
    s.wordWrite k a w = (.ok, t) := by
  obtain ⟨kind, i, hp⟩ := State.inPairW_page hpair
  unfold State.unshadow at hlo hhi he
  simp [State.wordWrite, State.regWrite, hlt, hp, hpair, h8, hsh, hlo, hhi, he, Act.done, bind, Except.bind]

/-! ### DATU.FRAME_BASE, a writable pair -/

theorem pageOf_datu (v : Variant) : pageOf v pDATU = some (.datu, 0) := by cases v <;> rfl

/-- The low word of FRAME_BASE has no lock, no range and no rule of its own: orders 5 and 6 let every word through. -/
theorem State.judge_frameBase_low (hh : s.judgeHead k (base pDATU + DATU_FRAME_BASE) = .ok ()) (hr : s.restState = 0) :
    s.judge k (base pDATU + DATU_FRAME_BASE) w = .ok () :=
  State.judge_ok hh (State.judgeRest_ok (pageOf_datu _) (.inr (by omega)) rfl (outOfRange_whole (f := DATU_FRAME_BASE_BASE_LO) rfl (by decide)) rfl)

/-- The same of the high word. -/
theorem State.judge_frameBase_high (hh : s.judgeHead k (base pDATU + DATU_FRAME_BASE + 4) = .ok ()) (hr : s.restState = 0) :
    s.judge k (base pDATU + DATU_FRAME_BASE + 4) w = .ok () :=
  State.judge_ok hh (State.judgeRest_ok (pageOf_datu _) (.inr (by omega)) rfl (outOfRange_whole (f := DATU_FRAME_BASE_BASE_HI) rfl (by decide)) rfl)

theorem State.plain_frameBase_low :
    s.plain k (base pDATU + DATU_FRAME_BASE) w = s.wr (sbase k pDATU + DATU_FRAME_BASE) w := by
  rw [State.plain_of_page (pageOf_datu _), State.keyFor_perSession (pageOf_datu _) (by decide) rfl]
  exact congrArg _ (plainWrite_rw_whole (f := DATU_FRAME_BASE_BASE_LO) ⟨rfl, rfl⟩ (.inr rfl) _)

theorem State.plain_frameBase_high :
    s.plain k (base pDATU + DATU_FRAME_BASE + 4) w = s.wr (sbase k pDATU + DATU_FRAME_BASE + 4)
      (setF (s.rd (sbase k pDATU + DATU_FRAME_BASE + 4)) DATU_FRAME_BASE_BASE_HI (getF w DATU_FRAME_BASE_BASE_HI)) := by
  rw [State.plain_of_page (pageOf_datu _), Nat.add_assoc, State.keyFor_perSession (pageOf_datu _) (by decide) rfl, ← Nat.add_assoc]
  rfl

/-- The low 16 bits of the high word are the address's bits 47 to 32. -/
theorem frameBase_high_toNat (old w : Word) :
    (setF old DATU_FRAME_BASE_BASE_HI (getF w DATU_FRAME_BASE_BASE_HI)).toNat % 2 ^ 16 = w.toNat % 2 ^ 16 := by
  have h := getF_setF_self old DATU_FRAME_BASE_BASE_HI (getF w DATU_FRAME_BASE_BASE_HI) (by decide)
  simpa [getF, DATU_FRAME_BASE_BASE_HI] using h

theorem join64_mod_48 (lo hi : Word) : join64 lo.toNat hi.toNat % 2 ^ 48 = lo.toNat + 2 ^ 32 * (hi.toNat % 2 ^ 16) := by
  have hlo := lo.isLt
  unfold join64
  omega

/-- Both words of FRAME_BASE written, the low one first. -/
def State.setFrameBase (s : State) (k : Nat) (lo hi : Word) : State :=
  (s.plain k (base pDATU + DATU_FRAME_BASE) lo).plain k (base pDATU + DATU_FRAME_BASE + 4) hi

theorem State.setFrameBase_eq (s : State) (k : Nat) (lo hi : Word) : s.setFrameBase k lo hi
    = (s.wr (sbase k pDATU + DATU_FRAME_BASE) lo).wr (sbase k pDATU + DATU_FRAME_BASE + 4)
        (setF (s.rd (sbase k pDATU + DATU_FRAME_BASE + 4)) DATU_FRAME_BASE_BASE_HI (getF hi DATU_FRAME_BASE_BASE_HI)) := by
  rw [State.setFrameBase, State.plain_frameBase_low, State.plain_frameBase_high, State.rd_wr_ne _ _ _ _ (by omega)]

theorem State.rd64_setFrameBase (s : State) (k : Nat) (lo hi : Word) :
    (s.setFrameBase k lo hi).rd64 (sbase k pDATU + DATU_FRAME_BASE) % 2 ^ 48 = lo.toNat + 2 ^ 32 * (hi.toNat % 2 ^ 16) := by
  rw [State.setFrameBase_eq, State.rd64, State.rd_wr_self, State.rd_wr_ne _ _ _ _ (by omega), State.rd_wr_self, join64_mod_48,
    frameBase_high_toNat]

theorem State.keepsBut_setFrameBase (s : State) (k : Nat) (lo hi : Word) : s.KeepsBut (s.setFrameBase k lo hi)
    (fun j => j = sbase k pDATU + DATU_FRAME_BASE ∨ j = sbase k pDATU + DATU_FRAME_BASE + 4) := by
  rw [State.setFrameBase_eq]
  refine ⟨fun j hj => ?_, fun x _ => by rw [State.wr_mb, State.wr_mb]⟩
  obtain ⟨h1, h2⟩ := not_or.mp hj
  rw [State.rd_wr_ne _ _ _ _ h2, State.rd_wr_ne _ _ _ _ h1]

theorem State.ses_setFrameBase (s : State) (k : Nat) (lo hi : Word) (j : Nat) : (s.setFrameBase k lo hi).ses j = s.ses j := by
  rw [State.setFrameBase_eq, State.wr_ses, State.wr_ses]

theorem State.pairEffect_frameBase (s : State) (k : Nat) (lo hi : Word) :
    s.pairEffect k (base pDATU + DATU_FRAME_BASE) lo hi = .ok (s.setFrameBase k lo hi) := rfl

/-- FRAME_BASE committed by its low word. -/
theorem execShadowLowWrite_frameBase {lo hi : Word} (ho : s.isOpen o.sess = true)
    (hhead : s.judgeHead o.sess (base pDATU + DATU_FRAME_BASE) = .ok ()) (hhead' : s.judgeHead o.sess (base pDATU + DATU_FRAME_BASE + 4) = .ok ())
    (hr : s.restState = 0) (hsh : (s.ses o.sess).writeShadow.find? (fun e => e.1 == base pDATU + DATU_FRAME_BASE + 4)
      = some (base pDATU + DATU_FRAME_BASE + 4, hi)) :
    exec (.shadowLowWrite o (base pDATU + DATU_FRAME_BASE) lo) s
      = .next (((s.unshadow o.sess (base pDATU + DATU_FRAME_BASE + 4)).setFrameBase o.sess lo hi).ackWrite o) := by
  have hpair : s.inPairW (base pDATU + DATU_FRAME_BASE) = true := (State.inPairW_of_page (pageOf_datu _)).trans rfl
  exact congrArg Host.Outcome.next (State.hostWord_acked ho (by decide) (State.wordWrite_low (by decide) (by decide) hpair hsh
    (State.judge_frameBase_low hhead hr) (State.judge_frameBase_high hhead' hr) (State.pairEffect_frameBase ..)))

/-! ### Registers that a read clears -/

theorem execClearOnRead_trig (ho : s.isOpen o.sess = true) (hr : s.restState < 2)
    (ha : a = base (pPAT 0) + TRG_TRIG_IN_MERGED ∨ a = base (pPAT 0) + TRG_TRIG_CNT) :
    exec (.clearOnRead o a) s = .next ((s.wr a 0#32).respond o.sess o.seq .ok 1 0 [s.peek o.sess a]) := by
  have hrest : ¬ 2 ≤ s.restState := by omega
  have hno : pageNo a = pPAT 0 := by rcases ha with rfl | rfl <;> rfl
  have hp : pageOf s.variant (pageNo a) = some (.pat, 0) := by rw [hno]; cases s.variant <;> rfl
  have hpair : s.inPair a = false := by
    rw [State.inPair_of_page hp]; rcases ha with rfl | rfl <;> decide
  have hlatch : latchedWith a = false := by rcases ha with rfl | rfl <;> rfl
  have hu : s.upToDate a = s := if_neg (by rw [hno]; decide)
  have hlt : a < 0x01000000 ∧ a % 4 = 0 := by rcases ha with rfl | rfl <;> decide
  have hread : s.wordRead o.sess a = .ok (s.peek o.sess a, s.wr a 0#32) := by
    rw [State.wordRead, if_pos hlt.1, State.regRead, hu, State.regReadIn, hp]
    simp only [hrest, hpair, hlatch, false_and, Bool.false_and, Bool.false_eq_true, if_false, if_pos ha]
  exact congrArg Host.Outcome.next (State.hostFetch_answered ho hlt.2 (by omega) hread)

/-! ### Counter clears (R70) -/

theorem bit_mod_two_pow (m : Nat) {i n : Nat} (h : i < n) : bit (m % 2 ^ n) i = bit m i := by
  simp [bit, Nat.testBit_mod_two_pow, h]

/-- Counters in a row are cleared one after another. -/
theorem State.clearCounts_row (s : State) (mask again b n : Nat) : s.clearCounts mask again (countersFrom b n)
    = (List.range n).foldl (fun t i => if bit mask i then t.wr (b + 4 * i) (if bit again i then 1#32 else 0#32) else t) s := by
  simp only [State.clearCounts, countersFrom, List.length_map, List.length_range, List.zip_eq_zipWith, List.zipWith_map_right,
    List.zipWith_self, List.foldl_map]

theorem State.clearCounts_succ (s : State) (mask again b n : Nat) :
    s.clearCounts mask again (countersFrom b (n + 1))
      = (if bit mask n then (s.clearCounts mask again (countersFrom b n)).wr (b + 4 * n) (if bit again n then 1#32 else 0#32)
          else s.clearCounts mask again (countersFrom b n)) := by
  rw [State.clearCounts_row, State.clearCounts_row, List.range_succ, List.foldl_append]
  rfl

theorem State.mem_clearCounts (s : State) (mask again b n : Nat) : (s.clearCounts mask again (countersFrom b n)).mem = s.mem := by
  induction n with
  | zero => rfl
  | succ n ih =>
    rw [State.clearCounts_succ]
    split
    · exact ih
    · exact ih

/-- A register that is none of the counters stays. -/
theorem State.rd_clearCounts_ne (s : State) (mask again b n j : Nat) (h : ∀ i, i < n → j ≠ b + 4 * i) :
    (s.clearCounts mask again (countersFrom b n)).rd j = s.rd j := by
  induction n with
  | zero => rfl
  | succ n ih =>
    have hn := ih fun i hi => h i (by omega)
    rw [State.clearCounts_succ]
    split
    · rw [State.rd_wr_ne _ _ _ _ (h n (by omega)), hn]
    · exact hn

/-- A counter whose bit is in the mask reads 0, or 1 where it was incremented in the same cycle; the others stay. -/
theorem State.rd_clearCounts (s : State) (mask again b n i : Nat) (hi : i < n) :
    (s.clearCounts mask again (countersFrom b n)).rd (b + 4 * i)
      = if bit mask i then (if bit again i then 1#32 else 0#32) else s.rd (b + 4 * i) := by
  induction n with
  | zero => omega
  | succ n ih =>
    rw [State.clearCounts_succ]
    by_cases hin : i = n
    · subst hin
      split
      · exact State.rd_wr_self ..
      · exact State.rd_clearCounts_ne _ _ _ _ _ _ fun j hj => by omega
    · rw [← ih (by omega)]
      split
      · exact State.rd_wr_ne _ _ _ _ (by omega)
      · rfl

theorem State.keepsBut_clearCounts (s : State) (mask again b n : Nat) :
    s.KeepsBut (s.clearCounts mask again (countersFrom b n)) (fun j => ∃ i, i < n ∧ j = b + 4 * i) :=
  ⟨fun j hj => State.rd_clearCounts_ne _ _ _ _ _ _ fun i hi e => hj ⟨i, hi, e⟩,
    fun x _ => by unfold State.mb; rw [State.mem_clearCounts]⟩

/-- The pages whose clear register clears counters that stand in a row and does nothing else: the page, the register's offset, and the
first counter and the number of counters. -/
def counterRows : List (Nat × Nat × Nat × Nat) :=
  [(pCLK, CLK_CNT_CLEAR, 0x0A0, 2), (pTIME, TIME_CNT_CLEAR, 0x080, 4), (pSYNC, SYNC_CNT_CLEAR, 0x060, 5),
    (pCAL, CAL_CNT_CLEAR, 0x060, 4), (pSPAD, SPAD_CNT_CLEAR, 0x060, 5), (pDMA, DMA_CNT_CLEAR, 0x044, 2), (pPWR, PWR_CNT_CLEAR, 0x080, 2)]

theorem cntClear_counterRows {first n : Nat} (h : (p, off, first, n) ∈ counterRows) (v : Variant) :
    ∃ kind, pageOf v p = some (kind, 0) ∧ off < 0x1000 ∧ ∀ (s : State) (k w again : Nat),
      s.cntClear k p kind 0 off w again = some (.ok (s.clearCounts (w % 2 ^ n) again (countersFrom (base p + first) n))) := by
  simp only [counterRows, List.mem_cons, Prod.mk.injEq, List.not_mem_nil, or_false] at h
  rcases h with ⟨rfl, rfl, rfl, rfl⟩ | ⟨rfl, rfl, rfl, rfl⟩ | ⟨rfl, rfl, rfl, rfl⟩ | ⟨rfl, rfl, rfl, rfl⟩ | ⟨rfl, rfl, rfl, rfl⟩
    | ⟨rfl, rfl, rfl, rfl⟩ | ⟨rfl, rfl, rfl, rfl⟩
  · exact ⟨.clk, rfl, by decide, fun _ _ _ _ => rfl⟩
  · exact ⟨.time, rfl, by decide, fun _ _ _ _ => rfl⟩
  · exact ⟨.sync, rfl, by decide, fun _ _ _ _ => rfl⟩
  · exact ⟨.cal, by cases v <;> rfl, by decide, fun _ _ _ _ => rfl⟩
  · exact ⟨.spad, by cases v <;> rfl, by decide, fun _ _ _ _ => rfl⟩
  · exact ⟨.dma, by cases v <;> rfl, by decide, fun _ _ _ _ => rfl⟩
  · exact ⟨.pwr, rfl, by decide, fun _ _ _ _ => rfl⟩

theorem execCounterClear_rows {first n : Nat} {mask again : Word} (h : (p, off, first, n) ∈ counterRows) (hj : s.Accepts o (base p + off) mask) :
    exec (.counterClear o (base p + off) mask again) s
      = .next ((s.clearCounts (mask.toNat % 2 ^ n) again.toNat (countersFrom (base p + first) n)).ackWrite o) := by
  obtain ⟨kind, hp, hoff, hclear⟩ := cntClear_counterRows h s.variant
  refine congrArg Host.Outcome.next (State.hostReg_acked _ _ _ _ _ _ hj ?_)
  simp only [pageNo_base_add hoff, base_add_mod hoff, hp, hclear]

/-! ### The clauses together -/

/-- Settles O40: each clause by the lemma that says what the command leaves. -/
theorem registersAreWrittenReadAndCleared : Obligations.RegistersAreWrittenReadAndCleared := by
  intro s o hs ho
  refine ⟨?refused, ?mask, ?scratch, ?low, ?high, ?highWrite, ?lowWrite, ?clears, ?counters, ?raw⟩
  case refused => exact fun a w c hlt ha hpair hj => execRegisterWrite_judged ho hlt ha hpair hj
  case mask =>
    exact fun p w hp hr => ⟨_, execRegisterWrite_noticeMask ho hp hr, State.rd_wr_self .., State.keepsBut_wr ..⟩
  case scratch =>
    exact fun w hb => ⟨_, execRegisterWrite_scratch ho hb, State.rd_wr_self .., State.keepsBut_wr ..⟩
  case low =>
    intro a hlt h8 hpair hr hu
    exact ⟨_, congrArg Host.Outcome.next (State.hostFetch_answered ho (by omega) (by omega) (State.wordRead_low hlt h8 hpair hr hu)),
      State.shadowOf_latch' hs ho, State.keepsBut_updSes ..⟩
  case high =>
    intro a hlt h8 hpair hr hu
    exact congrArg Host.Outcome.next (State.hostFetch_answered ho (by omega) (by omega) (State.wordRead_high hlt h8 hpair hr hu))
  case highWrite =>
    intro a w hlt h8 hpair
    refine ⟨fun hh => ⟨_, congrArg Host.Outcome.next (State.hostWord_acked ho (by omega) (State.wordWrite_high hlt h8 hpair hh)), ?_,
      State.keepsBut_updSes ..⟩, fun c hh => ?_⟩
    · simp [State.ses_updSes_self hs ho]
    · exact congrArg Host.Outcome.next
        (State.hostWord_refused ho (by omega) (State.wordWrite_high_refused hlt h8 hpair hh) (State.judgeHead_error hh))
  case lowWrite =>
    intro lo hi a hh hh' hr hsh
    refine ⟨_, execShadowLowWrite_frameBase ho hh hh' hr hsh, State.rd64_setFrameBase .., ?_, ?_⟩
    · rw [State.ses_setFrameBase]
      exact State.writeShadow_unshadow hs ho
    · exact State.keepsBut_setFrameBase ..
  case clears =>
    exact fun a ha hr => ⟨_, execClearOnRead_trig ho hr ha, State.rd_wr_self .., State.keepsBut_wr ..⟩
  case counters =>
    intro p off first n mask again h hj
    refine ⟨_, execCounterClear_rows h hj, fun i hi => ?_, State.keepsBut_clearCounts ..⟩
    rw [State.rd_clearCounts _ _ _ _ _ _ hi, bit_mod_two_pow _ hi]
  case raw =>
    intro p mask again hj
    refine ⟨_, execNoticeRawClear_accepted hj, State.rd_wr_self .., fun j hne => ?_, fun x _ => by rw [State.wr_mb, State.wr_mb]⟩
    rw [State.rd_wr_ne _ _ _ _ hne, State.rd_wr_ne _ _ _ _ hne]

end Sys2Proof.Machine
end

section
/-! What an update keeps, step after step: registers but those named, and all of memory; counters that saturate; and the registers of the
generate pages, which no notice writes (R70, R467 to R469, R483). -/
namespace Sys2Proof.Machine
open Sys2Proof
variable {s t u : State} {p q : Nat → Prop} {n : Nat}

/-! ### Updates one after another -/

theorem State.KeepsBut.mono (h : s.KeepsBut t p) (hpq : ∀ j, p j → q j) : s.KeepsBut t q :=
  ⟨fun j hj => h.1 j fun hp => hj (hpq j hp), h.2⟩

theorem State.KeepsBut.trans (h : s.KeepsBut t p) (h' : t.KeepsBut u q) : s.KeepsBut u (fun j => p j ∨ q j) :=
  ⟨fun j hj => (h'.1 j fun hq => hj (.inr hq)).trans (h.1 j fun hp => hj (.inl hp)), fun x hx => (h'.2 x hx).trans (h.2 x hx)⟩

/-- A field of a register that is kept. -/
theorem State.KeepsBut.fg (h : s.KeepsBut t p) {b : Nat} {f : Field} (hk : ¬ p (b + f.off)) : t.fg b f = s.fg b f :=
  congrArg (getF · f) (h.1 (b + f.off) hk)

theorem State.keepsBut_fs (s : State) (b : Nat) (f : Field) (v : Nat) : s.KeepsBut (s.fs b f v) (fun j => j = b + f.off) :=
  State.keepsBut_wr s (b + f.off) _

theorem State.keepsBut_countBy (s : State) (b : Nat) (f : Field) (m : Nat) : s.KeepsBut (s.countBy b f m) (fun j => j = b + f.off) :=
  State.keepsBut_fs s b f _

/-- A notice raised, or not raised because its bit stands already. -/
theorem State.keepsBut_notify_unless (s : State) (c : Prop) [Decidable c] (m : Notice) :
    s.KeepsBut (if c then s else s.notify m) noticeKey := by
  split
  · exact ⟨fun _ _ => rfl, fun _ _ => rfl⟩
  · exact ⟨fun j hj => State.rd_notify_ne _ _ j hj, fun x _ => State.notify_mb _ _ x⟩

/-! ### Counters -/

theorem satAdd_le (top a b : Nat) : satAdd top a b ≤ top := by
  unfold satAdd; split <;> omega

/-- A counter raised by `m` saturates at its greatest value. -/
theorem State.fg_countBy_self (s : State) (b : Nat) (f : Field) (m : Nat) (h : f.hi < 32) :
    (s.countBy b f m).fg b f = satAdd (2 ^ (f.hi + 1 - f.lo) - 1) (s.fg b f) m := by
  have hle := satAdd_le (2 ^ (f.hi + 1 - f.lo) - 1) (s.fg b f) m
  have hpos : 0 < 2 ^ (f.hi + 1 - f.lo) := Nat.two_pow_pos _
  rw [State.countBy, State.fg_fs_self _ _ _ _ _ h, Nat.mod_eq_of_lt (by omega)]

/-! ### The generate pages (R483) -/

theorem Variant.gens_le (v : Variant) : v.gens ≤ 16 := by cases v <;> decide

/-- No notice writes a register of a generate page. -/
theorem not_noticeKey_gen (hn : n < 16) {f : Field} (hf : f.off < 0x1000) : ¬ noticeKey (base (pGEN n) + f.off) :=
  not_noticeKey_of_lt (by unfold base pGEN; omega)

end Sys2Proof.Machine
end

section
/-! The mute causes of a generate channel: what `State.setCauses` leaves in MUTE_CTRL, and the commands that come down to it (R63, R68,
R70, R220). -/
namespace Sys2Proof.Machine
open Sys2Proof
variable {s : State} {o : Org} {n c i : Nat}

/-! ### Sets of causes, four bits -/

theorem putBit_lt (hc : c < 16) (hi : i < 4) (b : Bool) : putBit c i b < 16 := by
  refine Nat.lt_pow_two_of_testBit (n := 4) _ fun j hj => ?_
  have hne : ¬ j = i := by omega
  have hpow : 2 ^ 4 ≤ 2 ^ j := Nat.pow_le_pow_right (by decide) hj
  have hbit : c.testBit j = false := Nat.testBit_lt_two_pow (by omega)
  exact (bit_putBit c i j b).trans ((if_neg hne).trans hbit)

theorem State.causes_lt (s : State) (n : Nat) : s.causes n < 16 := getF_lt _ GEN_MUTE_CTRL_CAUSE

/-- The causes that then stand: CLOCK is among them while the synthesizer acquires lock (R68). -/
def State.withClock (s : State) (c : Nat) : Nat := if s.fb (base pCLK) CLK_PAGE_STATUS_GEN_ACQ then putBit c 2 true else c

theorem State.withClock_lt (s : State) (hc : c < 16) : s.withClock c < 16 := by
  unfold State.withClock
  split
  · exact putBit_lt hc (by decide) true
  · exact hc

theorem State.bit_withClock_clock (s : State) (c : Nat) :
    bit (s.withClock c) 2 = (bit c 2 || s.fb (base pCLK) CLK_PAGE_STATUS_GEN_ACQ) := by
  unfold State.withClock
  split <;> simp [*, bit_putBit]

theorem State.bit_withClock_other (s : State) (c : Nat) (hi : i ≠ 2) : bit (s.withClock c) i = bit c i := by
  unfold State.withClock
  split <;> simp [bit_putBit, hi]

theorem State.withClock_of_lock (h : s.fb (base pCLK) CLK_PAGE_STATUS_GEN_ACQ = false) : s.withClock c = c := if_neg (by simp [h])

theorem State.withClock_updGen (s : State) (m : Nat) (f : Gen → Gen) (c : Nat) : (s.updGen m f).withClock c = s.withClock c := rfl

/-! ### MUTE_CTRL after the causes are set -/

/-- CAUSE and MUTED written, and noted for the fill stage: what `setCauses` leaves but for its notice. -/
def State.causesSet (s : State) (n c : Nat) : State :=
  ((s.fs (base (pGEN n)) GEN_MUTE_CTRL_CAUSE c).fs (base (pGEN n)) GEN_MUTE_CTRL_MUTED (b2n (c != 0))).logChain n

theorem State.keepsBut_updGen (s : State) (n : Nat) (f : Gen → Gen) : s.KeepsBut (s.updGen n f) (fun _ => False) :=
  ⟨fun _ _ => rfl, fun _ _ => rfl⟩

theorem State.fg_logChain (s : State) (m b : Nat) (f : Field) (i : Nat) : (s.logChain m).fg b f i = s.fg b f i := rfl

theorem State.setCauses_keepsBut_notices (s : State) (n c : Nat) : (s.causesSet n (s.withClock c)).KeepsBut (s.setCauses n c) noticeKey :=
  State.keepsBut_notify_unless ..

theorem State.keepsBut_causesSet (s : State) (n c : Nat) : s.KeepsBut (s.causesSet n c) (fun j => j = base (pGEN n) + GEN_MUTE_CTRL) := by
  have hcause := s.keepsBut_fs (base (pGEN n)) GEN_MUTE_CTRL_CAUSE c
  have hmuted := State.keepsBut_fs (s.fs (base (pGEN n)) GEN_MUTE_CTRL_CAUSE c) (base (pGEN n)) GEN_MUTE_CTRL_MUTED (b2n (c != 0))
  exact ((hcause.trans hmuted).trans (State.keepsBut_updGen ..)).mono fun _ h => h.elim (·.elim id id) False.elim

theorem State.keepsBut_setCauses (s : State) (n c : Nat) :
    s.KeepsBut (s.setCauses n c) (fun j => j = base (pGEN n) + GEN_MUTE_CTRL ∨ noticeKey j) :=
  (State.keepsBut_causesSet ..).trans (State.setCauses_keepsBut_notices ..)

/-- The field CAUSE of MUTE_CTRL is not among the bits of MUTED. -/
theorem State.causes_causesSet (s : State) (hc : c < 16) : (s.causesSet n c).causes n = c := by
  rw [State.causesSet, State.causes, State.fg_logChain, State.fg_fs_other _ _ _ _ _ _ _ _ (by decide), State.fg_fs_self _ _ _ _ _ (by decide)]
  exact Nat.mod_eq_of_lt hc

theorem State.muted_causesSet (s : State) (n c : Nat) : (s.causesSet n c).fb (base (pGEN n)) GEN_MUTE_CTRL_MUTED = (c != 0) := by
  rw [State.causesSet, State.fb, State.fg_logChain, State.fg_fs_self _ _ _ _ _ (by decide)]
  cases c != 0 <;> rfl

theorem State.causes_setCauses (s : State) (hn : n < 16) (hc : c < 16) : (s.setCauses n c).causes n = s.withClock c :=
  ((s.setCauses_keepsBut_notices n c).fg (not_noticeKey_gen hn (by decide))).trans (s.causes_causesSet (s.withClock_lt hc))

theorem State.muted_setCauses (s : State) (n c : Nat) (hn : n < 16) :
    (s.setCauses n c).fb (base (pGEN n)) GEN_MUTE_CTRL_MUTED = (s.withClock c != 0) := by
  have hkept := (s.setCauses_keepsBut_notices n c).fg (not_noticeKey_gen (f := GEN_MUTE_CTRL_MUTED) hn (by decide))
  rw [State.fb, hkept]
  exact s.muted_causesSet n _

/-! ### The commands -/

theorem execMuteSet_accepted (h : s.Accepts o (base (pGEN n) + GEN_MUTE_CTRL) 2#32) :
    exec (.muteSet o n) s = .next ((s.setCauses n (putBit (s.causes n) 0 true)).ackWrite o) :=
  congrArg Host.Outcome.next (State.hostReg_acked _ _ _ _ _ _ h rfl)

/-- PROOF after a write of CLEAR: set by a proof stencil in the same cycle, or kept while an overload isolates the connector (R70, R220). -/
def State.proofAfterClear (s : State) (n : Nat) (proofToo : Bool) : Bool :=
  proofToo || (bit (s.causes n) 1 && s.fb (base (pGEN n)) GEN_PROOF_FAULT_ISOLATED)

theorem execMuteClear_accepted {proofToo : Bool} (h : s.Accepts o (base (pGEN n) + GEN_MUTE_CTRL) 4#32) :
    exec (.muteClear o n proofToo) s
      = .next ((s.setCauses n (putBit (putBit (s.causes n) 0 false) 1 (s.proofAfterClear n proofToo))).ackWrite o) :=
  congrArg Host.Outcome.next (State.hostReg_acked _ _ _ _ _ _ h rfl)

/-- An output stage that has settled no longer settles, and its channel loses CLOCK where the synthesizer has lock. -/
theorem execOutputSettled_settling (hgen : n < s.variant.gens) (hset : (s.gen n).settling = true)
    (hacq : s.fb (base pCLK) CLK_PAGE_STATUS_GEN_ACQ = false) :
    exec (.outputSettled n) s
      = .next ((s.updGen n (fun g => { g with settling := false })).setCauses n (putBit (s.causes n) 2 false)) := by
  show execOutputSettled n s = _
  rw [execOutputSettled, if_neg (Nat.not_le.mpr hgen), hset, hacq]
  rfl

/-- A bit that is set means that a cause stands. -/
theorem ne_zero_of_bit (h : bit c i = true) : c ≠ 0 := by
  rintro rfl
  simp [bit] at h

/-- Settles O1: both writes set the causes once, and the rest is what setting them leaves. -/
theorem muteCausesFollowTheHost : Obligations.MuteCausesFollowTheHost := by
  intro s o n hgen
  have hn : n < 16 := Nat.lt_of_lt_of_le hgen (Variant.gens_le _)
  have hold := s.causes_lt n
  refine ⟨fun hacc => ⟨_, execMuteSet_accepted hacc, ?set⟩, fun proofToo hacc => ⟨_, execMuteClear_accepted hacc, ?clear⟩⟩
  case set =>
    have hc : putBit (s.causes n) 0 true < 16 := putBit_lt hold (by decide) _
    have hhost : bit (s.withClock (putBit (s.causes n) 0 true)) 0 = true := by
      rw [s.bit_withClock_other _ (by decide), bit_putBit, if_pos rfl]
    rw [State.muted_setCauses s n _ hn, State.causes_setCauses s hn hc]
    refine ⟨hhost, fun i h0 _ h2 => ?_, ?_, by simpa using ne_zero_of_bit hhost, State.keepsBut_setCauses ..⟩
    · rw [s.bit_withClock_other _ h2, bit_putBit, if_neg (by omega)]
    · rw [s.bit_withClock_clock, bit_putBit, if_neg (by decide)]
  case clear =>
    have hc : putBit (putBit (s.causes n) 0 false) 1 (s.proofAfterClear n proofToo) < 16 :=
      putBit_lt (putBit_lt hold (by decide) _) (by decide) _
    rw [State.muted_setCauses s n _ hn, State.causes_setCauses s hn hc]
    refine ⟨?_, ?_, ?_, ?_, rfl, State.keepsBut_setCauses ..⟩
    · rw [s.bit_withClock_other _ (by decide)]; simp [bit_putBit]
    · rw [s.bit_withClock_other _ (by decide)]; simp [bit_putBit, State.proofAfterClear]
    · rw [s.bit_withClock_clock]; simp [bit_putBit]
    · rw [s.bit_withClock_other _ (by decide)]; simp [bit_putBit]

end Sys2Proof.Machine
end

section
/-! What the rows that count on a generate channel leave, one lemma a row, and their assembly in
`Obligations.ChannelEventsAreCounted` (R59, R63, R66, R98). -/
namespace Sys2Proof.Machine
open Sys2Proof
variable {s : State} {n cycle : Nat}

/-! ### Clips of the amplitude scale (R59) -/

theorem execStrokeClip_clipped (hgen : n < s.variant.gens)
    (hhas : s.strokeHas n cycle (fun j r older later => (s.scaled n cycle j r older later).2) = true) :
    ∃ t, exec (.strokeClip n cycle) s = .next t
      ∧ (s.countBy (base (pGEN n)) GEN_CLIP_COUNT_COUNT 1).KeepsBut t noticeKey := by
  show ∃ t, execStrokeClip n cycle s = .next t ∧ _
  rw [execStrokeClip, if_neg (Nat.not_le.mpr hgen), hhas]
  exact ⟨_, rfl, State.keepsBut_notify_unless ..⟩

theorem execStrokeClip_unclipped (hgen : n < s.variant.gens)
    (hhas : s.strokeHas n cycle (fun j r older later => (s.scaled n cycle j r older later).2) = false) :
    exec (.strokeClip n cycle) s = .next s := by
  show execStrokeClip n cycle s = _
  rw [execStrokeClip, if_neg (Nat.not_le.mpr hgen), hhas]
  rfl

/-! ### Limits of the Stylus output (R98) -/

theorem execStylusLimit_limited (hgen : n < s.variant.gens)
    (hhas : s.strokeHas n cycle (fun j r _ _ => (s.stylusAt n cycle j r).2) = true) :
    exec (.stylusLimit n cycle) s
      = .next ((s.countBy (base (pGEN n)) GEN_STYLUS_LIMIT_COUNT_COUNT 1).fs (base (pGEN n)) GEN_STYLUS_STATUS_LIMIT 1) := by
  show execStylusLimit n cycle s = _
  rw [execStylusLimit, if_neg (Nat.not_le.mpr hgen), hhas]
  rfl

theorem execStylusLimit_unlimited (hgen : n < s.variant.gens)
    (hhas : s.strokeHas n cycle (fun j r _ _ => (s.stylusAt n cycle j r).2) = false) :
    exec (.stylusLimit n cycle) s = .next s := by
  show execStylusLimit n cycle s = _
  rw [execStylusLimit, if_neg (Nat.not_le.mpr hgen), hhas]
  rfl

/-! ### Fills (R66) -/

theorem gBase_gen (hn : n < 16) : gBase n = base (pGEN n) := by
  rw [gBase, gPage, if_pos hn]

/-- The counters of a channel's fill episode: its strokes, and for an underrun the strokes whose words are missing. -/
def State.fillCounted (s : State) (n strokes missing : Nat) : FillCause → State
  | .ecc => s.countBy (base (pGEN n)) GEN_FILL_COUNT_COUNT strokes
  | .underrun => (s.countBy (base (pGEN n)) GEN_FILL_COUNT_COUNT strokes).countBy (base (pGEN n)) GEN_UNDERRUN_COUNT_COUNT missing

theorem State.fillCount_fillCounted (s : State) (n strokes missing : Nat) (cause : FillCause) :
    (s.fillCounted n strokes missing cause).fg (base (pGEN n)) GEN_FILL_COUNT_COUNT
      = satAdd 0xFFFFFFFF (s.fg (base (pGEN n)) GEN_FILL_COUNT_COUNT) strokes := by
  have hfill := s.fg_countBy_self (base (pGEN n)) GEN_FILL_COUNT_COUNT strokes (by decide)
  cases cause with
  | ecc => exact hfill
  | underrun => exact (State.fg_fs_ne _ _ _ _ _ _ _ _ (by simp [GEN_FILL_COUNT_COUNT, GEN_UNDERRUN_COUNT_COUNT])).trans hfill

theorem State.underrunCount_fillCounted (s : State) (n strokes missing : Nat) (cause : FillCause) :
    (s.fillCounted n strokes missing cause).fg (base (pGEN n)) GEN_UNDERRUN_COUNT_COUNT
      = if cause = .underrun then satAdd 0xFFFFFFFF (s.fg (base (pGEN n)) GEN_UNDERRUN_COUNT_COUNT) missing
        else s.fg (base (pGEN n)) GEN_UNDERRUN_COUNT_COUNT := by
  have hkept : (s.countBy (base (pGEN n)) GEN_FILL_COUNT_COUNT strokes).fg (base (pGEN n)) GEN_UNDERRUN_COUNT_COUNT
      = s.fg (base (pGEN n)) GEN_UNDERRUN_COUNT_COUNT :=
    State.fg_fs_ne _ _ _ _ _ _ _ _ (by simp [GEN_FILL_COUNT_COUNT, GEN_UNDERRUN_COUNT_COUNT])
  cases cause with
  | ecc => exact hkept
  | underrun => exact hkept ▸ State.fg_countBy_self _ (base (pGEN n)) GEN_UNDERRUN_COUNT_COUNT missing (by decide)

theorem State.keepsBut_fillCounted (s : State) (n strokes missing : Nat) (cause : FillCause) :
    s.KeepsBut (s.fillCounted n strokes missing cause)
      (fun j => j = base (pGEN n) + GEN_FILL_COUNT ∨ j = base (pGEN n) + GEN_UNDERRUN_COUNT) := by
  have hfill := s.keepsBut_countBy (base (pGEN n)) GEN_FILL_COUNT_COUNT strokes
  cases cause with
  | ecc => exact hfill.mono fun _ => .inl
  | underrun => exact hfill.trans (State.keepsBut_countBy ..)

/-- An episode is counted and noted among the fills, which touches no register, and a notice tells of it where it continues none. -/
theorem execFill_counted (hgen : n < s.variant.gens) (cause : FillCause) (first missing before after : Nat) :
    ∃ t, exec (.fill n cause first missing before after) s = .next t
      ∧ (s.fillCounted n (s.fillSpan n first missing before after).2 missing cause).KeepsBut t noticeKey := by
  have hn : n < 16 := Nat.lt_of_lt_of_le hgen (Variant.gens_le _)
  have hgrv : s.hasGraver n = true := by simp [State.hasGraver, hgen]
  show ∃ t, execFill n cause first missing before after s = .next t ∧ _
  simp only [execFill, State.onGraver, hgrv, if_true, State.countFill, if_pos hn, gBase_gen hn]
  refine ⟨_, rfl, ?_⟩
  cases cause <;> exact State.keepsBut_notify_unless ..

/-- Settles O2: each clause by the lemma that says what its row leaves. -/
theorem channelEventsAreCounted : Obligations.ChannelEventsAreCounted := by
  intro s n hgen
  have hn : n < 16 := Nat.lt_of_lt_of_le hgen (Variant.gens_le _)
  refine ⟨fun cycle hhas => ?clip, fun _ => execStrokeClip_unclipped hgen, fun cycle hhas => ?limit,
    fun _ => execStylusLimit_unlimited hgen, fun cause first missing before after => ?fill, fun hset hacq => ?settled⟩
  case clip =>
    obtain ⟨t, hexec, ht⟩ := execStrokeClip_clipped hgen hhas
    exact ⟨t, hexec, (ht.fg (not_noticeKey_gen hn (by decide))).trans (State.fg_countBy_self _ _ _ _ (by decide)),
      (State.keepsBut_countBy ..).trans ht⟩
  case limit =>
    refine ⟨_, execStylusLimit_limited hgen hhas, ?_, State.fg_fs_self _ _ _ _ _ (by decide),
      (State.keepsBut_countBy ..).trans (State.keepsBut_fs ..)⟩
    exact (State.fg_fs_ne _ _ _ _ _ _ _ _ (by simp [GEN_STYLUS_LIMIT_COUNT_COUNT, GEN_STYLUS_STATUS_LIMIT])).trans
      (State.fg_countBy_self _ _ _ _ (by decide))
  case fill =>
    obtain ⟨t, hexec, ht⟩ := execFill_counted hgen cause first missing before after
    exact ⟨t, hexec, (ht.fg (not_noticeKey_gen hn (by decide))).trans (State.fillCount_fillCounted ..),
      (ht.fg (not_noticeKey_gen hn (by decide))).trans (State.underrunCount_fillCounted ..),
      ((State.keepsBut_fillCounted ..).trans ht).mono fun _ h => or_assoc.mp h⟩
  case settled =>
    have hc : putBit (s.causes n) 2 false < 16 := putBit_lt (s.causes_lt n) (by decide) _
    refine ⟨_, execOutputSettled_settling hgen hset hacq, ?_⟩
    rw [State.causes_setCauses _ hn hc, State.withClock_updGen, State.withClock_of_lock hacq]
    refine ⟨by rw [bit_putBit, if_pos rfl], fun i hi _ => by rw [bit_putBit, if_neg hi], ?_⟩
    exact ((State.keepsBut_updGen ..).trans (State.keepsBut_setCauses ..)).mono fun _ h => h.elim False.elim id

end Sys2Proof.Machine
end

section
/-! Words of memory and fields within them, and the records that a first write claims: what a word written to a directory record or a
sketch descriptor stores, who owns the record then, and who is refused (R78 to R80, R91). -/
namespace Sys2Proof.Machine
open Sys2Proof
variable {s t u : State} {p q : Nat → Prop} {o : Org} {w : Word} {c : Code} {k a own v r d i n hi lo hi' lo' : Nat}

/-! ### A field of a number replaced -/

/-- A number with its bits [hi:lo] replaced by the low bits of `v`. -/
def withBits (n hi lo v : Nat) : Nat := n - bits n hi lo * 2 ^ lo + v % 2 ^ (hi + 1 - lo) * 2 ^ lo

/-- From bit `lo` on, the bits above the field stand and the field holds the new value. -/
theorem withBits_div (n hi lo v : Nat) :
    withBits n hi lo v / 2 ^ lo = 2 ^ (hi + 1 - lo) * (n / 2 ^ lo / 2 ^ (hi + 1 - lo)) + v % 2 ^ (hi + 1 - lo) := by
  have hsplit := Nat.div_add_mod (n / 2 ^ lo) (2 ^ (hi + 1 - lo))
  rw [withBits, Nat.add_mul_div_right _ _ (Nat.two_pow_pos lo), Nat.mul_comm (bits ..), Nat.sub_mul_div, bits]
  omega

theorem bits_withBits_self (n hi lo v : Nat) : bits (withBits n hi lo v) hi lo = v % 2 ^ (hi + 1 - lo) := by
  rw [bits, withBits_div, Nat.mul_add_mod, Nat.mod_mod]

theorem withBits_div_above (h : lo ≤ hi + 1) : withBits n hi lo v / 2 ^ (hi + 1) = n / 2 ^ (hi + 1) := by
  have hpow : 2 ^ (hi + 1) = 2 ^ lo * 2 ^ (hi + 1 - lo) := by rw [← Nat.pow_add, Nat.add_sub_cancel' h]
  have hpos : 0 < 2 ^ (hi + 1 - lo) := Nat.two_pow_pos _
  rw [hpow, ← Nat.div_div_eq_div_mul, ← Nat.div_div_eq_div_mul, withBits_div, Nat.mul_add_div hpos,
    Nat.div_eq_of_lt (Nat.mod_lt v hpos), Nat.add_zero]

/-- The bits next above a field that is replaced stand. -/
theorem bits_withBits_above (h : lo ≤ hi + 1) : bits (withBits n hi lo v) hi' (hi + 1) = bits n hi' (hi + 1) := by
  rw [bits, withBits_div_above h, bits]

theorem withBits_lt (h : lo ≤ hi + 1) (hw : hi < 32) (hn : n < 2 ^ 32) : withBits n hi lo v < 2 ^ 32 := by
  have hpow : 2 ^ 32 = 2 ^ (32 - (hi + 1)) * 2 ^ (hi + 1) := by rw [← Nat.pow_add, Nat.sub_add_cancel hw]
  rw [hpow] at hn ⊢
  rw [← Nat.div_lt_iff_lt_mul (Nat.two_pow_pos _), withBits_div_above h]
  exact (Nat.div_lt_iff_lt_mul (Nat.two_pow_pos _)).mpr hn

/-! ### Words of memory -/

theorem State.ld_lt (s : State) (a n : Nat) : s.ld a n < 256 ^ n := by
  induction n generalizing a with
  | zero => exact Nat.one_pos
  | succ n ih =>
    have hbyte : (s.mb a).toNat < 256 := (s.mb a).isLt
    have hrest := ih (a + 1)
    rw [State.ld, Nat.pow_succ]
    omega

theorem State.ldw_lt (s : State) (a : Nat) : s.ldw a < 2 ^ 32 := s.ld_lt a 4

theorem State.ldw_stw_self (s : State) (a : Nat) (hv : v < 2 ^ 32) : (s.stw a v).ldw a = v :=
  (s.ld_st_self a v 4).trans (Nat.mod_eq_of_lt hv)

theorem State.ldw_stw_ne (s : State) (v : Nat) (h : own + 4 ≤ a ∨ a + 4 ≤ own) : (s.stw a v).ldw own = s.ldw own :=
  s.ld_st_ne a v 4 own 4 h

theorem State.setMbits_eq (s : State) (a hi lo v : Nat) : s.setMbits a hi lo v = s.stw a (withBits (s.ldw a) hi lo v) := rfl

theorem State.ldw_setMbits_self (s : State) (a v : Nat) (h : lo ≤ hi + 1) (hw : hi < 32) :
    (s.setMbits a hi lo v).ldw a = withBits (s.ldw a) hi lo v :=
  s.ldw_stw_self a (withBits_lt h hw (s.ldw_lt a))

theorem State.mbits_setMbits_self (s : State) (a v : Nat) (h : lo ≤ hi + 1) (hw : hi < 32) :
    (s.setMbits a hi lo v).mbits a hi lo = v % 2 ^ (hi + 1 - lo) := by
  rw [State.mbits, s.ldw_setMbits_self a v h hw, bits_withBits_self]

theorem State.mbits_setMbits_above (s : State) (a v hi' : Nat) (h : lo ≤ hi + 1) (hw : hi < 32) :
    (s.setMbits a hi lo v).mbits a hi' (hi + 1) = s.mbits a hi' (hi + 1) := by
  rw [State.mbits, s.ldw_setMbits_self a v h hw, bits_withBits_above h, State.mbits]

/-! ### What a store of a word leaves alone -/

theorem State.KeepsRegs.trans (h : s.KeepsRegs t p) (h' : t.KeepsRegs u p) : s.KeepsRegs u p :=
  fun j hj => (h' j hj).trans (h j hj)

theorem State.KeepsMem.trans (h : s.KeepsMem t p) (h' : t.KeepsMem u q) : s.KeepsMem u (fun x => p x ∨ q x) :=
  fun x hx => (h' x fun hq => hx (.inr hq)).trans (h x fun hp => hx (.inl hp))

theorem State.keepsRegs_stw (s : State) (a v : Nat) : s.KeepsRegs (s.stw a v) (fun _ => False) := fun _ _ => s.st_rd ..

theorem State.keepsMem_stw (s : State) (a v : Nat) : s.KeepsMem (s.stw a v) (within a 4) := by
  intro x hx
  have hout : x < a ∨ a + 4 ≤ x := by unfold within at hx; omega
  exact s.mb_st_ne a v 4 x hout

/-! ### Host writes to a table window -/

theorem State.hostMem_turnedAway {eff : State → Act} (h : s.AcceptsTable o) (he : eff s = .error c) :
    s.hostMem o a eff = s.turnedAway o a c := by
  obtain ⟨hopen, hrest, hret⟩ := h
  have hserved : ¬ 2 ≤ s.restState := by omega
  simp only [State.hostMem, hopen, if_true, hserved, if_false, hret, Bool.false_eq_true, he, State.report, State.turnedAway]

theorem maskIn_lt (w : Word) {old : Nat} (mask : Nat) (h : old < 2 ^ 32) : maskIn old w.toNat mask < 2 ^ 32 :=
  Nat.or_lt_two_pow (Nat.lt_of_le_of_lt Nat.and_le_left h) (Nat.lt_of_le_of_lt Nat.and_le_left w.isLt)

/-! ### A record that the first write claims (R79) -/

/-- The record is free or the session's own, and nothing references it. -/
theorem State.recordWrite_ok (s : State) (a v : Nat) (releases : Bool) (hfree : s.mbits own 7 0 = 0 ∨ s.mbits own 7 0 = k)
    (href : s.mbits own 23 8 = 0) :
    s.recordWrite k a own v releases = .ok ((s.stw a v).setMbits own 7 0 (if releases then 0 else k)) := by
  have howner : ¬ (s.mbits own 7 0 ≠ 0 ∧ s.mbits own 7 0 ≠ k) := by omega
  rw [State.recordWrite, if_neg howner, if_neg (not_not_intro href)]
  cases releases <;> rfl

theorem State.recordWrite_owner (s : State) (a v : Nat) (releases : Bool) (h0 : s.mbits own 7 0 ≠ 0) (hk : s.mbits own 7 0 ≠ k) :
    s.recordWrite k a own v releases = .error .owner := if_pos ⟨h0, hk⟩

theorem State.recordWrite_locked (s : State) (a v : Nat) (releases : Bool) (hk : s.mbits own 7 0 = k) (href : s.mbits own 23 8 ≠ 0) :
    s.recordWrite k a own v releases = .error .locked := by
  rw [State.recordWrite, if_neg fun h => h.2 hk, if_pos href]

/-- `u` is `s` with `v` written to the word at `a` of a record whose owner word stands at `own` and whose owner is then `k`. -/
def State.Claimed (s u : State) (a own v k : Nat) : Prop :=
  u.ldw a = v ∧ u.mbits own 7 0 = k ∧ u.mbits own 31 8 = s.mbits own 31 8
    ∧ s.KeepsRegs u (fun _ => False) ∧ s.KeepsMem u (fun x => within a 4 x ∨ within own 4 x)

theorem State.claimed_stw_setMbits (s : State) (hne : own + 4 ≤ a ∨ a + 4 ≤ own) (hv : v < 2 ^ 32) (hk : k < 256) :
    s.Claimed ((s.stw a v).setMbits own 7 0 k) a own v k := by
  refine ⟨?word, ?owner, ?rest, ?regs, ?mem⟩
  case word => rw [State.setMbits_eq, State.ldw_stw_ne _ _ hne.symm, s.ldw_stw_self a hv]
  case owner => rw [State.mbits_setMbits_self _ _ _ (by decide) (by decide)]; exact Nat.mod_eq_of_lt hk
  case rest => rw [State.mbits_setMbits_above (hi := 7) _ _ _ _ (by decide) (by decide), State.mbits, s.ldw_stw_ne v hne, State.mbits]
  case regs => exact (s.keepsRegs_stw a v).trans (State.keepsRegs_stw _ _ _)
  case mem => exact (s.keepsMem_stw a v).trans (State.keepsMem_stw _ _ _)

/-- A write of a record that the session may claim: the record is then the session's, or free where the word releases it. -/
theorem State.recordWrite_claims (s : State) (w : Word) (mask : Nat) (releases : Prop) [Decidable releases] (hopen : s.isOpen k = true)
    (hne : own + 4 ≤ a ∨ a + 4 ≤ own) (hfree : s.mbits own 7 0 = 0 ∨ s.mbits own 7 0 = k) (href : s.mbits own 23 8 = 0) :
    ∃ u, s.recordWrite k a own (maskIn (s.ldw a) w.toNat mask) (decide releases) = .ok u
      ∧ s.Claimed u a own (maskIn (s.ldw a) w.toNat mask) (if releases then 0 else k) := by
  obtain ⟨_, hk⟩ := State.isOpen_range hopen
  have howner : (if releases then 0 else k) < 256 := by split <;> omega
  refine ⟨_, s.recordWrite_ok a _ (decide releases) hfree href, ?_⟩
  simpa only [decide_eq_true_eq] using s.claimed_stw_setMbits hne (maskIn_lt w mask (s.ldw_lt a)) howner

/-! ### Directory records (R78 to R80) -/

/-- Offset 4 * i of record `r`, in the terms in which the directory window finds them. -/
theorem dirAddr_word (hi : i < 8) : (dirAddr r + 4 * i - 0x08000000) / 32 = r ∧ (dirAddr r + 4 * i - 0x08000000) % 32 = 4 * i := by
  unfold dirAddr; omega

theorem State.dirWrite_word (s : State) (k r : Nat) (w : Word) (hi : i < 8) (hown : i ≠ 6) :
    s.dirWrite k (dirAddr r + 4 * i) w = s.recordWrite k (dirAddr r + 4 * i) (dirAddr r + 0x18)
      (maskIn (s.ldw (dirAddr r + 4 * i)) w.toNat (dirMask (4 * i))) (decide (i = 0 ∧ w.toNat % 4 = 0)) := by
  obtain ⟨hrec, hoff⟩ := dirAddr_word (r := r) hi
  have hne : ¬ 4 * i = 0x18 := by omega
  have hkind : 4 * i = 0 ↔ i = 0 := by omega
  simp only [State.dirWrite, hrec, hoff, hne, if_false, Bool.beq_eq_decide_eq, Bool.decide_and, hkind]

/-- A word of a record that the session may claim: its writable bits are taken, and KIND written as 0 releases the record. -/
theorem State.dirWrite_claims (s : State) (w : Word) (hopen : s.isOpen k = true) (hi : i < 8) (hown : i ≠ 6)
    (hfree : s.mbits (dirAddr r + 0x18) 7 0 = 0 ∨ s.mbits (dirAddr r + 0x18) 7 0 = k) (href : s.mbits (dirAddr r + 0x18) 23 8 = 0) :
    ∃ u, s.dirWrite k (dirAddr r + 4 * i) w = .ok u
      ∧ s.Claimed u (dirAddr r + 4 * i) (dirAddr r + 0x18) (maskIn (s.ldw (dirAddr r + 4 * i)) w.toNat (dirMask (4 * i)))
        (if i = 0 ∧ w.toNat % 4 = 0 then 0 else k) := by
  have hne : dirAddr r + 0x18 + 4 ≤ dirAddr r + 4 * i ∨ dirAddr r + 4 * i + 4 ≤ dirAddr r + 0x18 := by omega
  rw [s.dirWrite_word k r w hi hown]
  exact s.recordWrite_claims w _ _ hopen hne hfree href

/-- The owner word is refused as any other word of the record. -/
theorem State.dirWrite_refused (w : Word) (hi : i < 8)
    (h : ∀ v releases, s.recordWrite k (dirAddr r + 4 * i) (dirAddr r + 0x18) v releases = .error c) :
    s.dirWrite k (dirAddr r + 4 * i) w = .error c := by
  obtain ⟨hrec, hoff⟩ := dirAddr_word (r := r) hi
  simp only [State.dirWrite, hrec, hoff, h, ite_self]

theorem execDirectoryWrite_word (s : State) (o : Org) (w : Word) (hr : r < 65536) (hi : i < 8) :
    exec (.directoryWrite o (dirAddr r + 4 * i) w) s
      = .next (s.hostMem o (dirAddr r + 4 * i) (fun t => t.dirWrite o.sess (dirAddr r + 4 * i) w)) := by
  have hin : 0x08000000 ≤ dirAddr r + 4 * i ∧ dirAddr r + 4 * i < 0x08200000 ∧ (dirAddr r + 4 * i) % 4 = 0 := by
    unfold dirAddr; omega
  show execDirectoryWrite .. = _
  simp only [execDirectoryWrite, hin, and_self, if_true]

theorem execDirectoryWrite_acked (hacc : s.AcceptsTable o) (hr : r < 65536) (hi : i < 8)
    (h : s.dirWrite o.sess (dirAddr r + 4 * i) w = .ok u) :
    exec (.directoryWrite o (dirAddr r + 4 * i) w) s = .next (u.ackWrite o) :=
  (execDirectoryWrite_word s o w hr hi).trans (congrArg Host.Outcome.next (State.hostMem_acked _ _ _ _ _ hacc h))

theorem execDirectoryWrite_refused (hacc : s.AcceptsTable o) (hr : r < 65536) (hi : i < 8)
    (h : ∀ v releases, s.recordWrite o.sess (dirAddr r + 4 * i) (dirAddr r + 0x18) v releases = .error c) :
    exec (.directoryWrite o (dirAddr r + 4 * i) w) s = .next (s.turnedAway o (dirAddr r + 4 * i) c) :=
  (execDirectoryWrite_word s o w hr hi).trans <|
    congrArg Host.Outcome.next (State.hostMem_turnedAway hacc (State.dirWrite_refused w hi h))

/-! ### Sketch descriptors (R91) -/

theorem State.descWrite_word (s : State) (k d : Nat) (w : Word) (hi : i < 64) (hown : i ≠ 3) :
    s.descWrite k (descAddr d + 4 * i) w = s.recordWrite k (descAddr d + 4 * i) (descAddr d + 0x0C)
      (maskIn (s.ldw (descAddr d + 4 * i)) w.toNat (descMask (4 * i))) (decide (i = 1 ∧ w.toNat % 256 = 0)) := by
  have hdesc : (descAddr d + 4 * i - 0x08200000) / 256 = d ∧ (descAddr d + 4 * i - 0x08200000) % 256 = 4 * i := by
    unfold descAddr; omega
  have hne : ¬ 4 * i = 0x0C := by omega
  have hversion : 4 * i = 4 ↔ i = 1 := by omega
  simp only [State.descWrite, hdesc, hne, if_false, Bool.beq_eq_decide_eq, Bool.decide_and, hversion]

/-- A word of a record that the session may claim: its writable bits are taken, and VERSION written as 0 releases the record. -/
theorem State.descWrite_claims (s : State) (w : Word) (hopen : s.isOpen k = true) (hi : i < 64) (hown : i ≠ 3)
    (hfree : s.mbits (descAddr d + 0x0C) 7 0 = 0 ∨ s.mbits (descAddr d + 0x0C) 7 0 = k) (href : s.mbits (descAddr d + 0x0C) 23 8 = 0) :
    ∃ u, s.descWrite k (descAddr d + 4 * i) w = .ok u
      ∧ s.Claimed u (descAddr d + 4 * i) (descAddr d + 0x0C) (maskIn (s.ldw (descAddr d + 4 * i)) w.toNat (descMask (4 * i)))
        (if i = 1 ∧ w.toNat % 256 = 0 then 0 else k) := by
  have hne : descAddr d + 0x0C + 4 ≤ descAddr d + 4 * i ∨ descAddr d + 4 * i + 4 ≤ descAddr d + 0x0C := by omega
  rw [s.descWrite_word k d w hi hown]
  exact s.recordWrite_claims w _ _ hopen hne hfree href

theorem execDescriptorWrite_word (s : State) (o : Org) (w : Word) (hd : d < 16384) (hi : i < 64) :
    exec (.descriptorWrite o (descAddr d + 4 * i) w) s
      = .next (s.hostMem o (descAddr d + 4 * i) (fun t => t.descWrite o.sess (descAddr d + 4 * i) w)) := by
  have hin : 0x08200000 ≤ descAddr d + 4 * i ∧ descAddr d + 4 * i < 0x08600000 ∧ (descAddr d + 4 * i) % 4 = 0 := by
    unfold descAddr; omega
  show execDescriptorWrite .. = _
  simp only [execDescriptorWrite, hin, and_self, if_true]

theorem execDescriptorWrite_acked (hacc : s.AcceptsTable o) (hd : d < 16384) (hi : i < 64)
    (h : s.descWrite o.sess (descAddr d + 4 * i) w = .ok u) :
    exec (.descriptorWrite o (descAddr d + 4 * i) w) s = .next (u.ackWrite o) :=
  (execDescriptorWrite_word s o w hd hi).trans (congrArg Host.Outcome.next (State.hostMem_acked _ _ _ _ _ hacc h))

/-! ### The obligation -/

/-- Settles O3: a write that is let through claims or releases the record by `State.recordWrite_claims`, for a directory record as for a
descriptor; the two refusals are those of `State.recordWrite`. -/
theorem recordsAreClaimedByTheirFirstWriter : Obligations.RecordsAreClaimedByTheirFirstWriter := by
  intro s o w hacc
  refine ⟨fun r i hr hi hfree href => ?directory, fun r i hr hi => ⟨fun h0 hk => ?owner, fun hk href => ?locked⟩,
    fun d i hd hi hown hfree href => ?descriptor⟩
  case directory =>
    have hi8 : i < 8 := by omega
    obtain ⟨u, hu, hclaimed⟩ := s.dirWrite_claims w hacc.1 hi8 (by omega) hfree href
    exact ⟨u, execDirectoryWrite_acked hacc hr hi8 hu, hclaimed⟩
  case owner => exact execDirectoryWrite_refused hacc hr hi fun v releases => s.recordWrite_owner _ v releases h0 hk
  case locked => exact execDirectoryWrite_refused hacc hr hi fun v releases => s.recordWrite_locked _ v releases hk href
  case descriptor =>
    obtain ⟨u, hu, hclaimed⟩ := s.descWrite_claims w hacc.1 hi hown hfree href
    exact ⟨u, execDescriptorWrite_acked hacc hd hi hu, hclaimed⟩

end Sys2Proof.Machine
end

section
/-! Stores moved and copied (R138, R141): what a run of writes and a range of cells moved elsewhere read as, the copy of a committed table
into the shadow, and the state for which that copy is not exact. -/
namespace Sys2Proof.Machine
open Sys2Proof

/-! ### A run of writes, and cells moved -/

section Stores
variable {α : Type} {d d' : Nat → α} {l es : List (Nat × α)} {k : Nat}

/-- A read depends on the default at its own key alone. -/
theorem stGet_congr_default (h : d k = d' k) : stGet d l k = stGet d' l k := by
  induction l with
  | nil => exact h
  | cons e t ih => simp only [stGet, ih]

/-- The writes of a sorted list, one after another: a key that it lists reads as listed, every other as before. -/
theorem stGet_foldl_stSet [DecidableEq α] (hes : stSorted es = true) :
    stGet d (es.foldl (fun m e => stSet d m e.1 e.2) l) k = stGet (stGet d l) es k := by
  induction es generalizing l with
  | nil => rfl
  | cons e t ih =>
    obtain ⟨habove, ht⟩ := (stSorted_cons e.1 e.2 t).mp hes
    simp only [List.foldl_cons, ih ht, stGet]
    split
    case isTrue hk =>
      rw [stGet_above (hk ▸ habove), ← hk, stGet_stSet_self]
    case isFalse hk => exact stGet_congr_default (stGet_stSet_ne d l e.1 k e.2 (Ne.symm hk))

end Stores

section Cells
variable {m : List Host.Cell} {d : Nat → Byte} {lo n dst k x : Nat}

theorem moveCells_cons (e : Host.Cell) :
    moveCells (e :: m) lo n dst =
      if lo ≤ e.1 ∧ e.1 < lo + n then (e.1 - lo + dst, e.2) :: moveCells m lo n dst else moveCells m lo n dst := by
  by_cases he : lo ≤ e.1 ∧ e.1 < lo + n
  · simp [moveCells, he]
  · simp [moveCells, he]

/-- Every cell that is moved lands in the range it is moved to. -/
theorem mem_moveCells {e : Host.Cell} (he : e ∈ moveCells m lo n dst) :
    ∃ c ∈ m, lo ≤ c.1 ∧ c.1 < lo + n ∧ e = (c.1 - lo + dst, c.2) := by
  obtain ⟨c, hc, rfl⟩ := List.mem_map.mp he
  obtain ⟨hmem, hin⟩ := List.mem_filter.mp hc
  obtain ⟨hlo, hhi⟩ := of_decide_eq_true hin
  exact ⟨c, hmem, hlo, hhi, rfl⟩

theorem stSorted_moveCells (h : stSorted m = true) : stSorted (moveCells m lo n dst) = true := by
  induction m with
  | nil => rfl
  | cons e t ih =>
    obtain ⟨habove, ht⟩ := (stSorted_cons e.1 e.2 t).mp h
    rw [moveCells_cons]
    split
    case isTrue he =>
      refine (stSorted_cons ..).mpr ⟨fun q hq => ?_, ih ht⟩
      obtain ⟨c, hc, -, -, rfl⟩ := mem_moveCells hq
      have := habove c hc
      show e.1 - lo + dst < c.1 - lo + dst
      omega
    case isFalse => exact ih ht

/-- A key of the range that cells are moved to reads as the key at the same place of the range they come from. -/
theorem stGet_moveCells (hx : x < n) : stGet d (moveCells m lo n dst) (dst + x) = stGet (fun _ => d (dst + x)) m (lo + x) := by
  induction m with
  | nil => rfl
  | cons e t ih =>
    rw [moveCells_cons]
    by_cases he : lo ≤ e.1 ∧ e.1 < lo + n
    · have hkey : e.1 - lo + dst = dst + x ↔ e.1 = lo + x := by omega
      simp only [he, and_self, if_true, stGet, hkey, ih]
    · have hkey : e.1 ≠ lo + x := by omega
      simp only [he, if_false, stGet, hkey, ih]

/-- No key outside that range is reached. -/
theorem stGet_moveCells_outside (hk : ¬ (dst ≤ k ∧ k < dst + n)) : stGet d (moveCells m lo n dst) k = d k := by
  induction m with
  | nil => rfl
  | cons e t ih =>
    rw [moveCells_cons]
    split
    case isTrue he =>
      have hkey : e.1 - lo + dst ≠ k := by omega
      simp only [stGet, hkey, if_false, ih]
    case isFalse => exact ih

end Cells

/-! ### The copy of a range of memory -/

section Copy
variable {s : State} {lo n dst x g : Nat}

theorem State.copyMem_mb (hm : s.memWf) :
    (s.copyMem lo n dst).mb x
      = stGet (stGet memDefault (stDrop (fun y => decide (dst ≤ y ∧ y < dst + n)) s.mem)) (moveCells s.mem lo n dst) x :=
  stGet_foldl_stSet (stSorted_moveCells ((stWf_iff ..).mp hm).1)

theorem State.copyMem_mb_outside (hm : s.memWf) (hx : ¬ (dst ≤ x ∧ x < dst + n)) : (s.copyMem lo n dst).mb x = s.mb x := by
  rw [State.copyMem_mb hm, stGet_moveCells_outside hx, stGet_stDrop]
  simp only [hx, decide_false, Bool.false_eq_true, if_false, State.mb]

/-- Where both ranges read alike unwritten, the copy is exact. -/
theorem State.copyMem_mb_inside (hm : s.memWf) (hx : x < n) (hd : memDefault (dst + x) = memDefault (lo + x)) :
    (s.copyMem lo n dst).mb (dst + x) = s.mb (lo + x) := by
  rw [State.copyMem_mb hm, stGet_moveCells hx, State.mb]
  refine stGet_congr_default ?_
  have hin : dst ≤ dst + x ∧ dst + x < dst + n := by omega
  simp only [stGet_stDrop, hin, and_self, decide_true, if_true, hd]

/-! ### The end of a resynchronisation (R141) -/

theorem memDefault_shadowWin (hg : g < 20) (hx : x < 0x400000) : memDefault (shadowWin g + x) = 0#8 := by
  have hout : ¬ (calLive ≤ shadowWin g + x ∧ shadowWin g + x < calLive + 0x15000) := by unfold calLive shadowWin; omega
  exact if_neg hout

theorem memDefault_commWin (g x : Nat) : memDefault (commWin g + x) = 0#8 := by
  have hout : ¬ (calLive ≤ commWin g + x ∧ commWin g + x < calLive + 0x15000) := by unfold calLive commWin; omega
  exact if_neg hout

theorem State.hasGraver_lt (hg : s.hasGraver g = true) : g < 20 := by
  have hgens := Variant.gens_le s.variant
  have hpats : s.variant.pats ≤ 4 := by cases s.variant <;> decide
  simp only [State.hasGraver, Bool.or_eq_true, Bool.and_eq_true, decide_eq_true_eq] at hg
  omega

/-- While SYNCING is 1, the end of the resynchronisation clears it and copies the committed window; no other register changes. -/
theorem State.execShadowResyncDone_next (hg : s.hasGraver g = true) (hsync : s.fb (gBase g) GRV_TABLE_STATUS_SYNCING = true) :
    ∃ t : State, exec (.shadowResyncDone g) s = .next t
      ∧ (∀ j, t.rd j = (s.fs (gBase g) GRV_TABLE_STATUS_SYNCING 0).rd j)
      ∧ ∀ x, t.mb x = (s.copyMem (commWin g) 0x400000 (shadowWin g)).mb x := by
  refine ⟨_, (if_pos hg).trans (congrArg Host.Outcome.next (if_pos hsync)), fun _ => rfl, fun _ => rfl⟩

/-- In a state whose memory is in canonical form, as it is in every state that a run reaches (R141): the shadow window ends as a copy of
the committed one. -/
theorem State.execShadowResyncDone_copies (hm : s.memWf) (hg : s.hasGraver g = true)
    (hsync : s.fb (gBase g) GRV_TABLE_STATUS_SYNCING = true) :
    ∃ t : State, exec (.shadowResyncDone g) s = .next t ∧ t.fb (gBase g) GRV_TABLE_STATUS_SYNCING = false
      ∧ (∀ x, x < 0x400000 → t.mb (shadowWin g + x) = s.mb (commWin g + x))
      ∧ s.KeepsRegs t (fun j => j = gBase g + GRV_TABLE_STATUS) ∧ s.KeepsMem t (within (shadowWin g) 0x400000) := by
  obtain ⟨t, ht, hregs, hmem⟩ := State.execShadowResyncDone_next hg hsync
  refine ⟨t, ht, ?cleared, fun x hx => ?copied, fun j hj => ?registers, fun x hx => ?memory⟩
  case cleared =>
    have hfield : t.fg (gBase g) GRV_TABLE_STATUS_SYNCING = 0 := by
      rw [State.fg, hregs]
      exact State.fg_fs_self s (gBase g) GRV_TABLE_STATUS_SYNCING 0 0 (by decide)
    rw [State.fb, hfield]
    rfl
  case copied =>
    exact (hmem _).trans <| State.copyMem_mb_inside hm hx <|
      (memDefault_shadowWin (State.hasGraver_lt hg) hx).trans (memDefault_commWin g x).symm
  case registers => exact (hregs j).trans ((State.keepsBut_fs s (gBase g) GRV_TABLE_STATUS_SYNCING 0).1 j hj)
  case memory => exact (hmem x).trans (State.copyMem_mb_outside hm hx)

end Copy

/-! ### A byte listed twice -/

/-- The shadow of Graver 0 is being resynchronised, and the memory, which is not in its canonical form, lists byte 0 of the committed
window twice, as 1 and as 2. -/
def committedByteListedTwice : State :=
  { State.reset.fs (gBase 0) GRV_TABLE_STATUS_SYNCING 1 with mem := [(commWin 0, 1#8), (commWin 0, 2#8)] }

/-- The byte reads as its first entry, and its copy as the last. -/
theorem committedByteListedTwice_copied :
    committedByteListedTwice.hasGraver 0 = true
      ∧ committedByteListedTwice.fb (gBase 0) GRV_TABLE_STATUS_SYNCING = true
      ∧ committedByteListedTwice.mb (commWin 0 + 0) = 1#8
      ∧ (committedByteListedTwice.copyMem (commWin 0) 0x400000 (shadowWin 0)).mb (shadowWin 0 + 0) = 2#8 := by
  decide +kernel

/-- Refutes O6: the statement is about every state, with no word of `State.Inv`. Where the memory lists a byte of the committed window
twice, a read takes the first entry while the copy into the shadow leaves the last, so the resynchronisation does not end with the shadow a
copy of the committed table. With the memory in canonical form that clause holds (`State.execShadowResyncDone_copies`). -/
theorem not_commitStages : ¬ Obligations.CommitStages := by
  intro h
  obtain ⟨hg, hsync, hread, hcopy⟩ := committedByteListedTwice_copied
  obtain ⟨-, -, -, hresync, -⟩ := h committedByteListedTwice 0 hg
  obtain ⟨t, ht, -, hsame, -⟩ := hresync hsync
  obtain ⟨u, hu, -, hmem⟩ := State.execShadowResyncDone_next hg hsync
  obtain rfl : t = u := Host.Outcome.next.inj (ht.symm.trans hu)
  have heq : (2#8 : Byte) = 1#8 := calc
    2#8 = t.mb (shadowWin 0 + 0) := ((hmem _).trans hcopy).symm
    _ = committedByteListedTwice.mb (commWin 0 + 0) := hsame 0 (by decide)
    _ = 1#8 := hread
  exact absurd heq (by decide)

end Sys2Proof.Machine
end

section
/-! The channels of the event fabric: the channel on which a producer is registered, and what a level and a publication leave (R290 to R296). -/
namespace Sys2Proof.Machine
open Sys2Proof

/-! ### The first entry of a store that fits -/

section Find
variable {α : Type} {p : Nat × α → Bool} {k : Nat}

theorem find?_stIns (hk : ∀ x, p (k, x) = false) (l : List (Nat × α)) (v : α) : (stIns l k v).find? p = l.find? p := by
  induction l with
  | nil => simp [stIns, hk]
  | cons e t ih =>
    obtain ⟨a, x⟩ := e
    simp only [stIns]
    split
    · simp [hk]
    · split
      · next h => subst h; simp [hk]
      · simp [List.find?_cons, ih]

/-- A write at a key that does not fit leaves the first entry that fits. -/
theorem find?_stSet [DecidableEq α] (hk : ∀ x, p (k, x) = false) (d : Nat → α) (l : List (Nat × α)) (v : α) :
    (stSet d l k v).find? p = l.find? p := by
  unfold stSet
  split
  · rw [stDrop, List.find?_filter]
    refine congrArg (l.find? ·) (funext fun e => ?_)
    by_cases he : e.1 = k
    · subst he
      simp [hk e.2]
    · simp [he]
  · exact find?_stIns hk l v

end Find

variable {s t : State} {prod c t' key : Nat} {w : Word} {v : Bool} {f : Field}

/-! ### What an update keeps, pairs and counters -/

theorem State.keepsBut_refl (s : State) (q : Nat → Prop) : s.KeepsBut s q := ⟨fun _ _ => rfl, fun _ _ => rfl⟩

theorem State.KeepsBut.chF {q : Nat → Prop} (h : s.KeepsBut t q) (hk : ¬ q (chPage c + f.off + f.stride * (c % 64))) :
    t.chF c f = s.chF c f :=
  congrArg (getF · f) (h.1 _ hk)

theorem State.KeepsBut.rd64 {q : Nat → Prop} (h : s.KeepsBut t q) (hlo : ¬ q key) (hhi : ¬ q (key + 4)) : t.rd64 key = s.rd64 key := by
  rw [State.rd64, h.1 _ hlo, h.1 _ hhi, State.rd64]

/-- A pair reads the 64-bit value that was set. -/
theorem State.rd64_wr64 (s : State) (key : Nat) {x : Nat} (hx : x < 2 ^ 64) : (s.wr64 key x).rd64 key = x := by
  rw [State.rd64, State.wr64, State.rd_wr_self, State.rd_wr_ne _ _ _ _ (by omega), State.rd_wr_self, join64, BitVec.toNat_ofNat,
    BitVec.toNat_ofNat]
  omega

theorem satAdd_zero {top a : Nat} (h : a ≤ top) : satAdd top a 0 = a := by
  unfold satAdd
  split <;> omega

/-! ### The channel of a producer (R291, R295) -/

theorem chPage_eq (c : Nat) : chPage c = (0x20 + c / 64) * 0x1000 := rfl

/-- A register that names the producer of a channel: CHn_CFG. -/
def chCfgKey (j : Nat) : Prop := 0x20100 ≤ j ∧ j < 0x24000 ∧ 0x100 ≤ j % 0x1000 ∧ j % 0x1000 < 0x500 ∧ j % 16 = 0

/-- CHn_STAT or CHn_PUB of one of the 256 channels. -/
def fabricKey (j : Nat) : Prop := ∃ c < 256, j = chPage c + XH_CH_STAT (c % 64) ∨ j = chPage c + XH_CH_PUB (c % 64)

theorem fabricKey.chanKey {j : Nat} : fabricKey j → chanKey j
  | ⟨c, _, h⟩ => ⟨c, h⟩

theorem not_fabricKey_of_ge {j : Nat} (h : 0x24000 ≤ j) : ¬ fabricKey j := by
  rintro ⟨c, hc, hj⟩
  simp only [chPage_eq, XH_CH_STAT, XH_CH_PUB] at hj
  omega

theorem State.chanOf_wr (hkey : ¬ chCfgKey key) : (s.wr key w).chanOf prod = s.chanOf prod := by
  unfold chCfgKey at hkey
  unfold State.chanOf
  rw [State.wr_regs, find?_stSet fun x => by simp only [hkey, decide_false, Bool.false_and]]

/-- Every channel on which a producer is registered is one of the 256. -/
theorem State.chanOf_lt (h : s.chanOf prod = some c) : c < 256 := by
  unfold State.chanOf at h
  split at h
  · cases h
  · split at h
    · have hc := Option.some.inj h
      omega
    · split at h
      · next e he =>
        have hfit := List.find?_some he
        simp only [Bool.and_eq_true, decide_eq_true_eq] at hfit
        have hc := Option.some.inj h
        omega
      · cases h

theorem State.chanOf_fs {b i x : Nat} (hkey : ¬ chCfgKey (b + f.off + f.stride * i)) : (s.fs b f x i).chanOf prod = s.chanOf prod :=
  State.chanOf_wr hkey

theorem not_chCfgKey_of_ge (h : 0x24000 ≤ key) : ¬ chCfgKey key := by
  rintro ⟨_, hlt, _⟩
  omega

/-! ### The pages above the fabric's (R483) -/

theorem le_pat_add (g x : Nat) : 0x24000 ≤ base (pPAT g) + x := by
  unfold base pPAT
  omega

theorem le_gen_add (n x : Nat) : 0x24000 ≤ base (pGEN n) + x := by
  unfold base pGEN
  omega

/-! ### A level moves (R296) -/

theorem State.keepsBut_setCh (s : State) (c : Nat) (f : Field) (x : Nat) :
    s.KeepsBut (s.setCh c f x) (fun j => j = chPage c + f.off + f.stride * (c % 64)) :=
  State.keepsBut_wr ..

/-- What a level's move does: it joins the moves, last, and one that every consumer has seen may go into the record. -/
theorem State.setLevel_cases (s : State) (c t : Nat) (v : Bool) :
    ∃ u keep, (u = s ∨ ∃ x, u = s.setCh c XH_CH_STAT_LEVEL x)
      ∧ s.setLevel c t v = { u with xh := { u.xh with levels := keep ++ [⟨c, t, v⟩] } } := by
  refine ⟨_, _, ?_, rfl⟩
  split
  · exact .inr ⟨_, rfl⟩
  · exact .inl rfl

theorem State.keepsBut_setLevel (s : State) (c t : Nat) (v : Bool) :
    s.KeepsBut (s.setLevel c t v) (fun j => j = chPage c + XH_CH_STAT (c % 64)) := by
  obtain ⟨u, keep, hu, hset⟩ := s.setLevel_cases c t v
  rw [hset]
  obtain rfl | ⟨x, rfl⟩ := hu
  · exact State.keepsBut_refl ..
  · exact (s.keepsBut_setCh c XH_CH_STAT_LEVEL x).mono fun j hj => hj.trans (Nat.add_assoc ..)

theorem State.chanOf_setLevel (s : State) (c t : Nat) (v : Bool) (prod : Nat) : (s.setLevel c t v).chanOf prod = s.chanOf prod := by
  obtain ⟨u, keep, hu, hset⟩ := s.setLevel_cases c t v
  rw [hset]
  obtain rfl | ⟨x, rfl⟩ := hu
  · rfl
  · refine State.chanOf_wr ?_
    simp only [chCfgKey, chPage_eq, XH_CH_STAT_LEVEL]
    omega

theorem State.setLevel_now (s : State) (c t : Nat) (v : Bool) : (s.setLevel c t v).now = s.now := by
  obtain ⟨u, keep, hu, hset⟩ := s.setLevel_cases c t v
  rw [hset]
  obtain rfl | ⟨x, rfl⟩ := hu <;> rfl

theorem State.levelAt_setLevel (s : State) (c : Nat) (v : Bool) {t t' : Nat} (h : t ≤ t') : (s.setLevel c t v).levelAt c t' = v := by
  obtain ⟨u, keep, -, hset⟩ := s.setLevel_cases c t v
  simp [hset, State.levelAt, h]

/-- The level of a channel is its moves' and its record's. -/
theorem State.levelAt_congr (hxh : t.xh.levels = s.xh.levels) (hrec : t.chF c XH_CH_STAT_LEVEL = s.chF c XH_CH_STAT_LEVEL) :
    t.levelAt c t' = s.levelAt c t' := by
  unfold State.levelAt
  rw [hxh, hrec]

/-! ### The level of a producer's channel (R294) -/

theorem State.sourceLevel_eq (h : s.chanOf prod = some c) :
    s.sourceLevel prod v = if s.chF c XH_CH_CFG_LEVEL_MODE = 0 then s.sourceTo c v else s := by
  unfold State.sourceLevel
  rw [h]

theorem State.sourceLevel_unregistered (h : s.chanOf prod = none) : s.sourceLevel prod v = s := by
  unfold State.sourceLevel
  rw [h]

/-- Three ticks on, the level under SOURCE is the producer's. -/
theorem State.levelAt_sourceLevel (h : s.chanOf prod = some c) (hmode : s.chF c XH_CH_CFG_LEVEL_MODE = 0) :
    (s.sourceLevel prod v).levelAt c (s.now + 3) = v := by
  rw [State.sourceLevel_eq h, if_pos hmode]
  refine State.levelAt_setLevel s c v ?_
  split <;> omega

theorem State.keepsBut_sourceLevel_of_chan (h : s.chanOf prod = some c) :
    s.KeepsBut (s.sourceLevel prod v) (fun j => j = chPage c + XH_CH_STAT (c % 64)) := by
  rw [State.sourceLevel_eq h]
  split
  · exact State.keepsBut_setLevel ..
  · exact State.keepsBut_refl ..

theorem State.keepsBut_sourceLevel (s : State) (prod : Nat) (v : Bool) : s.KeepsBut (s.sourceLevel prod v) fabricKey := by
  cases h : s.chanOf prod with
  | none => rw [State.sourceLevel_unregistered h]; exact State.keepsBut_refl ..
  | some c => exact (State.keepsBut_sourceLevel_of_chan h).mono fun j hj => ⟨c, State.chanOf_lt h, .inl hj⟩

theorem State.chanOf_sourceLevel (s : State) (prod : Nat) (v : Bool) (q : Nat) : (s.sourceLevel prod v).chanOf q = s.chanOf q := by
  unfold State.sourceLevel
  split
  · split
    · exact State.chanOf_setLevel ..
    · rfl
  · rfl

theorem State.sourceLevel_now (s : State) (prod : Nat) (v : Bool) : (s.sourceLevel prod v).now = s.now := by
  unfold State.sourceLevel
  split
  · split
    · exact State.setLevel_now ..
    · rfl
  · rfl

/-! ### A publication (R293, R295) -/

/-- What a publication does: its count is raised, and the event joins those on their way. -/
theorem State.publishAt_cases (s : State) (p : Nat) (h0 : 0 < c) (h256 : c < 256) :
    ∃ crossing published, s.publishAt c p =
      { s.setCh c XH_CH_PUB_PUBLISHED (s.chF c XH_CH_PUB_PUBLISHED + 1) with
        xh := { s.xh with crossing := crossing, published := published } } := by
  have hin : ¬ (c = 0 ∨ 256 ≤ c) := by omega
  rw [State.publishAt, if_neg hin]
  dsimp only
  split <;> exact ⟨_, _, rfl⟩

theorem State.keepsBut_publish (s : State) (h0 : 0 < c) (h256 : c < 256) :
    s.KeepsBut (s.publish c) (fun j => j = chPage c + XH_CH_PUB (c % 64)) := by
  obtain ⟨_, _, hpub⟩ := s.publishAt_cases s.now h0 h256
  rw [State.publish, hpub]
  exact (s.keepsBut_setCh c XH_CH_PUB_PUBLISHED _).mono fun j hj => hj.trans (Nat.add_assoc ..)

theorem State.published_publish (s : State) (h0 : 0 < c) (h256 : c < 256) :
    (s.publish c).chF c XH_CH_PUB_PUBLISHED = (s.chF c XH_CH_PUB_PUBLISHED + 1) % 2 ^ 32 := by
  obtain ⟨_, _, hpub⟩ := s.publishAt_cases s.now h0 h256
  rw [State.publish, hpub]
  exact s.fg_fs_self (chPage c) XH_CH_PUB_PUBLISHED (s.chF c XH_CH_PUB_PUBLISHED + 1) (c % 64) (by decide)

theorem State.publishBy_registered (h : s.chanOf prod = some c) : s.publishBy prod = s.publish c := by
  unfold State.publishBy
  rw [h]

theorem State.keepsBut_publishBy (s : State) (prod : Nat) : s.KeepsBut (s.publishBy prod) fabricKey := by
  unfold State.publishBy
  split
  · next c h =>
    have h256 := State.chanOf_lt h
    rcases Nat.eq_zero_or_pos c with rfl | h0
    · exact State.keepsBut_refl ..
    · exact (s.keepsBut_publish h0 h256).mono fun j hj => ⟨c, h256, .inr hj⟩
  · exact State.keepsBut_refl ..

theorem State.publishBy_now (s : State) (prod : Nat) : (s.publishBy prod).now = s.now := by
  unfold State.publishBy State.publish State.publishAt
  split
  · split
    · rfl
    · dsimp only
      split <;> rfl
  · rfl

/-- A publication moves no level. -/
theorem State.levelAt_publish (s : State) (h0 : 0 < c) (h256 : c < 256) : (s.publish c).levelAt c t' = s.levelAt c t' := by
  have hkept := s.keepsBut_publish h0 h256
  obtain ⟨_, _, hpub⟩ := s.publishAt_cases s.now h0 h256
  refine State.levelAt_congr (by rw [State.publish, hpub]) (congrArg (getF · XH_CH_STAT_LEVEL) (hkept.1 _ ?_))
  simp only [XH_CH_STAT_LEVEL, XH_CH_PUB]
  omega

end Sys2Proof.Machine
end

section
/-! Trigger ports: an edge on a trigger input, an event that reaches a trigger output and the end of its pulse (R190 to R192). -/
namespace Sys2Proof.Machine
open Sys2Proof
variable {s : State} {k c h ticks frac : Nat} {rising : Bool}

/-! ### Trigger inputs (R190, R191) -/

/-- The filtered level of input `k` follows an edge, and so does its channel under SOURCE. -/
def State.inputFollows (s : State) (k : Nat) (rising : Bool) : State :=
  (s.fs (base (pPAT 0)) TRG_TRIG_STATUS_IN_LEVEL (putBit (s.fg (base (pPAT 0)) TRG_TRIG_STATUS_IN_LEVEL) k rising)).sourceLevel (0x900 + k) rising

/-- The time of an edge in the registers of input `k`. -/
def State.stampTime (s : State) (k ticks frac : Nat) : State :=
  (s.wr64 (base (pPAT 0) + TRG_TRIG_IN_TIME k) ticks).fs (base (pPAT 0)) TRG_TRIG_IN_TIME_FRAC frac k

/-- An edge on input `k` stamped: its time is shown, and is the last edge's. -/
def State.stampEdge (s : State) (k ticks frac : Nat) : State :=
  { s.stampTime k ticks frac with
    lanes := { (s.stampTime k ticks frac).lanes with
      lastEdge := (s.stampTime k ticks frac).lanes.lastEdge.set k (some (ticks * 65536 + frac % 65536)) } }

/-- The time registers of input `k`. -/
def inTimeKey (k j : Nat) : Prop :=
  j = base (pPAT 0) + TRG_TRIG_IN_TIME k ∨ j = base (pPAT 0) + TRG_TRIG_IN_TIME k + 4 ∨ j = base (pPAT 0) + TRG_TRIG_IN_TIME k + 8

theorem State.trigEdge_unselected (hsel : s.edgeSelected k rising = false) : s.trigEdge k rising ticks frac = s.inputFollows k rising := by
  rw [State.trigEdge, hsel]
  rfl

/-- A selected edge a tick or more after the last is stamped and published. -/
theorem State.trigEdge_selected (hsel : s.edgeSelected k rising = true) (hfrac : frac < 65536)
    (hlast : ∀ p, s.lanes.lastEdge.getD k none = some p → p + 65536 ≤ ticks * 65536 + frac) :
    s.trigEdge k rising ticks frac = ((s.inputFollows k rising).stampEdge k ticks frac).publishBy (0x900 + k) := by
  have hfar : ((s.lanes.lastEdge.getD k none).map (fun p => decide (ticks * 65536 + frac % 65536 < p + 65536))).getD false = false := by
    cases hp : s.lanes.lastEdge.getD k none with
    | none => rfl
    | some p => simpa [Nat.mod_eq_of_lt hfrac] using hlast p hp
  rw [State.trigEdge, hsel]
  dsimp only
  rw [hfar]
  rfl

theorem exec_trigInEdge (hk : k < 4) (hwake : bit (s.fg (base pPWR) PWR_REST_CFG_WAKE_TRIG) k = false) :
    exec (.trigInEdge k rising ticks frac) s = .next (s.trigEdge k rising ticks frac) := by
  show execTrigInEdge k rising ticks frac s = _
  rw [execTrigInEdge, hwake, onTrig, if_pos hk]
  rfl

theorem State.chanOf_inputFollows (s : State) (k : Nat) (rising : Bool) (q : Nat) : (s.inputFollows k rising).chanOf q = s.chanOf q :=
  (State.chanOf_sourceLevel ..).trans (State.chanOf_fs (not_chCfgKey_of_ge (by decide)))

theorem State.keepsBut_inputFollows (s : State) (k : Nat) (rising : Bool) :
    s.KeepsBut (s.inputFollows k rising) (fun j => j = base (pPAT 0) + TRG_TRIG_STATUS ∨ fabricKey j) :=
  (s.keepsBut_fs (base (pPAT 0)) TRG_TRIG_STATUS_IN_LEVEL _).trans (State.keepsBut_sourceLevel ..)

theorem State.inLevel_inputFollows (s : State) (hk : k < 4) (rising : Bool) :
    bit ((s.inputFollows k rising).fg (base (pPAT 0)) TRG_TRIG_STATUS_IN_LEVEL) k = rising := by
  have hlt : putBit (s.fg (base (pPAT 0)) TRG_TRIG_STATUS_IN_LEVEL) k rising
      < 2 ^ (TRG_TRIG_STATUS_IN_LEVEL.hi + 1 - TRG_TRIG_STATUS_IN_LEVEL.lo) :=
    putBit_lt (getF_lt _ TRG_TRIG_STATUS_IN_LEVEL) hk rising
  rw [State.inputFollows, (State.keepsBut_sourceLevel ..).fg (not_fabricKey_of_ge (by decide)), State.fg_fs_self _ _ _ _ _ (by decide),
    Nat.mod_eq_of_lt hlt, bit_putBit, if_pos rfl]

theorem State.keepsBut_inputFollows_of_chan (hc : s.chanOf (0x900 + k) = some c) :
    s.KeepsBut (s.inputFollows k rising) (fun j => j = base (pPAT 0) + TRG_TRIG_STATUS ∨ j = chPage c + XH_CH_STAT (c % 64)) :=
  (s.keepsBut_fs (base (pPAT 0)) TRG_TRIG_STATUS_IN_LEVEL _).trans
    (State.keepsBut_sourceLevel_of_chan ((State.chanOf_fs (not_chCfgKey_of_ge (by decide))).trans hc))

theorem State.inputFollows_now (s : State) (k : Nat) (rising : Bool) : (s.inputFollows k rising).now = s.now :=
  (State.sourceLevel_now ..).trans (State.fs_now ..)

theorem State.levelAt_inputFollows (hc : s.chanOf (0x900 + k) = some c) (hmode : s.chF c XH_CH_CFG_LEVEL_MODE = 0) :
    (s.inputFollows k rising).levelAt c (s.now + 3) = rising := by
  have h256 := State.chanOf_lt hc
  refine State.levelAt_sourceLevel ((State.chanOf_fs (not_chCfgKey_of_ge (by decide))).trans hc)
    (((s.keepsBut_fs (base (pPAT 0)) TRG_TRIG_STATUS_IN_LEVEL _).chF ?_).trans hmode)
  have hge := le_pat_add 0 TRG_TRIG_STATUS_IN_LEVEL.off
  simp only [chPage_eq, XH_CH_CFG_LEVEL_MODE]
  omega

theorem State.rd_stampEdge (s : State) (k ticks frac j : Nat) : (s.stampEdge k ticks frac).rd j = (s.stampTime k ticks frac).rd j := rfl

theorem State.keepsBut_stampTime (s : State) (k ticks frac : Nat) : s.KeepsBut (s.stampTime k ticks frac) (inTimeKey k) := by
  have hpair := (s.keepsBut_wr (base (pPAT 0) + TRG_TRIG_IN_TIME k) (BitVec.ofNat 32 ticks)).trans
    (State.keepsBut_wr _ (base (pPAT 0) + TRG_TRIG_IN_TIME k + 4) (BitVec.ofNat 32 (ticks / 2 ^ 32)))
  refine (hpair.trans (State.keepsBut_wr _ (base (pPAT 0) + 0x448 + 16 * k) _)).mono fun j hj => ?_
  simp only [inTimeKey, TRG_TRIG_IN_TIME] at hj ⊢
  omega

theorem State.keepsBut_stampEdge (s : State) (k ticks frac : Nat) : s.KeepsBut (s.stampEdge k ticks frac) (inTimeKey k) :=
  s.keepsBut_stampTime k ticks frac

theorem le_of_inTimeKey {j : Nat} (hj : inTimeKey k j) : 0x24000 ≤ j := by
  obtain rfl | rfl | rfl := hj
  · exact le_pat_add ..
  · exact le_pat_add 0 (TRG_TRIG_IN_TIME k + 4)
  · exact le_pat_add 0 (TRG_TRIG_IN_TIME k + 8)

theorem State.frac_stampEdge (s : State) (k ticks : Nat) (hfrac : frac < 65536) :
    (s.stampEdge k ticks frac).fg (base (pPAT 0)) TRG_TRIG_IN_TIME_FRAC k = frac := by
  rw [State.fg, State.rd_stampEdge, ← State.fg, State.stampTime, State.fg_fs_self _ _ _ _ _ (by decide)]
  exact Nat.mod_eq_of_lt hfrac

theorem State.stampEdge_now (s : State) (k ticks frac : Nat) : (s.stampEdge k ticks frac).now = s.now := by
  show (s.stampTime k ticks frac).now = s.now
  rw [State.stampTime, State.fs_now, State.wr64_now]

theorem State.time_stampEdge (s : State) (k frac : Nat) (hticks : ticks < 2 ^ 64) :
    (s.stampEdge k ticks frac).rd64 (base (pPAT 0) + TRG_TRIG_IN_TIME k) = ticks := by
  rw [State.rd64, State.rd_stampEdge, State.rd_stampEdge, ← State.rd64, State.stampTime]
  refine ((State.keepsBut_wr ..).rd64 ?_ ?_).trans (s.rd64_wr64 _ hticks)
  all_goals
    simp only [TRG_TRIG_IN_TIME, TRG_TRIG_IN_TIME_FRAC]
    omega

theorem State.chanOf_stampEdge (s : State) (k ticks frac q : Nat) : (s.stampEdge k ticks frac).chanOf q = s.chanOf q := by
  have hpat (x : Nat) : ¬ chCfgKey (base (pPAT 0) + x) := not_chCfgKey_of_ge (le_pat_add ..)
  calc (s.stampEdge k ticks frac).chanOf q
    _ = (s.stampTime k ticks frac).chanOf q := rfl
    _ = (s.wr64 (base (pPAT 0) + TRG_TRIG_IN_TIME k) ticks).chanOf q := State.chanOf_fs (Nat.add_assoc .. ▸ hpat _)
    _ = (s.wr (base (pPAT 0) + TRG_TRIG_IN_TIME k) _).chanOf q := State.chanOf_wr (hpat (TRG_TRIG_IN_TIME k + 4))
    _ = s.chanOf q := State.chanOf_wr (hpat _)

theorem State.levelAt_stampEdge (s : State) {t' : Nat} (hc : c < 256) : (s.stampEdge k ticks frac).levelAt c t' = s.levelAt c t' := by
  refine State.levelAt_congr rfl ((State.keepsBut_stampEdge ..).chF fun hj => ?_)
  have hge := le_of_inTimeKey hj
  simp only [chPage_eq, XH_CH_STAT_LEVEL] at hge
  omega

/-! A selected edge, a tick or more after the last: the level follows, the time is shown, and the event is published. -/

section Edge
variable (hsel : s.edgeSelected k rising = true) (hfrac : frac < 65536)
  (hlast : ∀ p, s.lanes.lastEdge.getD k none = some p → p + 65536 ≤ ticks * 65536 + frac)
include hsel hfrac hlast

theorem State.inLevel_trigEdge_selected (hk : k < 4) :
    bit ((s.trigEdge k rising ticks frac).fg (base (pPAT 0)) TRG_TRIG_STATUS_IN_LEVEL) k = rising := by
  have htime : ¬ inTimeKey k (base (pPAT 0) + TRG_TRIG_STATUS_IN_LEVEL.off) := by
    simp only [inTimeKey, TRG_TRIG_STATUS_IN_LEVEL, TRG_TRIG_IN_TIME]
    omega
  rw [State.trigEdge_selected hsel hfrac hlast, (State.keepsBut_publishBy ..).fg (not_fabricKey_of_ge (le_pat_add ..)),
    (State.keepsBut_stampEdge ..).fg htime, State.inLevel_inputFollows _ hk]

theorem State.time_trigEdge_selected (hticks : ticks < 2 ^ 64) :
    (s.trigEdge k rising ticks frac).rd64 (base (pPAT 0) + TRG_TRIG_IN_TIME k) = ticks := by
  rw [State.trigEdge_selected hsel hfrac hlast]
  refine ((State.keepsBut_publishBy ..).rd64 ?_ ?_).trans (State.time_stampEdge _ _ _ hticks)
  · exact not_fabricKey_of_ge (le_pat_add ..)
  · exact not_fabricKey_of_ge (le_pat_add 0 (TRG_TRIG_IN_TIME k + 4))

theorem State.frac_trigEdge_selected : (s.trigEdge k rising ticks frac).fg (base (pPAT 0)) TRG_TRIG_IN_TIME_FRAC k = frac := by
  have hpat : ¬ fabricKey (base (pPAT 0) + TRG_TRIG_IN_TIME_FRAC.off + TRG_TRIG_IN_TIME_FRAC.stride * k) :=
    not_fabricKey_of_ge (Nat.add_assoc .. ▸ le_pat_add ..)
  rw [State.trigEdge_selected hsel hfrac hlast, State.fg, (State.keepsBut_publishBy ..).1 _ hpat, ← State.fg, State.frac_stampEdge _ _ _ hfrac]

theorem State.trigEdge_selected_registered (hc : s.chanOf (0x900 + k) = some c) :
    s.trigEdge k rising ticks frac = ((s.inputFollows k rising).stampEdge k ticks frac).publish c := by
  have hc' : ((s.inputFollows k rising).stampEdge k ticks frac).chanOf (0x900 + k) = some c :=
    (State.chanOf_stampEdge ..).trans ((State.chanOf_inputFollows ..).trans hc)
  rw [State.trigEdge_selected hsel hfrac hlast, State.publishBy_registered hc']

theorem State.published_trigEdge_selected (hc : s.chanOf (0x900 + k) = some c) (h0 : 0 < c) :
    (s.trigEdge k rising ticks frac).chF c XH_CH_PUB_PUBLISHED = (s.chF c XH_CH_PUB_PUBLISHED + 1) % 2 ^ 32 := by
  have h256 := State.chanOf_lt hc
  have hstamp : ((s.inputFollows k rising).stampEdge k ticks frac).chF c XH_CH_PUB_PUBLISHED
      = (s.inputFollows k rising).chF c XH_CH_PUB_PUBLISHED := by
    refine (State.keepsBut_stampEdge ..).chF fun hj => ?_
    have hge := le_of_inTimeKey hj
    simp only [chPage_eq, XH_CH_PUB_PUBLISHED] at hge
    omega
  have hlevel : (s.inputFollows k rising).chF c XH_CH_PUB_PUBLISHED = s.chF c XH_CH_PUB_PUBLISHED := by
    refine (State.keepsBut_inputFollows_of_chan hc).chF ?_
    have hge := le_pat_add 0 TRG_TRIG_STATUS
    simp only [chPage_eq, XH_CH_PUB_PUBLISHED, XH_CH_STAT]
    omega
  rw [State.trigEdge_selected_registered hsel hfrac hlast hc, State.published_publish _ h0 h256, hstamp, hlevel]

theorem State.levelAt_trigEdge_selected (hc : s.chanOf (0x900 + k) = some c) (h0 : 0 < c)
    (hmode : s.chF c XH_CH_CFG_LEVEL_MODE = 0) : (s.trigEdge k rising ticks frac).levelAt c (s.now + 3) = rising := by
  have h256 := State.chanOf_lt hc
  rw [State.trigEdge_selected_registered hsel hfrac hlast hc, State.levelAt_publish _ h0 h256, State.levelAt_stampEdge _ h256,
    State.levelAt_inputFollows hc hmode]

theorem State.trigEdge_selected_now : (s.trigEdge k rising ticks frac).now = s.now := by
  rw [State.trigEdge_selected hsel hfrac hlast, State.publishBy_now, State.stampEdge_now, State.inputFollows_now]

theorem State.keepsBut_trigEdge_selected : s.KeepsBut (s.trigEdge k rising ticks frac)
    (fun j => (j = base (pPAT 0) + TRG_TRIG_STATUS ∨ inTimeKey k j) ∨ fabricKey j) := by
  rw [State.trigEdge_selected hsel hfrac hlast]
  refine (((s.keepsBut_inputFollows k rising).trans (State.keepsBut_stampEdge ..)).trans (State.keepsBut_publishBy ..)).mono fun j hj => ?_
  obtain ((hstatus | hfab) | htime) | hfab := hj
  · exact .inl (.inl hstatus)
  · exact .inr hfab
  · exact .inl (.inr htime)
  · exact .inr hfab

end Edge

/-! ### Trigger outputs (R192) -/

theorem State.trigOut_updOut_self (hk : k < s.lanes.outs.length) (f : TrigOut → TrigOut) : (s.updOut k f).trigOut k = f (s.trigOut k) := by
  simp [State.trigOut, State.updOut, List.getD_eq_getElem?_getD, hk]

theorem State.trigOut_updOut_ne (s : State) (f : TrigOut → TrigOut) (hne : h ≠ k) : (s.updOut k f).trigOut h = s.trigOut h := by
  simp [State.trigOut, State.updOut, List.getD_eq_getElem?_getD, hne.symm]

theorem State.keepsBut_updOut (s : State) (k : Nat) (f : TrigOut → TrigOut) : s.KeepsBut (s.updOut k f) (fun _ => False) :=
  ⟨fun _ _ => rfl, fun _ _ => rfl⟩

/-- What a delivered event does to the output it reaches. -/
def TrigOut.reached (o : TrigOut) : TrigOut := { o with due := o.due - 1, level := if o.busy then true else !o.level }

theorem TrigOut.reached_level (o : TrigOut) : o.reached.level = (o.busy || !o.level) := by
  cases h : o.busy <;> simp [TrigOut.reached, h]

theorem exec_trigOutEvent (hk : k < 4) (hdue : (s.trigOut k).due ≠ 0) : exec (.trigOutEvent k) s = .next (s.updOut k TrigOut.reached) := by
  show execTrigOutEvent k s = _
  rw [execTrigOutEvent, onTrig, if_pos hk, if_neg hdue]
  rfl

/-- An output whose pulse has ended. -/
def TrigOut.pulseEnded (o : TrigOut) : TrigOut := { o with busy := false, level := false }

theorem exec_trigOutPulseEnd (hk : k < 4) (hbusy : (s.trigOut k).busy = true) :
    exec (.trigOutPulseEnd k) s = .next (s.updOut k TrigOut.pulseEnded) := by
  show execTrigOutPulseEnd k s = _
  rw [execTrigOutPulseEnd, onTrig, if_pos hk, if_pos hbusy]
  rfl

end Sys2Proof.Machine
end

section
/-! Markers: what the publishing cycle of a marker leaves of its channel and of MARKER_MERGE (R188, R189), and the statement on trigger
ports and markers. -/
namespace Sys2Proof.Machine
open Sys2Proof
variable {s : State} {n k c cycle : Nat}

/-! ### The publishing cycle -/

/-- The producer that marker `k` of channel `n` is. -/
def markerProd (n k : Nat) : Nat := (if k = 0 then 0x200 else 0x300) + n

/-- The count of a marker's merged edges. -/
def mergedField (k : Nat) : Field := if k = 0 then GEN_MARKER_MERGE_M0_MERGED else GEN_MARKER_MERGE_M1_MERGED

/-- The level of a marker in the stroke that cycle `q` belongs to. -/
def State.markerLevel (s : State) (n k q : Nat) : Bool :=
  decide (112 + (7 + s.fg (base (pGEN n)) GEN_DELAY_COARSE) / 8 ≤ q)
    && s.markerBit n k (q - (112 + (7 + s.fg (base (pGEN n)) GEN_DELAY_COARSE) / 8)) 7

theorem exec_markerEdge (hn : n < s.variant.gens) (hk : k < 2) :
    exec (.markerEdge n k cycle) s = .next ((s.toGf cycle).markerCycle n k cycle) := by
  have hfits : ¬ (s.variant.gens ≤ n ∨ 2 ≤ k) := by omega
  show execMarkerEdge n k cycle s = _
  rw [execMarkerEdge, if_neg hfits]

theorem State.markerCycle_quiet (hedges : s.markerEdges n k cycle = 0) :
    s.markerCycle n k cycle = s.sourceLevel (markerProd n k) (s.markerLevel n k cycle) := if_pos hedges

theorem State.markerCycle_edges (hedges : s.markerEdges n k cycle ≠ 0) :
    s.markerCycle n k cycle = ((s.sourceLevel (markerProd n k) (s.markerLevel n k cycle)).publishBy (markerProd n k)).countBy
      (base (pGEN n)) (mergedField k) (s.markerEdges n k cycle - 1) := if_neg hedges

theorem mergedField_off (k : Nat) : (mergedField k).off = GEN_MARKER_MERGE := by
  unfold mergedField
  split <;> rfl

theorem State.merged_le (s : State) (n k : Nat) : s.fg (base (pGEN n)) (mergedField k) ≤ 0xFFFF := by
  unfold mergedField
  split
  · exact Nat.le_of_lt_succ (getF_lt _ GEN_MARKER_MERGE_M0_MERGED)
  · exact Nat.le_of_lt_succ (getF_lt _ GEN_MARKER_MERGE_M1_MERGED)

theorem State.merged_countBy (s : State) (n k m : Nat) :
    (s.countBy (base (pGEN n)) (mergedField k) m).fg (base (pGEN n)) (mergedField k) = satAdd 0xFFFF (s.fg (base (pGEN n)) (mergedField k)) m := by
  unfold mergedField
  split <;> exact State.fg_countBy_self _ _ _ _ (by decide)

/-- The fabric writes no register of a generate page. -/
theorem State.KeepsBut.merged {t : State} (hkept : s.KeepsBut t fabricKey) (n k : Nat) :
    t.fg (base (pGEN n)) (mergedField k) = s.fg (base (pGEN n)) (mergedField k) :=
  hkept.fg (not_fabricKey_of_ge (le_gen_add ..))

/-- A count of a generate page is no field of a channel's record. -/
theorem State.chF_countBy_gen (s : State) (n m : Nat) (g : Field) {f : Field} (hc : c < 256) (hf : f.off + f.stride * (c % 64) < 0x1000) :
    (s.countBy (base (pGEN n)) g m).chF c f = s.chF c f := by
  refine (State.keepsBut_countBy ..).chF fun hj => ?_
  have hge := le_gen_add n g.off
  rw [← hj, chPage_eq] at hge
  omega

section Cycle
variable (hc : s.chanOf (markerProd n k) = some c)

theorem State.markerCycle_now (s : State) (n k cycle : Nat) : (s.markerCycle n k cycle).now = s.now := by
  by_cases hedges : s.markerEdges n k cycle = 0
  · rw [State.markerCycle_quiet hedges, State.sourceLevel_now]
  · rw [State.markerCycle_edges hedges, State.countBy_now, State.publishBy_now, State.sourceLevel_now]

theorem State.merged_markerCycle (s : State) (n k cycle : Nat) :
    (s.markerCycle n k cycle).fg (base (pGEN n)) (mergedField k)
      = satAdd 0xFFFF (s.fg (base (pGEN n)) (mergedField k)) (s.markerEdges n k cycle - 1) := by
  have hlevel := (s.keepsBut_sourceLevel (markerProd n k) (s.markerLevel n k cycle)).merged n k
  by_cases hedges : s.markerEdges n k cycle = 0
  · rw [State.markerCycle_quiet hedges, hlevel, hedges, satAdd_zero (s.merged_le n k)]
  · rw [State.markerCycle_edges hedges, State.merged_countBy, (State.keepsBut_publishBy ..).merged, hlevel]

include hc

theorem State.markerCycle_registered (hedges : s.markerEdges n k cycle ≠ 0) :
    s.markerCycle n k cycle = ((s.sourceLevel (markerProd n k) (s.markerLevel n k cycle)).publish c).countBy
      (base (pGEN n)) (mergedField k) (s.markerEdges n k cycle - 1) := by
  rw [State.markerCycle_edges hedges, State.publishBy_registered ((State.chanOf_sourceLevel ..).trans hc)]

theorem State.published_markerCycle (h0 : 0 < c) : (s.markerCycle n k cycle).chF c XH_CH_PUB_PUBLISHED
    = (s.chF c XH_CH_PUB_PUBLISHED + (if s.markerEdges n k cycle = 0 then 0 else 1)) % 2 ^ 32 := by
  have h256 := State.chanOf_lt hc
  have hlevel : (s.sourceLevel (markerProd n k) (s.markerLevel n k cycle)).chF c XH_CH_PUB_PUBLISHED = s.chF c XH_CH_PUB_PUBLISHED := by
    refine (State.keepsBut_sourceLevel_of_chan hc).chF ?_
    simp only [XH_CH_PUB_PUBLISHED, XH_CH_STAT]
    omega
  by_cases hedges : s.markerEdges n k cycle = 0
  · rw [State.markerCycle_quiet hedges, hlevel, if_pos hedges, Nat.add_zero, Nat.mod_eq_of_lt]
    exact getF_lt _ XH_CH_PUB_PUBLISHED
  · rw [State.markerCycle_registered hc hedges, State.chF_countBy_gen _ _ _ _ h256, State.published_publish _ h0 h256, hlevel,
      if_neg hedges]
    simp only [XH_CH_PUB_PUBLISHED]
    omega

theorem State.levelAt_markerCycle (h0 : 0 < c) (hmode : s.chF c XH_CH_CFG_LEVEL_MODE = 0) :
    (s.markerCycle n k cycle).levelAt c (s.now + 3) = s.markerLevel n k cycle := by
  have h256 := State.chanOf_lt hc
  have hlevel := State.levelAt_sourceLevel (v := s.markerLevel n k cycle) hc hmode
  by_cases hedges : s.markerEdges n k cycle = 0
  · rw [State.markerCycle_quiet hedges, hlevel]
  · rw [State.markerCycle_registered hc hedges]
    refine (State.levelAt_congr (by rw [State.countBy_xh]) (State.chF_countBy_gen _ _ _ _ h256 ?_)).trans
      ((State.levelAt_publish _ h0 h256).trans hlevel)
    simp only [XH_CH_STAT_LEVEL]
    omega

theorem State.keepsBut_markerCycle (h0 : 0 < c) : s.KeepsBut (s.markerCycle n k cycle)
    (fun j => j = chPage c + XH_CH_STAT (c % 64) ∨ j = chPage c + XH_CH_PUB (c % 64) ∨ j = base (pGEN n) + GEN_MARKER_MERGE) := by
  have h256 := State.chanOf_lt hc
  have hlevel := State.keepsBut_sourceLevel_of_chan (v := s.markerLevel n k cycle) hc
  by_cases hedges : s.markerEdges n k cycle = 0
  · exact State.markerCycle_quiet hedges ▸ hlevel.mono fun _ => .inl
  · rw [State.markerCycle_registered hc hedges]
    refine ((hlevel.trans (State.keepsBut_publish _ h0 h256)).trans (State.keepsBut_countBy ..)).mono fun j hj => ?_
    rwa [mergedField_off, or_assoc] at hj

end Cycle

/-! ### The statement -/

theorem State.keepsBut_toGf (s : State) (q : Nat) : s.KeepsBut (s.toGf q) (fun _ => False) := ⟨fun _ _ => rfl, fun _ _ => rfl⟩

/-- Settles O13: each clause by the lemmas that say what its row leaves; a publication moves no level, and neither it nor the time of an edge
names a producer. -/
theorem triggersAndMarkers : Obligations.TriggersAndMarkers := by
  intro s hinv b
  refine ⟨fun k rising ticks frac hk hticks hfrac hwake => ⟨fun hsel hlast => ?selected, fun hsel => ?unselected⟩,
    fun k hk hdue => ?event, fun k hk hbusy => ?pulseEnd, fun n k c hn hk hc h0 _ cycle => ?marker⟩
  case selected =>
    refine ⟨_, exec_trigInEdge hk hwake, State.inLevel_trigEdge_selected hsel hfrac hlast hk,
      State.time_trigEdge_selected hsel hfrac hlast hticks, State.frac_trigEdge_selected hsel hfrac hlast,
      fun c hc h0 _ => ⟨State.published_trigEdge_selected hsel hfrac hlast hc h0, fun hmode => ?_⟩, ?_⟩
    · rw [State.trigEdge_selected_now hsel hfrac hlast]
      exact State.levelAt_trigEdge_selected hsel hfrac hlast hc h0 hmode
    · refine (State.keepsBut_trigEdge_selected hsel hfrac hlast).mono fun j hj => hj.imp (fun h => ?_) fabricKey.chanKey
      simp only [List.mem_cons, List.not_mem_nil, or_false]
      exact h
  case unselected =>
    refine ⟨_, exec_trigInEdge hk hwake, ?_⟩
    rw [State.trigEdge_unselected hsel]
    exact ⟨s.inLevel_inputFollows hk rising, (s.keepsBut_inputFollows k rising).mono fun j hj => hj.imp_right fabricKey.chanKey⟩
  case event =>
    have hself := State.trigOut_updOut_self (hinv.trigOuts.symm ▸ hk) TrigOut.reached
    exact ⟨_, exec_trigOutEvent hk hdue, congrArg TrigOut.due hself, (congrArg TrigOut.level hself).trans (TrigOut.reached_level _),
      fun _ hne => s.trigOut_updOut_ne _ hne, s.keepsBut_updOut ..⟩
  case pulseEnd =>
    have hself := State.trigOut_updOut_self (hinv.trigOuts.symm ▸ hk) TrigOut.pulseEnded
    exact ⟨_, exec_trigOutPulseEnd hk hbusy, congrArg TrigOut.busy hself, congrArg TrigOut.level hself,
      fun _ hne => s.trigOut_updOut_ne _ hne, s.keepsBut_updOut ..⟩
  case marker =>
    have hc' : (s.toGf cycle).chanOf (markerProd n k) = some c := hc
    have hnow := (s.toGf cycle).markerCycle_now n k cycle
    refine ⟨_, exec_markerEdge hn hk, hnow, State.published_markerCycle hc' h0, State.merged_markerCycle .., fun hmode => ?_, ?_⟩
    · rw [hnow]
      exact State.levelAt_markerCycle hc' h0 hmode
    · exact ((s.keepsBut_toGf cycle).trans (State.keepsBut_markerCycle hc' h0)).mono fun _ h => h.elim False.elim id

end Sys2Proof.Machine
end

section
/-! The registers of a generate page under the updates of the proof path: fields set one after another, a mute, and a fault reported
(R68, R219, R483, R488). -/
namespace Sys2Proof.Machine
open Sys2Proof
variable {s t : State} {n b v : Nat} {f g : Field}

/-! ### Fields of one page -/

/-- A register of generate channel `n`'s page at one of the offsets of `l`. -/
def genKey (n : Nat) (l : List Nat) (j : Nat) : Prop := j ∈ l.map (base (pGEN n) + ·)

theorem genKey_add {l : List Nat} {x : Nat} : genKey n l (base (pGEN n) + x) ↔ x ∈ l := by
  refine ⟨fun h => ?_, fun h => List.mem_map.mpr ⟨x, h, rfl⟩⟩
  obtain ⟨y, hy, hxy⟩ := List.mem_map.mp h
  exact Nat.add_left_cancel hxy ▸ hy

theorem genKey_mono {l l' : List Nat} {j : Nat} (h : l ⊆ l') (hj : genKey n l j) : genKey n l' j := by
  obtain ⟨y, hy, hxy⟩ := List.mem_map.mp hj
  exact List.mem_map.mpr ⟨y, h hy, hxy⟩

theorem State.fg_fs_of_off_ne (h : g.off ≠ f.off) : (s.fs b f v).fg b g = s.fg b g :=
  (s.keepsBut_fs b f v).fg (by omega)

theorem State.fg_count_of_off_ne (h : g.off ≠ f.off) : (s.count b f).fg b g = s.fg b g :=
  State.fg_fs_of_off_ne h

theorem State.fg_count_self (h : f.hi < 32) : (s.count b f).fg b f = satAdd (2 ^ (f.hi + 1 - f.lo) - 1) (s.fg b f) 1 :=
  s.fg_countBy_self b f 1 h

theorem State.keepsBut_count (s : State) (b : Nat) (f : Field) : s.KeepsBut (s.count b f) (fun j => j = b + f.off) :=
  State.keepsBut_countBy ..

/-- A further write of a register among those that may change. -/
theorem State.KeepsBut.fs {p : Nat → Prop} (h : s.KeepsBut t p) (hk : p (b + f.off)) : s.KeepsBut (t.fs b f v) p :=
  (h.trans (t.keepsBut_fs b f v)).mono fun _ hj => hj.elim id (· ▸ hk)

theorem State.KeepsBut.count {p : Nat → Prop} (h : s.KeepsBut t p) (hk : p (b + f.off)) : s.KeepsBut (t.count b f) p :=
  h.fs hk

theorem State.KeepsBut.countIf {p : Nat → Prop} (h : s.KeepsBut t p) (c : Bool) (hk : p (b + f.off)) :
    s.KeepsBut (if c then t.count b f else t) p := by
  split
  · exact h.count hk
  · exact h

/-- A pair reads the value that was set, as far as 64 bits reach. -/
theorem State.rd64_wr64_mod (s : State) (key x : Nat) : (s.wr64 key x).rd64 key = x % 2 ^ 64 := by
  rw [State.rd64, State.wr64, State.rd_wr_self, State.rd_wr_ne _ _ _ _ (by omega), State.rd_wr_self, join64, BitVec.toNat_ofNat,
    BitVec.toNat_ofNat]
  omega

theorem State.keepsBut_wr64 (s : State) (key x : Nat) : s.KeepsBut (s.wr64 key x) (fun j => j = key ∨ j = key + 4) :=
  (s.keepsBut_wr key _).trans (State.keepsBut_wr ..)

theorem State.keepsBut_notify (s : State) (m : Notice) : s.KeepsBut (s.notify m) noticeKey :=
  ⟨fun j hj => s.rd_notify_ne m j hj, fun x _ => s.notify_mb m x⟩

theorem State.keepsBut_updProof (s : State) (n : Nat) (h : Proof → Proof) : s.KeepsBut (s.updProof n h) (fun _ => False) :=
  ⟨fun _ _ => rfl, fun _ _ => rfl⟩

theorem State.proof_updProof_self (hn : n < s.proofs.length) (h : Proof → Proof) : (s.updProof n h).proof n = h (s.proof n) := by
  simp [State.proof, State.updProof, List.getD_eq_getElem?_getD, hn]

/-! ### A cause set (R68) -/

theorem State.keepsBut_mute (s : State) (n : Nat) (c : MuteCause) :
    s.KeepsBut (s.mute n c) (fun j => j = base (pGEN n) + GEN_MUTE_CTRL ∨ noticeKey j) :=
  State.keepsBut_setCauses ..

theorem State.fg_mute {c : MuteCause} (hn : n < 16) (hoff : f.off < 0x1000) (hne : f.off ≠ GEN_MUTE_CTRL) :
    (s.mute n c).fg (base (pGEN n)) f = s.fg (base (pGEN n)) f :=
  (s.keepsBut_mute n c).fg fun hj => hj.elim (by omega) (not_noticeKey_gen hn hoff)

/-- The PROOF cause stands once it is set. -/
theorem State.proofCause_mute (s : State) (hn : n < 16) : bit ((s.mute n .proof).causes n) 1 = true := by
  have hc : putBit (s.causes n) MuteCause.proof.idx true < 16 := putBit_lt (s.causes_lt n) (by decide) true
  rw [State.mute, s.causes_setCauses hn hc, s.bit_withClock_other _ (by decide), bit_putBit]
  exact if_pos rfl

/-! ### A proof fault reported (R219, R294, R488) -/

/-- What the report of a proof fault writes: the page's first fault, the fabric's records and the notices. -/
def reportKey (n j : Nat) : Prop := (j = base (pGEN n) + HDR_PAGE_FAULT ∨ fabricKey j) ∨ noticeKey j

theorem State.keepsBut_pageFault (s : State) (p code detail : Nat) :
    s.KeepsBut (s.pageFault p code detail) (fun j => j = base p + HDR_PAGE_FAULT) := by
  unfold State.pageFault
  split
  · exact ((s.keepsBut_fs ..).trans (State.keepsBut_fs ..)).mono fun _ => or_self_iff.mp
  · exact State.keepsBut_fs ..

theorem State.keepsBut_faultLevel (s : State) (n : Nat) : s.KeepsBut (s.faultLevel n) fabricKey := State.keepsBut_sourceLevel ..

theorem State.keepsBut_proofFault (s : State) (n code cause arg : Nat) : s.KeepsBut (s.proofFault n code cause arg) (reportKey n) := by
  have hfault := s.keepsBut_pageFault (pGEN n) code 0
  refine (((hfault.trans (State.keepsBut_faultLevel ..)).trans (State.keepsBut_publishBy ..)).trans (State.keepsBut_notify ..)).mono
    fun j hj => ?_
  exact hj.imp_left fun h => h.elim id .inr

theorem State.fg_proofFault {code cause arg : Nat} (hn : n < 16) (hoff : f.off < 0x1000) (hne : f.off ≠ HDR_PAGE_FAULT) :
    (s.proofFault n code cause arg).fg (base (pGEN n)) f = s.fg (base (pGEN n)) f := by
  refine (s.keepsBut_proofFault n code cause arg).fg ?_
  rintro ((hj | hj) | hj)
  · omega
  · exact not_fabricKey_of_ge (le_gen_add ..) hj
  · exact not_noticeKey_gen hn hoff hj

theorem State.causes_proofFault {code cause arg : Nat} (hn : n < 16) : (s.proofFault n code cause arg).causes n = s.causes n :=
  State.fg_proofFault hn (by decide) (by decide)

end Sys2Proof.Machine
end

section
/-! The verdict of a whole window: skipped, within its limits, or with the RMS limit violated and PROOF set (R213, R215 to R217). -/
namespace Sys2Proof.Machine
open Sys2Proof
variable {s : State} {n : Nat} {w : ProofWindow} {e : Tenure}

/-! ### The residuals of a window (R208, R215) -/

theorem State.natAbs_residual_le (s : State) (n a : Nat) (p : ProofSample) : (s.residual n a p).natAbs ≤ 32768 := by
  unfold State.residual clampI
  split
  · decide
  · split <;> omega

/-- The residuals saturate, so their peak fits 16 bits. -/
theorem State.peak_lt (s : State) (n : Nat) (l : List (Nat × ProofSample)) : (s.residStats n l).2 < 65536 := by
  have hfold : ∀ v : Nat × Nat, v.2 < 65536 → (l.foldl (fun v e =>
      let r := (s.residual n e.1 e.2).natAbs; (v.1 + r * r, max v.2 r)) v).2 < 65536 := by
    induction l with
    | nil => exact fun v hv => hv
    | cons e l ih =>
      have hle := s.natAbs_residual_le n e.1 e.2
      exact fun v hv => ih _ (Nat.max_lt.mpr ⟨hv, by omega⟩)
  exact hfold (0, 0) (by decide)

/-! ### What a verdict comes to -/

/-- The settings under which window `w` is judged. -/
def State.winSet (s : State) (n : Nat) (w : ProofWindow) : StenSet := s.stenFor n w.first

theorem State.winSet_toGf (s : State) (n : Nat) (w : ProofWindow) (q : Nat) : (s.toGf q).winSet n w = s.winSet n w := rfl

/-- The GF cycle of the window's verdict. -/
def State.winVerdictCycle (s : State) (n : Nat) (w : ProofWindow) : Nat := w.first + winCycles (s.winSet n w).cfg + 191

/-- The sum of squares and the peak of the window's residuals. -/
def State.winStats (s : State) (n : Nat) (w : ProofWindow) : Nat × Nat := s.residStats n (numbered (8 * w.first) w.samples)

/-- The window is skipped: a sample is SKIP, or one is TRIM under BURNISH_SKIP. -/
def State.winSkipped (s : State) (n : Nat) (w : ProofWindow) : Bool :=
  (numbered (8 * w.first) w.samples).any (fun x => s.skipAt n x.1)
    || (getF (s.winSet n w).cfg GEN_STEN_CFG_BURNISH_SKIP == 1 && (numbered (8 * w.first) w.samples).any (fun x => s.trimFlagAt n x.1))

/-- The runs of violations as the window finds them: a run whose limit has changed starts again (R218). -/
def State.runsFor (s : State) (n : Nat) (c : StenSet) : State :=
  s.updProof n (fun p => { p with
    rmsNo := c.rmsNo, peakNo := c.peakNo
    runRms := if p.rmsNo = c.rmsNo then p.runRms else 0, runPeak := if p.peakNo = c.peakNo then p.runPeak else 0 })

/-- The runs of exceedances set. -/
def State.setRuns (s : State) (n rr rp : Nat) : State := s.updProof n (fun p => { p with runRms := rr, runPeak := rp })

/-- What an evaluated window shows: it is counted, STEN_LAST and STEN_WORST follow, and WIN_INFO. -/
def State.showWindow (s : State) (n rms peak steps : Nat) (vr vp : Bool) : State :=
  let b := base (pGEN n)
  let t := ((s.count b GEN_WIN_EVAL_COUNT_COUNT).fs b GEN_STEN_LAST_RMS rms).fs b GEN_STEN_LAST_PEAK peak
  let t := (t.fs b GEN_STEN_WORST_RMS (max rms (t.fg b GEN_STEN_WORST_RMS))).fs b GEN_STEN_WORST_PEAK (max peak (t.fg b GEN_STEN_WORST_PEAK))
  ((t.fs b GEN_WIN_INFO_STEPS steps).fs b GEN_WIN_INFO_PEAK_VIOL (b2n vp)).fs b GEN_WIN_INFO_RMS_VIOL (b2n vr)

/-- Its mean square exceeds the RMS limit. -/
def State.winOverRms (s : State) (n : Nat) (w : ProofWindow) : Bool := overRms (s.winSet n w).rms (s.winStats n w).1 w.samples.length

/-- Its peak exceeds the peak limit. -/
def State.winOverPeak (s : State) (n : Nat) (w : ProofWindow) : Bool := overPeak (s.winSet n w).peak (s.winStats n w).2

/-- The run of RMS exceedances, counting this window. -/
def State.rmsRun (s : State) (n : Nat) (w : ProofWindow) : Nat :=
  if s.winOverRms n w then ((s.runsFor n (s.winSet n w)).proof n).runRms + 1 else 0

/-- The run of peak exceedances, counting this window. -/
def State.peakRun (s : State) (n : Nat) (w : ProofWindow) : Nat :=
  if s.winOverPeak n w then ((s.runsFor n (s.winSet n w)).proof n).runPeak + 1 else 0

/-- It violates the RMS limit: CONSEC + 1 windows in a row exceed it. -/
def State.rmsViol (s : State) (n : Nat) (w : ProofWindow) : Bool :=
  s.winOverRms n w && decide (getF (s.winSet n w).cfg GEN_STEN_CFG_CONSEC + 1 ≤ s.rmsRun n w)

/-- It violates the peak limit. -/
def State.peakViol (s : State) (n : Nat) (w : ProofWindow) : Bool :=
  s.winOverPeak n w && decide (getF (s.winSet n w).cfg GEN_STEN_CFG_CONSEC + 1 ≤ s.peakRun n w)

/-- The window evaluated. -/
def State.evaluated (s : State) (n : Nat) (w : ProofWindow) : State :=
  ((s.runsFor n (s.winSet n w)).setRuns n (s.rmsRun n w) (s.peakRun n w)).showWindow n (min 65535 (rmsOf (s.winStats n w).1 w.samples.length))
    (s.winStats n w).2 (min 255 (s.stepsIn n w.first (winCycles (s.winSet n w).cfg))) (s.rmsViol n w) (s.peakViol n w)

/-- The violations counted, and the time of the window's first stroke kept. -/
def State.countViols (s : State) (n time : Nat) (vr vp : Bool) : State :=
  let t := if vr then s.count (base (pGEN n)) GEN_VIOL_RMS_COUNT_COUNT else s
  let t := if vp then t.count (base (pGEN n)) GEN_VIOL_PEAK_COUNT_COUNT else t
  t.wr64 (base (pGEN n) + GEN_LAST_VIOL_TIME) time

/-- The action of the verdict (R217). -/
def State.winAct (s : State) (n : Nat) (w : ProofWindow) : Nat := verdictAct (s.winSet n w) (s.rmsViol n w) (s.peakViol n w)

/-- The window evaluated and its violations published, acted upon and reported. -/
def State.violated (s : State) (n : Nat) (w : ProofWindow) : State :=
  let b := base (pGEN n)
  let time := s.gfTime w.first / 2 ^ 40
  let t := ((s.evaluated n w).countViols n time (s.rmsViol n w) (s.peakViol n w)).publishBy (0x400 + n)
  let t := if s.winAct n w = 1 then t.mute n .proof else t
  let t := if s.fg b GEN_SNAP_CFG_FREEZE_ON = 1 ∧ s.fb b GEN_SNAP_STATUS_RECORDING then
      t.freeze n (8 * (w.first + winCycles (s.winSet n w).cfg)) (w.before ++ w.samples)
    else t
  let note := t.note (pGEN n) 16 (b2n (s.rmsViol n w) + 2 * b2n (s.peakViol n w) + 16 * s.winAct n w)
    (min 65535 (rmsOf (s.winStats n w).1 w.samples.length) + 65536 * (s.winStats n w).2) (t.fg b GEN_PROOF_STATUS_MODEL_VER)
  t.notify { note with time := time }

/-- A skipped window: it is counted, and breaks both runs. -/
def State.skipWindow (s : State) (n : Nat) (c : StenSet) : State :=
  ((s.runsFor n c).count (base (pGEN n)) GEN_WIN_SKIP_COUNT_COUNT).setRuns n 0 0

theorem State.verdict_skipped (h : s.winSkipped n w = true) :
    s.verdict n w = (s.skipWindow n (s.winSet n w), false) :=
  if_pos h

/-- A window that is not skipped is evaluated, and reported where it violates a limit. -/
theorem State.verdict_judged (h : s.winSkipped n w = false) :
    s.verdict n w = if !(s.rmsViol n w || s.peakViol n w) then (s.evaluated n w, false) else (s.violated n w, s.winAct n w == 2) :=
  if_neg (c := s.winSkipped n w = true) (by simp [h])

theorem State.verdict_within (h : s.winSkipped n w = false) (hr : s.winOverRms n w = false) (hp : s.winOverPeak n w = false) :
    s.verdict n w = (s.evaluated n w, false) := by
  rw [State.verdict_judged h, State.rmsViol, State.peakViol, hr, hp]
  rfl

theorem State.verdict_violated (h : s.winSkipped n w = false) (hv : s.rmsViol n w = true) :
    s.verdict n w = (s.violated n w, s.winAct n w == 2) := by
  rw [State.verdict_judged h, hv]
  rfl

/-- With CONSEC at 0 each exceedance is a violation. -/
theorem State.rmsViol_of_consec (h : getF (s.winSet n w).cfg GEN_STEN_CFG_CONSEC = 0) : s.rmsViol n w = s.winOverRms n w := by
  unfold State.rmsViol State.rmsRun
  cases s.winOverRms n w <;> simp [h]

theorem State.peakViol_of_consec (h : getF (s.winSet n w).cfg GEN_STEN_CFG_CONSEC = 0) : s.peakViol n w = s.winOverPeak n w := by
  unfold State.peakViol State.peakRun
  cases s.winOverPeak n w <;> simp [h]

/-! ### What each verdict leaves -/

theorem State.fg_setRuns (s : State) (n rr rp b : Nat) (f : Field) : (s.setRuns n rr rp).fg b f = s.fg b f := rfl

theorem State.fg_runsFor (s : State) (n : Nat) (c : StenSet) (b : Nat) (f : Field) : (s.runsFor n c).fg b f = s.fg b f := rfl

theorem State.skipCount_skipWindow (s : State) (n : Nat) (c : StenSet) : (s.skipWindow n c).fg (base (pGEN n)) GEN_WIN_SKIP_COUNT_COUNT
    = satAdd 0xFFFFFFFF (s.fg (base (pGEN n)) GEN_WIN_SKIP_COUNT_COUNT) 1 := by
  rw [State.skipWindow, State.fg_setRuns, State.fg_count_self (by decide), State.fg_runsFor]
  rfl

theorem State.proof_skipWindow (hn : n < s.proofs.length) (c : StenSet) :
    ((s.skipWindow n c).proof n).runRms = 0 ∧ ((s.skipWindow n c).proof n).runPeak = 0 := by
  have hlen : n < ((s.runsFor n c).count (base (pGEN n)) GEN_WIN_SKIP_COUNT_COUNT).proofs.length := by
    rw [State.count_proofs, State.runsFor, State.updProof, List.length_modify]
    exact hn
  rw [State.skipWindow, State.setRuns, State.proof_updProof_self hlen]
  exact ⟨rfl, rfl⟩

theorem State.keepsBut_skipWindow (s : State) (n : Nat) (c : StenSet) :
    s.KeepsBut (s.skipWindow n c) (fun j => j = base (pGEN n) + GEN_WIN_SKIP_COUNT) :=
  (((s.keepsBut_updProof ..).trans (State.keepsBut_count ..)).trans (State.keepsBut_updProof ..)).mono
    fun _ hj => (hj.resolve_right id).resolve_left id

/-- The registers that an evaluated window shows itself in. -/
def windowKey (n : Nat) : Nat → Prop := genKey n [GEN_STEN_LAST, GEN_STEN_WORST, GEN_WIN_INFO, GEN_WIN_EVAL_COUNT]

theorem State.keepsBut_showWindow (s : State) (n rms peak steps : Nat) (vr vp : Bool) :
    s.KeepsBut (s.showWindow n rms peak steps vr vp) (windowKey n) := by
  have hlast : windowKey n (base (pGEN n) + GEN_STEN_LAST) := genKey_add.mpr (by decide)
  have hworst : windowKey n (base (pGEN n) + GEN_STEN_WORST) := genKey_add.mpr (by decide)
  have hinfo : windowKey n (base (pGEN n) + GEN_WIN_INFO) := genKey_add.mpr (by decide)
  have hcount : windowKey n (base (pGEN n) + GEN_WIN_EVAL_COUNT) := genKey_add.mpr (by decide)
  exact (s.keepsBut_refl _).count hcount |>.fs hlast |>.fs hlast |>.fs hworst |>.fs hworst |>.fs hinfo |>.fs hinfo |>.fs hinfo

/-- The runs are no registers. -/
theorem State.keepsBut_runs (s : State) (n : Nat) (c : StenSet) (rr rp : Nat) :
    s.KeepsBut ((s.runsFor n c).setRuns n rr rp) (fun _ => False) :=
  ((s.keepsBut_updProof ..).trans (State.keepsBut_updProof ..)).mono fun _ => or_self_iff.mp

theorem State.keepsBut_evaluated (s : State) (n : Nat) (w : ProofWindow) : s.KeepsBut (s.evaluated n w) (windowKey n) :=
  ((s.keepsBut_runs ..).trans (State.keepsBut_showWindow ..)).mono fun _ h => h.resolve_left id

theorem State.evalCount_showWindow (s : State) (n rms peak steps : Nat) (vr vp : Bool) :
    (s.showWindow n rms peak steps vr vp).fg (base (pGEN n)) GEN_WIN_EVAL_COUNT_COUNT
      = satAdd 0xFFFFFFFF (s.fg (base (pGEN n)) GEN_WIN_EVAL_COUNT_COUNT) 1 := by
  unfold State.showWindow
  simp (disch := decide) only [State.fg_fs_of_off_ne, State.fg_count_self]
  rfl

theorem State.lastRms_showWindow {rms : Nat} (s : State) (n peak steps : Nat) (vr vp : Bool) (h : rms < 65536) :
    (s.showWindow n rms peak steps vr vp).fg (base (pGEN n)) GEN_STEN_LAST_RMS = rms := by
  unfold State.showWindow
  simp (disch := decide) only [State.fg_fs_of_off_ne, State.fg_fs_other, State.fg_fs_self]
  exact Nat.mod_eq_of_lt h

theorem State.lastPeak_showWindow {peak : Nat} (s : State) (n rms steps : Nat) (vr vp : Bool) (h : peak < 65536) :
    (s.showWindow n rms peak steps vr vp).fg (base (pGEN n)) GEN_STEN_LAST_PEAK = peak := by
  unfold State.showWindow
  simp (disch := decide) only [State.fg_fs_of_off_ne, State.fg_fs_self]
  exact Nat.mod_eq_of_lt h

theorem State.steps_showWindow {steps : Nat} (s : State) (n rms peak : Nat) (vr vp : Bool) (h : steps < 256) :
    (s.showWindow n rms peak steps vr vp).fg (base (pGEN n)) GEN_WIN_INFO_STEPS = steps := by
  unfold State.showWindow
  simp (disch := decide) only [State.fg_fs_other, State.fg_fs_self]
  exact Nat.mod_eq_of_lt h

theorem State.rmsViol_showWindow (s : State) (n rms peak steps : Nat) (vr vp : Bool) :
    (s.showWindow n rms peak steps vr vp).fg (base (pGEN n)) GEN_WIN_INFO_RMS_VIOL = b2n vr := by
  unfold State.showWindow
  rw [State.fg_fs_self _ _ _ _ _ (by decide)]
  cases vr <;> rfl

/-- What an evaluated window shows (R213, R215, R216). -/
theorem State.evalCount_evaluated (s : State) (n : Nat) (w : ProofWindow) : (s.evaluated n w).fg (base (pGEN n)) GEN_WIN_EVAL_COUNT_COUNT
    = satAdd 0xFFFFFFFF (s.fg (base (pGEN n)) GEN_WIN_EVAL_COUNT_COUNT) 1 := by
  rw [State.evaluated, State.evalCount_showWindow, State.fg_setRuns, State.fg_runsFor]

theorem State.lastRms_evaluated (s : State) (n : Nat) (w : ProofWindow) :
    (s.evaluated n w).fg (base (pGEN n)) GEN_STEN_LAST_RMS = min 65535 (rmsOf (s.winStats n w).1 w.samples.length) :=
  State.lastRms_showWindow _ _ _ _ _ _ (by omega)

theorem State.lastPeak_evaluated (s : State) (n : Nat) (w : ProofWindow) :
    (s.evaluated n w).fg (base (pGEN n)) GEN_STEN_LAST_PEAK = (s.winStats n w).2 :=
  State.lastPeak_showWindow _ _ _ _ _ _ (State.peak_lt ..)

theorem State.steps_evaluated (s : State) (n : Nat) (w : ProofWindow) : (s.evaluated n w).fg (base (pGEN n)) GEN_WIN_INFO_STEPS
    = min 255 (s.stepsIn n w.first (winCycles (s.winSet n w).cfg)) :=
  State.steps_showWindow _ _ _ _ _ _ (by omega)

theorem State.rmsViol_evaluated (s : State) (n : Nat) (w : ProofWindow) :
    (s.evaluated n w).fg (base (pGEN n)) GEN_WIN_INFO_RMS_VIOL = b2n (s.rmsViol n w) :=
  State.rmsViol_showWindow ..

/-- The registers that count a window's violations and keep its time. -/
def violKey (n : Nat) : Nat → Prop := genKey n [GEN_VIOL_RMS_COUNT, GEN_VIOL_PEAK_COUNT, GEN_LAST_VIOL_TIME, GEN_LAST_VIOL_TIME + 4]

theorem State.keepsBut_countViols (s : State) (n time : Nat) (vr vp : Bool) : s.KeepsBut (s.countViols n time vr vp) (violKey n) := by
  have hrms : violKey n (base (pGEN n) + GEN_VIOL_RMS_COUNT) := genKey_add.mpr (by decide)
  have hpeak : violKey n (base (pGEN n) + GEN_VIOL_PEAK_COUNT) := genKey_add.mpr (by decide)
  have hcounts := ((s.keepsBut_refl (violKey n)).countIf (f := GEN_VIOL_RMS_COUNT_COUNT) vr hrms).countIf
    (f := GEN_VIOL_PEAK_COUNT_COUNT) vp hpeak
  refine (hcounts.trans (State.keepsBut_wr64 ..)).mono ?_
  rintro j (hj | rfl | rfl)
  · exact hj
  · exact genKey_add.mpr (by decide)
  · rw [Nat.add_assoc]
    exact genKey_add.mpr (by decide)

theorem State.rmsCount_countViols (s : State) (n time : Nat) (vp : Bool) :
    (s.countViols n time true vp).fg (base (pGEN n)) GEN_VIOL_RMS_COUNT_COUNT
      = satAdd 0xFFFFFFFF (s.fg (base (pGEN n)) GEN_VIOL_RMS_COUNT_COUNT) 1 := by
  have hcount := s.fg_count_self (b := base (pGEN n)) (f := GEN_VIOL_RMS_COUNT_COUNT) (by decide)
  have hother : ¬ (base (pGEN n) + GEN_VIOL_RMS_COUNT_COUNT.off = base (pGEN n) + GEN_LAST_VIOL_TIME
      ∨ base (pGEN n) + GEN_VIOL_RMS_COUNT_COUNT.off = base (pGEN n) + GEN_LAST_VIOL_TIME + 4) := by
    rw [Nat.add_assoc, Nat.add_left_cancel_iff, Nat.add_left_cancel_iff]
    decide
  refine ((State.keepsBut_wr64 ..).fg hother).trans ?_
  cases vp with
  | false => exact hcount
  | true => exact (State.fg_count_of_off_ne (by decide)).trans hcount

theorem State.time_countViols (s : State) (n time : Nat) (vr vp : Bool) :
    (s.countViols n time vr vp).rd64 (base (pGEN n) + GEN_LAST_VIOL_TIME) = time % 2 ^ 64 :=
  State.rd64_wr64_mod ..

/-- What a violation that mutes writes beyond its own counts. -/
def muteKey (n j : Nat) : Prop := (fabricKey j ∨ j = base (pGEN n) + GEN_MUTE_CTRL) ∨ noticeKey j

theorem not_muteKey_gen {x : Nat} (hn : n < 16) (hx : x < 0x1000) (hne : x ≠ GEN_MUTE_CTRL) : ¬ muteKey n (base (pGEN n) + x) := by
  rintro ((hj | hj) | hj)
  · exact not_fabricKey_of_ge (le_gen_add ..) hj
  · omega
  · exact not_noticeKey_of_lt (by unfold base pGEN; omega) hj

/-- The last of a violation that mutes: the event, the PROOF cause and the notice. -/
def State.publishMuted (s : State) (n : Nat) (note : Notice) : State := ((s.publishBy (0x400 + n)).mute n .proof).notify note

theorem State.keepsBut_publishMuted (s : State) (n : Nat) (note : Notice) : s.KeepsBut (s.publishMuted n note) (muteKey n) := by
  refine (((s.keepsBut_publishBy _).trans (State.keepsBut_mute ..)).trans (State.keepsBut_notify ..)).mono ?_
  rintro j ((hj | hj | hj) | hj)
  · exact .inl (.inl hj)
  · exact .inl (.inr hj)
  · exact .inr hj
  · exact .inr hj

theorem State.proofCause_publishMuted (s : State) (hn : n < 16) (note : Notice) : bit ((s.publishMuted n note).causes n) 1 = true := by
  rw [State.publishMuted, State.causes, (State.keepsBut_notify ..).fg (not_noticeKey_gen hn (by decide))]
  exact State.proofCause_mute _ hn

theorem State.violated_muted (hact : s.winAct n w = 1) (hfreeze : s.fg (base (pGEN n)) GEN_SNAP_CFG_FREEZE_ON = 0) :
    ∃ note, s.violated n w
      = ((s.evaluated n w).countViols n (s.gfTime w.first / 2 ^ 40) (s.rmsViol n w) (s.peakViol n w)).publishMuted n note := by
  have hmanual : ¬ (s.fg (base (pGEN n)) GEN_SNAP_CFG_FREEZE_ON = 1 ∧ s.fb (base (pGEN n)) GEN_SNAP_STATUS_RECORDING = true) := by
    simp [hfreeze]
  rw [State.violated, hact, if_pos rfl, if_neg hmanual]
  exact ⟨_, rfl⟩

/-- A violation of the RMS limit that mutes and freezes nothing: it counts, keeps its time and sets PROOF. -/
theorem State.verdict_muted (hn : n < 16) (hskip : s.winSkipped n w = false) (hviol : s.rmsViol n w = true) (hact : s.winAct n w = 1)
    (hfreeze : s.fg (base (pGEN n)) GEN_SNAP_CFG_FREEZE_ON = 0) :
    ∃ t, s.verdict n w = (t, false)
      ∧ t.fg (base (pGEN n)) GEN_VIOL_RMS_COUNT_COUNT = satAdd 0xFFFFFFFF (s.fg (base (pGEN n)) GEN_VIOL_RMS_COUNT_COUNT) 1
      ∧ t.fg (base (pGEN n)) GEN_WIN_INFO_RMS_VIOL = 1
      ∧ t.rd64 (base (pGEN n) + GEN_LAST_VIOL_TIME) = s.gfTime w.first / 2 ^ 40 % 2 ^ 64
      ∧ bit (t.causes n) 1 = true ∧ s.KeepsMem t := by
  obtain ⟨note, hnote⟩ := State.violated_muted hact hfreeze
  have hcounts := (s.evaluated n w).keepsBut_countViols n (s.gfTime w.first / 2 ^ 40) (s.rmsViol n w) (s.peakViol n w)
  have hrest := ((s.evaluated n w).countViols n (s.gfTime w.first / 2 ^ 40) (s.rmsViol n w) (s.peakViol n w)).keepsBut_publishMuted n note
  rw [State.verdict_violated hskip hviol, hact, hnote]
  refine ⟨_, rfl, ?_, ?_, ?_, State.proofCause_publishMuted _ hn note, (((s.keepsBut_evaluated n w).trans hcounts).trans hrest).2⟩
  · rw [hrest.fg (not_muteKey_gen hn (by decide) (by decide)), hviol, State.rmsCount_countViols,
      (s.keepsBut_evaluated n w).fg (mt genKey_add.mp (by decide))]
  · rw [hrest.fg (not_muteKey_gen hn (by decide) (by decide)), hcounts.fg (mt genKey_add.mp (by decide)), State.rmsViol_evaluated, hviol]
    rfl
  · have hhigh : ¬ muteKey n (base (pGEN n) + GEN_LAST_VIOL_TIME + 4) := by
      rw [Nat.add_assoc]
      exact not_muteKey_gen hn (by decide) (by decide)
    rw [hrest.rd64 (not_muteKey_gen hn (by decide) (by decide)) hhigh, State.time_countViols]

/-! ### The command -/

/-- A row on a generate channel that is there. -/
theorem State.onChan_gen {t : State} (hn : n < s.variant.gens) : s.onChan false n t = .next t := if_pos (decide_eq_true hn)

theorem exec_windowVerdict_none (hn : n < s.variant.gens) (h : s.winTenure n w = none) : exec (.windowVerdict n w) s = .next s := by
  show execWindowVerdict n w s = _
  rw [execWindowVerdict, h, State.onChan_gen hn]

/-- A verdict that stops no scenario. -/
theorem exec_windowVerdict {t : State} (hn : n < s.variant.gens) (h : s.winTenure n w = some e)
    (hv : (s.toGf (s.winVerdictCycle n w)).verdict n w = (t, false)) : exec (.windowVerdict n w) s = .next t := by
  unfold State.winVerdictCycle State.winSet at hv
  show execWindowVerdict n w s = _
  rw [execWindowVerdict, h, State.onChan_gen hn]
  dsimp only
  rw [hv]
  rfl

end Sys2Proof.Machine
end

section
/-! The proof faults: OVERLOAD declared, cleared and examined again, CONTENTION and OPEN (R219 to R222), and the statement on the proof path. -/
namespace Sys2Proof.Machine
open Sys2Proof
variable {s : State} {n : Nat} {o : Org} {again : Bool} {d : DriverOff}

/-! ### OVERLOAD (R219, R220) -/

/-- The registers of an overload declared, and the record of its output, the mute and the report aside. -/
def State.overloadShown (s : State) (n dcMv : Nat) : State :=
  let b := base (pGEN n)
  (((s.fs b GEN_PROOF_FAULT_OVERLOAD 1).fs b GEN_PROOF_FAULT_ISOLATED 1).count b GEN_OVERLOAD_COUNT_COUNT).fs b GEN_FAULT_MEAS_DC_MV dcMv

theorem State.overload_eq (s : State) (n dcMv : Nat) :
    ∃ l, s.overload n dcMv = (((s.overloadShown n dcMv).setOff l).mute n .proof).proofFault n 0x0201 1 (dcMv % 65536) := ⟨_, rfl⟩

theorem State.keepsBut_setOff (s : State) (l : List DriverOff) : s.KeepsBut (s.setOff l) (fun _ => False) :=
  ⟨fun _ _ => rfl, fun _ _ => rfl⟩

/-- The registers of an overload declared. -/
def overloadKey (n : Nat) : Nat → Prop := genKey n [GEN_PROOF_FAULT, GEN_FAULT_MEAS, GEN_OVERLOAD_COUNT]

theorem State.keepsBut_overloadShown (s : State) (n dcMv : Nat) : s.KeepsBut (s.overloadShown n dcMv) (overloadKey n) := by
  have hfault : overloadKey n (base (pGEN n) + GEN_PROOF_FAULT) := genKey_add.mpr (by decide)
  have hmeas : overloadKey n (base (pGEN n) + GEN_FAULT_MEAS) := genKey_add.mpr (by decide)
  have hcount : overloadKey n (base (pGEN n) + GEN_OVERLOAD_COUNT) := genKey_add.mpr (by decide)
  exact (s.keepsBut_refl _).fs hfault |>.fs hfault |>.count hcount |>.fs hmeas

theorem State.keepsBut_overload (s : State) (n dcMv : Nat) : s.KeepsBut (s.overload n dcMv)
    (fun j => genKey n [GEN_PROOF_FAULT, GEN_FAULT_MEAS, GEN_OVERLOAD_COUNT, GEN_MUTE_CTRL, HDR_PAGE_FAULT] j ∨ chanKey j ∨ noticeKey j) := by
  obtain ⟨l, hl⟩ := s.overload_eq n dcMv
  rw [hl]
  refine ((((s.keepsBut_overloadShown n dcMv).trans (State.keepsBut_setOff ..)).trans (State.keepsBut_mute ..)).trans
    (State.keepsBut_proofFault ..)).mono ?_
  rintro j ((((hshown | hfalse) | hmute | hnotice) | (hfault | hfabric) | hnotice))
  · exact .inl (genKey_mono (by decide) hshown)
  · exact hfalse.elim
  · exact .inl (hmute ▸ genKey_add.mpr (by decide))
  · exact .inr (.inr hnotice)
  · exact .inl (hfault ▸ genKey_add.mpr (by decide))
  · exact .inr (.inl hfabric.chanKey)
  · exact .inr (.inr hnotice)

/-- A field of the page that neither the mute nor the report writes. -/
theorem State.fg_overload {dcMv : Nat} {f : Field} (hn : n < 16) (hoff : f.off < 0x1000) (hmute : f.off ≠ GEN_MUTE_CTRL)
    (hfault : f.off ≠ HDR_PAGE_FAULT) : (s.overload n dcMv).fg (base (pGEN n)) f = (s.overloadShown n dcMv).fg (base (pGEN n)) f := by
  obtain ⟨l, hl⟩ := s.overload_eq n dcMv
  rw [hl, State.fg_proofFault hn hoff hfault, State.fg_mute hn hoff hmute]
  rfl

theorem State.proofCause_overload (s : State) (dcMv : Nat) (hn : n < 16) : bit ((s.overload n dcMv).causes n) 1 = true := by
  obtain ⟨l, hl⟩ := s.overload_eq n dcMv
  rw [hl, State.causes_proofFault hn]
  exact State.proofCause_mute _ hn

theorem State.overloadBit_overload {dcMv : Nat} (hn : n < 16) : (s.overload n dcMv).fg (base (pGEN n)) GEN_PROOF_FAULT_OVERLOAD = 1 := by
  rw [State.fg_overload hn (by decide) (by decide) (by decide), State.overloadShown]
  simp (disch := decide) only [State.fg_count_of_off_ne, State.fg_fs_other, State.fg_fs_self]
  rfl

theorem State.isolated_overload {dcMv : Nat} (hn : n < 16) : (s.overload n dcMv).fg (base (pGEN n)) GEN_PROOF_FAULT_ISOLATED = 1 := by
  rw [State.fg_overload hn (by decide) (by decide) (by decide), State.overloadShown]
  simp (disch := decide) only [State.fg_fs_of_off_ne, State.fg_count_of_off_ne, State.fg_fs_self]
  rfl

theorem State.dcMv_overload {dcMv : Nat} (hn : n < 16) (hdc : dcMv < 65536) :
    (s.overload n dcMv).fg (base (pGEN n)) GEN_FAULT_MEAS_DC_MV = dcMv := by
  rw [State.fg_overload hn (by decide) (by decide) (by decide), State.overloadShown, State.fg_fs_self _ _ _ _ _ (by decide)]
  exact Nat.mod_eq_of_lt hdc

theorem State.count_overload {dcMv : Nat} (hn : n < 16) : (s.overload n dcMv).fg (base (pGEN n)) GEN_OVERLOAD_COUNT_COUNT
    = satAdd 0xFFFFFFFF (s.fg (base (pGEN n)) GEN_OVERLOAD_COUNT_COUNT) 1 := by
  rw [State.fg_overload hn (by decide) (by decide) (by decide), State.overloadShown]
  simp (disch := decide) only [State.fg_fs_of_off_ne, State.fg_count_self]
  rfl

theorem exec_overload {dcMv : Nat} (hn : n < s.variant.gens) : exec (.overload n dcMv) s = .next (s.overload n dcMv) :=
  State.onChan_gen hn

/-! ### PROOF_FAULT.OVERLOAD cleared (R220) -/

/-- The overload bit cleared, and the re-examination begun where the hold is over, the level aside. -/
def State.overloadBitCleared (s : State) (n : Nat) : State :=
  let u := s.fs (base (pGEN n)) GEN_PROOF_FAULT_OVERLOAD 0
  (u.setOff (u.lanes.off.map (fun d => if d.who = .output n then { d with ovr := false } else d))).reexamine n

theorem State.proofFaultClear_overload (s : State) (n : Nat) (again : Bool) :
    s.proofFaultClear n 1 again = (if again then s else s.overloadBitCleared n).faultLevel n := by
  cases again <;> rfl

theorem State.keepsBut_overloadBitCleared (s : State) (n : Nat) :
    s.KeepsBut (s.overloadBitCleared n) (fun j => j = base (pGEN n) + GEN_PROOF_FAULT) :=
  (((s.keepsBut_fs _ GEN_PROOF_FAULT_OVERLOAD 0).trans (State.keepsBut_setOff ..)).trans (State.keepsBut_setOff ..)).mono
    fun _ hj => (hj.resolve_right id).resolve_right id

theorem State.keepsBut_proofFaultClear (s : State) (n : Nat) (again : Bool) :
    s.KeepsBut (s.proofFaultClear n 1 again) (fun j => j = base (pGEN n) + GEN_PROOF_FAULT ∨ fabricKey j) := by
  rw [State.proofFaultClear_overload]
  refine State.KeepsBut.trans ?_ (State.keepsBut_faultLevel ..)
  cases again with
  | true => exact s.keepsBut_refl _
  | false => exact s.keepsBut_overloadBitCleared n

theorem State.fg_proofFaultClear {f : Field} : (s.proofFaultClear n 1 again).fg (base (pGEN n)) f
    = (if again then s else s.overloadBitCleared n).fg (base (pGEN n)) f := by
  rw [State.proofFaultClear_overload, (State.keepsBut_faultLevel ..).fg (not_fabricKey_of_ge (le_gen_add ..))]

theorem State.overloadBit_proofFaultClear : (s.proofFaultClear n 1 again).fg (base (pGEN n)) GEN_PROOF_FAULT_OVERLOAD
    = if again = true then s.fg (base (pGEN n)) GEN_PROOF_FAULT_OVERLOAD else 0 := by
  rw [State.fg_proofFaultClear]
  cases again with
  | true => rfl
  | false => exact s.fg_fs_self (base (pGEN n)) GEN_PROOF_FAULT_OVERLOAD 0 0 (by decide)

theorem State.isolated_proofFaultClear : (s.proofFaultClear n 1 again).fg (base (pGEN n)) GEN_PROOF_FAULT_ISOLATED
    = s.fg (base (pGEN n)) GEN_PROOF_FAULT_ISOLATED := by
  rw [State.fg_proofFaultClear]
  cases again with
  | true => rfl
  | false => exact s.fg_fs_other (base (pGEN n)) (base (pGEN n)) GEN_PROOF_FAULT_OVERLOAD GEN_PROOF_FAULT_ISOLATED 0 0 0 (by decide)

/-- A level of the fabric moves no driver. -/
theorem State.sourceLevel_lanes (s : State) (prod : Nat) (v : Bool) : (s.sourceLevel prod v).lanes = s.lanes := by
  unfold State.sourceLevel State.sourceTo
  split
  · split
    · obtain ⟨u, keep, hu, hset⟩ := s.setLevel_cases _ _ v
      rw [hset]
      obtain rfl | ⟨x, rfl⟩ := hu <;> rfl
    · rfl
  · rfl

/-- The record found is changed in place. -/
theorem State.offOf_setOff_map {p : DriverPort} (g : DriverOff → DriverOff) (hg : ∀ e, (g e).who = e.who) :
    (s.setOff (s.lanes.off.map g)).offOf p = (s.offOf p).map g := by
  show (s.lanes.off.map g).find? _ = (s.lanes.off.find? _).map g
  rw [List.find?_map]
  simp only [Function.comp_def, hg]

/-- What clearing the overload does to the record of a driver. -/
def DriverOff.noOvr (n : Nat) (d : DriverOff) : DriverOff := if d.who = .output n then { d with ovr := false } else d

theorem DriverOff.noOvr_who (d : DriverOff) : (d.noOvr n).who = d.who := by
  unfold DriverOff.noOvr
  split <;> rfl

/-- What the re-examination that begins at `now` does to the record of a driver. -/
def DriverOff.examined (n now : Nat) (d : DriverOff) : DriverOff :=
  if d.who = .output n && !d.ovr && decide (d.at_ + holdTicks ≤ now) then { d with cont := true } else d

theorem DriverOff.examined_who {now : Nat} (d : DriverOff) : (d.examined n now).who = d.who := by
  unfold DriverOff.examined
  split <;> rfl

/-- The hold is over: the re-examination begins. -/
theorem DriverOff.cont_examined {now : Nat} (hwho : d.who = .output n) (hhold : d.at_ + holdTicks ≤ now) :
    ((d.noOvr n).examined n now).cont = true := by
  simp [DriverOff.noOvr, DriverOff.examined, hwho, hhold]

theorem State.offOf_overloadBitCleared (s : State) (n : Nat) :
    (s.overloadBitCleared n).offOf (.output n) = ((s.offOf (.output n)).map (DriverOff.noOvr n)).map (DriverOff.examined n s.now) := by
  have hbit := State.offOf_setOff_map (s := s.fs (base (pGEN n)) GEN_PROOF_FAULT_OVERLOAD 0) (p := .output n) (DriverOff.noOvr n) DriverOff.noOvr_who
  exact (State.offOf_setOff_map (DriverOff.examined n s.now) DriverOff.examined_who).trans (congrArg (Option.map _) hbit)

theorem State.cont_proofFaultClear (hd : s.offOf (.output n) = some d) (hhold : d.at_ + holdTicks ≤ s.now) :
    ((s.proofFaultClear n 1 false).offOf (.output n)).map (fun d => d.cont) = some true := by
  have hwho : d.who = .output n := by simpa using List.find?_some hd
  have hlanes : (s.proofFaultClear n 1 false).lanes = (s.overloadBitCleared n).lanes := by
    rw [State.proofFaultClear_overload]
    exact State.sourceLevel_lanes ..
  rw [State.offOf, hlanes, ← State.offOf, State.offOf_overloadBitCleared, hd]
  exact congrArg some (DriverOff.cont_examined hwho hhold)

theorem exec_overloadClear (h : s.Accepts o (base (pGEN n) + GEN_PROOF_FAULT) 1#32) :
    exec (.overloadClear o n again) s = .next ((s.proofFaultClear n 1 again).ackWrite o) :=
  congrArg Host.Outcome.next (State.hostReg_acked _ _ _ _ _ _ h rfl)

/-! ### The re-examination of a healthy load (R220) -/

/-- The output reconnected, with the monitor's reading. -/
def State.reconnected (s : State) (n dcMv : Nat) : State :=
  ((s.setOff (s.lanes.off.filter (fun e => e.who != .output n))).fs (base (pGEN n)) GEN_PROOF_FAULT_ISOLATED 0).fs (base (pGEN n))
    GEN_FAULT_MEAS_DC_MV dcMv

theorem exec_overloadReexamDone_healthy {dcMv : Nat} (hn : n < s.variant.gens) (hd : s.offOf (.output n) = some d) (hcont : d.cont = true) :
    exec (.overloadReexamDone n false dcMv) s = .next (s.reconnected n dcMv) := by
  show s.onChan false n (s.reexamDone n false dcMv) = _
  rw [State.onChan_gen hn, State.reexamDone, hd, Option.map_some, hcont]
  rfl

theorem State.offOf_reconnected (s : State) (n dcMv : Nat) : (s.reconnected n dcMv).offOf (.output n) = none := by
  rw [State.offOf, State.reconnected, State.fs_lanes, State.fs_lanes]
  exact List.find?_eq_none.mpr fun e he => by simpa using (List.mem_filter.mp he).2

theorem State.isolated_reconnected (s : State) (n dcMv : Nat) : (s.reconnected n dcMv).fg (base (pGEN n)) GEN_PROOF_FAULT_ISOLATED = 0 := by
  rw [State.reconnected, State.fg_fs_of_off_ne (by decide), State.fg_fs_self _ _ _ _ _ (by decide)]
  rfl

theorem State.dcMv_reconnected (s : State) (n dcMv : Nat) :
    (s.reconnected n dcMv).fg (base (pGEN n)) GEN_FAULT_MEAS_DC_MV = dcMv % 65536 :=
  State.fg_fs_self _ _ _ _ _ (by decide)

theorem State.keepsBut_reconnected (s : State) (n dcMv : Nat) : s.KeepsBut (s.reconnected n dcMv)
    (fun j => j = base (pGEN n) + GEN_PROOF_FAULT ∨ j = base (pGEN n) + GEN_FAULT_MEAS) :=
  (((s.keepsBut_setOff _).mono fun _ => False.elim).fs (.inl rfl)).fs (.inr rfl)

/-! ### CONTENTION (R221) -/

/-- The bit and the count of a contention declared. -/
def State.contentionShown (s : State) (n : Nat) : State :=
  (s.fs (base (pGEN n)) GEN_PROOF_FAULT_CONTENTION 1).count (base (pGEN n)) GEN_CONTENTION_COUNT_COUNT

/-- Declared, with PROOF set under CONT_POLICY. -/
theorem State.proofContention_declared (rms : Nat) (h : s.fb (base (pGEN n)) GEN_PROOF_FAULT_CONTENTION = false) :
    s.proofContention n rms = (if s.fb (base (pGEN n)) GEN_PROOF_CTRL_CONT_POLICY then (s.contentionShown n).mute n .proof
      else s.contentionShown n).proofFault n 0x0202 2 rms := by
  rw [State.proofContention, h]
  rfl

section Contention
variable {rms : Nat} (hn : n < 16) (h : s.fb (base (pGEN n)) GEN_PROOF_FAULT_CONTENTION = false)
include hn h

theorem State.fg_proofContention {f : Field} (hoff : f.off < 0x1000) (hmute : f.off ≠ GEN_MUTE_CTRL) (hfault : f.off ≠ HDR_PAGE_FAULT) :
    (s.proofContention n rms).fg (base (pGEN n)) f = (s.contentionShown n).fg (base (pGEN n)) f := by
  rw [State.proofContention_declared rms h, State.fg_proofFault hn hoff hfault]
  split
  · exact State.fg_mute hn hoff hmute
  · rfl

theorem State.contentionBit_proofContention : (s.proofContention n rms).fg (base (pGEN n)) GEN_PROOF_FAULT_CONTENTION = 1 := by
  rw [State.fg_proofContention hn h (by decide) (by decide) (by decide), State.contentionShown, State.fg_count_of_off_ne (by decide),
    State.fg_fs_self _ _ _ _ _ (by decide)]
  rfl

theorem State.count_proofContention : (s.proofContention n rms).fg (base (pGEN n)) GEN_CONTENTION_COUNT_COUNT
    = satAdd 0xFFFFFFFF (s.fg (base (pGEN n)) GEN_CONTENTION_COUNT_COUNT) 1 := by
  rw [State.fg_proofContention hn h (by decide) (by decide) (by decide), State.contentionShown, State.fg_count_self (by decide),
    State.fg_fs_of_off_ne (by decide)]
  rfl

theorem State.proofCause_proofContention : bit ((s.proofContention n rms).causes n) 1
    = (s.fb (base (pGEN n)) GEN_PROOF_CTRL_CONT_POLICY || bit (s.causes n) 1) := by
  rw [State.proofContention_declared rms h, State.causes_proofFault hn]
  cases s.fb (base (pGEN n)) GEN_PROOF_CTRL_CONT_POLICY with
  | true => exact State.proofCause_mute _ hn
  | false =>
    have hcauses : (s.contentionShown n).causes n = s.causes n := by
      rw [State.causes, State.contentionShown, State.fg_count_of_off_ne (by decide), State.fg_fs_of_off_ne (by decide), State.causes]
    exact congrArg (bit · 1) hcauses

end Contention

/-- CONT_BLOCKS + 1 blocks in a row over the limit declare it, at the GF cycle in which the last residual is formed. -/
theorem exec_proofContention {first r need : Nat} {l : List ProofSample} (hn : n < s.variant.gens)
    (hneed : need = s.fg (base (pGEN n)) GEN_FAULT_CFG_CONT_BLOCKS + 1) (hsince : (s.toGf (first + 4096 * need + 168)).activeSince n = some r)
    (hr : r ≤ first + 168) (hmod : (first + 168 - r) % 4096 = 0) (hlen : l.length = 16384 * need)
    (hover : ∀ i, i < need → (s.toGf (first + 4096 * need + 168)).blockOver n
      (numbered (8 * (first + 4096 * i)) ((l.drop (16384 * i)).take 16384)) = true) :
    ∃ rms, exec (.proofContention n first l) s = .next ((s.toGf (first + 4096 * need + 168)).proofContention n rms) := by
  subst hneed
  have hblocks : (List.range (s.fg (base (pGEN n)) GEN_FAULT_CFG_CONT_BLOCKS + 1)).all (fun i =>
      (s.toGf (first + 4096 * (s.fg (base (pGEN n)) GEN_FAULT_CFG_CONT_BLOCKS + 1) + 168)).blockOver n
        (numbered (8 * (first + 4096 * i)) ((l.drop (16384 * i)).take 16384))) = true :=
    List.all_eq_true.mpr fun i hi => hover i (List.mem_range.mp hi)
  rw [show exec (.proofContention n first l) s = .next (s.contBlocks n first l) from State.onChan_gen hn, State.contBlocks, hsince]
  exact ⟨_, congrArg Host.Outcome.next (if_pos ⟨hr, hmod, hlen, hblocks⟩)⟩

/-! ### OPEN (R222) -/

/-- The return loss as the detector measured it. -/
def State.openMeasured (s : State) (n rl : Nat) : State := s.fs (base (pGEN n)) GEN_FAULT_MEAS_RL rl

theorem State.returnLoss_openMeasured {rl : Nat} (s : State) (n : Nat) (h : rl < 65536) :
    (s.openMeasured n rl).fg (base (pGEN n)) GEN_FAULT_MEAS_RL = rl :=
  (State.fg_fs_self _ _ _ _ _ (by decide)).trans (Nat.mod_eq_of_lt h)

theorem State.fg_openMeasured {rl : Nat} {f : Field} (h : f.off ≠ GEN_FAULT_MEAS) :
    (s.openMeasured n rl).fg (base (pGEN n)) f = s.fg (base (pGEN n)) f :=
  State.fg_fs_of_off_ne h

/-- A measurement does not make the comparator active. -/
theorem State.proofActive_openMeasured (s : State) (n rl : Nat) : (s.openMeasured n rl).proofActive n = s.proofActive n := by
  have hset : (s.openMeasured n rl).modelSet n = s.modelSet n := by
    unfold State.modelSet
    rw [State.fg_openMeasured (by decide), State.fg_openMeasured (by decide)]
  have hvalid : ∀ m, (s.openMeasured n rl).modelValid n m = s.modelValid n m := fun m =>
    congrArg (bits · 31 31 == 1) (State.ld_congr _ _ _ _ fun x _ _ => State.fs_mb ..)
  unfold State.proofActive State.fb
  simp (disch := decide) only [State.fg_openMeasured, hset, hvalid]

theorem State.proofOpen_uncounted {rl : Nat} {level : Int} (h : s.proofActive n = false ∨ level ≤ -480) :
    s.proofOpen n rl level = s.openMeasured n rl := by
  have hcond : (!(s.openMeasured n rl).proofActive n || !decide (-480 < level)) = true := by
    rw [State.proofActive_openMeasured]
    obtain h | h := h
    · simp [h]
    · simp [Int.not_lt.mpr h]
  exact if_pos hcond

/-- The run of measurements below the threshold, counting one of `rl`. -/
def State.lowRun (s : State) (n rl : Nat) : Nat :=
  if rl % 65536 < s.fg (base (pGEN n)) GEN_FAULT_CFG_OPEN_RL && s.fb (base (pGEN n)) GEN_PROOF_CTRL_OPEN_EN then (s.proof n).openRun + 1 else 0

/-- The run kept. -/
def State.setLowRun (s : State) (n run : Nat) : State := s.updProof n (fun p => { p with openRun := run })

theorem State.fg_setLowRun (s : State) (n run b : Nat) (f : Field) : (s.setLowRun n run).fg b f = s.fg b f := rfl

/-- The bit and the count of OPEN declared. -/
def State.openShown (s : State) (n : Nat) : State :=
  (s.fs (base (pGEN n)) GEN_PROOF_FAULT_OPEN 1).count (base (pGEN n)) GEN_OPEN_COUNT_COUNT

/-- A measurement that counts, `s` showing it already. -/
def State.countLow (s : State) (n rl : Nat) : State :=
  if s.lowRun n rl < 100 || s.fb (base (pGEN n)) GEN_PROOF_FAULT_OPEN then s.setLowRun n (s.lowRun n rl)
  else ((s.setLowRun n (s.lowRun n rl)).openShown n).proofFault n 0x0203 3 (rl % 65536)

theorem State.proofOpen_counted {rl : Nat} {level : Int} (hact : s.proofActive n = true) (hlevel : -480 < level) :
    s.proofOpen n rl level = (s.openMeasured n rl).countLow n rl := by
  have hcounts : ¬ (!(s.openMeasured n rl).proofActive n || !decide (-480 < level)) = true := by
    rw [State.proofActive_openMeasured]
    simp [hact, hlevel]
  exact if_neg hcounts

theorem State.lowRun_openMeasured {rl : Nat} (hrl : rl < 65536) (hlow : rl < s.fg (base (pGEN n)) GEN_FAULT_CFG_OPEN_RL)
    (hen : s.fb (base (pGEN n)) GEN_PROOF_CTRL_OPEN_EN = true) : (s.openMeasured n rl).lowRun n rl = (s.proof n).openRun + 1 := by
  have hbelow : (decide (rl % 65536 < (s.openMeasured n rl).fg (base (pGEN n)) GEN_FAULT_CFG_OPEN_RL)
      && (s.openMeasured n rl).fb (base (pGEN n)) GEN_PROOF_CTRL_OPEN_EN) = true := by
    rw [State.fg_openMeasured (by decide), State.fb, State.fg_openMeasured (by decide), ← State.fb, hen, Nat.mod_eq_of_lt hrl,
      decide_eq_true hlow]
    rfl
  exact if_pos hbelow

/-- The hundredth in a row declares it. -/
theorem State.countLow_declared {rl : Nat} (hrun : 100 ≤ s.lowRun n rl) (hopen : s.fb (base (pGEN n)) GEN_PROOF_FAULT_OPEN = false) :
    s.countLow n rl = ((s.setLowRun n (s.lowRun n rl)).openShown n).proofFault n 0x0203 3 (rl % 65536) := by
  rw [State.countLow, hopen, decide_eq_false (by omega)]
  rfl

theorem State.openBit_openShown (s : State) (n : Nat) : (s.openShown n).fg (base (pGEN n)) GEN_PROOF_FAULT_OPEN = 1 := by
  rw [State.openShown, State.fg_count_of_off_ne (by decide), State.fg_fs_self _ _ _ _ _ (by decide)]
  rfl

theorem State.count_openShown (s : State) (n : Nat) : (s.openShown n).fg (base (pGEN n)) GEN_OPEN_COUNT_COUNT
    = satAdd 0xFFFFFFFF (s.fg (base (pGEN n)) GEN_OPEN_COUNT_COUNT) 1 := by
  rw [State.openShown, State.fg_count_self (by decide), State.fg_fs_of_off_ne (by decide)]
  rfl

theorem State.returnLoss_openShown (s : State) (n : Nat) :
    (s.openShown n).fg (base (pGEN n)) GEN_FAULT_MEAS_RL = s.fg (base (pGEN n)) GEN_FAULT_MEAS_RL := by
  rw [State.openShown, State.fg_count_of_off_ne (by decide), State.fg_fs_of_off_ne (by decide)]

theorem State.keepsBut_openMeasured (s : State) (n rl : Nat) : s.KeepsBut (s.openMeasured n rl) (fun j => j = base (pGEN n) + GEN_FAULT_MEAS) :=
  State.keepsBut_fs ..

theorem exec_proofOpen {rl : Nat} {level : Int} (hn : n < s.variant.gens) : exec (.proofOpen n rl level) s = .next (s.proofOpen n rl level) :=
  State.onChan_gen hn

/-! ### The statement -/

/-- Settles O14: a verdict is one of three equations, skipped, within or violated, and each proof fault is its registers, then a mute where
it acts, then one report, which writes none of them. -/
theorem proofVerdictsAndFaults : Obligations.ProofVerdictsAndFaults := by
  intro s n hinv hgen b
  have hn : n < 16 := Nat.lt_of_lt_of_le hgen (Variant.gens_le _)
  refine ⟨fun w => exec_windowVerdict_none hgen, fun w e he => ⟨fun hskip => ?skipped, fun hskip hr hp => ?within,
      fun hskip hr hconsec hact hfreeze => ?muted⟩, fun dc hdc => ?overload, fun o again hacc => ?clear, fun d dc hd hcont => ?reexam,
    fun first l r hsince hr hmod hlen hover hnew => ?contention,
    fun rl level hrl => ⟨fun hout => ?uncounted, fun hact hlevel hlow hen hrun hnew => ?opened⟩⟩
  case skipped =>
    have hlen : n < (s.toGf (s.winVerdictCycle n w)).proofs.length := hinv.proofs.symm ▸ hn
    obtain ⟨hrms, hpeak⟩ := State.proof_skipWindow hlen ((s.toGf (s.winVerdictCycle n w)).winSet n w)
    exact ⟨_, exec_windowVerdict hgen he (State.verdict_skipped hskip), State.skipCount_skipWindow .., hrms, hpeak,
      ((s.keepsBut_toGf _).trans (State.keepsBut_skipWindow ..)).mono fun _ hj => hj.resolve_left id⟩
  case within =>
    exact ⟨_, exec_windowVerdict hgen he (State.verdict_within hskip hr hp), State.evalCount_evaluated .., State.lastRms_evaluated ..,
      State.lastPeak_evaluated .., State.steps_evaluated ..,
      ((s.keepsBut_toGf _).trans (State.keepsBut_evaluated ..)).mono fun _ hj => hj.resolve_left id⟩
  case muted =>
    have hset := s.winSet_toGf n w (s.winVerdictCycle n w)
    have hconsec' : getF ((s.toGf (s.winVerdictCycle n w)).winSet n w).cfg GEN_STEN_CFG_CONSEC = 0 := hset ▸ hconsec
    have hviol := (State.rmsViol_of_consec hconsec').trans hr
    have hviolAct : (s.toGf (s.winVerdictCycle n w)).winAct n w = 1 := by
      rw [State.winAct, hviol, State.peakViol_of_consec hconsec']
      exact hact
    obtain ⟨t, ht, hcount, hinfo, htime, hcause, hmem⟩ := State.verdict_muted hn hskip hviol hviolAct hfreeze
    exact ⟨t, exec_windowVerdict hgen he ht, hcount, hinfo, htime, hcause, hmem⟩
  case overload =>
    exact ⟨_, exec_overload hgen, State.overloadBit_overload hn, State.isolated_overload hn, s.proofCause_overload dc hn,
      State.dcMv_overload hn hdc, State.count_overload hn, s.keepsBut_overload n dc⟩
  case clear =>
    refine ⟨_, exec_overloadClear hacc, State.overloadBit_proofFaultClear, State.isolated_proofFaultClear, fun d hagain hd hhold => ?_,
      (s.keepsBut_proofFaultClear n again).mono fun j hj => hj.imp_right fabricKey.chanKey⟩
    subst hagain
    exact State.cont_proofFaultClear hd hhold
  case reexam =>
    exact ⟨_, exec_overloadReexamDone_healthy hgen hd hcont, s.offOf_reconnected n dc, s.isolated_reconnected n dc, s.dcMv_reconnected n dc,
      s.keepsBut_reconnected n dc⟩
  case contention =>
    obtain ⟨rms, hexec⟩ := exec_proofContention hgen rfl hsince hr hmod hlen hover
    exact ⟨_, hexec, State.contentionBit_proofContention hn hnew, State.count_proofContention hn hnew, State.proofCause_proofContention hn hnew⟩
  case uncounted =>
    rw [exec_proofOpen hgen, State.proofOpen_uncounted hout]
    exact ⟨_, rfl, s.returnLoss_openMeasured n hrl, s.keepsBut_openMeasured n rl⟩
  case opened =>
    have hlowRun := State.lowRun_openMeasured hrl hlow hen
    have hopen : (s.openMeasured n rl).fb b GEN_PROOF_FAULT_OPEN = false := (congrArg (· != 0) (State.fg_openMeasured (by decide))).trans hnew
    rw [exec_proofOpen hgen, State.proofOpen_counted hact hlevel, State.countLow_declared (by omega) hopen]
    refine ⟨_, rfl, ?_, ?_, ?_⟩
    · rw [State.fg_proofFault hn (by decide) (by decide), State.openBit_openShown]
    · rw [State.fg_proofFault hn (by decide) (by decide), State.returnLoss_openShown]
      exact s.returnLoss_openMeasured n hrl
    · rw [State.fg_proofFault hn (by decide) (by decide), State.count_openShown, State.fg_setLowRun, State.fg_openMeasured (by decide)]

end Sys2Proof.Machine
end

section
/-! A capture channel's record, its pages and its packer under updates of the state: what each shared operation leaves (R229, R236 to R238,
R273, R483). -/
namespace Sys2Proof.Machine
open Sys2Proof
variable {s t : State} {n b v q off : Nat} {f : Field} {p : Nat → Prop} {l : List Nat} {w : Word}

/-! ### The channels and their pages -/

theorem Variant.caps_le (v : Variant) : v.caps ≤ 4 := by cases v <;> decide

/-- Every channel of the variant has its record. -/
theorem State.Inv.cap_lt (hs : s.Inv) (hn : n < s.variant.caps) : n < s.tracers.length := by
  have hle := Variant.caps_le s.variant
  rw [hs.tracers]
  omega

theorem State.Inv.cap_lt_four (_ : s.Inv) (hn : n < s.variant.caps) : n < 4 := Nat.lt_of_lt_of_le hn (Variant.caps_le _)

/-- A register at one of the offsets of `l` from key `b`. -/
def keyIn (b : Nat) (l : List Nat) (j : Nat) : Prop := j ∈ l.map (b + ·)

theorem keyIn_add {x : Nat} : keyIn b l (b + x) ↔ x ∈ l := by
  refine ⟨fun h => ?_, fun h => List.mem_map.mpr ⟨x, h, rfl⟩⟩
  obtain ⟨y, hy, hxy⟩ := List.mem_map.mp h
  exact Nat.add_left_cancel hxy ▸ hy

theorem keyIn_add_four {x : Nat} : keyIn b l (b + x + 4) ↔ x + 4 ∈ l := keyIn_add (x := x + 4)

/-- The registers at some of the offsets. -/
theorem keyIn.mono {m : List Nat} (hlm : l ⊆ m) {j : Nat} (h : keyIn b l j) : keyIn b m j := List.map_subset _ hlm h

/-- A register at one of the offsets of a CAP page is none of the STRM page. -/
theorem not_keyIn_cap_strm {x : Nat} (hl : ∀ y ∈ l, y < 0x1000) : ¬ keyIn (base (pCAP n)) l (base (pSTRM n) + x) := by
  intro h
  obtain ⟨y, hy, hxy⟩ := List.mem_map.mp h
  have hlt := hl y hy
  unfold base pCAP pSTRM at hxy
  omega

theorem not_noticeKey_cap (hn : n < 4) (hoff : off < 0x1000) : ¬ noticeKey (base (pCAP n) + off) :=
  not_noticeKey_of_lt (by unfold base pCAP; omega)

theorem not_noticeKey_strm (hn : n < 4) (hoff : off < 0x1000) : ¬ noticeKey (base (pSTRM n) + off) :=
  not_noticeKey_of_lt (by unfold base pSTRM; omega)

theorem le_cap_add (n x : Nat) : 0x24000 ≤ base (pCAP n) + x := by
  unfold base pCAP
  omega

theorem le_strm_add (n x : Nat) : 0x24000 ≤ base (pSTRM n) + x := by
  unfold base pSTRM
  omega

/-! ### The record -/

theorem State.trc_congr (h : t.tracers = s.tracers) : t.trc n = s.trc n := congrArg (·.getD n Tracer.fresh) h

theorem State.trc_updTrc (hn : n < s.tracers.length) (h : Tracer → Tracer) : (s.updTrc n h).trc n = h (s.trc n) := by
  simp [State.trc, List.getD_eq_getElem?_getD, hn]

theorem State.length_updTrc (s : State) (m : Nat) (h : Tracer → Tracer) : (s.updTrc m h).tracers.length = s.tracers.length := by
  rw [State.updTrc_tracers, List.length_modify]

theorem State.updTrc_updTrc (s : State) (m : Nat) (h h' : Tracer → Tracer) : (s.updTrc m h).updTrc m h' = s.updTrc m (h' ∘ h) := by
  simp [State.updTrc, List.modify_modify_eq]

theorem State.publishBy_tracers (s : State) (prod : Nat) : (s.publishBy prod).tracers = s.tracers := by
  unfold State.publishBy State.publish State.publishAt
  split
  · split
    · rfl
    · dsimp only
      split <;> rfl
  · rfl

/-! ### Further updates, of registers among those that may change -/

theorem State.keepsBut_updTrc (s : State) (m : Nat) (h : Tracer → Tracer) : s.KeepsBut (s.updTrc m h) (fun _ => False) :=
  ⟨fun _ _ => rfl, fun _ _ => rfl⟩

/-- An update that leaves what the registers and the memory read. -/
theorem State.KeepsBut.still {u : State} (h : s.KeepsBut t p) (h' : t.KeepsBut u (fun _ => False)) : s.KeepsBut u p :=
  (h.trans h').mono fun _ hj => hj.elim id False.elim

theorem State.KeepsBut.andThen {u : State} {r : Nat → Prop} (h : s.KeepsBut t p) (h' : t.KeepsBut u r) (hr : ∀ j, r j → p j) : s.KeepsBut u p :=
  (h.trans h').mono fun j hj => hj.elim id (hr j)

theorem State.KeepsBut.updTrc (h : s.KeepsBut t p) (m : Nat) (g : Tracer → Tracer) : s.KeepsBut (t.updTrc m g) p := h

theorem State.KeepsBut.notify (h : s.KeepsBut t p) (m : Notice) (hk : ∀ j, noticeKey j → p j) : s.KeepsBut (t.notify m) p :=
  h.andThen (t.keepsBut_notify m) hk

theorem State.KeepsBut.wr64 {key x : Nat} (h : s.KeepsBut t p) (hlo : p key) (hhi : p (key + 4)) : s.KeepsBut (t.wr64 key x) p :=
  h.andThen (t.keepsBut_wr64 key x) fun _ hj => hj.elim (· ▸ hlo) (· ▸ hhi)

/-! ### The packer's marks (R273) -/

/-- The marks that wait in channel `n`'s packer, oldest first. -/
def State.marksOf (s : State) (n : Nat) : List Mark := (s.trc n).spans.flatMap (·.marks)

theorem flatMap_lastSpan (m : Mark) (l : List Span) :
    (lastSpan (fun p => { p with marks := p.marks ++ [m] }) l).flatMap (·.marks) = l.flatMap (·.marks) ++ [m] := by
  induction l with
  | nil => rfl
  | cons p l ih =>
    cases l with
    | nil => simp [lastSpan]
    | cons p' l => exact (congrArg (p.marks ++ ·) ih).trans (List.append_assoc ..).symm

theorem State.trc_pushMark (hn : n < s.tracers.length) (m : Mark) : (s.pushMark n m).trc n
    = { s.trc n with spans := lastSpan (fun p => { p with marks := p.marks ++ [m] }) (s.trc n).spans } :=
  State.trc_updTrc hn _

theorem State.keepsBut_pushMark (s : State) (n : Nat) (m : Mark) : s.KeepsBut (s.pushMark n m) (fun _ => False) := s.keepsBut_updTrc n _

theorem State.marksOf_pushMark (hn : n < s.tracers.length) (m : Mark) : (s.pushMark n m).marksOf n = s.marksOf n ++ [m] := by
  rw [State.marksOf, State.trc_pushMark hn]
  exact flatMap_lastSpan m _

/-! ### Times of an acquisition (R238) -/

/-- The grids of an acquisition, its first cycle, the translator and the rate fix the times of its cycles. -/
theorem State.cycTick_congr (hgrids : (t.trc n).grids = (s.trc n).grids) (hbase : (t.trc n).cBase = (s.trc n).cBase) (hclk : t.clk = s.clk)
    (hrate : t.capRate = s.capRate) : t.cycTick n q = s.cycTick n q := by
  unfold State.cycTick State.posTime40 State.capGrid
  dsimp only
  rw [hgrids, hbase, hclk, hrate]

/-- The rate is kept where no register of the CLK page changes. -/
theorem State.KeepsBut.capRate (h : s.KeepsBut t p) (hp : ∀ j, p j → 0x20000 ≤ j) : t.capRate = s.capRate :=
  congrArg (· % 2 ^ 48) (h.rd64 (fun hj => absurd (hp _ hj) (by decide)) fun hj => absurd (hp _ hj) (by decide))

theorem State.KeepsBut.cycTick (h : s.KeepsBut t p) (hp : ∀ j, p j → 0x20000 ≤ j) (hgrids : (t.trc n).grids = (s.trc n).grids)
    (hbase : (t.trc n).cBase = (s.trc n).cBase) (hclk : t.clk = s.clk) : t.cycTick n q = s.cycTick n q :=
  State.cycTick_congr hgrids hbase hclk (h.capRate hp)

theorem State.toCycle_now (s : State) (n q : Nat) : (s.toCycle n q).now = max s.now (s.cycTick n q) := rfl

/-! ### What is due, and a command of a channel (R259) -/

theorem State.endDue_of_none (hend : (s.trc n).endAt = none) : s.endDue n = s := by
  rw [State.endDue, hend]

theorem State.beginDue_of_none (hstart : (s.trc n).startAt = none) : s.beginDue n = s := by
  rw [State.beginDue, hstart]

/-- Nothing is due on a channel with no start and no end to come. -/
theorem State.capDue_of_none (hstart : (s.trc n).startAt = none) (hend : (s.trc n).endAt = none) : s.capDue n = s := by
  rw [State.capDue, State.beginDue_of_none hstart, State.endDue_of_none hend]

/-- Nothing is due on a channel that neither waits to begin nor acquires. -/
theorem State.capDue_of_idle (hstart : (s.trc n).startAt = none) (hacq : s.acquiring n = false) : s.capDue n = s := by
  rw [State.capDue, State.beginDue_of_none hstart, State.endDue, hacq]
  split <;> rfl

theorem State.onCap_fitted (hn : n < s.variant.caps) (h : State → State) : s.onCap n h = .next (h (s.capDue n)) := if_pos hn

theorem State.onCap_idle (hn : n < s.variant.caps) (hstart : (s.trc n).startAt = none) (hend : (s.trc n).endAt = none) (h : State → State) :
    s.onCap n h = .next (h s) := by
  rw [State.onCap_fitted hn, State.capDue_of_none hstart hend]

end Sys2Proof.Machine
end

section
/-! The front end of a capture channel: settled, protected and clipping (R232, R234, R235). -/
namespace Sys2Proof.Machine
open Sys2Proof
variable {s t : State} {n c q : Nat} {f : Field} {raw xs : List Int}

/-! ### Settling (R232) -/

theorem exec_frontEndSettled (hn : n < s.variant.caps) (hstart : (s.trc n).startAt = none) (hend : (s.trc n).endAt = none)
    (hen : s.fb (base (pCAP n)) HDR_PAGE_CTRL_EN = true) :
    exec (.frontEndSettled n) s = .next (s.fs (base (pCAP n)) CAP_CAP_STATUS_SETTLED 1) := by
  show execFrontEndSettled n s = _
  rw [execFrontEndSettled, State.onCap_idle hn hstart hend, if_pos hen]

/-! ### Protection (R234) -/

/-- What overvoltage leaves in the registers, and its notice, told in a channel's state `s`. -/
def State.protectShown (s : State) (n : Nat) : State :=
  ((((s.fs (base (pCAP n)) CAP_CAP_STATUS_PROTECTED 1).fs (base (pCAP n)) CAP_CAP_FAULT_OVERVOLT 1).count (base (pCAP n))
    CAP_PROTECT_COUNT_COUNT).pageFault (pCAP n) 0x0401 0).notify (s.note (pCAP n) 1)

theorem State.protectEnter_idle (h : s.acquiring n = false) : s.protectEnter n c = s.protectShown n := by
  unfold State.protectEnter
  simp only [h, Bool.false_eq_true, if_false]
  rfl

theorem State.protectEnter_acquiring (h : s.acquiring n = true) : s.protectEnter n c
    = ((s.toCycle n (s.markCycle n c / 8)).protectShown n).pushMark n
        { ((s.toCycle n (s.markCycle n c / 8)).protectShown n).markAt n 6 (s.markCycle n c) with flags := 1 } := by
  unfold State.protectEnter
  simp only [h, if_true]
  exact if_pos h

/-- The registers that overvoltage writes. -/
def overvoltKey (n j : Nat) : Prop :=
  keyIn (base (pCAP n)) [CAP_CAP_STATUS, CAP_CAP_FAULT, CAP_PROTECT_COUNT, 0x01C] j ∨ noticeKey j

theorem State.keepsBut_protectShown (s : State) (n : Nat) : s.KeepsBut (s.protectShown n) (overvoltKey n) := by
  have hkey {x : Nat} (hx : x ∈ [CAP_CAP_STATUS, CAP_CAP_FAULT, CAP_PROTECT_COUNT, 0x01C]) : overvoltKey n (base (pCAP n) + x) :=
    .inl (keyIn_add.mpr hx)
  have hcount := (((s.keepsBut_refl (overvoltKey n)).fs (f := CAP_CAP_STATUS_PROTECTED) (v := 1) (hkey (by decide))).fs
    (f := CAP_CAP_FAULT_OVERVOLT) (v := 1) (hkey (by decide))).count (f := CAP_PROTECT_COUNT_COUNT) (hkey (by decide))
  exact (hcount.andThen (State.keepsBut_pageFault _ (pCAP n) 0x0401 0) fun j hj => hj ▸ hkey (by decide)).notify _ fun _ => .inr

/-- A field that neither the fault nor the notice touches reads as after the count. -/
theorem State.fg_protectShown (hn : n < 4) (hoff : f.off < 0x1000) (hne : f.off ≠ HDR_PAGE_FAULT) : (s.protectShown n).fg (base (pCAP n)) f
    = (((s.fs (base (pCAP n)) CAP_CAP_STATUS_PROTECTED 1).fs (base (pCAP n)) CAP_CAP_FAULT_OVERVOLT 1).count (base (pCAP n))
        CAP_PROTECT_COUNT_COUNT).fg (base (pCAP n)) f :=
  ((State.keepsBut_notify ..).fg (not_noticeKey_cap hn hoff)).trans ((State.keepsBut_pageFault ..).fg fun h => hne (Nat.add_left_cancel h))

theorem State.protected_protectShown (hn : n < 4) : (s.protectShown n).fg (base (pCAP n)) CAP_CAP_STATUS_PROTECTED = 1 := by
  rw [State.fg_protectShown hn (by decide) (by decide), State.fg_count_of_off_ne (by decide), State.fg_fs_of_off_ne (by decide),
    State.fg_fs_self _ _ _ _ _ (by decide)]
  rfl

theorem State.overvolt_protectShown (hn : n < 4) : (s.protectShown n).fg (base (pCAP n)) CAP_CAP_FAULT_OVERVOLT = 1 := by
  rw [State.fg_protectShown hn (by decide) (by decide), State.fg_count_of_off_ne (by decide), State.fg_fs_self _ _ _ _ _ (by decide)]
  rfl

theorem State.count_protectShown (hn : n < 4) : (s.protectShown n).fg (base (pCAP n)) CAP_PROTECT_COUNT_COUNT
    = satAdd 0xFFFFFFFF (s.fg (base (pCAP n)) CAP_PROTECT_COUNT_COUNT) 1 := by
  rw [State.fg_protectShown hn (by decide) (by decide), State.fg_count_self (by decide), State.fg_fs_of_off_ne (by decide),
    State.fg_fs_of_off_ne (by decide)]
  rfl

theorem State.tracers_protectShown (s : State) (n : Nat) : (s.protectShown n).tracers = s.tracers := by simp [State.protectShown]

theorem State.protectShown_now (s : State) (n : Nat) : (s.protectShown n).now = s.now := by simp [State.protectShown]

/-- But for the device time and a mark, the protected state entered is what overvoltage shows. -/
theorem State.protectEnter_shown (s : State) (n c : Nat) :
    ∃ u : State, s.KeepsBut u (fun _ => False) ∧ (u.protectShown n).KeepsBut (s.protectEnter n c) (fun _ => False) := by
  cases hacq : s.acquiring n with
  | false =>
    rw [State.protectEnter_idle hacq]
    exact ⟨s, s.keepsBut_refl _, State.keepsBut_refl ..⟩
  | true =>
    rw [State.protectEnter_acquiring hacq]
    exact ⟨s.toCycle n (s.markCycle n c / 8), s.keepsBut_refl _, State.keepsBut_updTrc ..⟩

/-! ### What tells of the protected state (R275) -/

/-- The mark (1 entered, 0 left) that `t` has over `s`, and its device time, where the channel acquires. -/
def State.ProtectTold (s t : State) (n c flags : Nat) : Prop :=
  (t.marksOf n).map (fun m => (m.type, m.flags, m.c))
      = (s.marksOf n).map (fun m => (m.type, m.flags, m.c)) ++ (if s.acquiring n then [(6, flags, s.markCycle n c)] else [])
    ∧ t.now = (if s.acquiring n then max s.now (s.cycTick n (s.markCycle n c / 8)) else s.now)

theorem State.protectTold_idle {flags : Nat} (hacq : s.acquiring n = false) (hmarks : t.marksOf n = s.marksOf n) (hnow : t.now = s.now) :
    s.ProtectTold t n c flags := by
  rw [State.ProtectTold, hmarks, hacq]
  exact ⟨(List.append_nil _).symm, hnow⟩

theorem State.protectTold_pushMark {m : Mark} (hacq : s.acquiring n = true) (hlen : n < t.tracers.length) (hmarks : t.marksOf n = s.marksOf n)
    (hnow : t.now = max s.now (s.cycTick n (s.markCycle n c / 8))) (htype : m.type = 6) (hc : m.c = s.markCycle n c) :
    s.ProtectTold (t.pushMark n m) n c m.flags := by
  rw [State.ProtectTold, State.marksOf_pushMark hlen, hmarks, List.map_append, List.map_singleton, htype, hc, if_pos hacq, if_pos hacq]
  exact ⟨rfl, hnow⟩

theorem State.protectTold_protectEnter (hlen : n < s.tracers.length) : s.ProtectTold (s.protectEnter n c) n c 1 := by
  have hmarks (u : State) : (u.protectShown n).marksOf n = u.marksOf n :=
    congrArg (·.spans.flatMap (·.marks)) (State.trc_congr (u.tracers_protectShown n))
  cases hacq : s.acquiring n with
  | false =>
    rw [State.protectEnter_idle hacq]
    exact State.protectTold_idle hacq (hmarks s) (s.protectShown_now n)
  | true =>
    rw [State.protectEnter_acquiring hacq]
    exact State.protectTold_pushMark hacq ((State.tracers_protectShown ..).symm ▸ hlen) (hmarks _) (State.protectShown_now ..) rfl rfl

/-- Overvoltage on a channel (R234). -/
theorem exec_inputOvervolt (hs : s.Inv) (hn : n < s.variant.caps) (hstart : (s.trc n).startAt = none) (hend : (s.trc n).endAt = none) :
    ∃ t : State, exec (.inputOvervolt n c) s = .next t ∧ t.fg (base (pCAP n)) CAP_CAP_STATUS_PROTECTED = 1
      ∧ t.fg (base (pCAP n)) CAP_CAP_FAULT_OVERVOLT = 1
      ∧ t.fg (base (pCAP n)) CAP_PROTECT_COUNT_COUNT = satAdd 0xFFFFFFFF (s.fg (base (pCAP n)) CAP_PROTECT_COUNT_COUNT) 1
      ∧ s.ProtectTold t n c 1 ∧ s.KeepsBut t (overvoltKey n) := by
  have h4 := hs.cap_lt_four hn
  obtain ⟨u, hu, ht⟩ := s.protectEnter_shown n c
  have hfg (f : Field) : (s.protectEnter n c).fg (base (pCAP n)) f = (u.protectShown n).fg (base (pCAP n)) f := ht.fg id
  refine ⟨s.protectEnter n c, State.onCap_idle hn hstart hend (·.protectEnter n c), ?_, ?_, ?_, State.protectTold_protectEnter (hs.cap_lt hn), ?_⟩
  · rw [hfg, State.protected_protectShown h4]
  · rw [hfg, State.overvolt_protectShown h4]
  · rw [hfg, State.count_protectShown h4, hu.fg id]
  · exact ((hu.mono fun _ => False.elim).andThen (u.keepsBut_protectShown n) fun _ => id).still ht

/-! ### The protected state left (R234) -/

theorem State.protectLeave_idle (hprot : s.fb (base (pCAP n)) CAP_CAP_STATUS_PROTECTED = true) (h : s.acquiring n = false) :
    s.protectLeave n c = s.fs (base (pCAP n)) CAP_CAP_STATUS_PROTECTED 0 := by
  unfold State.protectLeave
  simp [hprot, h]

theorem State.protectLeave_acquiring (hprot : s.fb (base (pCAP n)) CAP_CAP_STATUS_PROTECTED = true) (h : s.acquiring n = true) :
    s.protectLeave n c = ((s.fs (base (pCAP n)) CAP_CAP_STATUS_PROTECTED 0).toCycle n (s.markCycle n c / 8)).pushMark n
      ((s.fs (base (pCAP n)) CAP_CAP_STATUS_PROTECTED 0).markAt n 6 (s.markCycle n c)) := by
  unfold State.protectLeave
  simp [hprot, h]

/-- The exit of the protected state (R234). -/
theorem exec_protectExit (hs : s.Inv) (hn : n < s.variant.caps) (hstart : (s.trc n).startAt = none) (hend : (s.trc n).endAt = none)
    (hprot : s.fb (base (pCAP n)) CAP_CAP_STATUS_PROTECTED = true) :
    ∃ t : State, exec (.protectExit n c) s = .next t ∧ t.fg (base (pCAP n)) CAP_CAP_STATUS_PROTECTED = 0
      ∧ s.ProtectTold t n c 0 ∧ s.KeepsBut t (fun j => j = base (pCAP n) + CAP_CAP_STATUS) := by
  have hclear : (s.fs (base (pCAP n)) CAP_CAP_STATUS_PROTECTED 0).fg (base (pCAP n)) CAP_CAP_STATUS_PROTECTED = 0 :=
    s.fg_fs_self _ CAP_CAP_STATUS_PROTECTED 0 0 (by decide)
  have hkept := s.keepsBut_fs (base (pCAP n)) CAP_CAP_STATUS_PROTECTED 0
  have hmarks : (s.fs (base (pCAP n)) CAP_CAP_STATUS_PROTECTED 0).marksOf n = s.marksOf n :=
    congrArg (·.spans.flatMap (·.marks)) (State.trc_congr (State.fs_tracers ..))
  refine ⟨s.protectLeave n c, State.onCap_idle hn hstart hend (·.protectLeave n c), ?_⟩
  cases hacq : s.acquiring n with
  | false =>
    rw [State.protectLeave_idle hprot hacq]
    exact ⟨hclear, State.protectTold_idle hacq hmarks (State.fs_now ..), hkept⟩
  | true =>
    rw [State.protectLeave_acquiring hprot hacq]
    have htick : (s.fs (base (pCAP n)) CAP_CAP_STATUS_PROTECTED 0).cycTick n (s.markCycle n c / 8) = s.cycTick n (s.markCycle n c / 8) :=
      hkept.cycTick (fun j hj => hj ▸ Nat.le_trans (by decide) (le_cap_add ..)) rfl rfl rfl
    refine ⟨hclear, State.protectTold_pushMark hacq (hs.cap_lt hn) hmarks ?_ rfl rfl, hkept⟩
    rw [State.toCycle_now, htick, State.fs_now]

end Sys2Proof.Machine
end

section
/-! The raw stream of a capture channel: clips counted by CF cycle, samples taken in, and how far the trigger unit goes (R229, R235, R236,
R245, R246). -/
namespace Sys2Proof.Machine
open Sys2Proof
variable {s t : State} {n c q : Nat} {f : Field} {raw xs : List Int}

/-! ### Clips (R235) -/

/-- The samples that a row brings, in whole CF cycles and limited to the ADC's codes. -/
def wholeCycles (raw : List Int) : List Int := (raw.take (raw.length / 8 * 8)).map (clampI (-2048) 2047)

/-- The CF cycles of a run of samples that hold a clip. -/
def clipCount (xs : List Int) : Nat := ((List.range (xs.length / 8)).filter (clipCycle xs)).length

/-- Clips leave the state as it is, or count and may tell. -/
theorem State.clips_cases (s : State) (n q : Nat) (xs : List Int) : (clipCount xs = 0 ∧ s.clips n q xs = s)
    ∨ ∃ (told : Prop) (_ : Decidable told) (m : Notice), s.clips n q xs
      = if told then s.countBy (base (pCAP n)) CAP_CLIP_COUNT_COUNT (clipCount xs)
        else (s.countBy (base (pCAP n)) CAP_CLIP_COUNT_COUNT (clipCount xs)).notify m := by
  unfold State.clips clipCount
  cases h : (List.range (xs.length / 8)).filter (clipCycle xs) with
  | nil => exact .inl ⟨rfl, rfl⟩
  | cons i l => exact .inr ⟨_, _, _, rfl⟩

theorem State.keepsBut_clips (s : State) (n q : Nat) (xs : List Int) :
    s.KeepsBut (s.clips n q xs) (fun j => j = base (pCAP n) + CAP_CLIP_COUNT ∨ noticeKey j) := by
  obtain ⟨-, h⟩ | ⟨told, _, m, h⟩ := s.clips_cases n q xs
  · rw [h]
    exact s.keepsBut_refl _
  · rw [h]
    exact (s.keepsBut_countBy (base (pCAP n)) CAP_CLIP_COUNT_COUNT _).trans (State.keepsBut_notify_unless ..)

theorem State.clipCount_clips (hn : n < 4) : (s.clips n q xs).fg (base (pCAP n)) CAP_CLIP_COUNT_COUNT
    = satAdd 0xFFFFFFFF (s.fg (base (pCAP n)) CAP_CLIP_COUNT_COUNT) (clipCount xs) := by
  obtain ⟨h0, h⟩ | ⟨told, _, m, h⟩ := s.clips_cases n q xs
  · have hlt : s.fg (base (pCAP n)) CAP_CLIP_COUNT_COUNT < 2 ^ 32 := getF_lt _ CAP_CLIP_COUNT_COUNT
    rw [h, h0, satAdd_zero (by omega)]
  · rw [h, (State.keepsBut_notify_unless ..).fg (not_noticeKey_cap hn (by decide)), State.fg_countBy_self _ _ _ _ (by decide)]
    rfl

/-- Clips leave the records, the device time and the clocks. -/
theorem State.clips_still (s : State) (n q : Nat) (xs : List Int) :
    (s.clips n q xs).tracers = s.tracers ∧ (s.clips n q xs).now = s.now ∧ (s.clips n q xs).clk = s.clk := by
  obtain ⟨-, h⟩ | ⟨told, _, m, h⟩ := s.clips_cases n q xs
  · rw [h]
    exact ⟨rfl, rfl, rfl⟩
  · rw [h]
    split
    · exact ⟨State.countBy_tracers .., State.countBy_now .., State.countBy_clk ..⟩
    · simp

/-! ### Samples taken in (R236) -/

/-- The samples `xs` joined to the acquisition, which goes on past them, at the device time of their last CF cycle. -/
def State.takeIn (s : State) (n : Nat) (xs : List Int) : State :=
  let r := (s.trc n).raw.length
  let t := (s.clips n (r / 8) xs).updTrc n (fun v => { v with raw := v.raw ++ xs })
  if xs.isEmpty then t else t.toCycle n ((r + xs.length - 1) / 8)

theorem State.trc_takeIn (hn : n < s.tracers.length) : (s.takeIn n xs).trc n = { s.trc n with raw := (s.trc n).raw ++ xs } := by
  have hclips := (s.clips_still n ((s.trc n).raw.length / 8) xs).1
  have htrc : ((s.clips n ((s.trc n).raw.length / 8) xs).updTrc n (fun v => { v with raw := v.raw ++ xs })).trc n
      = { s.trc n with raw := (s.trc n).raw ++ xs } := by
    rw [State.trc_updTrc (hclips ▸ hn), State.trc_congr hclips]
  unfold State.takeIn
  dsimp only
  split <;> exact htrc

theorem State.length_takeIn (s : State) (n : Nat) (xs : List Int) : (s.takeIn n xs).tracers.length = s.tracers.length := by
  have hlen := (State.length_updTrc (s.clips n ((s.trc n).raw.length / 8) xs) n (fun v => { v with raw := v.raw ++ xs })).trans
    (congrArg List.length (s.clips_still n ((s.trc n).raw.length / 8) xs).1)
  unfold State.takeIn
  dsimp only
  split <;> exact hlen

theorem State.keepsBut_takeIn (s : State) (n : Nat) (xs : List Int) :
    (s.clips n ((s.trc n).raw.length / 8) xs).KeepsBut (s.takeIn n xs) (fun _ => False) := by
  unfold State.takeIn
  dsimp only
  split <;> exact State.keepsBut_refl ..

theorem State.takeIn_now (hn : n < s.tracers.length) (hne : xs ≠ []) :
    (s.takeIn n xs).now = max s.now (s.cycTick n (((s.trc n).raw.length + xs.length - 1) / 8)) := by
  obtain ⟨htrc, hnow, hclk⟩ := s.clips_still n ((s.trc n).raw.length / 8) xs
  have hclips := State.trc_congr (n := n) htrc
  have hself := State.trc_updTrc (htrc ▸ hn) (fun v => { v with raw := v.raw ++ xs })
  have hrate := (s.keepsBut_clips n ((s.trc n).raw.length / 8) xs).capRate fun j hj =>
    hj.elim (· ▸ Nat.le_trans (by decide) (le_cap_add ..)) fun hk => Nat.le_trans (by decide) hk.1
  have htick (k : Nat) : ((s.clips n ((s.trc n).raw.length / 8) xs).updTrc n (fun v => { v with raw := v.raw ++ xs })).cycTick n k
      = s.cycTick n k := State.cycTick_congr (by rw [hself, hclips]) (by rw [hself, hclips]) hclk hrate
  unfold State.takeIn
  dsimp only
  rw [if_neg (by simpa using hne), State.toCycle_now, htick]
  exact congrArg (max · _) hnow

/-- Samples that come while the channel does not acquire, and nothing of an ended acquisition is to come, are counted for clips alone. -/
theorem State.takeRaw_idle (hstart : (s.trc n).startAt = none) (hend : (s.trc n).endAt = none)
    (hen : s.fb (base (pCAP n)) HDR_PAGE_CTRL_EN = true) (hacq : s.acquiring n = false) (hc : (s.trc n).c ≤ (s.trc n).raw.length) :
    s.takeRaw n raw = s.clips n 0 (wholeCycles raw) := by
  unfold State.takeRaw
  rw [State.capDue_of_none hstart hend]
  simp [hen, hacq, hc, wholeCycles]

/-- While the channel acquires with no end fixed, the samples are taken in, and the trigger unit and the pass go on. -/
theorem State.takeRaw_acquiring (hn : n < s.tracers.length) (hstart : (s.trc n).startAt = none) (hend : (s.trc n).endAt = none)
    (hen : s.fb (base (pCAP n)) HDR_PAGE_CTRL_EN = true) (hacq : s.acquiring n = true) :
    s.takeRaw n raw = (((s.takeIn n (wholeCycles raw)).unitRun n).passDone n) := by
  have hdue : (s.takeIn n (wholeCycles raw)).endDue n = s.takeIn n (wholeCycles raw) :=
    State.endDue_of_none (by rw [State.trc_takeIn hn]; exact hend)
  rw [← hdue]
  unfold State.takeRaw
  rw [State.capDue_of_none hstart hend]
  simp only [hen, hacq, hend, Bool.not_true, Bool.false_and, Bool.false_eq_true, if_false, if_true]
  rfl

theorem State.passDone_of_none (h : (s.trc n).pass = none) : s.passDone n = s := by
  rw [State.passDone, h]

/-! ### A unit with nothing to find in the samples (R248, R251) -/

/-- From `s` to `t` the trigger unit of channel `n` has gone on, and nothing else has changed. -/
def State.UnitWent (n : Nat) (s t : State) : Prop := ∃ g : Tracer → Tracer, t = s.updTrc n g ∧ ∀ v, ∃ u k, g v = { v with unit := u, seen := k }

theorem State.UnitWent.refl (n : Nat) (s : State) : State.UnitWent n s s := by
  refine ⟨id, ?_, fun v => ⟨v.unit, v.seen, rfl⟩⟩
  rw [State.updTrc, List.modify_id]

theorem State.UnitWent.trans {u : State} (h : State.UnitWent n s t) (h' : State.UnitWent n t u) : State.UnitWent n s u := by
  obtain ⟨g, rfl, hg⟩ := h
  obtain ⟨g', rfl, hg'⟩ := h'
  refine ⟨g' ∘ g, State.updTrc_updTrc .., fun v => ?_⟩
  obtain ⟨u, k, hv⟩ := hg v
  obtain ⟨u', k', hv'⟩ := hg' (g v)
  exact ⟨u', k', by rw [Function.comp, hv', hv]⟩

theorem State.UnitWent.trc (h : State.UnitWent n s t) (hn : n < s.tracers.length) : ∃ u k, t.trc n = { s.trc n with unit := u, seen := k } := by
  obtain ⟨g, rfl, hg⟩ := h
  rw [State.trc_updTrc hn]
  exact hg _

theorem State.UnitWent.keepsBut (h : State.UnitWent n s t) : s.KeepsBut t (fun _ => False) := by
  obtain ⟨g, rfl, -⟩ := h
  exact s.keepsBut_updTrc n g

theorem State.UnitWent.now (h : State.UnitWent n s t) : t.now = s.now := by
  obtain ⟨g, rfl, -⟩ := h
  rfl

/-- No sample completes anything for a trigger of the types 0, 7 and 8. -/
theorem State.unitSample_snd (hty : ¬ (1 ≤ s.fg (base (pCAP n)) CAP_TRIG_CFG_TYPE ∧ s.fg (base (pCAP n)) CAP_TRIG_CFG_TYPE ≤ 6))
    (u : TrigUnit) (c : Nat) : (s.unitSample n u c).2 = [] := by
  unfold State.unitSample
  dsimp only
  rw [if_neg (by omega)]
  split
  · rfl
  · rw [if_neg (by omega), if_neg (by omega)]

/-- The unit after the samples of CF cycle `q`, and the candidates they complete. -/
def State.unitFold (s : State) (n q : Nat) : TrigUnit × List TrigRec :=
  (List.range 8).foldl (fun (a : TrigUnit × List TrigRec) (i : Nat) =>
    let e := s.unitSample n a.1 (8 * q + i)
    (e.1, a.2 ++ e.2.map (fun p =>
      { cyc := q, pos := p.1, type := s.fg (base (pCAP n)) CAP_TRIG_CFG_TYPE, width := min 0xFFFFFFFF p.2,
        clipped := (s.around n (p.1 / 1024)).any (fun x => x == -2048 || x == 2047) })))
    ((if s.inHoldoff n (1024 * (8 * q)) then (s.trc n).unit else { (s.trc n).unit with ready := true }), [])

/-- CF cycle `q` judged: the unit after it, and its candidates judged. -/
def State.cycleJudged (s : State) (n q : Nat) : State :=
  (s.updTrc n (fun v => { v with unit := (s.unitFold n q).1, seen := q + 1 })).judgeTriggers n (if s.hushed n q then [] else (s.unitFold n q).2)

/-- A cycle that takes no trigger may leave a LEVEL trigger ready. -/
theorem State.unitCycle_eq (s : State) (n q : Nat) : s.unitCycle n q
    = if ((s.cycleJudged n q).trc n).lastTrig = (s.trc n).lastTrig then (s.cycleJudged n q).updTrc n (fun v =>
        { v with unit := { v.unit with ready := (s.unitFold n q).1.ready || !(s.unitFold n q).2.isEmpty } })
      else s.cycleJudged n q := rfl

theorem State.unitWent_cycleJudged (s : State) (n q : Nat) : State.UnitWent n (s.cycleJudged n q) (s.unitCycle n q) := by
  rw [State.unitCycle_eq]
  split
  · exact ⟨_, rfl, fun v => ⟨_, v.seen, rfl⟩⟩
  · exact State.UnitWent.refl ..

theorem State.unitFold_snd (hty : ¬ (1 ≤ s.fg (base (pCAP n)) CAP_TRIG_CFG_TYPE ∧ s.fg (base (pCAP n)) CAP_TRIG_CFG_TYPE ≤ 6)) (q : Nat) :
    (s.unitFold n q).2 = [] := by
  simp [State.unitFold, State.unitSample_snd hty, List.range, List.range.loop]

theorem State.unitWent_unitCycle (hty : ¬ (1 ≤ s.fg (base (pCAP n)) CAP_TRIG_CFG_TYPE ∧ s.fg (base (pCAP n)) CAP_TRIG_CFG_TYPE ≤ 6)) (q : Nat) :
    State.UnitWent n s (s.unitCycle n q) := by
  refine State.UnitWent.trans ⟨_, ?_, fun v => ⟨(s.unitFold n q).1, q + 1, rfl⟩⟩ (s.unitWent_cycleJudged n q)
  rw [State.cycleJudged, State.unitFold_snd hty, ite_self]
  rfl

theorem State.unitWent_unitRun (hty : ¬ (1 ≤ s.fg (base (pCAP n)) CAP_TRIG_CFG_TYPE ∧ s.fg (base (pCAP n)) CAP_TRIG_CFG_TYPE ≤ 6)) :
    State.UnitWent n s (s.unitRun n) := by
  have hfold (l : List Nat) : ∀ t, State.UnitWent n s t → State.UnitWent n s (l.foldl (fun t i => t.unitCycle n ((s.trc n).seen + i)) t) := by
    induction l with
    | nil => exact fun t h => h
    | cons i l ih =>
      intro t h
      have htype := h.keepsBut.fg (b := base (pCAP n)) (f := CAP_TRIG_CFG_TYPE) id
      exact ih _ (h.trans (State.unitWent_unitCycle (htype ▸ hty) _))
  exact hfold _ s (State.UnitWent.refl n s)

/-! ### The commands that bring samples -/

/-- Samples on a channel that does not acquire (R235). -/
theorem exec_adcClip_idle (hn : n < s.variant.caps) (hstart : (s.trc n).startAt = none) (hend : (s.trc n).endAt = none)
    (hen : s.fb (base (pCAP n)) HDR_PAGE_CTRL_EN = true) (hacq : s.acquiring n = false) (hc : (s.trc n).c ≤ (s.trc n).raw.length) :
    exec (.adcClip n raw) s = .next (s.clips n 0 (wholeCycles raw)) := by
  show execAdcClip n raw s = _
  rw [execAdcClip, State.onCap_idle hn hstart hend, State.takeRaw_idle hstart hend hen hacq hc]

/-- Samples on a channel that acquires, with a trigger that none of them completes (R235, R236). -/
theorem exec_adcClip_acquiring (hs : s.Inv) (hn : n < s.variant.caps) (hstart : (s.trc n).startAt = none) (hend : (s.trc n).endAt = none)
    (hen : s.fb (base (pCAP n)) HDR_PAGE_CTRL_EN = true) (hacq : s.acquiring n = true) (hpass : (s.trc n).pass = none)
    (hty : ¬ (1 ≤ s.fg (base (pCAP n)) CAP_TRIG_CFG_TYPE ∧ s.fg (base (pCAP n)) CAP_TRIG_CFG_TYPE ≤ 6)) :
    ∃ t : State, exec (.adcClip n raw) s = .next t ∧ State.UnitWent n (s.takeIn n (wholeCycles raw)) t := by
  have hlen := hs.cap_lt hn
  have htrc := State.trc_takeIn hlen (xs := wholeCycles raw)
  have hkept := ((s.keepsBut_clips n ((s.trc n).raw.length / 8) (wholeCycles raw)).still (s.keepsBut_takeIn n (wholeCycles raw))).fg
    (b := base (pCAP n)) (f := CAP_TRIG_CFG_TYPE)
    fun hj => hj.elim (fun h => absurd (Nat.add_left_cancel h) (by decide)) (not_noticeKey_cap (hs.cap_lt_four hn) (by decide))
  have hwent : State.UnitWent n (s.takeIn n (wholeCycles raw)) ((s.takeIn n (wholeCycles raw)).unitRun n) :=
    State.unitWent_unitRun (hkept ▸ hty)
  obtain ⟨u, k, hrun⟩ := hwent.trc (s.length_takeIn n (wholeCycles raw) ▸ hlen)
  refine ⟨(s.takeIn n (wholeCycles raw)).unitRun n, ?_, hwent⟩
  show execAdcClip n raw s = _
  rw [execAdcClip, State.onCap_idle hn hstart hend, State.takeRaw_acquiring hlen hstart hend hen hacq,
    State.passDone_of_none (by rw [hrun, htrc]; exact hpass)]

end Sys2Proof.Machine
end

section
/-! Candidates of a capture channel's trigger, judged by gate, holdoff and merging (R246, R250, R255). -/
namespace Sys2Proof.Machine
open Sys2Proof
variable {s t : State} {n q off : Nat} {f : Field} {raw xs : List Int} {l rest : List TrigRec} {r : TrigRec} {o : Org} {w : Word}

/-! ### Candidates judged (R250, R255) -/

/-- The candidates outside holdoff. -/
def State.outside (s : State) (n : Nat) (l : List TrigRec) : List TrigRec := l.filter (fun q => !s.inHoldoff n q.pos)

/-- The earliest of a candidate and those after it; of equals the first. -/
def earliest (r : TrigRec) (l : List TrigRec) : TrigRec := l.foldl (fun a q => if q.pos < a.pos then q else a) r

theorem earliest_mem (r : TrigRec) (l : List TrigRec) : earliest r l ∈ r :: l := by
  induction l generalizing r with
  | nil => exact List.mem_singleton_self r
  | cons q l ih =>
    have h := ih (if q.pos < r.pos then q else r)
    rw [List.mem_cons] at h ⊢
    obtain h | h := h
    · rw [earliest, List.foldl_cons, ← earliest, h]
      split <;> simp
    · exact .inr (List.mem_cons_of_mem q h)

theorem earliest_le (r : TrigRec) (l : List TrigRec) : ∀ q ∈ r :: l, (earliest r l).pos ≤ q.pos := by
  induction l generalizing r with
  | nil => simp [earliest]
  | cons q l ih =>
    have h := ih (if q.pos < r.pos then q else r)
    have hhead := h _ List.mem_cons_self
    intro x hx
    obtain rfl | hx := List.mem_cons.mp hx
    · refine Nat.le_trans hhead ?_
      split <;> omega
    · obtain rfl | hx := List.mem_cons.mp hx
      · refine Nat.le_trans hhead ?_
        split <;> omega
      · exact h x (List.mem_cons_of_mem _ hx)

/-- A candidate before all the others is the earliest. -/
theorem earliest_eq {q' : TrigRec} (hr : r ∈ q' :: rest) (hfirst : ∀ x ∈ q' :: rest, x = r ∨ r.pos < x.pos) : earliest q' rest = r := by
  have hle := earliest_le q' rest r hr
  exact (hfirst _ (earliest_mem q' rest)).elim id fun hlt => absurd hlt (by omega)

theorem State.judgeTriggers_nil (s : State) (n : Nat) : s.judgeTriggers n [] = s := rfl

theorem State.judgeTriggers_gated (hl : l ≠ []) (hgate : s.trigGate n = false) :
    s.judgeTriggers n l = s.countBy (base (pCAP n)) CAP_TRIG_GATED_COUNT_COUNT l.length := by
  unfold State.judgeTriggers
  simp [hl, hgate]

/-- The counts of an open gate: candidates in holdoff, and those merged. -/
def State.judgedCounts (s : State) (n held merged : Nat) : State :=
  (s.countBy (base (pCAP n)) CAP_TRIG_HOLDOFF_COUNT_COUNT held).countBy (base (pCAP n)) CAP_TRIG_MERGED_COUNT_COUNT merged

theorem State.judgeTriggers_held (hl : l ≠ []) (hgate : s.trigGate n = true) (hout : s.outside n l = []) :
    s.judgeTriggers n l = s.countBy (base (pCAP n)) CAP_TRIG_HOLDOFF_COUNT_COUNT l.length := by
  unfold State.outside at hout
  unfold State.judgeTriggers
  simp only [hgate, hout, List.isEmpty_iff, hl, Bool.not_true, Bool.false_eq_true, if_false]
  rfl

theorem State.judgeTriggers_taken (hl : l ≠ []) (hgate : s.trigGate n = true) (hout : s.outside n l = r :: rest) :
    s.judgeTriggers n l = (s.judgedCounts n (l.length - (r :: rest).length) rest.length).takeTrigger n (earliest r rest) := by
  unfold State.outside at hout
  unfold State.judgeTriggers
  simp only [hgate, hout, List.isEmpty_iff, hl, Bool.not_true, Bool.false_eq_true, if_false]
  rfl

theorem State.trc_judgedCounts (s : State) (n m held merged : Nat) : (s.judgedCounts n held merged).trc m = s.trc m :=
  State.trc_congr (by simp [State.judgedCounts])

theorem State.length_judgedCounts (s : State) (n held merged : Nat) : (s.judgedCounts n held merged).tracers.length = s.tracers.length := by
  simp [State.judgedCounts]

theorem State.keepsBut_judgedCounts (s : State) (n held merged : Nat) : s.KeepsBut (s.judgedCounts n held merged)
    (fun j => j = base (pCAP n) + CAP_TRIG_HOLDOFF_COUNT ∨ j = base (pCAP n) + CAP_TRIG_MERGED_COUNT) :=
  (s.keepsBut_countBy (base (pCAP n)) CAP_TRIG_HOLDOFF_COUNT_COUNT held).trans
    (State.keepsBut_countBy _ (base (pCAP n)) CAP_TRIG_MERGED_COUNT_COUNT merged)

theorem State.keepsBut_takeTrigger (s : State) (n : Nat) (r : TrigRec) : s.KeepsBut (s.takeTrigger n r) (fun _ => False) :=
  s.keepsBut_updTrc n _

/-- A trigger taken starts the next holdoff, and its record waits. -/
theorem State.trc_takeTrigger (hn : n < s.tracers.length) (r : TrigRec) : ∃ pend, (s.takeTrigger n r).trc n
    = { s.trc n with lastTrig := some r.pos, trigs := (s.trc n).trigs ++ [r], tdPend := pend } :=
  ⟨_, State.trc_updTrc hn _⟩

/-- The judgement of candidates leaves the pass in progress. -/
theorem State.pass_judgeTriggers (hn : n < s.tracers.length) (l : List TrigRec) : ((s.judgeTriggers n l).trc n).pass = (s.trc n).pass := by
  by_cases hl : l = []
  · rw [hl, State.judgeTriggers_nil]
  cases hgate : s.trigGate n with
  | false => rw [State.judgeTriggers_gated hl hgate, State.trc_congr (State.countBy_tracers ..)]
  | true =>
    cases hout : s.outside n l with
    | nil => rw [State.judgeTriggers_held hl hgate hout, State.trc_congr (State.countBy_tracers ..)]
    | cons r rest =>
      obtain ⟨pend, htrc⟩ := State.trc_takeTrigger (s := s.judgedCounts n (l.length - (r :: rest).length) rest.length)
        (by rw [State.length_judgedCounts]; exact hn) (earliest r rest)
      rw [State.judgeTriggers_taken hl hgate hout, htrc, State.trc_judgedCounts]

theorem State.length_judgeTriggers (s : State) (n : Nat) (l : List TrigRec) : (s.judgeTriggers n l).tracers.length = s.tracers.length := by
  by_cases hl : l = []
  · rw [hl, State.judgeTriggers_nil]
  cases hgate : s.trigGate n with
  | false => rw [State.judgeTriggers_gated hl hgate, State.countBy_tracers]
  | true =>
    cases hout : s.outside n l with
    | nil => rw [State.judgeTriggers_held hl hgate hout, State.countBy_tracers]
    | cons r rest => rw [State.judgeTriggers_taken hl hgate hout, State.takeTrigger, State.length_updTrc, State.length_judgedCounts]

/-- Candidates under a closed gate count, and nothing else. -/
theorem State.judgeTriggers_closed (hl : l ≠ []) (hgate : s.trigGate n = false) : ((s.judgeTriggers n l).trc n).trigs = (s.trc n).trigs
    ∧ (s.judgeTriggers n l).fg (base (pCAP n)) CAP_TRIG_GATED_COUNT_COUNT
      = satAdd 0xFFFFFFFF (s.fg (base (pCAP n)) CAP_TRIG_GATED_COUNT_COUNT) l.length
    ∧ s.KeepsBut (s.judgeTriggers n l) (fun j => j = base (pCAP n) + CAP_TRIG_GATED_COUNT) := by
  rw [State.judgeTriggers_gated hl hgate, State.trc_congr (State.countBy_tracers ..)]
  exact ⟨rfl, State.fg_countBy_self _ _ _ _ (by decide), State.keepsBut_countBy ..⟩

/-- Under an open gate the first outside holdoff is taken, and the others outside it count as merged. -/
theorem State.judgeTriggers_open (hn : n < s.tracers.length) (hr : r ∈ l) (hgate : s.trigGate n = true) (hhold : s.inHoldoff n r.pos = false)
    (hfirst : ∀ q ∈ l, s.inHoldoff n q.pos = false → q = r ∨ r.pos < q.pos) :
    ((s.judgeTriggers n l).trc n).lastTrig = some r.pos ∧ ((s.judgeTriggers n l).trc n).trigs = (s.trc n).trigs ++ [r]
      ∧ (s.judgeTriggers n l).fg (base (pCAP n)) CAP_TRIG_MERGED_COUNT_COUNT
        = satAdd 0xFFFFFFFF (s.fg (base (pCAP n)) CAP_TRIG_MERGED_COUNT_COUNT) ((s.outside n l).length - 1)
      ∧ s.KeepsBut (s.judgeTriggers n l)
        (fun j => j = base (pCAP n) + CAP_TRIG_HOLDOFF_COUNT ∨ j = base (pCAP n) + CAP_TRIG_MERGED_COUNT) := by
  have hin {x : TrigRec} : x ∈ s.outside n l ↔ x ∈ l ∧ s.inHoldoff n x.pos = false := by simp [State.outside]
  cases hout : s.outside n l with
  | nil => exact absurd (hin.mpr ⟨hr, hhold⟩) (by simp [hout])
  | cons q rest =>
    rw [hout] at hin
    have hbest : earliest q rest = r :=
      earliest_eq (hin.mpr ⟨hr, hhold⟩) fun x hx => hfirst x (hin.mp hx).1 (hin.mp hx).2
    obtain ⟨pend, htrc⟩ := State.trc_takeTrigger (s := s.judgedCounts n (l.length - (q :: rest).length) rest.length)
      (by rw [State.length_judgedCounts]; exact hn) r
    rw [State.judgeTriggers_taken (List.ne_nil_of_mem hr) hgate hout, hbest, htrc, State.trc_judgedCounts,
      (State.keepsBut_takeTrigger ..).fg id]
    refine ⟨rfl, rfl, ?_, (s.keepsBut_judgedCounts n _ _).still (State.keepsBut_takeTrigger ..)⟩
    rw [State.judgedCounts, State.fg_countBy_self _ _ _ _ (by decide), (State.keepsBut_countBy ..).fg fun h => absurd (Nat.add_left_cancel h) (by decide)]
    rfl

/-! ### The samples that complete a candidate (R246) -/

theorem wholeCycles_of_cycle (h8 : raw.length = 8) (hcodes : ∀ x ∈ raw, -2048 < x ∧ x < 2047) : wholeCycles raw = raw := by
  have hclamp : ∀ x ∈ raw, clampI (-2048) 2047 x = x := fun x hx => by
    have h := hcodes x hx
    unfold clampI
    split
    · omega
    · split <;> omega
  rw [wholeCycles, h8, List.take_of_length_le (by omega), List.map_congr_left hclamp, List.map_id']

theorem clipCount_of_cycle (h8 : raw.length = 8) (hcodes : ∀ x ∈ raw, -2048 < x ∧ x < 2047) : clipCount raw = 0 := by
  have hclip : clipCycle raw 0 = false := by
    rw [clipCycle, List.any_eq_false]
    intro x hx
    have h := hcodes x (List.mem_of_mem_drop (List.mem_of_mem_take hx))
    simp only [Bool.or_eq_true, beq_iff_eq]
    omega
  simp [clipCount, h8, hclip]

theorem State.clips_none (h : clipCount xs = 0) : s.clips n q xs = s := by
  unfold State.clips
  rw [List.length_eq_zero_iff.mp h]

theorem State.takeIn_cycle (h8 : raw.length = 8) (hcodes : ∀ x ∈ raw, -2048 < x ∧ x < 2047) {k : Nat} (hk : (s.trc n).raw.length = 8 * k) :
    s.takeIn n raw = (s.updTrc n (fun v => { v with raw := v.raw ++ raw })).toCycle n k := by
  have hne : raw ≠ [] := fun h => by simp [h] at h8
  unfold State.takeIn
  dsimp only
  rw [if_neg (by simpa using hne), State.clips_none (clipCount_of_cycle h8 hcodes), h8, hk]
  congr 1
  omega

/-- With samples for one CF cycle more, and those that R246 asks for after it, the unit judges that cycle. -/
theorem State.unitRun_one (hacq : s.acquiring n = true) {k : Nat} (hlen : (s.trc n).raw.length = 8 * (k + 2)) (hseen : (s.trc n).seen = k) :
    s.unitRun n = s.unitCycle n k := by
  have hone : (8 * (k + 2) - 7) / 8 - k = 1 := by omega
  unfold State.unitRun
  dsimp only
  rw [hacq, hlen, hseen, if_pos rfl, hone]
  rfl

theorem State.pass_unitCycle (hn : n < s.tracers.length) (k : Nat) : ((s.unitCycle n k).trc n).pass = (s.trc n).pass := by
  have hlen : n < (s.cycleJudged n k).tracers.length := by
    rw [State.cycleJudged, State.length_judgeTriggers, State.length_updTrc]
    exact hn
  obtain ⟨u, m, htrc⟩ := (s.unitWent_cycleJudged n k).trc hlen
  rw [htrc, State.cycleJudged, State.pass_judgeTriggers (by rw [State.length_updTrc]; exact hn), State.trc_updTrc hn]

/-- Eight samples without a clip, after which one CF cycle more can be judged, have it judged (R246, R250). -/
theorem exec_triggerCandidate (hs : s.Inv) (hn : n < s.variant.caps) (hstart : (s.trc n).startAt = none) (hend : (s.trc n).endAt = none)
    (hen : s.fb (base (pCAP n)) HDR_PAGE_CTRL_EN = true) (hacq : s.acquiring n = true) (hpass : (s.trc n).pass = none) (h8 : raw.length = 8)
    (hseen : (s.trc n).raw.length = 8 * ((s.trc n).seen + 1)) (hcodes : ∀ x ∈ raw, -2048 < x ∧ x < 2047) :
    exec (.triggerCandidate n raw) s = .next (((s.updTrc n (fun w => { w with raw := w.raw ++ raw })).toCycle n
      ((s.trc n).seen + 1)).unitCycle n (s.trc n).seen) := by
  have hlen := hs.cap_lt hn
  have htrc := State.trc_takeIn hlen (xs := raw)
  have hin := State.takeIn_cycle (s := s) h8 hcodes hseen
  have hrun : (s.takeIn n raw).unitRun n = (s.takeIn n raw).unitCycle n (s.trc n).seen := by
    refine State.unitRun_one ?_ ?_ ?_
    · rw [hin]
      exact hacq
    · rw [htrc, List.length_append, hseen, h8]
      omega
    · rw [htrc]
  have hnone : (((s.takeIn n raw).unitCycle n (s.trc n).seen).trc n).pass = none := by
    rw [State.pass_unitCycle (by rw [State.length_takeIn]; exact hlen), htrc]
    exact hpass
  show execTriggerCandidate n raw s = _
  rw [execTriggerCandidate, State.onCap_idle hn hstart hend, State.takeRaw_acquiring hlen hstart hend hen hacq,
    wholeCycles_of_cycle h8 hcodes, hrun, State.passDone_of_none hnone, hin]

end Sys2Proof.Machine
end

section
/-! The record of a trigger taken, and a register of the trigger unit written (R252, R254). -/
namespace Sys2Proof.Machine
open Sys2Proof
variable {s t : State} {n k off time : Nat} {f : Field} {l rest : List TrigRec} {r : TrigRec} {o : Org} {w : Word}

/-! ### A record latched (R252) -/

/-- Where the trigger lies, latched. -/
def State.latchPlace (s : State) (n : Nat) (r : TrigRec) (time : Nat) : State :=
  (((s.wr64 (base (pCAP n) + CAP_TRIG_POS) (r.pos / 1024)).wr64 (base (pCAP n) + CAP_TRIG_TIME) (time / 65536)).fs (base (pCAP n))
    CAP_TRIG_SUB_SUBSAMPLE (r.pos % 1024)).fs (base (pCAP n)) CAP_TRIG_SUB_FRAC (time % 65536)

/-- What the trigger is, latched and counted. -/
def State.latchKind (s : State) (n : Nat) (r : TrigRec) : State :=
  (((if 4 ≤ r.type ∧ r.type ≤ 6 then s.fs (base (pCAP n)) CAP_TRIG_WIDTH_WIDTH r.width else s).fs (base (pCAP n)) CAP_TRIG_STATUS_TYPE r.type).fs
    (base (pCAP n)) CAP_TRIG_STATUS_CLIPPED (b2n r.clipped)).count (base (pCAP n)) CAP_TRIG_COUNT_COUNT

/-- The oldest trigger gone from those that wait, in the CF cycle that shows it. -/
def State.dequeued (s : State) (n : Nat) (r : TrigRec) (rest : List TrigRec) : State :=
  (s.updTrc n (fun v => { v with trigs := rest })).toCycle n (r.cyc + s.fg (base (pCAP n)) CAP_LATENCY_TRIG_CF)

theorem State.trc_dequeued (hn : n < s.tracers.length) : (s.dequeued n r rest).trc n = { s.trc n with trigs := rest } :=
  State.trc_updTrc (s := s) hn (fun v => { v with trigs := rest })

theorem State.dequeued_now (hn : n < s.tracers.length) :
    (s.dequeued n r rest).now = max s.now (s.cycTick n (r.cyc + s.fg (base (pCAP n)) CAP_LATENCY_TRIG_CF)) := by
  have hself := State.trc_updTrc hn (fun v => { v with trigs := rest })
  have htick (q : Nat) : (s.updTrc n (fun v => { v with trigs := rest })).cycTick n q = s.cycTick n q :=
    State.cycTick_congr (by rw [hself]) (by rw [hself]) rfl rfl
  exact congrArg (max s.now) (htick _)

theorem State.triggerRecord_eq (hn : n < s.tracers.length) (htrigs : (s.trc n).trigs = r :: rest) (hend : (s.trc n).endAt = none) :
    s.triggerRecord n
      = ((((s.dequeued n r rest).latchPlace n r (s.posTime n r.pos)).latchKind n r).publishBy (0x600 + n)).triggerMode n r := by
  have hdue : (s.dequeued n r rest).endDue n = s.dequeued n r rest := State.endDue_of_none (by rw [State.trc_dequeued hn]; exact hend)
  rw [← hdue]
  unfold State.triggerRecord
  rw [htrigs]
  rfl

/-- In STREAM a trigger is marked, and no more. -/
theorem State.triggerMode_stream (h : s.acqMode n = 0) : s.triggerMode n r = s.pushMark n (s.trigMark n r) := by
  unfold State.triggerMode
  simp [h]

theorem State.keepsBut_latchPlace (s : State) (n : Nat) (r : TrigRec) (time : Nat) : s.KeepsBut (s.latchPlace n r time)
    (keyIn (base (pCAP n)) [CAP_TRIG_POS, CAP_TRIG_POS + 4, CAP_TRIG_TIME, CAP_TRIG_TIME + 4, CAP_TRIG_SUB]) :=
  ((((s.keepsBut_refl _).wr64 (keyIn_add.mpr (by decide)) (keyIn_add_four.mpr (by decide))).wr64
    (keyIn_add.mpr (by decide)) (keyIn_add_four.mpr (by decide))).fs (keyIn_add.mpr (by decide))).fs
    (keyIn_add.mpr (by decide))

theorem State.keepsBut_latchKind (s : State) (n : Nat) (r : TrigRec) :
    s.KeepsBut (s.latchKind n r) (keyIn (base (pCAP n)) [CAP_TRIG_WIDTH, CAP_TRIG_STATUS, CAP_TRIG_COUNT]) := by
  have hwidth : s.KeepsBut (if 4 ≤ r.type ∧ r.type ≤ 6 then s.fs (base (pCAP n)) CAP_TRIG_WIDTH_WIDTH r.width else s)
      (keyIn (base (pCAP n)) [CAP_TRIG_WIDTH, CAP_TRIG_STATUS, CAP_TRIG_COUNT]) := by
    split
    · exact (s.keepsBut_refl _).fs (keyIn_add.mpr (by decide))
    · exact s.keepsBut_refl _
  exact ((hwidth.fs (keyIn_add.mpr (by decide))).fs (keyIn_add.mpr (by decide))).count (keyIn_add.mpr (by decide))

theorem State.pos_latchPlace (hpos : r.pos / 1024 < 2 ^ 64) : (s.latchPlace n r time).rd64 (base (pCAP n) + CAP_TRIG_POS) = r.pos / 1024 := by
  have hlater : (s.wr64 (base (pCAP n) + CAP_TRIG_POS) (r.pos / 1024)).KeepsBut (s.latchPlace n r time)
      (keyIn (base (pCAP n)) [CAP_TRIG_TIME, CAP_TRIG_TIME + 4, CAP_TRIG_SUB]) :=
    ((((State.keepsBut_refl _ _).wr64 (keyIn_add.mpr (by decide)) (keyIn_add_four.mpr (by decide))).fs
      (keyIn_add.mpr (by decide))).fs (keyIn_add.mpr (by decide)))
  exact (hlater.rd64 (fun h => absurd (keyIn_add.mp h) (by decide))
    fun h => absurd (keyIn_add_four.mp h) (by decide)).trans (s.rd64_wr64 _ hpos)

theorem State.sub_latchPlace : (s.latchPlace n r time).fg (base (pCAP n)) CAP_TRIG_SUB_SUBSAMPLE = r.pos % 1024 := by
  rw [State.latchPlace, State.fg_fs_other _ _ _ _ _ _ _ _ (by decide), State.fg_fs_self _ _ _ _ _ (by decide)]
  exact Nat.mod_mod ..

theorem State.type_latchKind (htype : r.type ≤ 8) : (s.latchKind n r).fg (base (pCAP n)) CAP_TRIG_STATUS_TYPE = r.type := by
  rw [State.latchKind, State.fg_count_of_off_ne (by decide), State.fg_fs_other _ _ _ _ _ _ _ _ (by decide), State.fg_fs_self _ _ _ _ _ (by decide)]
  exact Nat.mod_eq_of_lt (Nat.lt_of_le_of_lt htype (by decide))

theorem State.count_latchKind : (s.latchKind n r).fg (base (pCAP n)) CAP_TRIG_COUNT_COUNT
    = satAdd 0xFFFFFFFF (s.fg (base (pCAP n)) CAP_TRIG_COUNT_COUNT) 1 := by
  rw [State.latchKind, State.fg_count_self (by decide), State.fg_fs_of_off_ne (by decide), State.fg_fs_of_off_ne (by decide)]
  split
  · rw [State.fg_fs_of_off_ne (by decide)]
    rfl
  · rfl

theorem State.latch_still (s : State) (n : Nat) (r : TrigRec) (time : Nat) : ((s.latchPlace n r time).latchKind n r).tracers = s.tracers
    ∧ ((s.latchPlace n r time).latchKind n r).now = s.now := by
  unfold State.latchKind State.latchPlace
  split <;> simp

theorem not_fabricKey_cap (n x : Nat) : ¬ fabricKey (base (pCAP n) + x) := not_fabricKey_of_ge (le_cap_add n x)

/-- The oldest trigger is shown, counted and published, and leaves (R252). -/
theorem exec_triggerRecord (hs : s.Inv) (hn : n < s.variant.caps) (hstart : (s.trc n).startAt = none) (hend : (s.trc n).endAt = none)
    (htrigs : (s.trc n).trigs = r :: rest) (hpos : r.pos / 1024 < 2 ^ 64) (htype : r.type ≤ 8) (hmode : s.acqMode n = 0) :
    ∃ t : State, exec (.triggerRecord n) s = .next t ∧ (t.trc n).trigs = rest ∧ t.rd64 (base (pCAP n) + CAP_TRIG_POS) = r.pos / 1024
      ∧ t.fg (base (pCAP n)) CAP_TRIG_SUB_SUBSAMPLE = r.pos % 1024 ∧ t.fg (base (pCAP n)) CAP_TRIG_STATUS_TYPE = r.type
      ∧ t.fg (base (pCAP n)) CAP_TRIG_COUNT_COUNT = satAdd 0xFFFFFFFF (s.fg (base (pCAP n)) CAP_TRIG_COUNT_COUNT) 1
      ∧ (t.marksOf n).map (·.type) = (s.marksOf n).map (·.type) ++ [2]
      ∧ t.now = max s.now (s.cycTick n (r.cyc + s.fg (base (pCAP n)) CAP_LATENCY_TRIG_CF))
      ∧ s.KeepsBut t (fun j => keyIn (base (pCAP n)) [CAP_TRIG_POS, CAP_TRIG_POS + 4, CAP_TRIG_TIME, CAP_TRIG_TIME + 4, CAP_TRIG_SUB,
          CAP_TRIG_WIDTH, CAP_TRIG_STATUS, CAP_TRIG_COUNT] j ∨ chanKey j) := by
  have hlen := hs.cap_lt hn
  let d := s.dequeued n r rest
  let p := d.latchPlace n r (s.posTime n r.pos)
  let u := (p.latchKind n r).publishBy (0x600 + n)
  have hpub : (p.latchKind n r).KeepsBut u fabricKey := State.keepsBut_publishBy ..
  have hplace : d.KeepsBut p _ := d.keepsBut_latchPlace n r _
  have hkind := p.keepsBut_latchKind n r
  have hd : s.KeepsBut d (fun _ => False) := ⟨fun _ _ => rfl, fun _ _ => rfl⟩
  have hall : s.KeepsBut u (fun j => keyIn (base (pCAP n)) [CAP_TRIG_POS, CAP_TRIG_POS + 4, CAP_TRIG_TIME, CAP_TRIG_TIME + 4, CAP_TRIG_SUB,
      CAP_TRIG_WIDTH, CAP_TRIG_STATUS, CAP_TRIG_COUNT] j ∨ fabricKey j) := by
    refine (((hd.mono fun _ => False.elim).andThen hplace ?_).andThen hkind ?_).andThen hpub fun _ => .inr
    · exact fun j hj => .inl (hj.mono (by decide))
    · exact fun j hj => .inl (hj.mono (by decide))
  have hu : u.acqMode n = 0 := by
    exact (hall.fg fun hj => hj.elim (not_keyIn_cap_strm (by decide)) (not_fabricKey_of_ge (le_strm_add n _))).trans hmode
  have htracers : u.tracers = d.tracers := (State.publishBy_tracers ..).trans (d.latch_still n r _).1
  have htrc : u.trc n = { s.trc n with trigs := rest } := (State.trc_congr htracers).trans (State.trc_dequeued hlen)
  have hulen : n < u.tracers.length := by
    rw [htracers]
    exact (State.length_updTrc s n _).symm ▸ hlen
  have hpubfg (f : Field) : u.fg (base (pCAP n)) f = (p.latchKind n r).fg (base (pCAP n)) f := hpub.fg (not_fabricKey_cap n _)
  refine ⟨u.pushMark n (u.trigMark n r), ?_, ?_, ?_, ?_, ?_, ?_, ?_, ?_, ?_⟩
  · show execTriggerRecord n s = _
    rw [execTriggerRecord, State.onCap_idle hn hstart hend, State.triggerRecord_eq hlen htrigs hend, State.triggerMode_stream hu]
  · rw [State.trc_pushMark hulen, htrc]
  · exact (hpub.rd64 (not_fabricKey_cap n _) (not_fabricKey_of_ge (Nat.le_add_right_of_le (le_cap_add n _)))).trans ((hkind.rd64
      (fun h => absurd (keyIn_add.mp h) (by decide)) fun h => absurd (keyIn_add_four.mp h) (by decide)).trans
        (State.pos_latchPlace hpos))
  · exact (hpubfg _).trans ((hkind.fg fun h => absurd (keyIn_add.mp h) (by decide)).trans State.sub_latchPlace)
  · exact (hpubfg _).trans (State.type_latchKind htype)
  · refine (hpubfg _).trans (State.count_latchKind.trans ?_)
    rw [hplace.fg fun h => absurd (keyIn_add.mp h) (by decide)]
    rfl
  · rw [State.marksOf_pushMark hulen, List.map_append, State.marksOf, htrc]
    rfl
  · exact (State.publishBy_now ..).trans ((d.latch_still n r _).2.trans (State.dequeued_now hlen))
  · exact hall.mono fun j hj => hj.imp_right fabricKey.chanKey

/-! ### A trigger register written (R254) -/

theorem pageOf_cap {v : Variant} (hn : n < v.caps) : pageOf v (pCAP n) = some (.cap, n) := by
  have hv : v.gens ≤ 16 ∧ v.pats ≤ 4 ∧ v.caps ≤ 4 := by cases v <;> decide
  unfold pageOf pCAP
  repeat rw [if_neg (by omega)]
  rw [if_pos (by omega), Nat.add_sub_cancel_left]

/-- No consumer's subscription lies in the registers of a trigger's levels, times and holdoff. -/
theorem subKey_ne_cap (code : Nat) (hlo : 0x104 ≤ off) (hhi : off ≤ 0x114) : subKey code ≠ base (pCAP n) + off := by
  unfold subKey gPage base pCAP
  dsimp only [pGEN, pPAT, pXH, pSYNC, GRV_JUMP_CTRL, CAP_TRIG_CFG, TRG_TRIG_OUT_SUB, XH_GRP_EN_SUB, XH_GRP_DIS_SUB, SYNC_TX_A_SUB, SYNC_TX_B_SUB]
  split
  · split <;> omega
  · omega
  · omega
  · omega
  · omega
  · split <;> omega
  · omega

theorem State.subWrite_plain {a : Nat} (h : ∀ code, subKey code ≠ a) : s.subWrite k a w = .ok (s.plain k a w) := by
  have hnone : s.consumerAt a = none := List.find?_eq_none.mpr fun code _ => by simpa using h code
  rw [State.subWrite, hnone]

/-- A register of a CAP page that is no session's own takes what the access codes make of the word. -/
theorem State.plain_cap (hn : n < s.variant.caps) (hlo : 0x20 ≤ off) (hlt : off < 0x1000) :
    s.plain k (base (pCAP n) + off) w = s.wr (base (pCAP n) + off) (plainWrite (fieldsAt .cap n off) (s.rd (base (pCAP n) + off)) w) := by
  have hp := pageOf_cap hn
  have hkey : s.keyFor k (base (pCAP n) + off) = base (pCAP n) + off := by
    simp only [State.keyFor, pageNo_base_add hlt, base_add_mod hlt, hp]
    refine if_neg ?_
    rintro (h | h | h)
    · omega
    · omega
    · exact absurd h Bool.false_ne_true
  rw [State.plain_of_page (by rw [pageNo_base_add hlt, hp]), hkey, base_add_mod hlt]

/-- With every CF cycle up to the present one judged, a write finds nothing to judge. -/
theorem State.unitFlush_of_seen (hseen : min ((s.trc n).raw.length / 8) (s.capBegun n) ≤ (s.trc n).seen) : s.unitFlush n = s := by
  unfold State.unitFlush
  dsimp only
  rw [Nat.sub_eq_zero_of_le hseen]
  rfl

theorem State.trc_trigReset (hn : n < s.tracers.length) :
    ((s.trigReset n).trc n).lastTrig = none ∧ ((s.trigReset n).trc n).unit = TrigUnit.fresh := by
  rw [State.trigReset, State.trc_updTrc hn]
  exact ⟨rfl, rfl⟩

/-- A register of the trigger's levels, times and holdoff written ends any holdoff and measurement (R254). -/
theorem exec_trigConfigWrite (hs : s.Inv) (hn : n < s.variant.caps) (hlo : 0x104 ≤ off) (hhi : off ≤ 0x114)
    (hacc : s.Accepts o (base (pCAP n) + off) w) (hseen : min ((s.trc n).raw.length / 8) (s.capBegun n) ≤ (s.trc n).seen) :
    ∃ u : State, exec (.trigConfigWrite o (base (pCAP n) + off) w) s = .next (u.ackWrite o) ∧ (u.trc n).lastTrig = none
      ∧ (u.trc n).unit = TrigUnit.fresh
      ∧ u.rd (base (pCAP n) + off) = plainWrite (fieldsAt .cap n off) (s.rd (base (pCAP n) + off)) w
      ∧ s.KeepsBut u (fun j => j = base (pCAP n) + off) := by
  let x := plainWrite (fieldsAt .cap n off) (s.rd (base (pCAP n) + off)) w
  let p := s.wr (base (pCAP n) + off) x
  have hcfg : s.trigCfg o.sess n (base (pCAP n) + off) w = .ok (p.trigReset n) := by
    rw [State.trigCfg, State.unitFlush_of_seen hseen, State.subWrite_plain fun code => subKey_ne_cap code hlo hhi,
      State.plain_cap hn (by omega) (by omega)]
  obtain ⟨hlast, hunit⟩ := State.trc_trigReset (s := p) (n := n) (hs.cap_lt hn)
  refine ⟨p.trigReset n, ?_, hlast, hunit, s.rd_wr_self _ x, (s.keepsBut_wr _ x).updTrc n _⟩
  show execTrigConfigWrite o (base (pCAP n) + off) w s = _
  have hno : pageNo (base (pCAP n) + off) = pCAP n := pageNo_base_add (by omega)
  have hmod : (base (pCAP n) + off) % 4096 = off := base_add_mod (by omega)
  rw [execTrigConfigWrite, State.hostReg_acked _ _ _ _ _ _ hacc]
  have h4 := hs.cap_lt_four hn
  rw [hno, hmod, if_pos ⟨Nat.le_add_right .., Nat.add_lt_add_left h4 0x060, by omega, by omega⟩, Nat.add_sub_cancel_left]
  exact hcfg

/-! ### The statement -/

/-- Settles O19, by the cases of its statement: each command of the front end and of the trigger unit against the state it leaves. -/
theorem frontEndsAndTriggers : Obligations.FrontEndsAndTriggers := by
  intro s n hs hn hstart hend
  have hlen := hs.cap_lt hn
  refine ⟨fun hen => ?_, fun c => ?_, fun c hprot => ?_, fun raw hen => ⟨fun hacq hc => ?_, fun hacq hpass hty => ?_⟩,
    fun raw hen hacq hpass h8 hseen hcodes => ?_, fun l hl => ⟨fun hgate => ?_, fun r hr hgate hhold hfirst => ?_⟩,
    fun r rest htrigs hpos htype hmode => ?_, fun o off w hoff hacc hseen => ?_⟩
  · exact ⟨_, exec_frontEndSettled hn hstart hend hen, State.fg_fs_self _ _ _ _ _ (by decide), State.keepsBut_fs ..⟩
  · obtain ⟨t, hexec, hin, hfault, hcount, ⟨hmarks, hnow⟩, hkeeps⟩ := exec_inputOvervolt (c := c) hs hn hstart hend
    exact ⟨t, hexec, hin, hfault, hcount, hmarks, hnow, hkeeps⟩
  · obtain ⟨t, hexec, hout, ⟨hmarks, hnow⟩, hkeeps⟩ := exec_protectExit (c := c) hs hn hstart hend hprot
    exact ⟨t, hexec, hout, hmarks, hnow, hkeeps⟩
  · exact ⟨_, exec_adcClip_idle hn hstart hend hen hacq hc, ⟨State.clipCount_clips (hs.cap_lt_four hn), State.keepsBut_clips ..⟩,
      congrArg Tracer.raw (State.trc_congr (s.clips_still n 0 _).1)⟩
  · obtain ⟨t, hexec, hwent⟩ := exec_adcClip_acquiring (raw := raw) hs hn hstart hend hen hacq hpass hty
    obtain ⟨u, k, htrc⟩ := hwent.trc ((s.length_takeIn n (wholeCycles raw)).symm ▸ hlen)
    rw [State.trc_takeIn hlen] at htrc
    have hkept := (s.keepsBut_takeIn n (wholeCycles raw)).trans hwent.keepsBut
    refine ⟨t, hexec, ⟨(hkept.fg (·.elim id id)).trans (State.clipCount_clips (hs.cap_lt_four hn)),
      (s.keepsBut_clips n _ _).still (hkept.mono fun _ => (·.elim id id))⟩, ?_, ?_, fun hne => ?_⟩
    · rw [htrc]
      rfl
    · rw [htrc]
    · exact hwent.now.trans (State.takeIn_now hlen hne)
  · exact exec_triggerCandidate hs hn hstart hend hen hacq hpass h8 hseen hcodes
  · exact State.judgeTriggers_closed hl hgate
  · exact State.judgeTriggers_open hlen hr hgate hhold hfirst
  · obtain ⟨t, hexec, hrest, hat, hsub, hkind, hcount, hmarks, hnow, hkeeps⟩ := exec_triggerRecord hs hn hstart hend htrigs hpos htype hmode
    refine ⟨t, hexec, hrest, hat, hsub, hkind, hcount, ?_, hnow, hkeeps.mono fun j hj => hj.imp_left fun h => ?_⟩
    · rw [List.map_map, List.map_map]
      exact hmarks
    · simpa only [keyIn, List.map_cons, List.map_nil, ← Nat.add_assoc] using h
  · have hrange : ∀ x ∈ [CAP_TRIG_LEVEL, CAP_TRIG_WINDOW, CAP_TRIG_T1, CAP_TRIG_T2, CAP_TRIG_HOLDOFF], 0x104 ≤ x ∧ x ≤ 0x114 := by decide
    obtain ⟨hlo, hhi⟩ := hrange off hoff
    exact exec_trigConfigWrite hs hn hlo hhi hacc hseen

end Sys2Proof.Machine
end

section
/-! An acquisition of a capture channel started, begun, stopped and ended (R237, R259, R260, R274). -/
namespace Sys2Proof.Machine
open Sys2Proof
variable {s t p : State} {n k q e at_ cause : Nat} {f g : Field} {o : Org} {c : Nat}

/-! ### The two pages of a channel -/

theorem State.fg_cap_fs_strm {v : Nat} (hg : g.off < 0x1000) : (s.fs (base (pSTRM n)) f v).fg (base (pCAP n)) g = s.fg (base (pCAP n)) g :=
  (s.keepsBut_fs (base (pSTRM n)) f v).fg (by unfold base pCAP pSTRM; omega)

theorem State.fg_strm_fs_cap {v : Nat} (hf : f.off < 0x1000) : (s.fs (base (pCAP n)) f v).fg (base (pSTRM n)) g = s.fg (base (pSTRM n)) g :=
  (s.keepsBut_fs (base (pCAP n)) f v).fg (by unfold base pCAP pSTRM; omega)

theorem State.fg_cap_count_strm (hg : g.off < 0x1000) : (s.count (base (pSTRM n)) f).fg (base (pCAP n)) g = s.fg (base (pCAP n)) g :=
  State.fg_cap_fs_strm hg

/-! ### START (R259) -/

theorem exec_acqStart (hs : s.Inv) (hn : n < s.variant.caps) (hacc : s.Accepts o (base (pSTRM n) + STRM_ACQ_CMD) 1#32)
    (harmed : s.armedUses (pCAP n) = false) (hacq : s.acquiring n = false) (hstart : (s.trc n).startAt = none)
    (hen : s.fb (base (pCAP n)) HDR_PAGE_CTRL_EN = true) (hpark : s.fb (base (pCAP n)) HDR_PAGE_CTRL_PARK = false) (hloop : s.loopOn n = false)
    (hfails : s.captureFails n = false) :
    ∃ u : State, exec (.acqStart o n) s = .next (u.ackWrite o) ∧ (u.trc n).startAt = some (s.now + 3000) ∧ s.KeepsBut u (fun _ => False) := by
  have hact : (s.capDue n).acqStart n = .ok (s.updTrc n (fun v => { v with startAt := some (s.now + 3000) })) := by
    rw [State.capDue_of_idle hstart hacq, State.acqStart]
    simp [harmed, hacq, hstart, hen, hpark, hloop, hfails]
  refine ⟨_, congrArg Host.Outcome.next (State.hostReg_acked _ _ _ _ _ _ hacc hact), ?_, s.keepsBut_updTrc n _⟩
  rw [State.trc_updTrc (hs.cap_lt hn)]

/-! ### The first cycle of an acquisition (R237, R242, R274) -/

/-- The channel's record at the start of an acquisition with CF cycle `q`. -/
def State.recordFresh (p : State) (n q : Nat) (v : Tracer) : Tracer :=
  { Tracer.fresh with
    scen := 64, acq := v.nextAcq, nextAcq := (v.nextAcq + 1) % 65536, cBase := q,
    grids := [(p.clk.cf, p.capRate)], segs := [(0, 0, p.floorK n)],
    spans := [{ idx := 0, stop := if p.acqMode n = 2 then some 0 else none, code := 1, marks := [] }],
    spSets := [(0, p.fb (base (pSTEN n)) STEN_SP_CFG_EN, p.fg (base (pSTEN n)) STEN_SP_CFG_BANK)],
    held := v.held, place := v.place }

/-- What the pages show of an acquisition in progress with factor `k`. -/
def State.showBegun (t : State) (n k : Nat) : State :=
  (((t.fs (base (pCAP n)) CAP_AVG_NOW_K_NOW k).fs (base (pSTRM n)) STRM_ACQ_STATUS_ACQUIRING 1).fs (base (pCAP n)) CAP_CAP_STATUS_ACQUIRING 1).fs
    (base (pCAP n)) CAP_CAP_STATUS_SCENARIO 0

/-- The START mark of `t`'s acquisition with floor `k`. -/
def State.startMark (t : State) (n k : Nat) : Mark :=
  { t.markAt n 1 0 with a := t.decim n, b := t.fg (base (pSTRM n)) STRM_ACQ_CFG_FORMAT * 4096 + t.acqMode n * 256 + k, arg32 := 0xFFFFFFFF }

/-- The acquisition begun in `p`, whose packer is empty. -/
def State.begun (p : State) (n q : Nat) : State := (p.updTrc n (p.recordFresh n q)).showBegun n (p.floorK n)

theorem State.acqBegin_eq (s : State) (n q : Nat) : s.acqBegin n q 64
    = ((s.packRest n).begun n q).pushMark n (((s.packRest n).begun n q).startMark n ((s.packRest n).floorK n)) := rfl

theorem State.showBegun_still (t : State) (n k : Nat) : (t.showBegun n k).tracers = t.tracers ∧ (t.showBegun n k).now = t.now := ⟨rfl, rfl⟩

theorem State.trc_begun (hlen : n < p.tracers.length) : (p.begun n q).trc n = p.recordFresh n q (p.trc n) :=
  (State.trc_congr (State.showBegun_still ..).1).trans (State.trc_updTrc hlen _)

theorem State.acqBegin_now (s : State) (n q : Nat) : (s.acqBegin n q 64).now = (s.packRest n).now := by
  rw [State.acqBegin_eq]
  rfl

theorem State.keepsBut_begun (p : State) (n q : Nat) : p.KeepsBut (p.begun n q)
    (fun j => j ∈ [base (pCAP n) + CAP_AVG_NOW, base (pCAP n) + CAP_CAP_STATUS, base (pSTRM n) + STRM_ACQ_STATUS]) :=
  (((((p.keepsBut_refl _).updTrc n _).fs (List.mem_cons_self ..)).fs (List.mem_cons_of_mem _ (List.mem_cons_of_mem _ (List.mem_cons_self ..)))).fs
    (List.mem_cons_of_mem _ (List.mem_cons_self ..))).fs (List.mem_cons_of_mem _ (List.mem_cons_self ..))

theorem State.keepsBut_acqBegin (s : State) (n q : Nat) : (s.packRest n).KeepsBut (s.acqBegin n q 64)
    (fun j => j ∈ [base (pCAP n) + CAP_AVG_NOW, base (pCAP n) + CAP_CAP_STATUS, base (pSTRM n) + STRM_ACQ_STATUS]) := by
  rw [State.acqBegin_eq]
  exact ((s.packRest n).keepsBut_begun n q).updTrc n _

theorem State.acquiring_begun (p : State) (n q : Nat) : (p.begun n q).fg (base (pSTRM n)) STRM_ACQ_STATUS_ACQUIRING = 1
    ∧ (p.begun n q).fg (base (pCAP n)) CAP_CAP_STATUS_ACQUIRING = 1 ∧ (p.begun n q).fg (base (pCAP n)) CAP_CAP_STATUS_SCENARIO = 0 := by
  unfold State.begun State.showBegun
  refine ⟨?_, ?_, ?_⟩
  · rw [State.fg_strm_fs_cap (by decide), State.fg_strm_fs_cap (by decide), State.fg_fs_self _ _ _ _ _ (by decide)]
    rfl
  · rw [State.fg_fs_other _ _ _ _ _ _ _ _ (by decide), State.fg_fs_self _ _ _ _ _ (by decide)]
    rfl
  · rw [State.fg_fs_self _ _ _ _ _ (by decide)]
    rfl

theorem State.shows_acqBegin (s : State) (n q : Nat) : (s.acqBegin n q 64).acquiring n = true
    ∧ (s.acqBegin n q 64).fg (base (pCAP n)) CAP_CAP_STATUS_ACQUIRING = 1 ∧ (s.acqBegin n q 64).fg (base (pCAP n)) CAP_CAP_STATUS_SCENARIO = 0 := by
  obtain ⟨hstrm, hcap, hscen⟩ := (s.packRest n).acquiring_begun n q
  have hmark := ((s.packRest n).begun n q).keepsBut_pushMark n (((s.packRest n).begun n q).startMark n ((s.packRest n).floorK n))
  rw [State.acqBegin_eq]
  refine ⟨?_, (hmark.fg id).trans hcap, (hmark.fg id).trans hscen⟩
  exact congrArg (· != 0) ((hmark.fg id).trans hstrm)

/-- The marks that wait in the packer of an acquisition that begins are its START mark. -/
theorem State.marksOf_acqBegin (hlen : n < (s.packRest n).tracers.length) :
    ((s.acqBegin n q 64).marksOf n).map (fun m => (m.type, m.c, m.arg32)) = [(1, 0, 0xFFFFFFFF)] := by
  rw [State.acqBegin_eq, State.marksOf_pushMark ((State.length_updTrc ..).symm ▸ hlen), State.marksOf, State.trc_begun hlen]
  rfl

theorem State.kNow_of_segs {a k : Nat} {l : List (Nat × Nat × Nat)} (h : (s.trc n).segs = (a, c, k) :: l) : s.kNow n = k := by
  rw [State.kNow, h]
  rfl

/-- The record of an acquisition that begins in `p`. -/
theorem State.trc_begun_pushMark (hlen : n < p.tracers.length) (m : Mark) :
    (((p.begun n q).pushMark n m).trc n).acq = (p.trc n).nextAcq ∧ (((p.begun n q).pushMark n m).trc n).nextAcq = ((p.trc n).nextAcq + 1) % 65536
      ∧ (((p.begun n q).pushMark n m).trc n).c = 0 ∧ (((p.begun n q).pushMark n m).trc n).raw = []
      ∧ (((p.begun n q).pushMark n m).trc n).cBase = q ∧ (((p.begun n q).pushMark n m).trc n).startAt = none
      ∧ (((p.begun n q).pushMark n m).trc n).endAt = none ∧ (((p.begun n q).pushMark n m).trc n).segs = [(0, 0, p.floorK n)] := by
  rw [State.trc_pushMark ((State.length_updTrc ..).symm ▸ hlen), State.trc_begun hlen]
  exact ⟨rfl, rfl, rfl, rfl, rfl, rfl, rfl, rfl⟩

/-! ### When it begins (R259) -/

theorem State.beginDue_of_begun (hstart : (s.trc n).startAt = some at_) (hend : (s.trc n).endAt = none)
    (hcf : s.fb (base pCLK) CLK_PAGE_STATUS_CF_VALID = true) (hnow : s.cfTime (s.cfFrom at_) < (s.now + 1) * 2 ^ 40) :
    s.beginDue n = s.acqBegin n (s.cfFrom at_) 64 := by
  rw [State.beginDue, hstart]
  dsimp only
  rw [hcf, decide_eq_true hnow, hend]
  rfl

theorem State.beginDue_of_waiting (hstart : (s.trc n).startAt = some at_) (hnow : ¬ s.cfTime (s.cfFrom at_) < (s.now + 1) * 2 ^ 40) :
    s.beginDue n = s := by
  rw [State.beginDue, hstart]
  dsimp only
  rw [decide_eq_false hnow, Bool.and_false]
  rfl

theorem State.beginDue_setNow (x : Nat) (hstart : (s.trc n).startAt = some at_) (hend : (s.trc n).endAt = none)
    (hcf : s.fb (base pCLK) CLK_PAGE_STATUS_CF_VALID = true) (hnow : s.cfTime (s.cfFrom at_) < (x + 1) * 2 ^ 40) :
    ({ s with now := x } : State).beginDue n = ({ s with now := x } : State).acqBegin n (s.cfFrom at_) 64 :=
  State.beginDue_of_begun (s := { s with now := x }) hstart hend hcf hnow

/-- The instant at which a waiting acquisition begins, with CF cycle `q`. -/
def State.atBegin (s : State) (q : Nat) : State :=
  if s.cfTime q < (s.now + 1) * 2 ^ 40 then s else { s with now := cdiv (s.cfTime q) (2 ^ 40) }

theorem le_cdiv_mul {a b : Nat} (hb : 0 < b) : a ≤ cdiv a b * b := by
  have h := Nat.lt_div_mul_add hb (a := a + b - 1)
  unfold cdiv
  omega

theorem lt_cdiv_succ_mul {a b : Nat} (hb : 0 < b) : a < (cdiv a b + 1) * b := by
  have h := le_cdiv_mul (a := a) hb
  rw [Nat.add_mul]
  omega

theorem lt_cdiv {a b k : Nat} (hb : 0 < b) (h : (k + 1) * b ≤ a) : k < cdiv a b :=
  Nat.le_of_mul_le_mul_right (Nat.le_trans h (le_cdiv_mul hb)) hb

theorem State.steady_atBegin (s : State) (q : Nat) : s.Steady (s.atBegin q) := by
  unfold State.atBegin
  split
  · exact Steady.refl s
  · exact Steady.setNow (Steady.refl s) _

/-- A waiting acquisition begins at its first CF cycle, or at once where that has begun. -/
theorem State.acqBeginDue_waiting (hlen : n < ((s.atBegin (s.cfFrom at_)).packRest n).tracers.length) (hstart : (s.trc n).startAt = some at_)
    (hend : (s.trc n).endAt = none) (hcf : s.fb (base pCLK) CLK_PAGE_STATUS_CF_VALID = true) :
    (s.capDue n).acqBeginDue n = (s.atBegin (s.cfFrom at_)).acqBegin n (s.cfFrom at_) 64 := by
  by_cases hnow : s.cfTime (s.cfFrom at_) < (s.now + 1) * 2 ^ 40
  · have hat : s.atBegin (s.cfFrom at_) = s := if_pos hnow
    rw [hat] at hlen ⊢
    obtain ⟨-, -, -, -, -, hbegun, hnone, -⟩ := State.trc_begun_pushMark (q := s.cfFrom at_) hlen
      (((s.packRest n).begun n (s.cfFrom at_)).startMark n ((s.packRest n).floorK n))
    rw [← State.acqBegin_eq] at hbegun hnone
    rw [State.capDue, State.beginDue_of_begun hstart hend hcf hnow, State.endDue_of_none hnone, State.acqBeginDue, hbegun]
  · have hat : s.atBegin (s.cfFrom at_) = { s with now := cdiv (s.cfTime (s.cfFrom at_)) (2 ^ 40) } := if_neg hnow
    have hmax : max s.now (cdiv (s.cfTime (s.cfFrom at_)) (2 ^ 40)) = cdiv (s.cfTime (s.cfFrom at_)) (2 ^ 40) :=
      Nat.max_eq_right (Nat.le_of_lt (lt_cdiv (Nat.two_pow_pos 40) (Nat.le_of_not_lt hnow)))
    rw [hat, State.capDue, State.beginDue_of_waiting hstart hnow, State.endDue_of_none hend, State.acqBeginDue, hstart]
    dsimp only
    rw [if_pos hcf, hmax]
    exact State.beginDue_setNow _ hstart hend hcf (lt_cdiv_succ_mul (Nat.two_pow_pos 40))

/-- The waiting acquisition of a channel begins (R259). -/
theorem exec_acqBegin (hs : s.Inv) (hn : n < s.variant.caps) (hstart : (s.trc n).startAt = some at_) (hend : (s.trc n).endAt = none)
    (hcf : s.fb (base pCLK) CLK_PAGE_STATUS_CF_VALID = true) (hp : (s.atBegin (s.cfFrom at_)).packRest n = p) :
    ∃ t : State, exec (.acqBegin n) s = .next t ∧ t.acquiring n = true ∧ t.fg (base (pCAP n)) CAP_CAP_STATUS_ACQUIRING = 1
      ∧ t.fg (base (pCAP n)) CAP_CAP_STATUS_SCENARIO = 0 ∧ t.kNow n = p.floorK n ∧ (t.trc n).acq = (p.trc n).nextAcq
      ∧ (t.trc n).nextAcq = ((p.trc n).nextAcq + 1) % 65536 ∧ (t.trc n).c = 0 ∧ (t.trc n).raw = [] ∧ (t.trc n).cBase = s.cfFrom at_
      ∧ (t.trc n).startAt = none ∧ t.now = p.now ∧ (t.marksOf n).map (fun m => (m.type, m.c, m.arg32)) = [(1, 0, 0xFFFFFFFF)]
      ∧ p.KeepsBut t (fun j => j ∈ [base (pCAP n) + CAP_AVG_NOW, base (pCAP n) + CAP_CAP_STATUS, base (pSTRM n) + STRM_ACQ_STATUS]) := by
  subst hp
  have hsteady := State.packRest_steady (s.steady_atBegin (s.cfFrom at_)) n
  have hlen : n < ((s.atBegin (s.cfFrom at_)).packRest n).tracers.length := (hsteady.2.2 hs).cap_lt (hsteady.1.symm ▸ hn)
  obtain ⟨hacq, hnext, hc, hraw, hbase, hbegun, -, hsegs⟩ := State.trc_begun_pushMark (q := s.cfFrom at_) hlen
    ((((s.atBegin (s.cfFrom at_)).packRest n).begun n (s.cfFrom at_)).startMark n (((s.atBegin (s.cfFrom at_)).packRest n).floorK n))
  rw [← State.acqBegin_eq] at hacq hnext hc hraw hbase hbegun hsegs
  obtain ⟨hstrm, hcap, hscen⟩ := (s.atBegin (s.cfFrom at_)).shows_acqBegin n (s.cfFrom at_)
  refine ⟨(s.atBegin (s.cfFrom at_)).acqBegin n (s.cfFrom at_) 64, ?_, hstrm, hcap, hscen, State.kNow_of_segs hsegs, hacq, hnext, hc, hraw,
    hbase, hbegun, State.acqBegin_now ..,
    State.marksOf_acqBegin hlen, State.keepsBut_acqBegin ..⟩
  show execAcqBegin n s = _
  rw [execAcqBegin, State.onCap_fitted hn, State.acqBeginDue_waiting hlen hstart hend hcf]

/-! ### STOP (R259, R260) -/

theorem State.capBegun_congr (hgrids : (t.trc n).grids = (s.trc n).grids) (hbase : (t.trc n).cBase = (s.trc n).cBase) (hclk : t.clk = s.clk)
    (hrate : t.capRate = s.capRate) (hnow : t.now = s.now) : t.capBegun n = s.capBegun n := by
  unfold State.capBegun
  dsimp only
  rw [hgrids, hbase, hclk, hrate, hnow]

/-- The first raw sample that a STOP taking effect at tick `at_` leaves out. -/
def State.stopAfter (s : State) (n at_ : Nat) : Nat := 8 * (max (s.cfFirst at_) ((s.trc n).cBase + s.acquired n / 8) - (s.trc n).cBase)

/-- An end that is yet to come is fixed, and no more. -/
theorem State.stopFrom_later (hlen : n < s.tracers.length) (hacq : s.acquiring n = true) (hend : (s.trc n).endAt = none)
    (hlater : 8 * s.capBegun n < s.stopAfter n at_) :
    s.stopFrom n at_ = s.updTrc n (fun v => { v with endAt := some (laterEnd (s.stopAfter n at_) 1 v.endAt) }) := by
  let u := s.updTrc n (fun v => { v with endAt := some (laterEnd (s.stopAfter n at_) 1 v.endAt) })
  have htrc : u.trc n = { s.trc n with endAt := some (s.stopAfter n at_, 1) } := by
    rw [State.trc_updTrc hlen, hend]
    rfl
  have hbegun : u.capBegun n = s.capBegun n := State.capBegun_congr (by rw [htrc]) (by rw [htrc]) rfl rfl rfl
  have hdue : u.endDue n = u := by
    rw [State.endDue, htrc]
    dsimp only
    rw [hbegun, decide_eq_false (Nat.not_le_of_lt hlater), Bool.and_false]
    rfl
  rw [State.stopFrom, if_pos hacq]
  exact hdue

theorem exec_acqStop (hs : s.Inv) (hn : n < s.variant.caps) (hacc : s.Accepts o (base (pSTRM n) + STRM_ACQ_CMD) 2#32)
    (hacq : s.acquiring n = true) (hstart : (s.trc n).startAt = none) (hend : (s.trc n).endAt = none) (hscen : (s.trc n).scen = 64)
    (hlater : 8 * s.capBegun n < s.stopAfter n (s.now + 3000)) :
    ∃ u : State, exec (.acqStop o n) s = .next (u.ackWrite o) ∧ u.acquiring n = true
      ∧ (u.trc n).endAt = some (s.stopAfter n (s.now + 3000), 1) ∧ s.KeepsBut u (fun _ => False) := by
  have hlen := hs.cap_lt hn
  have hstop : (s.capDue n).acqStop n
      = s.updTrc n (fun v => { v with endAt := some (laterEnd (s.stopAfter n (s.now + 3000)) 1 v.endAt) }) := by
    rw [State.capDue_of_none hstart hend, State.acqStop, hscen, hstart, if_neg (by decide), if_neg (by decide),
      State.stopFrom_later hlen hacq hend hlater]
  refine ⟨_, congrArg Host.Outcome.next (State.hostReg_acked _ _ _ _ _ _ hacc (congrArg Except.ok hstop)), hacq, ?_, s.keepsBut_updTrc n _⟩
  rw [State.trc_updTrc hlen, hend]
  rfl

/-! ### The end of an acquisition (R260) -/

/-- The end of a pass changes the record alone, in its pass and its marks. -/
theorem State.passMark_updTrc (s : State) (n : Nat) :
    ∃ h : Tracer → Tracer, s.passMark n = s.updTrc n h ∧ ∀ v, ∃ p l, h v = { v with pass := p, spans := l } := by
  have hsame : s = s.updTrc n id := by rw [State.updTrc, List.modify_id]
  rw [State.passMark]
  split
  · exact ⟨id, hsame, fun v => ⟨v.pass, v.spans, rfl⟩⟩
  · split
    · exact ⟨id, hsame, fun v => ⟨v.pass, v.spans, rfl⟩⟩
    · split
      · exact ⟨_, rfl, fun v => ⟨_, v.spans, rfl⟩⟩
      · split
        · exact ⟨_, State.updTrc_updTrc .., fun v => ⟨_, _, rfl⟩⟩
        · exact ⟨_, rfl, fun v => ⟨_, v.spans, rfl⟩⟩

/-- What the end of an acquisition puts into the channel's record: `e` its first raw sample not acquired, with `m` its mark. -/
def State.endRecord (s : State) (n e : Nat) (m : Mark) : State :=
  (((s.passMark n).updTrc n (fun v =>
    { v with
      c := e, raw := v.raw.take e, endAt := none, scen := 64, tail := v.tail + (e - s.cOfIv n (s.ivOf n e)),
      dead := v.dead + (if s.acqMode n = 2 ∧ (s.trc n).record.isNone then s.cOfIv n (s.ivOf n e) - (s.trc n).prevEnd else 0),
      armedC := none, record := none, kReq := none })).endSpan
      n (s.ivOf n e) 4).pushMark n m

/-- What the pages show of an acquisition that has ended. -/
def State.showEnded (t : State) (n cause : Nat) : State :=
  ((((t.fs (base (pSTRM n)) STRM_ACQ_STATUS_ACQUIRING 0).fs (base (pSTRM n)) STRM_ACQ_STATUS_END_CAUSE cause).fs (base (pSTRM n))
    STRM_ACQ_STATUS_REC_ARMED 0).fs (base (pCAP n)) CAP_CAP_STATUS_ACQUIRING 0).fs (base (pCAP n)) CAP_CAP_STATUS_SCENARIO 0

theorem State.acqEnd_eq (hacq : s.acquiring n = true) :
    ∃ (m : Mark) (note : Notice), s.acqEnd n cause e = ((s.endRecord n e m).showEnded n cause).notify note := by
  rw [State.acqEnd, hacq]
  exact ⟨_, _, rfl⟩

theorem State.endRecord_updTrc (s : State) (n e : Nat) (m : Mark) : ∃ h : Tracer → Tracer, s.endRecord n e m = s.updTrc n h
    ∧ ∀ v, (h v).c = e ∧ (h v).scen = 64 ∧ (h v).tail = v.tail + (e - s.cOfIv n (s.ivOf n e)) := by
  obtain ⟨h, hmark, hfields⟩ := s.passMark_updTrc n
  rw [State.endRecord, hmark]
  refine ⟨_, (State.updTrc_updTrc ..).trans ((State.updTrc_updTrc ..).trans (State.updTrc_updTrc ..)), fun v => ?_⟩
  obtain ⟨p, l, hv⟩ := hfields v
  simp [Function.comp, hv]

theorem State.keepsBut_showEnded (t : State) (n cause : Nat) : t.KeepsBut (t.showEnded n cause)
    (fun j => j = base (pCAP n) + CAP_CAP_STATUS ∨ j = base (pSTRM n) + STRM_ACQ_STATUS ∨ noticeKey j) :=
  (((((t.keepsBut_refl _).fs (.inr (.inl rfl))).fs (.inr (.inl rfl))).fs (.inr (.inl rfl))).fs (.inl rfl)).fs (.inl rfl)

theorem State.fg_showEnded (t : State) (n : Nat) (hcause : cause < 16) : (t.showEnded n cause).fg (base (pSTRM n)) STRM_ACQ_STATUS_ACQUIRING = 0
    ∧ (t.showEnded n cause).fg (base (pCAP n)) CAP_CAP_STATUS_ACQUIRING = 0
    ∧ (t.showEnded n cause).fg (base (pSTRM n)) STRM_ACQ_STATUS_END_CAUSE = cause := by
  unfold State.showEnded
  refine ⟨?_, ?_, ?_⟩
  · rw [State.fg_strm_fs_cap (by decide), State.fg_strm_fs_cap (by decide), State.fg_fs_other _ _ _ _ _ _ _ _ (by decide),
      State.fg_fs_other _ _ _ _ _ _ _ _ (by decide), State.fg_fs_self _ _ _ _ _ (by decide)]
    rfl
  · rw [State.fg_fs_other _ _ _ _ _ _ _ _ (by decide), State.fg_fs_self _ _ _ _ _ (by decide)]
    rfl
  · rw [State.fg_strm_fs_cap (by decide), State.fg_strm_fs_cap (by decide), State.fg_fs_other _ _ _ _ _ _ _ _ (by decide),
      State.fg_fs_self _ _ _ _ _ (by decide)]
    exact Nat.mod_eq_of_lt hcause

/-- An end that is fixed is carried out once its CF cycle has begun. -/
theorem State.capDue_ended (hstart : (s.trc n).startAt = none) (hacq : s.acquiring n = true) (hend : (s.trc n).endAt = some (e, cause))
    (hbegun : e ≤ 8 * s.capBegun n) : s.capDue n = s.acqEnd n cause e := by
  rw [State.capDue, State.beginDue_of_none hstart, State.endDue, hend]
  dsimp only
  rw [hacq, decide_eq_true hbegun]
  rfl

/-- The end of an acquisition is shown and counted (R260). -/
theorem State.acqEnd_shown (hs : s.Inv) (hn : n < s.variant.caps) (hacq : s.acquiring n = true) (hcause : cause < 16) :
    (s.acqEnd n cause e).acquiring n = false ∧ (s.acqEnd n cause e).fg (base (pCAP n)) CAP_CAP_STATUS_ACQUIRING = 0
      ∧ (s.acqEnd n cause e).fg (base (pSTRM n)) STRM_ACQ_STATUS_END_CAUSE = cause ∧ ((s.acqEnd n cause e).trc n).c = e
      ∧ ((s.acqEnd n cause e).trc n).scen = 64 ∧ ((s.acqEnd n cause e).trc n).tail = (s.trc n).tail + (e - s.cOfIv n (s.ivOf n e))
      ∧ s.KeepsBut (s.acqEnd n cause e)
        (fun j => j = base (pCAP n) + CAP_CAP_STATUS ∨ j = base (pSTRM n) + STRM_ACQ_STATUS ∨ noticeKey j) := by
  have h4 := hs.cap_lt_four hn
  obtain ⟨m, note, heq⟩ := State.acqEnd_eq (cause := cause) (e := e) hacq
  obtain ⟨h, hrec, hfields⟩ := s.endRecord_updTrc n e m
  obtain ⟨hc, hscen, htail⟩ := hfields (s.trc n)
  obtain ⟨hstrm, hcap, hend⟩ := (s.endRecord n e m).fg_showEnded n hcause
  have hnote := ((s.endRecord n e m).showEnded n cause).keepsBut_notify note
  have htrc : (((s.endRecord n e m).showEnded n cause).notify note).trc n = h (s.trc n) := by
    rw [State.trc_congr (State.notify_tracers ..), hrec]
    exact State.trc_updTrc (hs.cap_lt hn) h
  rw [heq, htrc]
  refine ⟨congrArg (· != 0) ((hnote.fg (not_noticeKey_strm h4 (by decide))).trans hstrm), (hnote.fg (not_noticeKey_cap h4 (by decide))).trans hcap,
    (hnote.fg (not_noticeKey_strm h4 (by decide))).trans hend, hc, hscen, htail, ?_⟩
  rw [hrec]
  exact ((((s.keepsBut_updTrc n h).mono fun _ => False.elim).andThen (State.keepsBut_showEnded _ n cause) fun _ => id).notify note
    fun _ hj => .inr (.inr hj))

end Sys2Proof.Machine
end

section
/-! The ring of a capture channel enabled and disabled, and the seven counts latched (R266, R276). -/
namespace Sys2Proof.Machine
open Sys2Proof
variable {s t u : State} {n a : Nat} {o : Org} {p : Nat → Prop} {up : Bool}

/-! ### Stores and what they leave (R266) -/

/-- A store changes the memory alone. -/
theorem State.st_eq_mem (s : State) (a v k : Nat) : s.st a v k = { s with mem := (s.st a v k).mem } := by
  induction k generalizing s a v with
  | zero => rfl
  | succ k ih => exact ih (s.setMb a (BitVec.ofNat 8 v)) (a + 1) (v / 256)

theorem State.stw_tracers (s : State) (a v : Nat) : (s.stw a v).tracers = s.tracers := by rw [State.stw, State.st_eq_mem]

theorem State.stw_plates (s : State) (a v : Nat) : (s.stw a v).plates = s.plates := by rw [State.stw, State.st_eq_mem]

/-- A count raised or lowered changes its word. -/
theorem State.refBy_eq_stw (s : State) (a hi lo : Nat) (up : Bool) : ∃ v, s.refBy a hi lo up = s.stw a v := ⟨_, rfl⟩

/-- The charges as `l`, and the references of the ring's plate one more or one fewer. -/
def State.ringHeld (s : State) (n : Nat) (up : Bool) (l : List Charge) : State :=
  (s.setCharges l).refBy (plateAddr (s.fg (base (pSTRM n)) STRM_RING_PLATE_PLATE) + 0x28) 31 16 up

theorem State.ringHeld_still (s : State) (n : Nat) (up : Bool) (l : List Charge) :
    (s.ringHeld n up l).tracers = s.tracers ∧ (s.ringHeld n up l).plates.charges = l := by
  obtain ⟨v, href⟩ := (s.setCharges l).refBy_eq_stw (plateAddr (s.fg (base (pSTRM n)) STRM_RING_PLATE_PLATE) + 0x28) 31 16 up
  rw [State.ringHeld, href, State.stw_tracers, State.stw_plates]
  exact ⟨rfl, rfl⟩

theorem State.keeps_ringHeld (s : State) (n : Nat) (up : Bool) (l : List Charge) : s.KeepsRegs (s.ringHeld n up l) (fun _ => False)
    ∧ s.KeepsMem (s.ringHeld n up l) (within (plateAddr (s.fg (base (pSTRM n)) STRM_RING_PLATE_PLATE) + 0x28) 4) := by
  obtain ⟨v, href⟩ := (s.setCharges l).refBy_eq_stw (plateAddr (s.fg (base (pSTRM n)) STRM_RING_PLATE_PLATE) + 0x28) 31 16 up
  have hregs := (s.setCharges l).keepsRegs_stw (plateAddr (s.fg (base (pSTRM n)) STRM_RING_PLATE_PLATE) + 0x28) v
  have hmem := (s.setCharges l).keepsMem_stw (plateAddr (s.fg (base (pSTRM n)) STRM_RING_PLATE_PLATE) + 0x28) v
  rw [State.ringHeld, href]
  exact ⟨hregs, hmem⟩

/-! ### EN of the ring (R266) -/

/-- The ring's EN shown as `up`, and the channel's record changed by `h`. -/
def State.ringTurned (t : State) (n : Nat) (up : Bool) (h : Tracer → Tracer) : State :=
  (t.fs (base (pSTRM n)) STRM_RING_CTRL_EN (b2n up)).updTrc n h

theorem State.ringOn_ringTurned (t : State) (n : Nat) (up : Bool) (h : Tracer → Tracer) : (t.ringTurned n up h).ringOn n = up := by
  have hen : (t.ringTurned n up h).fg (base (pSTRM n)) STRM_RING_CTRL_EN = b2n up % 2 := t.fg_fs_self _ STRM_RING_CTRL_EN _ 0 (by decide)
  rw [State.ringOn, State.fb, hen]
  cases up <;> rfl

theorem State.trc_ringTurned (hlen : n < t.tracers.length) (h : Tracer → Tracer) : (t.ringTurned n up h).trc n = h (t.trc n) :=
  State.trc_updTrc (s := t.fs (base (pSTRM n)) STRM_RING_CTRL_EN (b2n up)) hlen h

theorem State.keepsBut_ringTurned (t : State) (n : Nat) (up : Bool) (h : Tracer → Tracer) :
    t.KeepsBut (t.ringTurned n up h) (fun j => j = base (pSTRM n) + STRM_RING_CTRL) :=
  (t.keepsBut_fs (base (pSTRM n)) STRM_RING_CTRL_EN (b2n up)).updTrc n h

/-- What a ring turned on or off leaves: the record, the charges, and all but the ring's control and the plate's references. -/
theorem State.ringTurned_ringHeld (hlen : n < s.tracers.length) (up : Bool) (l : List Charge) (h : Tracer → Tracer) :
    ((s.ringHeld n up l).ringTurned n up h).trc n = h (s.trc n) ∧ ((s.ringHeld n up l).ringTurned n up h).plates.charges = l
      ∧ s.KeepsRegs ((s.ringHeld n up l).ringTurned n up h) (fun j => j = base (pSTRM n) + STRM_RING_CTRL)
      ∧ s.KeepsMem ((s.ringHeld n up l).ringTurned n up h) (within (plateAddr (s.fg (base (pSTRM n)) STRM_RING_PLATE_PLATE) + 0x28) 4) := by
  obtain ⟨htracers, hcharges⟩ := s.ringHeld_still n up l
  obtain ⟨hregs, hmem⟩ := s.keeps_ringHeld n up l
  obtain ⟨hregs', hmem'⟩ := (s.ringHeld n up l).keepsBut_ringTurned n up h
  refine ⟨?_, hcharges, fun j hj => (hregs' j hj).trans (hregs j id), fun x hx => (hmem' x id).trans (hmem x hx)⟩
  rw [State.trc_ringTurned (htracers ▸ hlen), State.trc_congr htracers]

/-- A ring that satisfies R266 is enabled. -/
theorem exec_ringEnable_on (hs : s.Inv) (hn : n < s.variant.caps) (hstart : (s.trc n).startAt = none) (hend : (s.trc n).endAt = none)
    (hacc : s.Accepts o (base (pSTRM n) + STRM_RING_CTRL) 1#32) (hoff : s.ringOn n = false) (hfit : s.ringFails n = none) :
    ∃ u : State, exec (.ringEnable o n true) s = .next (u.ackWrite o) ∧ u.ringOn n = true ∧ (u.trc n).held = [] ∧ (u.trc n).place = 0
      ∧ u.plates.charges = s.chargesWithRing n s.capRate ∧ s.KeepsRegs u (fun j => j = base (pSTRM n) + STRM_RING_CTRL)
      ∧ s.KeepsMem u (within (plateAddr (s.fg (base (pSTRM n)) STRM_RING_PLATE_PLATE) + 0x28) 4) := by
  let h (v : Tracer) : Tracer := { v with place := 0, held := [] }
  have hact : (s.capDue n).ringEnable n true = .ok ((s.ringHeld n true (s.chargesWithRing n s.capRate)).ringTurned n true h) := by
    rw [State.capDue_of_none hstart hend, State.ringEnable, hoff, hfit]
    rfl
  obtain ⟨htrc, hcharges, hregs, hmem⟩ := State.ringTurned_ringHeld (hs.cap_lt hn) true (s.chargesWithRing n s.capRate) h
  exact ⟨_, congrArg Host.Outcome.next (State.hostReg_acked _ _ _ _ _ _ hacc hact), State.ringOn_ringTurned .., by rw [htrc], by rw [htrc],
    hcharges, hregs, hmem⟩

/-- The ring of a channel that does not acquire is disabled. -/
theorem exec_ringEnable_off (hs : s.Inv) (hn : n < s.variant.caps) (hstart : (s.trc n).startAt = none)
    (hacc : s.Accepts o (base (pSTRM n) + STRM_RING_CTRL) 0#32) (hon : s.ringOn n = true) (hacq : s.acquiring n = false) :
    ∃ u : State, exec (.ringEnable o n false) s = .next (u.ackWrite o) ∧ u.ringOn n = false ∧ (u.trc n).held = []
      ∧ u.plates.charges = s.plates.charges.filter (fun c => c.holder != 64 + n)
      ∧ s.KeepsRegs u (fun j => j = base (pSTRM n) + STRM_RING_CTRL)
      ∧ s.KeepsMem u (within (plateAddr (s.fg (base (pSTRM n)) STRM_RING_PLATE_PLATE) + 0x28) 4) := by
  let lost := ((s.trc n).held.filter (fun h => h.acq == (s.trc n).acq)).foldl (fun m h => m + h.raw) 0
  let h (v : Tracer) : Tracer := { v with held := [], undelivered := v.undelivered + lost }
  have hact : (s.capDue n).ringEnable n false = .ok ((s.ringHeld n false (s.plates.charges.filter (fun c => c.holder != 64 + n))).ringTurned n false h) := by
    rw [State.capDue_of_idle hstart hacq, State.ringEnable, hon, hacq]
    rfl
  obtain ⟨htrc, hcharges, hregs, hmem⟩ := State.ringTurned_ringHeld (hs.cap_lt hn) false (s.plates.charges.filter (fun c => c.holder != 64 + n)) h
  exact ⟨_, congrArg Host.Outcome.next (State.hostReg_acked _ _ _ _ _ _ hacc hact), State.ringOn_ringTurned .., by rw [htrc],
    hcharges, hregs, hmem⟩

/-! ### The seven counts (R276) -/

/-- 64-bit registers written: offsets from key `b` with their values. -/
def State.wrAll (s : State) (b : Nat) : List (Nat × Nat) → State
  | [] => s
  | e :: l => (s.wr64 (b + e.1) e.2).wrAll b l

theorem State.keepsBut_wrAll (s : State) (b : Nat) (l : List (Nat × Nat)) : s.KeepsBut (s.wrAll b l) (fun j => ∃ e ∈ l, within (b + e.1) 8 j) := by
  induction l generalizing s with
  | nil => exact s.keepsBut_refl _
  | cons e l ih =>
    have hhead (j : Nat) (hj : within (b + e.1) 8 j) : ∃ e' ∈ e :: l, within (b + e'.1) 8 j := ⟨e, List.mem_cons_self, hj⟩
    refine ((s.keepsBut_refl _).wr64 (hhead _ ⟨Nat.le_refl _, by omega⟩) (hhead _ ⟨by omega, by omega⟩)).andThen (ih _) fun j hj => ?_
    obtain ⟨e', he', hin⟩ := hj
    exact ⟨e', List.mem_cons_of_mem _ he', hin⟩

/-- Registers that do not overlap each read what was written. -/
theorem State.rd64_wrAll {b : Nat} {l : List (Nat × Nat)} (hl : (l.map (·.1)).Pairwise (fun x y => x + 8 ≤ y)) (s : State) :
    ∀ e ∈ l, (s.wrAll b l).rd64 (b + e.1) = e.2 % 2 ^ 64 := by
  induction l generalizing s with
  | nil => exact fun e he => absurd he List.not_mem_nil
  | cons d l ih =>
    obtain ⟨hd, hrest⟩ := List.pairwise_cons.mp hl
    intro e he
    obtain rfl | he := List.mem_cons.mp he
    · have hafter (j : Nat) (hj : j < b + e.1 + 8) : ¬ ∃ e' ∈ l, within (b + e'.1) 8 j := by
        rintro ⟨e', he', hin, -⟩
        have hle : e.1 + 8 ≤ e'.1 := hd e'.1 (List.mem_map_of_mem he')
        omega
      exact (((s.wr64 (b + e.1) e.2).keepsBut_wrAll b l).rd64 (hafter _ (by omega)) (hafter _ (by omega))).trans (s.rd64_wr64_mod _ _)
    · exact ih hrest _ e he

/-- The seven counts and their registers. -/
def State.counts (s : State) (n : Nat) : List (Nat × Nat) :=
  [(STRM_ACQUIRED, s.acquired n), (STRM_DELIVERED, (s.trc n).delivered), (STRM_PENDING, s.pendingRaw n), (STRM_DROPPED, (s.trc n).dropped),
    (STRM_DEAD, s.deadNow n), (STRM_TAIL, (s.trc n).tail), (STRM_UNDELIVERED, (s.trc n).undelivered)]

theorem State.acctLatch_eq (s : State) (n : Nat) : s.acctLatch n = s.wrAll (base (pSTRM n)) (s.counts n) := rfl

theorem State.rd64_acctLatch (s : State) (n : Nat) : ∀ e ∈ s.counts n, (s.acctLatch n).rd64 (base (pSTRM n) + e.1) = e.2 % 2 ^ 64 :=
  State.rd64_wrAll (l := s.counts n) (show ([STRM_ACQUIRED, STRM_DELIVERED, STRM_PENDING, STRM_DROPPED, STRM_DEAD, STRM_TAIL,
    STRM_UNDELIVERED] : List Nat).Pairwise (fun x y => x + 8 ≤ y) by decide) s

theorem State.keepsBut_acctLatch (s : State) (n : Nat) : s.KeepsBut (s.acctLatch n) (within (base (pSTRM n) + STRM_ACQUIRED) 56) := by
  have hoffs : ∀ x ∈ [STRM_ACQUIRED, STRM_DELIVERED, STRM_PENDING, STRM_DROPPED, STRM_DEAD, STRM_TAIL, STRM_UNDELIVERED],
      STRM_ACQUIRED ≤ x ∧ x + 8 ≤ STRM_ACQUIRED + 56 := by decide
  rw [State.acctLatch_eq]
  refine (s.keepsBut_wrAll (base (pSTRM n)) (s.counts n)).mono ?_
  rintro j ⟨e, he, hlo, hhi⟩
  obtain ⟨hfirst, hlast⟩ := hoffs e.1 (List.mem_map_of_mem (f := (·.1)) he)
  unfold within
  omega

theorem exec_acctLatch (hstart : (s.trc n).startAt = none) (hend : (s.trc n).endAt = none)
    (hacc : s.Accepts o (base (pSTRM n) + STRM_ACCT_LATCH) 1#32) : exec (.acctLatch o n) s = .next ((s.acctLatch n).ackWrite o) :=
  congrArg Host.Outcome.next (State.hostReg_acked _ _ _ _ _ _ hacc (congrArg Except.ok (congrArg (·.acctLatch n) (State.capDue_of_none hstart hend))))

/-! ### The statement -/

/-- Settles O20, by the cases of its statement: each command of an acquisition and of its ring against the state it leaves. -/
theorem acquisitionsAndTheRing : Obligations.AcquisitionsAndTheRing := by
  intro s n hs hn
  refine ⟨fun o hacc harmed hacq hstart hen hpark hloop hfails => ?_, fun at_ hstart hend hcf => ?_,
    fun o hacc hacq hstart hend hscen hlater => ?_, fun e cause hacq hstart hend hcause hbegun => ?_,
    fun hstart => ⟨fun o hend hacc hoff hfit => ?_, fun o hacc hon hacq => ?_, fun o hend hacc => ?_⟩⟩
  · exact exec_acqStart hs hn hacc harmed hacq hstart hen hpark hloop hfails
  · exact exec_acqBegin hs hn hstart hend hcf rfl
  · exact exec_acqStop hs hn hacc hacq hstart hend hscen hlater
  · dsimp only
    rw [State.capDue_ended hstart hacq hend hbegun]
    exact State.acqEnd_shown hs hn hacq hcause
  · exact exec_ringEnable_on hs hn hstart hend hacc hoff hfit
  · exact exec_ringEnable_off hs hn hstart hacc hon hacq
  · have hcounts := s.rd64_acctLatch n
    simp only [State.counts, List.forall_mem_cons, List.not_mem_nil, false_imp_iff, forall_const] at hcounts
    obtain ⟨hacq, hdel, hpend, hdrop, hdead, htail, hundel, -⟩ := hcounts
    exact ⟨_, exec_acctLatch hstart hend hacc, hacq, hdel, hpend, hdrop, hdead, htail, hundel, s.keepsBut_acctLatch n⟩

end Sys2Proof.Machine
end

section
/-! The packer's open block of a capture channel: when it closes, what it leaves in the ring, and what its discard counts (R258, R266, R268,
R272, R273). -/
namespace Sys2Proof.Machine
open Sys2Proof
variable {r s t u : State} {n a close count m i time : Nat} {raw : List Int} {p : Span} {l : List Span} {bytes : List Byte} {flush fifo : Bool}

/-! ### Bytes stored (R266) -/

/-- Bytes stored change the memory alone. -/
theorem State.stBytes_eq_mem (s : State) (a : Nat) (bytes : List Byte) : s.stBytes a bytes = { s with mem := (s.stBytes a bytes).mem } := by
  induction bytes generalizing s a with
  | nil => rfl
  | cons x bytes ih => exact ih (s.setMb a x) (a + 1)

theorem State.stBytes_tracers (s : State) (a : Nat) (bytes : List Byte) : (s.stBytes a bytes).tracers = s.tracers := by rw [State.stBytes_eq_mem]

theorem State.stBytes_now (s : State) (a : Nat) (bytes : List Byte) : (s.stBytes a bytes).now = s.now := by rw [State.stBytes_eq_mem]

theorem State.stBytes_rd (s : State) (a : Nat) (bytes : List Byte) (j : Nat) : (s.stBytes a bytes).rd j = s.rd j := by
  rw [State.stBytes_eq_mem]
  rfl

theorem State.keepsMem_stBytes (s : State) (a : Nat) (bytes : List Byte) : s.KeepsMem (s.stBytes a bytes) (within a bytes.length) := by
  induction bytes generalizing s a with
  | nil => exact fun _ _ => rfl
  | cons x bytes ih =>
    intro y hy
    have hout : ¬ (a ≤ y ∧ y < a + (bytes.length + 1)) := hy
    have hrest := ih (s.setMb a x) (a + 1) y (by unfold within; omega)
    rw [State.mb_setMb, if_neg (by omega)] at hrest
    exact hrest

theorem State.stw_now (s : State) (a v : Nat) : (s.stw a v).now = s.now := by rw [State.stw, State.st_eq_mem]

/-- The bytes kept for armed scenarios are a note on the plates. -/
theorem State.noteRewrite_eq_plates (s : State) (a k : Nat) : ∃ q, s.noteRewrite a k = { s with plates := q } := by
  unfold State.noteRewrite
  split
  · exact ⟨_, rfl⟩
  · exact ⟨s.plates, rfl⟩

/-- A block's bytes, blockBody up to 4,096. -/
def blockBody (bytes : List Byte) : List Byte := bytes ++ List.replicate (4096 - bytes.length) 0#8

theorem length_blockBody (h : bytes.length ≤ 4096) : (blockBody bytes).length = 4096 := by
  rw [blockBody, List.length_append, List.length_replicate]
  omega

/-- A block's 4,096 bytes written at `a`, with their CRC `crc`. -/
def State.written (s : State) (a : Nat) (bytes : List Byte) (crc : Nat) : State := ((s.noteRewrite a 4096).stBytes a (blockBody bytes)).stw (a + 0x30) crc

theorem State.written_still (s : State) (a : Nat) (bytes : List Byte) (crc : Nat) :
    (s.written a bytes crc).tracers = s.tracers ∧ (s.written a bytes crc).now = s.now ∧ s.KeepsRegs (s.written a bytes crc) (fun _ => False) := by
  obtain ⟨q, hnote⟩ := s.noteRewrite_eq_plates a 4096
  rw [State.written, hnote, State.stw_tracers, State.stw_now, State.stBytes_tracers, State.stBytes_now]
  refine ⟨rfl, rfl, fun j _ => ?_⟩
  rw [State.stw, State.st_rd, State.stBytes_rd]
  rfl

theorem State.keepsMem_written (s : State) (a : Nat) (h : bytes.length ≤ 4096) (crc : Nat) : s.KeepsMem (s.written a bytes crc) (within a 4096) := by
  obtain ⟨q, hnote⟩ := s.noteRewrite_eq_plates a 4096
  have hbytes := State.keepsMem_stBytes { s with plates := q } a (blockBody bytes)
  have hcrc := State.keepsMem_stw (State.stBytes { s with plates := q } a (blockBody bytes)) (a + 0x30) crc
  rw [length_blockBody h] at hbytes
  rw [State.written, hnote]
  intro x hx
  have hword : ¬ within (a + 0x30) 4 x := fun hin => hx (by unfold within at hin ⊢; omega)
  exact (hcrc x hword).trans (hbytes x hx)

/-! ### A block in the ring (R266, R268) -/

/-- The record with a block of `x` raw samples held, its place and number those of the record `v₀`. -/
def Tracer.withBlock (v₀ : Tracer) (cap x firstC time : Nat) (v : Tracer) : Tracer :=
  { v with
    held := v.held ++ [{ place := v₀.place, acq := v₀.acq, seq := v₀.seq, raw := x, firstC := firstC, time := time, sent := false }],
    place := (v₀.place + 1) % max 1 cap, seq := v₀.seq + 1 }

theorem State.storeBlock_eq (s : State) (n x firstC time : Nat) (bytes : List Byte) : ∃ crc, s.storeBlock n bytes x firstC time
    = (s.written (s.plateByte (s.fg (base (pSTRM n)) STRM_RING_PLATE_PLATE) (4096 * (s.trc n).place)) bytes crc).updTrc n
        ((s.trc n).withBlock (s.ringCap n) x firstC time) :=
  ⟨_, rfl⟩

theorem State.trc_storeBlock (hlen : n < s.tracers.length) (x firstC time : Nat) (bytes : List Byte) :
    (s.storeBlock n bytes x firstC time).trc n = (s.trc n).withBlock (s.ringCap n) x firstC time (s.trc n) := by
  obtain ⟨crc, heq⟩ := s.storeBlock_eq n x firstC time bytes
  have hstill := (s.written_still (s.plateByte (s.fg (base (pSTRM n)) STRM_RING_PLATE_PLATE) (4096 * (s.trc n).place)) bytes crc).1
  rw [heq, State.trc_updTrc (hstill ▸ hlen), State.trc_congr hstill]

theorem State.storeBlock_now (s : State) (n x firstC time : Nat) (bytes : List Byte) : (s.storeBlock n bytes x firstC time).now = s.now := by
  obtain ⟨crc, heq⟩ := s.storeBlock_eq n x firstC time bytes
  rw [heq, State.updTrc_now, (s.written_still _ bytes crc).2.1]

theorem State.keeps_storeBlock (s : State) (n x firstC time : Nat) (bytes : List Byte) :
    s.KeepsRegs (s.storeBlock n bytes x firstC time) (fun _ => False)
      ∧ (bytes.length ≤ 4096 → s.KeepsMem (s.storeBlock n bytes x firstC time)
        (within (s.plateByte (s.fg (base (pSTRM n)) STRM_RING_PLATE_PLATE) (4096 * (s.trc n).place)) 4096)) := by
  obtain ⟨crc, heq⟩ := s.storeBlock_eq n x firstC time bytes
  obtain ⟨hregs, hmem⟩ := (s.written (s.plateByte (s.fg (base (pSTRM n)) STRM_RING_PLATE_PLATE) (4096 * (s.trc n).place)) bytes
    crc).keepsBut_updTrc n ((s.trc n).withBlock (s.ringCap n) x firstC time)
  rw [heq]
  exact ⟨fun j hj => (hregs j id).trans ((s.written_still _ bytes crc).2.2 j hj),
    fun h y hy => (hmem y id).trans (s.keepsMem_written _ h crc y hy)⟩

/-- The samples of `count` intervals, with `m` marks, have gone from `r` to a block that the ring of `t` holds. -/
def State.BlockKept (r : State) (n m : Nat) (p : Span) (close count : Nat) (t : State) : Prop :=
  (t.trc n).held.map (fun h => (h.place, h.acq, h.seq, h.raw))
      = (r.trc n).held.map (fun h => (h.place, h.acq, h.seq, h.raw)) ++ [((r.trc n).place, (r.trc n).acq, (r.trc n).seq, r.rawOf n count)]
    ∧ (t.trc n).spans = packed count m (r.trc n).spans ∧ (t.trc n).seq = (r.trc n).seq + 1
    ∧ r.KeepsRegs t (fun _ => False)
    ∧ ((r.samplesBlock n close count (p.marks.take m)).length ≤ 4096 →
      r.KeepsMem t (within (r.plateByte (r.fg (base (pSTRM n)) STRM_RING_PLATE_PLATE) (4096 * (r.trc n).place)) 4096))

theorem State.emitBlock_free (hspans : (r.trc n).spans = p :: l) (hfree : r.ringFull n = false) : r.emitBlock n close count m false
    = (r.updTrc n (fun v => { v with spans := packed count m (p :: l) })).storeBlock n (r.samplesBlock n close count (p.marks.take m))
        (r.rawOf n count) (r.cOfIv n (r.nextIdx n)) (r.cTime n (r.cOfIv n (r.nextIdx n)) / 65536) := by
  rw [State.emitBlock, hfree, hspans]
  rfl

/-- A block with a place in the ring is held there. -/
theorem State.blockKept_emitBlock (hlen : n < r.tracers.length) (hspans : (r.trc n).spans = p :: l) (hfree : r.ringFull n = false) :
    r.BlockKept n m p close count (r.emitBlock n close count m false) ∧ (r.emitBlock n close count m false).now = r.now := by
  let u := r.updTrc n (fun v => { v with spans := packed count m (p :: l) })
  have hu : u.trc n = { r.trc n with spans := packed count m (p :: l) } := State.trc_updTrc hlen _
  obtain ⟨hregs, hmem⟩ := u.keeps_storeBlock n (r.rawOf n count) (r.cOfIv n (r.nextIdx n)) (r.cTime n (r.cOfIv n (r.nextIdx n)) / 65536)
    (r.samplesBlock n close count (p.marks.take m))
  have htrc := State.trc_storeBlock (s := u) (n := n) ((r.length_updTrc n _).symm ▸ hlen) (r.rawOf n count) (r.cOfIv n (r.nextIdx n))
    (r.cTime n (r.cOfIv n (r.nextIdx n)) / 65536) (r.samplesBlock n close count (p.marks.take m))
  rw [State.emitBlock_free hspans hfree]
  refine ⟨⟨?_, ?_, ?_, hregs, fun h => ?_⟩, State.storeBlock_now ..⟩
  · rw [htrc, hu, Tracer.withBlock, List.map_append]
    rfl
  · rw [htrc, hu, hspans]
    rfl
  · rw [htrc, hu]
    rfl
  · have hbytes := hmem h
    rw [hu] at hbytes
    exact hbytes

/-! ### A block discarded (R268) -/

/-- The samples of `count` intervals have gone from `r` into an episode of discards of `t`. -/
def State.BlockLost (r : State) (n cause count : Nat) (t : State) : Prop :=
  (t.trc n).held = (r.trc n).held ∧ (t.trc n).dropped = (r.trc n).dropped + r.rawOf n count
    ∧ (t.trc n).gap.map (fun g => (g.sidx, g.cause, g.lost)) = some (r.nextIdx n, cause, r.rawOf n count)
    ∧ r.KeepsBut t (fun j => j = base (pSTRM n) + STRM_MARK_LOST_COUNT)

theorem State.trc_holdMarks (hlen : n < s.tracers.length) (g : GapEpisode) (ms : List Mark) : (s.holdMarks n g ms).trc n
    = { s.trc n with gap := some { g with marks := (g.marks ++ ms).take 1024, marksLost := g.marksLost || decide (1024 < (g.marks ++ ms).length) } } := by
  rw [State.holdMarks, State.trc_updTrc (by rw [State.countBy_tracers]; exact hlen), State.trc_congr (State.countBy_tracers ..)]

theorem State.keepsBut_holdMarks (s : State) (n : Nat) (g : GapEpisode) (ms : List Mark) :
    s.KeepsBut (s.holdMarks n g ms) (fun j => j = base (pSTRM n) + STRM_MARK_LOST_COUNT) :=
  (s.keepsBut_countBy (base (pSTRM n)) STRM_MARK_LOST_COUNT_COUNT _).updTrc n _

/-- A discard with no episode begun begins one. -/
theorem State.blockLost_discard (hlen : n < r.tracers.length) (hgap : (r.trc n).gap = none) (cause : Nat) :
    r.BlockLost n cause count (r.discard n count m cause) := by
  have hupd := State.trc_updTrc hlen (fun v => { v with dropped := v.dropped + r.rawOf n count, spans := packed count m v.spans })
  rw [State.discard, hgap]
  refine ⟨?_, ?_, ?_, State.keepsBut_holdMarks ..⟩
  all_goals rw [State.trc_holdMarks ((r.length_updTrc n _).symm ▸ hlen), hupd]
  simp

/-- A block that the FIFO refuses, or that finds no free block, is discarded. -/
theorem State.emitBlock_refused (h : (fifo || r.ringFull n) = true) :
    r.emitBlock n 1 count m fifo = r.discard n count m (if fifo then 2 else 1) := by
  rw [State.emitBlock, h]
  rfl

/-! ### When the open block closes (R273) -/

/-- The intervals of span `p`, the packer's first, that are formed. -/
def State.availOf (r : State) (n : Nat) (p : Span) : Nat := (match p.stop with | some e => min e (r.formed n) | none => r.formed n) - p.idx

/-- The intervals that a block beside the marks of `p` has room for. -/
def State.roomOf (r : State) (n : Nat) (p : Span) : Nat :=
  blockRoom (r.fg (base (pSTRM n)) STRM_ACQ_CFG_FORMAT) (if r.ddcOn n then 2 else 1) (min p.marks.length 63)

/-- The open block of span `p` is full. -/
def State.OpenFull (r : State) (n : Nat) (p : Span) : Prop :=
  r.roomOf n p < r.availOf n p ∨ (r.roomOf n p = r.availOf n p ∧ p.stop ≠ some (p.idx + r.availOf n p)) ∨ min p.marks.length 63 < p.marks.length

theorem State.gapOver_of_none (hgap : (r.trc n).gap = none) : r.gapOver n = r := by
  rw [State.gapOver, hgap]

/-- A full block closes with code 1. -/
theorem State.closeBlock_full (hspans : (r.trc n).spans = p :: l) (hgap : (r.trc n).gap = none) (hfull : r.OpenFull n p) :
    r.closeBlock n flush fifo = r.emitBlock n 1 (min (r.roomOf n p) (r.availOf n p)) (min p.marks.length 63) fifo := by
  rw [State.closeBlock, State.gapOver_of_none hgap, ite_self]
  dsimp only
  rw [hspans]
  exact if_pos hfull

/-- A block at the end of its span closes with the span's code. -/
theorem State.closeBlock_ended (hspans : (r.trc n).spans = p :: l) (hgap : (r.trc n).gap = none) (hfull : ¬ r.OpenFull n p)
    (hstop : p.stop = some (p.idx + r.availOf n p)) (hne : r.availOf n p ≠ 0 ∨ p.marks ≠ []) :
    r.closeBlock n flush fifo = r.emitBlock n p.code (r.availOf n p) (min p.marks.length 63) fifo := by
  rw [State.closeBlock, State.gapOver_of_none hgap, ite_self]
  dsimp only
  rw [hspans]
  exact (if_neg hfull).trans ((if_pos hstop).trans (if_neg fun h => hne.elim (· h.1) (· h.2)))

/-- A block that is neither stays open until FLUSH_US has passed. -/
theorem State.closeBlock_open (hspans : (r.trc n).spans = p :: l) (hgap : (r.trc n).gap = none) (hfull : ¬ r.OpenFull n p)
    (hstop : p.stop ≠ some (p.idx + r.availOf n p)) : r.closeBlock n false fifo = r := by
  rw [State.closeBlock, State.gapOver_of_none hgap, ite_self]
  dsimp only
  rw [hspans]
  exact (if_neg hfull).trans ((if_neg hstop).trans (if_neg fun h => Bool.false_ne_true h.1))

theorem State.closeBlock_flushed (hspans : (r.trc n).spans = p :: l) (hgap : (r.trc n).gap = none) (hfull : ¬ r.OpenFull n p)
    (hstop : p.stop ≠ some (p.idx + r.availOf n p)) (havail : 0 < r.availOf n p) : r.closeBlock n true fifo
      = { r with now := max r.now (r.flushAt n) }.emitBlock n 2 (r.availOf n p) (min p.marks.length 63) fifo := by
  rw [State.closeBlock, State.gapOver_of_none hgap, ite_self]
  dsimp only
  rw [hspans]
  exact (if_neg hfull).trans ((if_neg hstop).trans (if_pos ⟨rfl, havail⟩))

/-! ### What a block holds at another device time -/

theorem State.samplesBlock_setNow (r : State) (n close count x : Nat) (ms : List Mark) :
    ({ r with now := x } : State).samplesBlock n close count ms = r.samplesBlock n close count ms := rfl

theorem State.rawOf_setNow (r : State) (n count x : Nat) : ({ r with now := x } : State).rawOf n count = r.rawOf n count := rfl

/-- The samples that a block holds, and its place, do not depend on the device time. -/
theorem State.BlockKept.of_setNow {x : Nat} (h : ({ r with now := x } : State).BlockKept n m p close count t) : r.BlockKept n m p close count t := by
  unfold State.BlockKept at h ⊢
  rw [State.samplesBlock_setNow, State.rawOf_setNow] at h
  exact h

/-! ### The commands that close blocks -/

theorem exec_blockClose (hn : n < s.variant.caps) (hstart : (s.trc n).startAt = none) (hend : (s.trc n).endAt = none) (fifo : Bool) :
    exec (.blockClose n raw fifo) s = .next ((s.takeRaw n raw).closeBlock n false fifo) :=
  State.onCap_idle hn hstart hend (fun t => (t.takeRaw n raw).closeBlock n false fifo)

theorem exec_blockFlush (hn : n < s.variant.caps) (hstart : (s.trc n).startAt = none) (hend : (s.trc n).endAt = none) (fifo : Bool) :
    exec (.blockFlush n raw fifo) s = .next ((s.takeRaw n raw).closeBlock n true fifo) :=
  State.onCap_idle hn hstart hend (fun t => (t.takeRaw n raw).closeBlock n true fifo)

theorem State.Inv.length_takeRaw (hs : s.Inv) (hn : n < s.variant.caps) (raw : List Int) : n < (s.takeRaw n raw).tracers.length := by
  have hsteady := State.takeRaw_steady (Steady.refl s) n raw
  exact (hsteady.2.2 hs).cap_lt (hsteady.1.symm ▸ hn)

/-- A block that is full or ends its span goes into a ring with room; one that is neither stays open until it is flushed. -/
theorem State.closeBlock_kept (hlen : n < r.tracers.length) (hspans : (r.trc n).spans = p :: l) (hgap : (r.trc n).gap = none)
    (hfree : r.ringFull n = false) :
    (r.OpenFull n p → r.BlockKept n (min p.marks.length 63) p 1 (min (r.roomOf n p) (r.availOf n p)) (r.closeBlock n false false))
      ∧ (¬ r.OpenFull n p → p.stop = some (p.idx + r.availOf n p) → (r.availOf n p ≠ 0 ∨ p.marks ≠ []) →
        r.BlockKept n (min p.marks.length 63) p p.code (r.availOf n p) (r.closeBlock n false false))
      ∧ (¬ r.OpenFull n p → p.stop ≠ some (p.idx + r.availOf n p) → 0 < r.availOf n p →
        r.BlockKept n (min p.marks.length 63) p 2 (r.availOf n p) (r.closeBlock n true false)
          ∧ (r.closeBlock n true false).now = max r.now (r.flushAt n)) := by
  refine ⟨fun hfull => ?_, fun hfull hstop hne => ?_, fun hfull hstop havail => ?_⟩
  · rw [State.closeBlock_full hspans hgap hfull]
    exact (State.blockKept_emitBlock hlen hspans hfree).1
  · rw [State.closeBlock_ended hspans hgap hfull hstop hne]
    exact (State.blockKept_emitBlock hlen hspans hfree).1
  · rw [State.closeBlock_flushed hspans hgap hfull hstop havail]
    obtain ⟨hkept, hnow⟩ := State.blockKept_emitBlock (r := { r with now := max r.now (r.flushAt n) }) (close := 2) (count := r.availOf n p)
      (m := min p.marks.length 63) hlen hspans hfree
    exact ⟨hkept.of_setNow, hnow⟩

/-- A full block that the FIFO refuses (2), or that finds no free block (1), is lost. -/
theorem State.closeBlock_lost (hlen : n < r.tracers.length) (hspans : (r.trc n).spans = p :: l) (hgap : (r.trc n).gap = none)
    (hfull : r.OpenFull n p) (h : (fifo || r.ringFull n) = true) :
    r.BlockLost n (if fifo then 2 else 1) (min (r.roomOf n p) (r.availOf n p)) (r.closeBlock n false fifo) := by
  rw [State.closeBlock_full hspans hgap hfull, State.emitBlock_refused h]
  exact State.blockLost_discard hlen hgap _

end Sys2Proof.Machine
end

section
/-! The averaging factor of a capture channel asked for and changed, and the records of REARM (R244, R263, R264, R269 to R271). -/
namespace Sys2Proof.Machine
open Sys2Proof
variable {s t u : State} {n c k start : Nat} {f : Field}

/-! ### Changes asked for (R269, R270) -/

/-- The factor that a further request starts from: the one requested, else the one in force. -/
def State.kAsked (s : State) (n : Nat) : Nat := (((s.trc n).kReq).map (·.1)).getD (s.kNow n)

theorem exec_rateRaise (hs : s.Inv) (hn : n < s.variant.caps) (hstart : (s.trc n).startAt = none) (hend : (s.trc n).endAt = none)
    (hacq : s.acquiring n = true) (hmode : s.acqMode n ≠ 2) (hk : s.kAsked n < 16)
    (hfill : s.fillAbove n (s.fg (base (pSTRM n)) STRM_WATERMARK_HIGH) = true)
    (hagain : ∀ at_ fill, (s.trc n).raised = some (at_, fill) →
      at_ + 3000 * s.fg (base (pSTRM n)) STRM_RATE_TIMING_RAISE_HOLD_US ≤ s.now ∧ fill < (s.trc n).held.length) :
    ∃ t : State, exec (.rateRaise n) s = .next t ∧ (t.trc n).kReq = some (s.kAsked n + 1, s.cNow n)
      ∧ (t.trc n).raised = some (s.now, (s.trc n).held.length) ∧ s.KeepsBut t (fun _ => False) := by
  let h (v : Tracer) : Tracer := { v with kReq := some (s.kAsked n + 1, s.cNow n), raised := some (s.now, v.held.length) }
  have htrc := State.trc_updTrc (hs.cap_lt hn) h
  have hraise : s.rateRaise n = s.updTrc n h := by
    unfold State.rateRaise
    refine if_pos ?_
    simp only [Bool.and_eq_true, bne_iff_ne, decide_eq_true_eq]
    refine ⟨⟨⟨⟨hacq, hmode⟩, hfill⟩, ?_⟩, hk⟩
    split
    next at_ fill hraised => exact decide_eq_true (hagain at_ fill hraised)
    next => rfl
  refine ⟨s.updTrc n h, ?_, by rw [htrc], by rw [htrc], s.keepsBut_updTrc n h⟩
  show execRateRaise n s = _
  rw [execRateRaise, State.onCap_idle hn hstart hend, hraise]

theorem exec_rateLower (hs : s.Inv) (hn : n < s.variant.caps) (hstart : (s.trc n).startAt = none) (hend : (s.trc n).endAt = none)
    (hacq : s.acquiring n = true) (hmode : s.acqMode n ≠ 2) (hk : s.floorK n < s.kAsked n)
    (hfill : s.fillBelow n (s.fg (base (pSTRM n)) STRM_WATERMARK_LOW) = true) :
    ∃ t : State, exec (.rateLower n) s = .next t ∧ (t.trc n).kReq = some (s.kAsked n - 1, s.cNow n) ∧ s.KeepsBut t (fun _ => False) := by
  let h (v : Tracer) : Tracer := { v with kReq := some (s.kAsked n - 1, s.cNow n), raised := none }
  have htrc := State.trc_updTrc (hs.cap_lt hn) h
  have hlower : s.rateLower n = s.updTrc n h := by
    unfold State.rateLower
    refine if_pos ?_
    simp only [Bool.and_eq_true, bne_iff_ne, decide_eq_true_eq]
    exact ⟨⟨⟨hacq, hmode⟩, hfill⟩, hk⟩
  refine ⟨s.updTrc n h, ?_, by rw [htrc], s.keepsBut_updTrc n h⟩
  show execRateLower n s = _
  rw [execRateLower, State.onCap_idle hn hstart hend, hlower]

/-! ### A change that takes effect (R244, R271) -/

/-- From `s` to `t` a notice may have been sent, and nothing else has changed. -/
def State.MayTell (s t : State) : Prop := s.KeepsBut t noticeKey ∧ t.tracers = s.tracers ∧ t.now = s.now

theorem State.mayTell_ite (s : State) (m : Notice) (told : Prop) [Decidable told] : s.MayTell (if told then s.notify m else s) := by
  split
  · exact ⟨s.keepsBut_notify m, State.notify_tracers .., State.notify_now ..⟩
  · exact ⟨s.keepsBut_refl _, rfl, rfl⟩

/-- From `s` to `t` the spans of channel `n`'s packer may have changed, and nothing else has. -/
def State.Respanned (n : Nat) (s t : State) : Prop := ∃ h : Tracer → Tracer, t = s.updTrc n h ∧ ∀ v, ∃ l, h v = { v with spans := l }

theorem State.Respanned.trans (h : State.Respanned n s t) (h' : State.Respanned n t u) : State.Respanned n s u := by
  obtain ⟨g, rfl, hg⟩ := h
  obtain ⟨g', rfl, hg'⟩ := h'
  refine ⟨g' ∘ g, State.updTrc_updTrc .., fun v => ?_⟩
  obtain ⟨l, hv⟩ := hg v
  obtain ⟨l', hv'⟩ := hg' (g v)
  exact ⟨l', by rw [Function.comp, hv', hv]⟩

theorem State.Respanned.trc (h : State.Respanned n s t) (hlen : n < s.tracers.length) : ∃ l, t.trc n = { s.trc n with spans := l } := by
  obtain ⟨g, rfl, hg⟩ := h
  rw [State.trc_updTrc hlen]
  exact hg _

theorem State.Respanned.keepsBut (h : State.Respanned n s t) : s.KeepsBut t (fun _ => False) := by
  obtain ⟨g, rfl, -⟩ := h
  exact s.keepsBut_updTrc n g

theorem State.Respanned.now (h : State.Respanned n s t) : t.now = s.now := by
  obtain ⟨g, rfl, -⟩ := h
  rfl

theorem State.respanned_endSpan (s : State) (n i code : Nat) : State.Respanned n s (s.endSpan n i code) := ⟨_, rfl, fun _ => ⟨_, rfl⟩⟩

theorem State.respanned_pushMark (s : State) (n : Nat) (m : Mark) : State.Respanned n s (s.pushMark n m) := ⟨_, rfl, fun _ => ⟨_, rfl⟩⟩

theorem State.respanned_newSpan (s : State) (n i : Nat) : State.Respanned n s (s.newSpan n i) := by
  refine ⟨_, rfl, fun v => ?_⟩
  split
  · split <;> exact ⟨_, rfl⟩
  · exact ⟨_, rfl⟩

/-- The record with factor `k` in force from raw sample `c`, the first of interval `i`. -/
def Tracer.withFactor (i c k : Nat) (v : Tracer) : Tracer := { v with segs := (i, c, k) :: v.segs, kReq := none, rateMax := v.rateMax || k == 16 }

/-- What a change to factor `k` at raw sample `c` puts into the channel's record, with `m` its mark. -/
def State.factorRecord (s : State) (n c k : Nat) (m : Mark) : State :=
  (((s.updTrc n (Tracer.withFactor (s.ivOf n c) c k)).endSpan n (s.ivOf n c) 3).newSpan n (s.ivOf n c)).pushMark n m

theorem State.respanned_factorRecord (s : State) (n c k : Nat) (m : Mark) :
    State.Respanned n (s.updTrc n (Tracer.withFactor (s.ivOf n c) c k)) (s.factorRecord n c k m) :=
  ((State.respanned_endSpan _ n _ 3).trans (State.respanned_newSpan _ n _)).trans (State.respanned_pushMark _ n m)

/-- A change is shown and counted, up or down; a rise to the greatest factor may be told. -/
theorem State.factorChange_cases (hend : (s.trc n).endAt = none) (c0 : Nat) (hreq : (s.trc n).kReq = some (k, c0)) (hacq : s.acquiring n = true)
    (hne : k ≠ s.kNow n) (hc : s.changeAt n k c0 = c) : ∃ m : Mark, State.MayTell
      ((((s.toCycle n (c / 8)).factorRecord n c k m).fs (base (pCAP n)) CAP_AVG_NOW_K_NOW k).count (base (pSTRM n))
        (if s.kNow n < k then STRM_RATE_UP_COUNT_COUNT else STRM_RATE_DOWN_COUNT_COUNT)) (s.factorChange n) := by
  have hdue : (s.toCycle n (c / 8)).endDue n = s.toCycle n (c / 8) := State.endDue_of_none hend
  have hon : (s.toCycle n (c / 8)).acquiring n = true := hacq
  have hgo : ¬ ((!s.acquiring n) = true ∨ k = s.kNow n) := by simp [hacq, hne]
  subst hc
  rw [State.factorChange, hreq]
  dsimp only
  rw [hdue, hon, if_neg hgo, if_neg (show ¬ (!true) = true by decide)]
  by_cases hup : s.kNow n < k
  · simp only [if_pos hup]
    exact ⟨_, State.mayTell_ite _ _ _⟩
  · simp only [if_neg hup]
    exact ⟨_, State.keepsBut_refl _ _, rfl, rfl⟩

/-- A requested change takes effect at its boundary and is counted. -/
theorem exec_avgFactorChange (hs : s.Inv) (hn : n < s.variant.caps) (hstart : (s.trc n).startAt = none) (hend : (s.trc n).endAt = none) (c0 : Nat)
    (hreq : (s.trc n).kReq = some (k, c0)) (hacq : s.acquiring n = true) (hne : k ≠ s.kNow n) (hk : k ≤ 16) (hc : s.changeAt n k c0 = c) :
    ∃ t : State, exec (.avgFactorChange n) s = .next t ∧ t.kNow n = k ∧ t.fg (base (pCAP n)) CAP_AVG_NOW_K_NOW = k ∧ (t.trc n).kReq = none
      ∧ (t.trc n).segs = (s.ivOf n c, c, k) :: (s.trc n).segs ∧ t.now = max s.now (s.cycTick n (c / 8))
      ∧ t.fg (base (pSTRM n)) STRM_RATE_UP_COUNT_COUNT
        = (if s.kNow n < k then satAdd 0xFFFFFFFF (s.fg (base (pSTRM n)) STRM_RATE_UP_COUNT_COUNT) 1 else s.fg (base (pSTRM n)) STRM_RATE_UP_COUNT_COUNT)
      ∧ t.fg (base (pSTRM n)) STRM_RATE_DOWN_COUNT_COUNT
        = (if s.kNow n < k then s.fg (base (pSTRM n)) STRM_RATE_DOWN_COUNT_COUNT else satAdd 0xFFFFFFFF (s.fg (base (pSTRM n)) STRM_RATE_DOWN_COUNT_COUNT) 1)
      ∧ s.KeepsBut t (fun j => j ∈ [base (pCAP n) + CAP_AVG_NOW, base (pSTRM n) + STRM_RATE_UP_COUNT, base (pSTRM n) + STRM_RATE_DOWN_COUNT]
        ∨ noticeKey j) := by
  have h4 := hs.cap_lt_four hn
  have hlen := hs.cap_lt hn
  obtain ⟨m, htold, htracers, hnow⟩ := State.factorChange_cases hend c0 hreq hacq hne hc
  let a := (s.toCycle n (c / 8)).factorRecord n c k m
  let w := a.fs (base (pCAP n)) CAP_AVG_NOW_K_NOW k
  have hspans : State.Respanned n ((s.toCycle n (c / 8)).updTrc n (Tracer.withFactor (s.ivOf n c) c k)) a :=
    (s.toCycle n (c / 8)).respanned_factorRecord n c k m
  obtain ⟨l, ha⟩ := hspans.trc ((State.length_updTrc ..).symm ▸ hlen)
  have htrc : (s.factorChange n).trc n = { (s.trc n).withFactor (s.ivOf n c) c k with spans := l } := by
    rw [State.trc_congr (htracers.trans ((State.count_tracers ..).trans (State.fs_tracers ..))), ha,
      State.trc_updTrc (s := s.toCycle n (c / 8)) hlen]
    rfl
  have hrec : s.KeepsBut a (fun _ => False) := hspans.keepsBut
  have hw : s.KeepsBut w (fun j => j = base (pCAP n) + CAP_AVG_NOW) :=
    (hrec.mono fun _ => False.elim).andThen (a.keepsBut_fs (base (pCAP n)) CAP_AVG_NOW_K_NOW k) fun _ => id
  have hstrm (f : Field) : w.fg (base (pSTRM n)) f = s.fg (base (pSTRM n)) f := hw.fg (by unfold base pCAP pSTRM CAP_AVG_NOW; omega)
  have htell (f : Field) (hoff : f.off < 0x1000) : (s.factorChange n).fg (base (pSTRM n)) f
      = (w.count (base (pSTRM n)) (if s.kNow n < k then STRM_RATE_UP_COUNT_COUNT else STRM_RATE_DOWN_COUNT_COUNT)).fg (base (pSTRM n)) f :=
    htold.fg (not_noticeKey_strm h4 hoff)
  refine ⟨s.factorChange n, ?_, State.kNow_of_segs (by rw [htrc]; rfl), ?_, by rw [htrc]; rfl, by rw [htrc]; rfl, ?_, ?_, ?_, ?_⟩
  · show execAvgFactorChange n s = _
    rw [execAvgFactorChange, State.onCap_idle hn hstart hend]
  · rw [htold.fg (not_noticeKey_cap h4 (by decide)), State.fg_cap_count_strm (by decide), State.fg_fs_self _ _ _ _ _ (by decide)]
    exact Nat.mod_eq_of_lt (Nat.lt_of_le_of_lt hk (by decide))
  · rw [hnow, State.count_now, State.fs_now, hspans.now]
    rfl
  · rw [htell _ (by decide)]
    split
    · rw [State.fg_count_self (by decide), hstrm]
      rfl
    · rw [State.fg_count_of_off_ne (by decide), hstrm]
  · rw [htell _ (by decide)]
    split
    · rw [State.fg_count_of_off_ne (by decide), hstrm]
    · rw [State.fg_count_self (by decide), hstrm]
      rfl
  · have hkey (j : Nat) (hj : j = base (pCAP n) + CAP_AVG_NOW ∨ j = base (pSTRM n) + STRM_RATE_UP_COUNT ∨ j = base (pSTRM n) + STRM_RATE_DOWN_COUNT) :
        j ∈ [base (pCAP n) + CAP_AVG_NOW, base (pSTRM n) + STRM_RATE_UP_COUNT, base (pSTRM n) + STRM_RATE_DOWN_COUNT] := by simpa using hj
    refine (((hw.mono fun j hj => .inl (hkey j (.inl hj))).count ?_).andThen htold fun _ => .inr)
    split
    · exact .inl (hkey _ (.inr (.inl rfl)))
    · exact .inl (hkey _ (.inr (.inr rfl)))

/-! ### REARM (R263, R264) -/

/-- The record with its rearm instant at raw sample `c`. -/
def Tracer.armedFrom (c : Nat) (v : Tracer) : Tracer := { v with armedC := some c }

/-- The rearm instant `c` fixed, shown, and the dead time `dead` latched. -/
def State.armedAt (s : State) (n c dead : Nat) : State :=
  ((((s.updTrc n (Tracer.armedFrom c)).toCycle n (c / 8)).fs (base (pSTRM n)) STRM_ACQ_STATUS_REC_ARMED 1).wr64
    (base (pSTRM n) + STRM_LAST_DEAD) dead)

theorem State.rearm_eq (hlen : n < s.tracers.length) (hend : (s.trc n).endAt = none) (hacq : s.acquiring n = true) (hmode : s.acqMode n = 2)
    (hrec : (s.trc n).record = none) (harmed : (s.trc n).armedC = none)
    (hfill : s.fillBelow n (s.fg (base (pSTRM n)) STRM_WATERMARK_HIGH) = true) (hc : s.rearmAt n = c) :
    s.rearm n = s.armedAt n c ((s.cTime n c - s.cTime n (s.trc n).prevEnd) / 65536) := by
  have hall : (s.acquiring n && s.acqMode n == 2 && (s.trc n).record.isNone && (s.trc n).armedC.isNone
      && s.fillBelow n (s.fg (base (pSTRM n)) STRM_WATERMARK_HIGH)) = true := by
    rw [hacq, hmode, hrec, harmed, hfill]
    rfl
  have htrc : (s.armedAt n c ((s.cTime n c - s.cTime n (s.trc n).prevEnd) / 65536)).trc n = (s.trc n).armedFrom c :=
    (State.trc_congr (State.wr64_tracers ..)).trans (State.trc_updTrc hlen _)
  rw [← State.endDue_of_none (s := s.armedAt n c _) (by rw [htrc]; exact hend)]
  subst hc
  rw [State.rearm]
  exact if_pos hall

/-- At the rearm instant the channel is armed and the dead time known. -/
theorem exec_rearmInstant (hs : s.Inv) (hn : n < s.variant.caps) (hstart : (s.trc n).startAt = none) (hend : (s.trc n).endAt = none)
    (hacq : s.acquiring n = true) (hmode : s.acqMode n = 2) (hrec : (s.trc n).record = none) (harmed : (s.trc n).armedC = none)
    (hfill : s.fillBelow n (s.fg (base (pSTRM n)) STRM_WATERMARK_HIGH) = true) (hc : s.rearmAt n = c) :
    ∃ t : State, exec (.rearmInstant n) s = .next t ∧ (t.trc n).armedC = some c ∧ t.fg (base (pSTRM n)) STRM_ACQ_STATUS_REC_ARMED = 1
      ∧ t.rd64 (base (pSTRM n) + STRM_LAST_DEAD) = (s.cTime n c - s.cTime n (s.trc n).prevEnd) / 65536 % 2 ^ 64
      ∧ t.now = max s.now (s.cycTick n (c / 8))
      ∧ s.KeepsBut t (keyIn (base (pSTRM n)) [STRM_ACQ_STATUS, STRM_LAST_DEAD, STRM_LAST_DEAD + 4]) := by
  have hlen := hs.cap_lt hn
  have hself := State.trc_updTrc hlen (Tracer.armedFrom c)
  have htick : (s.updTrc n (Tracer.armedFrom c)).cycTick n (c / 8) = s.cycTick n (c / 8) :=
    State.cycTick_congr (by rw [hself]; rfl) (by rw [hself]; rfl) rfl rfl
  generalize hdead : (s.cTime n c - s.cTime n (s.trc n).prevEnd) / 65536 = dead
  refine ⟨s.armedAt n c dead, ?_, ?_, ?_, State.rd64_wr64_mod .., ?_, ?_⟩
  · show execRearmInstant n s = _
    rw [execRearmInstant, State.onCap_idle hn hstart hend, State.rearm_eq hlen hend hacq hmode hrec harmed hfill hc, hdead]
  · rw [State.armedAt, State.trc_congr ((State.wr64_tracers ..).trans (State.fs_tracers ..))]
    exact congrArg Tracer.armedC hself
  · rw [State.armedAt, (State.keepsBut_wr64 ..).fg fun h => absurd (show STRM_ACQ_STATUS_REC_ARMED.off = STRM_LAST_DEAD
      ∨ STRM_ACQ_STATUS_REC_ARMED.off = STRM_LAST_DEAD + 4 by omega) (by decide), State.fg_fs_self _ _ _ _ _ (by decide)]
    rfl
  · rw [State.armedAt, State.wr64_now, State.fs_now, State.toCycle_now, htick]
    rfl
  · have hrecord : s.KeepsBut ((s.updTrc n (Tracer.armedFrom c)).toCycle n (c / 8)) (fun _ => False) :=
      s.keepsBut_updTrc n (Tracer.armedFrom c)
    exact ((hrecord.mono fun _ => False.elim).fs (keyIn_add.mpr (by decide))).wr64 (keyIn_add.mpr (by decide)) (keyIn_add_four.mpr (by decide))

/-- A record in progress ends with its REC_LEN intervals. -/
theorem exec_recordEnd (hs : s.Inv) (hn : n < s.variant.caps) (hstart : (s.trc n).startAt = none) (hend : (s.trc n).endAt = none)
    (hrec : (s.trc n).record = some start) (hc : s.cOfIv n (start + s.fg (base (pSTRM n)) STRM_REC_LEN_LEN) = c) :
    ∃ t : State, exec (.recordEnd n) s = .next t ∧ (t.trc n).record = none ∧ (t.trc n).prevEnd = c
      ∧ t.now = max s.now (s.cycTick n (c / 8)) ∧ s.KeepsBut t (fun _ => False) := by
  have hlen := hs.cap_lt hn
  let h (v : Tracer) : Tracer := { v with record := none, prevEnd := c }
  let u := (s.updTrc n h).endSpan n (start + s.fg (base (pSTRM n)) STRM_REC_LEN_LEN) 5
  have hspans : State.Respanned n (s.updTrc n h) u := State.respanned_endSpan ..
  obtain ⟨l, htrc⟩ := hspans.trc ((s.length_updTrc n h).symm ▸ hlen)
  rw [State.trc_updTrc hlen] at htrc
  have htick : u.cycTick n (c / 8) = s.cycTick n (c / 8) := State.cycTick_congr (by rw [htrc]) (by rw [htrc]) rfl rfl
  have hdue : (u.toCycle n (c / 8)).endDue n = u.toCycle n (c / 8) := State.endDue_of_none (by
    show (u.trc n).endAt = none
    rw [htrc]
    exact hend)
  have hdone : s.recordEnd n = u.toCycle n (c / 8) := by
    subst hc
    rw [State.recordEnd, hrec, ← hdue]
  have hrecord : ((u.toCycle n (c / 8)).trc n) = { h (s.trc n) with spans := l } := htrc
  refine ⟨u.toCycle n (c / 8), ?_, by rw [hrecord], by rw [hrecord], ?_, ?_⟩
  · show execRecordEnd n s = _
    rw [execRecordEnd, State.onCap_idle hn hstart hend, hdone]
  · rw [State.toCycle_now, htick, hspans.now]
    rfl
  · exact hspans.keepsBut

/-! ### The statement -/

/-- Settles O21, by the cases of its statement: a block kept or lost, a factor asked for or changed, a record armed or ended. -/
theorem blocksRatesAndRecords : Obligations.BlocksRatesAndRecords := by
  intro s n hs hn hstart hend
  refine ⟨fun raw p l => ?_, fun hacq hmode => ⟨fun hk hfill hagain => ?_, fun hk hfill => ?_⟩, fun k c0 hreq hacq hne hk => ?_,
    fun hacq hmode hrec harmed hfill => ?_, fun start hrec => ?_⟩
  · intro r hspans hgap
    have hlen : n < r.tracers.length := hs.length_takeRaw hn raw
    refine ⟨fun hfree => ?_, fun hfull => ⟨⟨_, exec_blockClose hn hstart hend true, ?_⟩, fun hring => ⟨_, exec_blockClose hn hstart hend false, ?_⟩⟩⟩
    · obtain ⟨hfullKept, hendedKept, hflushKept⟩ := State.closeBlock_kept hlen hspans hgap hfree
      refine ⟨fun hfull => ⟨_, exec_blockClose hn hstart hend false, hfullKept hfull⟩,
        fun hfull hstop hne => ⟨_, exec_blockClose hn hstart hend false, hendedKept hfull hstop hne⟩,
        fun hfull hstop => ⟨?_, fun havail => ⟨_, exec_blockFlush hn hstart hend false, hflushKept hfull hstop havail⟩⟩⟩
      rw [exec_blockClose hn hstart hend false, State.closeBlock_open hspans hgap hfull hstop]
    · exact State.closeBlock_lost hlen hspans hgap hfull rfl
    · exact State.closeBlock_lost hlen hspans hgap hfull hring
  · exact exec_rateRaise hs hn hstart hend hacq hmode hk hfill hagain
  · exact exec_rateLower hs hn hstart hend hacq hmode hk hfill
  · exact exec_avgFactorChange hs hn hstart hend c0 hreq hacq hne hk rfl
  · obtain ⟨t, hexec, harmedC, hshown, hdead, hnow, hkeeps⟩ := exec_rearmInstant hs hn hstart hend hacq hmode hrec harmed hfill rfl
    refine ⟨t, hexec, harmedC, hshown, hdead, hnow, hkeeps.mono fun j hj => ?_⟩
    simpa only [keyIn, List.map_cons, List.map_nil, ← Nat.add_assoc] using hj
  · exact exec_recordEnd hs hn hstart hend hrec rfl

end Sys2Proof.Machine
end

section
/-! Time-domain passes of a capture channel: begun by a trigger or at their own sample, or counted as overlaps; and the first violation of a
pass, told in its judging cycle (R278 to R280). -/
namespace Sys2Proof.Machine
open Sys2Proof
variable {s t : State} {n q x off : Nat} {a : Int} {p : TdPass} {e : Nat × List Excess} {l : List (Nat × List Excess)} {raw : List Int}
  {rest : List (Nat × Nat)}

/-! ### The page of a channel's stencils (R483) -/

theorem le_sten_add (n x : Nat) : 0x24000 ≤ base (pSTEN n) + x := by
  unfold base pSTEN
  omega

theorem not_noticeKey_sten (hn : n < 4) (hoff : off < 0x1000) : ¬ noticeKey (base (pSTEN n) + off) :=
  not_noticeKey_of_lt (by unfold base pSTEN; omega)

/-! ### A pass that ends keeps what it shows (R280) -/

/-- Of a record's pass: its anchor, its bank, the cycle that took its trigger, and whether its violation has been told. -/
def Tracer.passShown (v : Tracer) : Option (Int × Nat × Nat × Bool) := v.pass.map (fun p => (p.anchor, p.bank, p.taken, p.told))

/-- From `s` to `t` the pass of channel `n` may have ended: the record alone changes, in whether it has, and in its marks. -/
def State.PassWent (n : Nat) (s t : State) : Prop :=
  ∃ g : Tracer → Tracer, t = s.updTrc n g
    ∧ (g (s.trc n)).passShown = (s.trc n).passShown ∧ (g (s.trc n)).tdPend = (s.trc n).tdPend ∧ (g (s.trc n)).tdNext = (s.trc n).tdNext

theorem State.PassWent.refl (n : Nat) (s : State) : State.PassWent n s s :=
  ⟨id, by rw [State.updTrc, List.modify_id], rfl, rfl, rfl⟩

theorem State.passWent_passMark (s : State) (n : Nat) : State.PassWent n s (s.passMark n) := by
  rw [State.passMark]
  split
  · exact State.PassWent.refl n s
  · next p hpass =>
    have hshown : (s.trc n).passShown = some (p.anchor, p.bank, p.taken, p.told) := congrArg (Option.map _) hpass
    split
    · exact State.PassWent.refl n s
    · split
      · exact ⟨_, rfl, hshown.symm, rfl, rfl⟩
      · split
        · exact ⟨_, State.updTrc_updTrc .., hshown.symm, rfl, rfl⟩
        · exact ⟨_, rfl, hshown.symm, rfl, rfl⟩

theorem State.passWent_passDone (s : State) (n : Nat) : State.PassWent n s (s.passDone n) := by
  rw [State.passDone]
  split
  · split
    · exact s.passWent_passMark n
    · exact State.PassWent.refl n s
  · exact State.PassWent.refl n s

/-! ### A pass begins (R278) -/

/-- From `s` to `t` a pass of channel `n` with anchor `a` has begun, its trigger taken in CF cycle `q`, and is counted. -/
structure State.PassBegun (n : Nat) (a : Int) (q : Nat) (s t : State) : Prop where
  shown : (t.trc n).passShown = some (a, s.fg (base (pSTEN n)) STEN_TD_CFG_BANK, q, false)
  tdPend : (t.trc n).tdPend = (s.trc n).tdPend
  tdNext : (t.trc n).tdNext = (s.trc n).tdNext
  now : t.now = s.now
  counted : t.fg (base (pSTEN n)) STEN_TD_PASS_COUNT_COUNT = satAdd 0xFFFFFFFF (s.fg (base (pSTEN n)) STEN_TD_PASS_COUNT_COUNT) 1
  keeps : s.KeepsBut t (fun j => j = base (pSTEN n) + STEN_TD_PASS_COUNT)

theorem State.PassBegun.went {u : State} (hn : n < t.tracers.length) (h : State.PassBegun n a q s t) (hwent : State.PassWent n t u) :
    State.PassBegun n a q s u := by
  obtain ⟨g, rfl, hshown, hpend, hnext⟩ := hwent
  have htrc := State.trc_updTrc hn g
  exact {
    shown := by rw [htrc, hshown, h.shown]
    tdPend := by rw [htrc, hpend, h.tdPend]
    tdNext := by rw [htrc, hnext, h.tdNext]
    now := h.now
    counted := h.counted
    keeps := h.keeps.updTrc n g }

/-- A pass as it begins. -/
def TdPass.begun (a : Int) (bank q : Nat) : TdPass := { anchor := a, bank := bank, taken := q, told := false, ended := false }

/-- Where no pass has been, none is judged or ended first. -/
theorem State.passStart_of_none (hnone : (s.trc n).pass = none) : s.passStart n a q
    = (s.updTrc n (fun v => { v with pass := some (.begun a (s.fg (base (pSTEN n)) STEN_TD_CFG_BANK) q) })).count (base (pSTEN n))
        STEN_TD_PASS_COUNT_COUNT := by
  have hjudge : s.judgePass n = s := by rw [State.judgePass, hnone]
  have hmark : s.passMark n = s := by rw [State.passMark, hnone]
  rw [State.passStart, hjudge, hmark]
  rfl

theorem State.length_passStart (hnone : (s.trc n).pass = none) : (s.passStart n a q).tracers.length = s.tracers.length := by
  rw [State.passStart_of_none hnone, State.count_tracers, State.length_updTrc]

theorem State.passBegun_passStart (hn : n < s.tracers.length) (hnone : (s.trc n).pass = none) :
    State.PassBegun n a q s (s.passStart n a q) := by
  let h (v : Tracer) : Tracer := { v with pass := some (.begun a (s.fg (base (pSTEN n)) STEN_TD_CFG_BANK) q) }
  have htrc : (s.passStart n a q).trc n = h (s.trc n) := by
    rw [State.passStart_of_none hnone, State.trc_congr (State.count_tracers ..)]
    exact State.trc_updTrc hn h
  constructor
  case shown => exact congrArg Tracer.passShown htrc
  case tdPend => rw [htrc]
  case tdNext => rw [htrc]
  all_goals rw [State.passStart_of_none hnone]
  case now => exact State.count_now ..
  case counted => exact State.fg_count_self (by decide)
  case keeps => exact (s.updTrc n h).keepsBut_count (base (pSTEN n)) STEN_TD_PASS_COUNT_COUNT

/-! ### TD_PASS_START, by its anchor (R278) -/

/-- The oldest trigger that waits starts a pass. -/
theorem exec_tdPassStart_trigger (hs : s.Inv) (hn : n < s.variant.caps) (hstart : (s.trc n).startAt = none) (hend : (s.trc n).endAt = none)
    (hanchor : s.fb (base (pSTEN n)) STEN_TD_CFG_ANCHOR = false) (hpend : (s.trc n).tdPend = (x, q) :: rest) (hnone : (s.trc n).pass = none) :
    ∃ t : State, exec (.tdPassStart n) s = .next t ∧ (t.trc n).tdPend = rest
      ∧ State.PassBegun n ((x : Int) - s.fg (base (pSTEN n)) STEN_TD_PRE_VALUE) q (s.updTrc n (fun v => { v with tdPend := rest })) t := by
  let u := s.updTrc n (fun v => { v with tdPend := rest })
  have hu : u.trc n = { s.trc n with tdPend := rest } := State.trc_updTrc (hs.cap_lt hn) _
  have hulen : n < u.tracers.length := (s.length_updTrc n _).symm ▸ hs.cap_lt hn
  have hunone : (u.trc n).pass = none := by rw [hu, hnone]
  have hpass : s.tdPass n = (u.passStart n ((x : Int) - s.fg (base (pSTEN n)) STEN_TD_PRE_VALUE) q).passDone n := by
    rw [State.tdPass, hpend, hnone, hanchor]
    rfl
  have hbegun := (State.passBegun_passStart hulen hunone).went (State.length_passStart hunone ▸ hulen)
    (State.passWent_passDone (u.passStart n ((x : Int) - s.fg (base (pSTEN n)) STEN_TD_PRE_VALUE) q) n)
  refine ⟨_, (State.onCap_idle hn hstart hend (·.tdPass n)).trans (congrArg Host.Outcome.next hpass), ?_, hbegun⟩
  rw [hbegun.tdPend, hu]

/-- A trigger whose anchor falls before the end of the pass in progress is counted, and starts nothing. -/
theorem exec_tdPassStart_overlap (hs : s.Inv) (hn : n < s.variant.caps) (hstart : (s.trc n).startAt = none) (hend : (s.trc n).endAt = none)
    (hanchor : s.fb (base (pSTEN n)) STEN_TD_CFG_ANCHOR = false) (hpend : (s.trc n).tdPend = (x, q) :: rest) (hpass : (s.trc n).pass = some p)
    (hbefore : (x : Int) - s.fg (base (pSTEN n)) STEN_TD_PRE_VALUE < s.passEndAt n p) :
    ∃ t : State, exec (.tdPassStart n) s = .next t ∧ (t.trc n).pass = some p ∧ (t.trc n).tdPend = rest
      ∧ t.fg (base (pSTEN n)) STEN_TD_OVERLAP_COUNT_COUNT = satAdd 0xFFFFFFFF (s.fg (base (pSTEN n)) STEN_TD_OVERLAP_COUNT_COUNT) 1
      ∧ s.KeepsBut t (fun j => j = base (pSTEN n) + STEN_TD_OVERLAP_COUNT) := by
  let u := s.updTrc n (fun v => { v with tdPend := rest })
  have hover : s.tdPass n = u.count (base (pSTEN n)) STEN_TD_OVERLAP_COUNT_COUNT := by
    rw [State.tdPass, hpend, hpass, hanchor]
    exact if_pos (decide_eq_true hbefore)
  have htrc : (u.count (base (pSTEN n)) STEN_TD_OVERLAP_COUNT_COUNT).trc n = { s.trc n with tdPend := rest } := by
    rw [State.trc_congr (State.count_tracers ..)]
    exact State.trc_updTrc (hs.cap_lt hn) _
  refine ⟨_, (State.onCap_idle hn hstart hend (·.tdPass n)).trans (congrArg Host.Outcome.next hover), ?_, congrArg Tracer.tdPend htrc,
    State.fg_count_self (by decide), u.keepsBut_count (base (pSTEN n)) STEN_TD_OVERLAP_COUNT_COUNT⟩
  rw [htrc, hpass]

/-- Under PERIODIC the next pass starts at its own sample `c`. -/
theorem exec_tdPassStart_periodic {c : Nat} (hs : s.Inv) (hn : n < s.variant.caps) (hstart : (s.trc n).startAt = none)
    (hend : (s.trc n).endAt = none) (hanchor : s.fb (base (pSTEN n)) STEN_TD_CFG_ANCHOR = true)
    (hen : s.fb (base (pSTEN n)) STEN_TD_CFG_EN = true) (hacq : s.acquiring n = true) (hnone : (s.trc n).pass = none)
    (hc : s.fg (base (pSTEN n)) STEN_TD_PHASE_VALUE + (s.trc n).tdNext * s.fg (base (pSTEN n)) STEN_TD_PERIOD_VALUE = c) :
    ∃ t : State, exec (.tdPassStart n) s = .next t ∧ (t.trc n).tdNext = (s.trc n).tdNext + 1
      ∧ State.PassBegun n c 0 ((s.toCycle n (c / 8)).updTrc n (fun v => { v with tdNext := v.tdNext + 1 })) t := by
  let u := (s.toCycle n (c / 8)).updTrc n (fun v => { v with tdNext := v.tdNext + 1 })
  have hulen : n < u.tracers.length := (State.length_updTrc (s.toCycle n (c / 8)) n _).symm ▸ hs.cap_lt hn
  have hu : u.trc n = { s.trc n with tdNext := (s.trc n).tdNext + 1 } := State.trc_updTrc (s := s.toCycle n (c / 8)) (hs.cap_lt hn) _
  have hunone : (u.trc n).pass = none := by rw [hu, hnone]
  have hdue : (s.toCycle n (c / 8)).endDue n = s.toCycle n (c / 8) := State.endDue_of_none hend
  have hpass : s.tdPass n = u.passStart n c 0 := by
    rw [State.tdPass, hanchor, hen, hacq, hc]
    dsimp only
    rw [hdue]
    exact if_pos hacq
  have hbegun := State.passBegun_passStart (a := c) (q := 0) hulen hunone
  refine ⟨_, (State.onCap_idle hn hstart hend (·.tdPass n)).trans (congrArg Host.Outcome.next hpass), ?_, hbegun⟩
  rw [hbegun.tdNext, hu]

/-! ### A violation told (R280, R285) -/

/-- What a stencil's violation tells: an event of `prod` under ACT_EVENT, and a notice unless its bit stands. -/
def State.violTold (t : State) (n prod code : Nat) (event : Bool) (m : Notice) : State :=
  (if event then t.publishBy prod else t).stencilNote n code m

theorem State.keepsBut_stencilNote (t : State) (n code : Nat) (m : Notice) : t.KeepsBut (t.stencilNote n code m) noticeKey :=
  t.keepsBut_notify_unless _ m

theorem State.stencilNote_still (t : State) (n code : Nat) (m : Notice) :
    (t.stencilNote n code m).tracers = t.tracers ∧ (t.stencilNote n code m).now = t.now := by
  unfold State.stencilNote
  split
  · exact ⟨rfl, rfl⟩
  · exact ⟨State.notify_tracers .., State.notify_now ..⟩

theorem State.violTold_still (t : State) (n prod code : Nat) (event : Bool) (m : Notice) :
    (t.violTold n prod code event m).tracers = t.tracers ∧ (t.violTold n prod code event m).now = t.now := by
  obtain ⟨htracers, hnow⟩ := (if event then t.publishBy prod else t).stencilNote_still n code m
  rw [State.violTold, htracers, hnow]
  cases event
  · exact ⟨rfl, rfl⟩
  · exact ⟨t.publishBy_tracers prod, t.publishBy_now prod⟩

theorem State.keepsBut_violTold (t : State) (n prod code : Nat) (event : Bool) (m : Notice) :
    t.KeepsBut (t.violTold n prod code event m) (fun j => fabricKey j ∨ noticeKey j) := by
  refine State.KeepsBut.trans ?_ (State.keepsBut_stencilNote _ n code m)
  cases event
  · exact t.keepsBut_refl _
  · exact t.keepsBut_publishBy prod

/-- No register of a stencil page tells of a violation. -/
theorem not_told_sten (hn : n < 4) (hoff : off < 0x1000) : ¬ (fabricKey (base (pSTEN n) + off) ∨ noticeKey (base (pSTEN n) + off)) :=
  not_or.mpr ⟨not_fabricKey_of_ge (le_sten_add n off), not_noticeKey_sten hn hoff⟩

/-- A pair of a stencil page reads the same where a violation has been told. -/
theorem State.KeepsBut.rd64_sten (h : s.KeepsBut t (fun j => fabricKey j ∨ noticeKey j)) (hn : n < 4) (hoff : off + 4 < 0x1000) :
    t.rd64 (base (pSTEN n) + off) = s.rd64 (base (pSTEN n) + off) := by
  refine h.rd64 (not_told_sten hn (by omega)) ?_
  rw [Nat.add_assoc]
  exact not_told_sten hn hoff

/-- What telling writes are records of the fabric's channels and notices. -/
theorem State.KeepsBut.told {k k' : Nat → Prop} (h : s.KeepsBut t (fun j => k j ∨ fabricKey j ∨ noticeKey j)) (hk : ∀ j, k j → k' j) :
    s.KeepsBut t (fun j => k' j ∨ chanKey j ∨ noticeKey j) :=
  h.mono fun j hj => hj.imp (hk j) (·.imp_left fabricKey.chanKey)

/-! ### The first violation of a pass (R280) -/

/-- The record with the violation of its pass told. -/
def Tracer.withTold (v : Tracer) : Tracer := { v with pass := v.pass.map (fun w => { w with told := true }) }

/-- The violation at raw sample `c` counted and latched. -/
def State.violLatched (s : State) (n c : Nat) : State :=
  ((s.updTrc n Tracer.withTold).count (base (pSTEN n)) STEN_TD_VIOL_COUNT_COUNT).wr64 (base (pSTEN n) + STEN_TD_LAST_C) c

theorem State.violLatched_still (s : State) (n c : Nat) :
    (s.violLatched n c).tracers = (s.updTrc n Tracer.withTold).tracers ∧ (s.violLatched n c).now = s.now :=
  ⟨(State.wr64_tracers ..).trans (State.count_tracers ..), (State.wr64_now ..).trans (State.count_now ..)⟩

theorem State.keepsBut_violLatched (s : State) (n c : Nat) : s.KeepsBut (s.violLatched n c)
    (keyIn (base (pSTEN n)) [STEN_TD_VIOL_COUNT, STEN_TD_LAST_C, STEN_TD_LAST_C + 4]) :=
  (((s.keepsBut_refl _).updTrc n Tracer.withTold).count (keyIn_add.mpr (by decide))).wr64 (keyIn_add.mpr (by decide))
    (keyIn_add_four.mpr (by decide))

theorem State.count_violLatched (s : State) (n c : Nat) : (s.violLatched n c).fg (base (pSTEN n)) STEN_TD_VIOL_COUNT_COUNT
    = satAdd 0xFFFFFFFF (s.fg (base (pSTEN n)) STEN_TD_VIOL_COUNT_COUNT) 1 := by
  rw [State.violLatched, (State.keepsBut_wr64 ..).fg fun h => absurd (show STEN_TD_VIOL_COUNT_COUNT.off = STEN_TD_LAST_C
    ∨ STEN_TD_VIOL_COUNT_COUNT.off = STEN_TD_LAST_C + 4 by omega) (by decide), State.fg_count_self (by decide)]
  rfl

/-- The first violating sample of a pass is told once, in its judging cycle. -/
theorem State.judgePass_violating (hend : (s.trc n).endAt = none) (hpass : (s.trc n).pass = some p) (htold : p.told = false)
    (hviols : s.passViols n p = e :: l) (hstop : s.fb (base (pSTEN n)) STEN_TD_CFG_ACT_STOP = false) :
    ∃ m : Notice, s.judgePass n
      = ((s.toCycle n (max (e.1 / 8) p.taken + s.fg (base (pSTEN n)) STEN_LATENCY_TD_CF)).violLatched n e.1).violTold n (0x700 + n) 0
          (s.fb (base (pSTEN n)) STEN_TD_CFG_ACT_EVENT) m := by
  have hdue : (s.toCycle n (max (e.1 / 8) p.taken + s.fg (base (pSTEN n)) STEN_LATENCY_TD_CF)).endDue n
      = s.toCycle n (max (e.1 / 8) p.taken + s.fg (base (pSTEN n)) STEN_LATENCY_TD_CF) := State.endDue_of_none hend
  rw [State.judgePass, hpass]
  dsimp only
  rw [htold, hviols]
  dsimp only
  rw [hdue]
  exact ⟨_, if_neg (ne_true_of_eq_false hstop)⟩

/-- The samples `raw` bring the first violation of a pass. -/
theorem exec_tdViolation (hs : s.Inv) (hn : n < s.variant.caps) (hstart : (s.trc n).startAt = none) (hend : (s.trc n).endAt = none)
    {r : State} (hr : s.takeRaw n raw = r) (hrend : (r.trc n).endAt = none) (hpass : (r.trc n).pass = some p) (htold : p.told = false)
    (hviols : r.passViols n p = e :: l) (hlt : e.1 < 2 ^ 64) (hstop : r.fb (base (pSTEN n)) STEN_TD_CFG_ACT_STOP = false) :
    ∃ t : State, exec (.tdViolation n raw) s = .next t ∧ t.rd64 (base (pSTEN n) + STEN_TD_LAST_C) = e.1
      ∧ t.fg (base (pSTEN n)) STEN_TD_VIOL_COUNT_COUNT = satAdd 0xFFFFFFFF (r.fg (base (pSTEN n)) STEN_TD_VIOL_COUNT_COUNT) 1
      ∧ (t.trc n).passShown = some (p.anchor, p.bank, p.taken, true)
      ∧ t.now = max r.now (r.cycTick n (max (e.1 / 8) p.taken + r.fg (base (pSTEN n)) STEN_LATENCY_TD_CF))
      ∧ r.KeepsBut t (fun j => keyIn (base (pSTEN n)) [STEN_TD_VIOL_COUNT, STEN_TD_LAST_C, STEN_TD_LAST_C + 4] j
          ∨ fabricKey j ∨ noticeKey j) := by
  have h4 := hs.cap_lt_four hn
  have hlen : n < r.tracers.length := hr ▸ hs.length_takeRaw hn raw
  obtain ⟨m, hjudge⟩ := State.judgePass_violating hrend hpass htold hviols hstop
  let u := r.toCycle n (max (e.1 / 8) p.taken + r.fg (base (pSTEN n)) STEN_LATENCY_TD_CF)
  let t := (u.violLatched n e.1).violTold n (0x700 + n) 0 (r.fb (base (pSTEN n)) STEN_TD_CFG_ACT_EVENT) m
  have htell : (u.violLatched n e.1).KeepsBut t _ := State.keepsBut_violTold ..
  obtain ⟨htracers, hnow⟩ := (u.violLatched n e.1).violTold_still n (0x700 + n) 0 (r.fb (base (pSTEN n)) STEN_TD_CFG_ACT_EVENT) m
  obtain ⟨hlatched, hnow'⟩ := u.violLatched_still n e.1
  have htrc : t.trc n = (r.trc n).withTold := (State.trc_congr (htracers.trans hlatched)).trans (State.trc_updTrc (s := u) hlen _)
  refine ⟨t, ?_, ?_, ?_, ?_, hnow.trans hnow', ?_⟩
  · rw [show t = r.judgePass n from hjudge.symm, ← hr]
    exact State.onCap_idle hn hstart hend (fun t => (t.takeRaw n raw).judgePass n)
  · exact (htell.rd64_sten h4 (by decide)).trans (State.rd64_wr64 _ _ hlt)
  · exact (htell.fg (not_told_sten h4 (by decide))).trans (u.count_violLatched n e.1)
  · rw [htrc, Tracer.withTold, hpass]
    rfl
  · exact (u.keepsBut_violLatched n e.1).trans htell

end Sys2Proof.Machine
end

section
/-! The verdict of the spectral stencil: what a frame or a group leaves that is within its mask, and one beyond it that makes the run longer than
CONSEC (R281 to R285). -/
namespace Sys2Proof.Machine
open Sys2Proof
variable {r s t : State} {n f m bank first last run : Nat} {raw levels : List Int} {bad : List (Nat × List Excess)} {mask : List Vertex}

/-! ### Levels do not depend on what has been judged (R282) -/

theorem State.rawAt_congr (hraw : (t.trc n).raw = (s.trc n).raw) (hacq : (t.trc n).acq = (s.trc n).acq) (c : Nat) : t.rawAt n c = s.rawAt n c := by
  rw [State.rawAt, hraw, hacq, State.rawAt]

/-- With the samples and every register the same, the levels are the same. -/
theorem State.levels_congr (hkept : s.KeepsBut t (fun _ => False)) (hraw : (t.trc n).raw = (s.trc n).raw)
    (hacq : (t.trc n).acq = (s.trc n).acq) (hc : (t.trc n).c = (s.trc n).c) : t.levels n f m = s.levels n f m := by
  have hfg (b : Nat) (x : Field) : t.fg b x = s.fg b x := hkept.fg id
  have hfb (b : Nat) (x : Field) : t.fb b x = s.fb b x := congrArg (· != 0) (hfg b x)
  have hat (c : Nat) : t.rawAt n c = s.rawAt n c := State.rawAt_congr hraw hacq c
  have hdecim : t.decim n = s.decim n := by rw [State.decim, show t.ddcOn n = s.ddcOn n from hfb .., hfg, State.decim]
  have hphase (c : Nat) : t.ddcPhase n c = s.ddcPhase n c := by simp only [State.ddcPhase, hfg, hkept.rd64 id id]
  have hzero (c : Int) : t.rawOrZero n c = s.rawOrZero n c := by
    rw [State.rawOrZero, show t.acquiring n = s.acquiring n from hfb .., hc, hat, State.rawOrZero]
  have hmixed (c : Int) : t.ddcMixed n c = s.ddcMixed n c := by simp only [State.ddcMixed, hzero, hphase]
  have hinput (d : Bool) (k : Nat) : t.inputAt n d k = s.inputAt n d k := by
    simp only [State.inputAt, State.ddcOut, hdecim, hmixed, hat]
  have hframe (k : Nat) : t.frameAt n k = s.frameAt n k := by simp only [State.frameAt, State.hop, hfg, hfb, hinput]
  simp only [State.levels, State.bins, hfg, hfb, hframe]

/-! ### The bins beyond a mask (R283) -/

/-- The bins whose level passes a limit of the mask, with the limits they pass. -/
def beyondBins (mask : List Vertex) (levels : List Int) : List (Nat × List Excess) :=
  (((List.range levels.length).zip levels).map (fun e => (e.1, excesses mask e.2 e.1))).filter (fun e => !e.2.isEmpty)

theorem mem_range_zip {i : Nat} {x : Int} : (i, x) ∈ (List.range levels.length).zip levels ↔ ∃ h : i < levels.length, levels[i] = x := by
  simp only [List.mem_iff_getElem, List.length_zip, List.length_range, Nat.min_self, List.getElem_zip, List.getElem_range, Prod.mk.injEq]
  constructor
  · rintro ⟨k, hk, rfl, hx⟩
    exact ⟨hk, hx⟩
  · rintro ⟨h, hx⟩
    exact ⟨i, h, rfl, hx⟩

theorem beyondBins_eq_nil_iff :
    beyondBins mask levels = [] ↔ ¬ ∃ i, ∃ h : i < levels.length, excesses mask levels[i] i ≠ [] := by
  rw [beyondBins, List.filter_eq_nil_iff, List.forall_mem_map]
  constructor
  · rintro hnone ⟨i, h, hne⟩
    exact hnone (i, levels[i]) (mem_range_zip.mpr ⟨h, rfl⟩) (by simpa using hne)
  · rintro hnone ⟨i, x⟩ he hne
    obtain ⟨h, rfl⟩ := mem_range_zip.mp he
    exact hnone ⟨i, h, by simpa using hne⟩

/-! ### A verdict (R285) -/

/-- The next verdict of channel `n` judges `m` frames from `f` on: their inputs are formed, and the stencil was enabled as they began. -/
structure State.VerdictDue (s : State) (n f m : Nat) : Prop where
  next : s.nextVerdict n = (f, m)
  unended : (s.trc n).endAt = none
  ready : s.frameReady n (f + m - 1) = true
  enabled : (s.spSetAt n (s.frameSpan n f).1).1 = true

/-- The bins of `m` frames from `f` on that are beyond bank `bank` of the mask. -/
def State.binsBeyond (s : State) (n f m bank : Nat) : List (Nat × List Excess) := beyondBins (s.mask n bank true) (s.levels n f m)

/-- The bank in force as the frames of a verdict began. -/
def State.verdictBank (s : State) (n f : Nat) : Nat := (s.spSetAt n (s.frameSpan n f).1).2

/-- The frames judged and counted, with the run of violations then. -/
def State.framesCounted (s : State) (n m run : Nat) : State :=
  (s.updTrc n (fun v => { v with spRun := run })).countBy (base (pSTEN n)) STEN_SP_FRAME_COUNT_COUNT m

/-- What the verdict on `m` frames from `f` on does in its cycle: the frames are counted, and a run longer than CONSEC is a violation. -/
def State.judgeFrames (s : State) (n f m bank first last : Nat) : State :=
  let bad := s.binsBeyond n f m bank
  let run := if bad.isEmpty then 0 else (s.trc n).spRun + 1
  let t := s.framesCounted n m run
  if bad.isEmpty || decide (run ≤ s.fg (base (pSTEN n)) STEN_SP_CFG_CONSEC) then t else t.spectralHit n f first last bad

theorem State.judgeFrames_within (hbins : s.binsBeyond n f m bank = []) : s.judgeFrames n f m bank first last = s.framesCounted n m 0 := by
  rw [State.judgeFrames, hbins]
  rfl

theorem State.judgeFrames_beyond (hbins : s.binsBeyond n f m bank ≠ [])
    (hconsec : s.fg (base (pSTEN n)) STEN_SP_CFG_CONSEC ≤ (s.trc n).spRun) : s.judgeFrames n f m bank first last
      = (s.framesCounted n m ((s.trc n).spRun + 1)).spectralHit n f first last (s.binsBeyond n f m bank) := by
  have hsome : (s.binsBeyond n f m bank).isEmpty = false := by simpa using hbins
  have hlong : ¬ (s.trc n).spRun + 1 ≤ s.fg (base (pSTEN n)) STEN_SP_CFG_CONSEC := by omega
  rw [State.judgeFrames, hsome]
  exact if_neg (mt of_decide_eq_true hlong)

theorem State.trc_framesCounted (hn : n < s.tracers.length) : (s.framesCounted n m run).trc n = { s.trc n with spRun := run } := by
  rw [State.framesCounted, State.trc_congr (State.countBy_tracers ..), State.trc_updTrc hn]

theorem State.length_framesCounted : (s.framesCounted n m run).tracers.length = s.tracers.length := by
  rw [State.framesCounted, State.countBy_tracers, State.length_updTrc]

theorem State.keepsBut_framesCounted (s : State) (n m run : Nat) :
    s.KeepsBut (s.framesCounted n m run) (fun j => j = base (pSTEN n) + STEN_SP_FRAME_COUNT) :=
  (s.updTrc n (fun v => { v with spRun := run })).keepsBut_countBy (base (pSTEN n)) STEN_SP_FRAME_COUNT_COUNT m

theorem State.count_framesCounted : (s.framesCounted n m run).fg (base (pSTEN n)) STEN_SP_FRAME_COUNT_COUNT
    = satAdd 0xFFFFFFFF (s.fg (base (pSTEN n)) STEN_SP_FRAME_COUNT_COUNT) m :=
  (s.updTrc n (fun v => { v with spRun := run })).fg_countBy_self (base (pSTEN n)) STEN_SP_FRAME_COUNT_COUNT m (by decide)

/-- The cycle of the verdict on `m` frames from `f` on, which leaves the frames before `f + m` judged. -/
def State.verdictState (s : State) (n f m : Nat) : State :=
  (s.updTrc n (fun v => { v with spNext := f + m })).toCycle n (s.verdictCycle n (f + m - 1))

theorem State.trc_verdictState (hn : n < s.tracers.length) : (s.verdictState n f m).trc n = { s.trc n with spNext := f + m } :=
  State.trc_updTrc (s := s) hn (fun v => { v with spNext := f + m })

theorem State.length_verdictState : (s.verdictState n f m).tracers.length = s.tracers.length :=
  s.length_updTrc n (fun v => { v with spNext := f + m })

theorem State.keepsBut_verdictState (s : State) (n f m : Nat) : s.KeepsBut (s.verdictState n f m) (fun _ => False) :=
  s.keepsBut_updTrc n (fun v => { v with spNext := f + m })

theorem State.binsBeyond_verdictState (hn : n < s.tracers.length) (bank : Nat) :
    (s.verdictState n f m).binsBeyond n f m bank = s.binsBeyond n f m bank := by
  have hu := State.trc_verdictState (f := f) (m := m) hn
  have hlevels : (s.verdictState n f m).levels n f m = s.levels n f m :=
    State.levels_congr (s.keepsBut_verdictState n f m) (by rw [hu]) (by rw [hu]) (by rw [hu])
  rw [State.binsBeyond, hlevels]
  rfl

/-- A verdict that is due is made in its cycle. -/
theorem State.spectral_due (hn : n < s.tracers.length) (hdue : s.VerdictDue n f m) : s.spectral n
    = (s.verdictState n f m).judgeFrames n f m (s.verdictBank n f) (s.frameSpan n f).1 (s.frameSpan n (f + m - 1)).2 := by
  obtain ⟨hnext, hend, hready, hen⟩ := hdue
  have hunended : (s.verdictState n f m).endDue n = s.verdictState n f m :=
    State.endDue_of_none (by rw [State.trc_verdictState hn]; exact hend)
  have heq : s.spectral n = if !s.frameReady n (f + m - 1) then s else if !(s.spSetAt n (s.frameSpan n f).1).1 then s.verdictState n f m
      else ((s.verdictState n f m).endDue n).judgeFrames n f m (s.verdictBank n f) (s.frameSpan n f).1 (s.frameSpan n (f + m - 1)).2 := by
    rw [State.spectral, hnext]
    rfl
  rw [heq, hready, hen, hunended]
  rfl

/-! ### A violation that counts (R285) -/

/-- A violation counted and latched: its first raw sample `first`, and the worst bin with its excess. -/
def State.hitLatched (s : State) (n first : Nat) (worst : Nat × Nat) : State :=
  (((s.count (base (pSTEN n)) STEN_SP_VIOL_COUNT_COUNT).wr64 (base (pSTEN n) + STEN_SP_LAST_C) first).fs (base (pSTEN n)) STEN_SP_LAST_EXCESS
    (min 65535 worst.2)).fs (base (pSTEN n)) STEN_SP_LAST_BIN worst.1

theorem State.hitLatched_tracers (s : State) (n first : Nat) (worst : Nat × Nat) : (s.hitLatched n first worst).tracers = s.tracers := by
  simp [State.hitLatched]

theorem State.keepsBut_hitLatched (s : State) (n first : Nat) (worst : Nat × Nat) : s.KeepsBut (s.hitLatched n first worst)
    (keyIn (base (pSTEN n)) [STEN_SP_VIOL_COUNT, STEN_SP_LAST_C, STEN_SP_LAST_C + 4, STEN_SP_LAST]) :=
  ((((s.keepsBut_refl _).count (keyIn_add.mpr (by decide))).wr64 (keyIn_add.mpr (by decide)) (keyIn_add_four.mpr (by decide))).fs
    (keyIn_add.mpr (by decide))).fs (keyIn_add.mpr (by decide))

/-- What follows the pair latched: the two fields of SP_LAST. -/
theorem State.keepsBut_hitLatched_pair (s : State) (n first : Nat) (worst : Nat × Nat) :
    ((s.count (base (pSTEN n)) STEN_SP_VIOL_COUNT_COUNT).wr64 (base (pSTEN n) + STEN_SP_LAST_C) first).KeepsBut (s.hitLatched n first worst)
      (keyIn (base (pSTEN n)) [STEN_SP_LAST]) :=
  ((State.keepsBut_refl ..).fs (keyIn_add.mpr (by decide))).fs (keyIn_add.mpr (by decide))

theorem State.count_hitLatched (s : State) (n first : Nat) (worst : Nat × Nat) :
    (s.hitLatched n first worst).fg (base (pSTEN n)) STEN_SP_VIOL_COUNT_COUNT
      = satAdd 0xFFFFFFFF (s.fg (base (pSTEN n)) STEN_SP_VIOL_COUNT_COUNT) 1 := by
  rw [(s.keepsBut_hitLatched_pair n first worst).fg fun h => absurd (keyIn_add.mp h) (by decide),
    (State.keepsBut_wr64 ..).fg fun h => absurd (show STEN_SP_VIOL_COUNT_COUNT.off = STEN_SP_LAST_C
      ∨ STEN_SP_VIOL_COUNT_COUNT.off = STEN_SP_LAST_C + 4 by omega) (by decide), State.fg_count_self (by decide)]
  rfl

theorem State.first_hitLatched (s : State) (worst : Nat × Nat) (hlt : first < 2 ^ 64) :
    (s.hitLatched n first worst).rd64 (base (pSTEN n) + STEN_SP_LAST_C) = first :=
  ((s.keepsBut_hitLatched_pair n first worst).rd64 (fun h => absurd (keyIn_add.mp h) (by decide))
    fun h => absurd (keyIn_add_four.mp h) (by decide)).trans (State.rd64_wr64 _ _ hlt)

/-- From `s` to `t` the packer of channel `n` may have a further mark, and nothing else has changed. -/
def State.MarkWent (n : Nat) (s t : State) : Prop := t = s ∨ ∃ k : Mark, t = s.pushMark n k

theorem State.MarkWent.keepsBut (h : State.MarkWent n s t) : s.KeepsBut t (fun _ => False) := by
  obtain rfl | ⟨k, rfl⟩ := h
  · exact State.keepsBut_refl ..
  · exact s.keepsBut_pushMark n k

theorem State.MarkWent.spectral (hn : n < s.tracers.length) (h : State.MarkWent n s t) :
    (t.trc n).spRun = (s.trc n).spRun ∧ (t.trc n).spNext = (s.trc n).spNext := by
  obtain rfl | ⟨k, rfl⟩ := h
  · exact ⟨rfl, rfl⟩
  · rw [State.trc_pushMark hn]
    exact ⟨rfl, rfl⟩

/-- Without ACT_STOP and ACT_TRIG a violation that counts is latched, may be marked, and is told. -/
theorem State.spectralHit_told (hstop : s.fb (base (pSTEN n)) STEN_SP_CFG_ACT_STOP = false)
    (htrig : s.fb (base (pSTEN n)) STEN_SP_CFG_ACT_TRIG = false) :
    ∃ (worst : Nat × Nat) (t : State) (note : Notice), State.MarkWent n (s.hitLatched n first worst) t
      ∧ s.spectralHit n f first last bad = t.violTold n (0x800 + n) 1 (s.fb (base (pSTEN n)) STEN_SP_CFG_ACT_EVENT) note := by
  rw [State.spectralHit]
  dsimp only
  rw [htrig, hstop]
  refine ⟨worstBin bad, _, _, ?_, rfl⟩
  split
  · exact .inr ⟨_, rfl⟩
  · exact .inl rfl

/-- What a violation that counts leaves. -/
structure State.HitShown (n first : Nat) (s t : State) : Prop where
  run : (t.trc n).spRun = (s.trc n).spRun
  next : (t.trc n).spNext = (s.trc n).spNext
  counted : t.fg (base (pSTEN n)) STEN_SP_VIOL_COUNT_COUNT = satAdd 0xFFFFFFFF (s.fg (base (pSTEN n)) STEN_SP_VIOL_COUNT_COUNT) 1
  latched : t.rd64 (base (pSTEN n) + STEN_SP_LAST_C) = first
  keeps : s.KeepsBut t (fun j => keyIn (base (pSTEN n)) [STEN_SP_VIOL_COUNT, STEN_SP_LAST_C, STEN_SP_LAST_C + 4, STEN_SP_LAST] j
    ∨ fabricKey j ∨ noticeKey j)

theorem State.hitShown_spectralHit (h4 : n < 4) (hn : n < s.tracers.length) (hlt : first < 2 ^ 64)
    (hstop : s.fb (base (pSTEN n)) STEN_SP_CFG_ACT_STOP = false) (htrig : s.fb (base (pSTEN n)) STEN_SP_CFG_ACT_TRIG = false) :
    State.HitShown n first s (s.spectralHit n f first last bad) := by
  obtain ⟨worst, t, note, hmark, heq⟩ := State.spectralHit_told (f := f) (first := first) (last := last) (bad := bad) hstop htrig
  have htracers := s.hitLatched_tracers n first worst
  obtain ⟨hrun, hnext⟩ := hmark.spectral (htracers ▸ hn)
  have htell := t.keepsBut_violTold n (0x800 + n) 1 (s.fb (base (pSTEN n)) STEN_SP_CFG_ACT_EVENT) note
  have htrc := State.trc_congr (n := n) (t.violTold_still n (0x800 + n) 1 (s.fb (base (pSTEN n)) STEN_SP_CFG_ACT_EVENT) note).1
  have hlatched := State.trc_congr (n := n) htracers
  rw [heq]
  exact {
    run := by rw [htrc, hrun, hlatched]
    next := by rw [htrc, hnext, hlatched]
    counted := (htell.fg (not_told_sten h4 (by decide))).trans ((hmark.keepsBut.fg id).trans (s.count_hitLatched n first worst))
    latched := (htell.rd64_sten h4 (by decide)).trans ((hmark.keepsBut.rd64 id id).trans (s.first_hitLatched worst hlt))
    keeps := ((s.keepsBut_hitLatched n first worst).still hmark.keepsBut).trans htell }

/-! ### SPECTRAL_VERDICT -/

/-- Without STREAM_EN no spectrum is streamed. -/
theorem State.streamNext_of_off (hoff : s.fb (base (pSTEN n)) STEN_SP_CFG_STREAM_EN = false) : s.streamNext n = s := by
  rw [State.streamNext, hoff]
  rfl

/-- A verdict after which STREAM_EN still reads 0 is all that the row does. -/
theorem exec_spectralVerdict (hn : n < s.variant.caps) (hstart : (s.trc n).startAt = none) (hend : (s.trc n).endAt = none)
    (hr : s.takeRaw n raw = r) (ht : r.spectral n = t) (hoff : t.fb (base (pSTEN n)) STEN_SP_CFG_STREAM_EN = false) :
    exec (.spectralVerdict n raw) s = .next t := by
  show execSpectralVerdict n raw s = _
  rw [execSpectralVerdict, State.onCap_idle hn hstart hend, hr, ht, State.streamNext_of_off hoff]

/-- Frames within the mask are counted, and end a run. -/
theorem exec_spectralVerdict_within (hs : s.Inv) (hn : n < s.variant.caps) (hstart : (s.trc n).startAt = none) (hend : (s.trc n).endAt = none)
    (hr : s.takeRaw n raw = r) (hoff : r.fb (base (pSTEN n)) STEN_SP_CFG_STREAM_EN = false) (hdue : r.VerdictDue n f m)
    (hbins : r.binsBeyond n f m (r.verdictBank n f) = []) :
    ∃ t : State, exec (.spectralVerdict n raw) s = .next t ∧ (t.trc n).spRun = 0 ∧ (t.trc n).spNext = f + m
      ∧ t.fg (base (pSTEN n)) STEN_SP_FRAME_COUNT_COUNT = satAdd 0xFFFFFFFF (r.fg (base (pSTEN n)) STEN_SP_FRAME_COUNT_COUNT) m
      ∧ r.KeepsBut t (fun j => j = base (pSTEN n) + STEN_SP_FRAME_COUNT) := by
  have hlen : n < r.tracers.length := hr ▸ hs.length_takeRaw hn raw
  let u := r.verdictState n f m
  have hulen : n < u.tracers.length := (State.length_verdictState (s := r)).symm ▸ hlen
  have htrc : (u.framesCounted n m 0).trc n = { r.trc n with spNext := f + m, spRun := 0 } := by
    rw [State.trc_framesCounted hulen, State.trc_verdictState hlen]
  have hkeeps : r.KeepsBut (u.framesCounted n m 0) (fun j => j = base (pSTEN n) + STEN_SP_FRAME_COUNT) := u.keepsBut_framesCounted n m 0
  have hspectral : r.spectral n = u.framesCounted n m 0 := by
    rw [State.spectral_due hlen hdue, State.judgeFrames_within ((State.binsBeyond_verdictState hlen _).trans hbins)]
  have hstill : (u.framesCounted n m 0).fb (base (pSTEN n)) STEN_SP_CFG_STREAM_EN = false :=
    (congrArg (· != 0) (hkeeps.fg fun h => absurd (Nat.add_left_cancel h) (by decide))).trans hoff
  exact ⟨_, exec_spectralVerdict hn hstart hend hr hspectral hstill, by rw [htrc], by rw [htrc], State.count_framesCounted (s := u), hkeeps⟩

/-- A verdict beyond the mask that makes the run longer than CONSEC is a violation. -/
theorem exec_spectralVerdict_beyond (hs : s.Inv) (hn : n < s.variant.caps) (hstart : (s.trc n).startAt = none) (hend : (s.trc n).endAt = none)
    (hr : s.takeRaw n raw = r) (hoff : r.fb (base (pSTEN n)) STEN_SP_CFG_STREAM_EN = false) (hdue : r.VerdictDue n f m)
    (hbins : r.binsBeyond n f m (r.verdictBank n f) ≠ []) (hconsec : r.fg (base (pSTEN n)) STEN_SP_CFG_CONSEC ≤ (r.trc n).spRun)
    (hlt : (r.frameSpan n f).1 < 2 ^ 64) (hstop : r.fb (base (pSTEN n)) STEN_SP_CFG_ACT_STOP = false)
    (htrig : r.fb (base (pSTEN n)) STEN_SP_CFG_ACT_TRIG = false) :
    ∃ t : State, exec (.spectralVerdict n raw) s = .next t ∧ (t.trc n).spRun = (r.trc n).spRun + 1 ∧ (t.trc n).spNext = f + m
      ∧ t.fg (base (pSTEN n)) STEN_SP_VIOL_COUNT_COUNT = satAdd 0xFFFFFFFF (r.fg (base (pSTEN n)) STEN_SP_VIOL_COUNT_COUNT) 1
      ∧ t.rd64 (base (pSTEN n) + STEN_SP_LAST_C) = (r.frameSpan n f).1
      ∧ r.KeepsBut t (fun j => keyIn (base (pSTEN n)) [STEN_SP_FRAME_COUNT, STEN_SP_VIOL_COUNT, STEN_SP_LAST_C, STEN_SP_LAST_C + 4,
          STEN_SP_LAST] j ∨ fabricKey j ∨ noticeKey j) := by
  have h4 := hs.cap_lt_four hn
  have hlen : n < r.tracers.length := hr ▸ hs.length_takeRaw hn raw
  let u := r.verdictState n f m
  have hu : u.trc n = { r.trc n with spNext := f + m } := State.trc_verdictState hlen
  have hulen : n < u.tracers.length := (State.length_verdictState (s := r)).symm ▸ hlen
  have hrun : (u.trc n).spRun = (r.trc n).spRun := by rw [hu]
  let w := u.framesCounted n m ((r.trc n).spRun + 1)
  have hw : w.trc n = { r.trc n with spNext := f + m, spRun := (r.trc n).spRun + 1 } := by rw [State.trc_framesCounted hulen, hu]
  have hcounted : r.KeepsBut w (fun j => j = base (pSTEN n) + STEN_SP_FRAME_COUNT) := u.keepsBut_framesCounted n m _
  have hcfg {x : Field} (hx : x.off = STEN_SP_CFG) : w.fb (base (pSTEN n)) x = r.fb (base (pSTEN n)) x :=
    congrArg (· != 0) (hcounted.fg fun h => absurd (hx.symm.trans (Nat.add_left_cancel h)) (by decide))
  let t := w.spectralHit n f (r.frameSpan n f).1 (r.frameSpan n (f + m - 1)).2 (r.binsBeyond n f m (r.verdictBank n f))
  have hspectral : r.spectral n = t := by
    have hsame : u.binsBeyond n f m (r.verdictBank n f) = r.binsBeyond n f m (r.verdictBank n f) := State.binsBeyond_verdictState hlen _
    have hlong : u.fg (base (pSTEN n)) STEN_SP_CFG_CONSEC ≤ (u.trc n).spRun := hrun.symm ▸ hconsec
    rw [State.spectral_due hlen hdue, State.judgeFrames_beyond (hsame.symm ▸ hbins) hlong, hsame, hrun]
  have hshown : State.HitShown n (r.frameSpan n f).1 w t :=
    State.hitShown_spectralHit h4 ((State.length_framesCounted (s := u)).symm ▸ hulen) hlt ((hcfg rfl).trans hstop) ((hcfg rfl).trans htrig)
  have hstill : t.fb (base (pSTEN n)) STEN_SP_CFG_STREAM_EN = w.fb (base (pSTEN n)) STEN_SP_CFG_STREAM_EN :=
    congrArg (· != 0) (hshown.keeps.fg (not_or.mpr ⟨fun h => absurd (keyIn_add.mp h) (by decide), not_told_sten h4 (by decide)⟩))
  refine ⟨t, exec_spectralVerdict hn hstart hend hr hspectral (hstill.trans ((hcfg rfl).trans hoff)), ?_, ?_, ?_, hshown.latched, ?_⟩
  · rw [hshown.run, hw]
  · rw [hshown.next, hw]
  · rw [hshown.counted, hcounted.fg fun h => absurd (Nat.add_left_cancel h) (by decide)]
  · refine (hcounted.trans hshown.keeps).mono fun j hj => ?_
    obtain rfl | hpage | htold := hj
    · exact .inl (keyIn_add.mpr (by decide))
    · exact .inl (hpage.mono (by decide))
    · exact .inr htold

end Sys2Proof.Machine
end

section
/-! The vertices of the stencil masks written, the bank in force refused (R277, R283), and the statement on the stencils. -/
namespace Sys2Proof.Machine
open Sys2Proof
variable {s : State} {o : Org} {n bank i j a : Nat} {w : Word}

/-! ### A vertex written (R277, R283) -/

/-- A word of a bank that may be written: by the owner, to a bank not in force. -/
theorem exec_stencilMaskWrite (hacc : s.AcceptsTable o) (ha : 0x08700000 ≤ a ∧ a < 0x08750000) (hword : a % 4 = 0)
    (hmask : s.maskWrite o.sess a w = .ok (s.stw a w.toNat)) :
    ∃ u : State, exec (.stencilMaskWrite o a w) s = .next (u.ackWrite o) ∧ u.ldw a = w.toNat ∧ s.KeepsRegs u (fun _ => False)
      ∧ s.KeepsMem u (within a 4) := by
  refine ⟨s.stw a w.toNat, ?_, s.ldw_stw_self a w.isLt, s.keepsRegs_stw a w.toNat, s.keepsMem_stw a w.toNat⟩
  show execStencilMaskWrite o a w s = _
  rw [execStencilMaskWrite, if_pos ha, State.hostMem_acked _ _ _ _ _ hacc ((if_pos hword).trans hmask)]

/-- A word of the time-domain window belongs to the channel and the bank of its vertex. -/
theorem State.maskWrite_td (h4 : n < 4) (hn : n < s.variant.caps) (hown : s.owns o.sess (pSTEN n) = true) (hbank : bank < 2) (hi : i < 4096)
    (hj : j < 2) : s.maskWrite o.sess (tdVertex n bank i + 4 * j) w
      = if bank = s.fg (base (pSTEN n)) STEN_TD_CFG_BANK then .error .locked else .ok (s.stw (tdVertex n bank i + 4 * j) w.toNat) := by
  have hspec : ¬ 0x08740000 ≤ tdVertex n bank i + 4 * j := by unfold tdVertex; omega
  have hchan : (tdVertex n bank i + 4 * j - 0x08700000) / 0x10000 = n := by unfold tdVertex; omega
  have hb : (tdVertex n bank i + 4 * j - 0x08700000) % 0x10000 / 0x8000 = bank := by unfold tdVertex; omega
  rw [State.maskWrite, decide_eq_false hspec]
  simp only [Bool.false_eq_true, if_false, hchan, hb, hown, Nat.not_le.mpr hn, Bool.not_true]

/-- A word of the spectral window belongs to the channel and the bank of its vertex. -/
theorem State.maskWrite_sp (h4 : n < 4) (hn : n < s.variant.caps) (hown : s.owns o.sess (pSTEN n) = true) (hbank : bank < 2) (hi : i < 1024)
    (hj : j < 2) : s.maskWrite o.sess (spVertex n bank i + 4 * j) w
      = if bank = s.fg (base (pSTEN n)) STEN_SP_CFG_BANK then .error .locked else .ok (s.stw (spVertex n bank i + 4 * j) w.toNat) := by
  have hspec : 0x08740000 ≤ spVertex n bank i + 4 * j := by unfold spVertex; omega
  have hchan : (spVertex n bank i + 4 * j - 0x08740000) / 0x4000 = n := by unfold spVertex; omega
  have hb : (spVertex n bank i + 4 * j - 0x08740000) % 0x4000 / 0x2000 = bank := by unfold spVertex; omega
  rw [State.maskWrite, decide_eq_true hspec]
  simp only [if_true, hchan, hb, hown, Nat.not_le.mpr hn, Bool.not_true, Bool.false_eq_true, if_false]

theorem tdVertex_inWindow (h4 : n < 4) (hbank : bank < 2) (hi : i < 4096) (hj : j < 2) :
    (0x08700000 ≤ tdVertex n bank i + 4 * j ∧ tdVertex n bank i + 4 * j < 0x08750000) ∧ (tdVertex n bank i + 4 * j) % 4 = 0 := by
  unfold tdVertex
  omega

theorem spVertex_inWindow (h4 : n < 4) (hbank : bank < 2) (hi : i < 1024) (hj : j < 2) :
    (0x08700000 ≤ spVertex n bank i + 4 * j ∧ spVertex n bank i + 4 * j < 0x08750000) ∧ (spVertex n bank i + 4 * j) % 4 = 0 := by
  unfold spVertex
  omega

/-- The bank of the time-domain mask in force is closed to writes. -/
theorem exec_stencilMaskWrite_locked (hs : s.Inv) (hn : n < s.variant.caps) (hacc : s.AcceptsTable o) (hown : s.owns o.sess (pSTEN n) = true)
    (hbank : bank < 2) (hi : i < 4096) (hj : j < 2) (hforce : s.fg (base (pSTEN n)) STEN_TD_CFG_BANK = bank) :
    exec (.stencilMaskWrite o (tdVertex n bank i + 4 * j) w) s = .next (s.turnedAway o (tdVertex n bank i + 4 * j) .locked) := by
  have h4 := hs.cap_lt_four hn
  obtain ⟨hwindow, hword⟩ := tdVertex_inWindow h4 hbank hi hj
  have hmask : s.maskWrite o.sess (tdVertex n bank i + 4 * j) w = .error .locked := by
    rw [State.maskWrite_td h4 hn hown hbank hi hj, if_pos hforce.symm]
  show execStencilMaskWrite o _ w s = _
  rw [execStencilMaskWrite, if_pos hwindow, State.hostMem_turnedAway hacc ((if_pos hword).trans hmask)]

/-- A bank whose vertices may not be put in force is not (R277). -/
theorem exec_stencilMaskWrite_limit (hs : s.Inv) (hn : n < s.variant.caps) (hacc : s.Accepts o (base (pSTEN n) + STEN_TD_CFG) w) {t : State}
    (ht : (s.plain o.sess (base (pSTEN n) + STEN_TD_CFG) w).stencilSet n = t)
    (hbad : t.bankOk n (t.fg (base (pSTEN n)) STEN_TD_CFG_BANK) false (t.periodOf n) = false) :
    exec (.stencilMaskWrite o (base (pSTEN n) + STEN_TD_CFG) w) s = .next (s.turnedAway o (base (pSTEN n) + STEN_TD_CFG) .limit) := by
  have h4 := hs.cap_lt_four hn
  have hwindow : ¬ (0x08700000 ≤ base (pSTEN n) + STEN_TD_CFG ∧ base (pSTEN n) + STEN_TD_CFG < 0x08750000) := by
    unfold base pSTEN STEN_TD_CFG
    omega
  have hno : pageNo (base (pSTEN n) + STEN_TD_CFG) = pSTEN n := pageNo_base_add (by decide)
  have hmod : (base (pSTEN n) + STEN_TD_CFG) % 4096 = STEN_TD_CFG := base_add_mod (by decide)
  have hreg : s.stencilReg o.sess n STEN_TD_CFG w = .error .limit := by
    rw [State.stencilReg, ht]
    exact (if_pos rfl).trans (if_neg (ne_true_of_eq_false hbad))
  show execStencilMaskWrite o _ w s = _
  rw [execStencilMaskWrite, if_neg hwindow, State.hostReg_turnedAway _ _ _ _ _ _ hacc]
  rw [hno, hmod, if_pos ⟨Nat.le_add_right .., Nat.add_lt_add_left h4 0x068⟩, Nat.add_sub_cancel_left, hreg]

/-! ### The statement -/

/-- Settles O22, by the cases of its statement: a pass begun or overlapped, its violation, a verdict, and a word of a mask or of TD_CFG written. -/
theorem stencilsJudge : Obligations.StencilsJudge := by
  intro s n hs hn hstart hend
  have h4 := hs.cap_lt_four hn
  refine ⟨fun x q rest hanchor hpend => ⟨fun hnone => ?_, fun p hpass hbefore => ?_⟩, fun hanchor hen hacq hnone => ?_,
    fun raw p e l hrend hpass htold hviols hlt hstop => ?_,
    fun raw hrend hoff hready hen => ⟨fun hwithin => ?_, fun hbeyond hconsec hlt hstop htrig => ?_⟩,
    fun o bank i j w hacc hown hbank hi hj => ⟨fun hfree => ?_, fun hforce => ?_⟩, fun o bank i j w hacc hown hbank hi hj hfree => ?_,
    fun o w hacc hbad => ?_⟩
  · obtain ⟨t, hexec, hrest, hbegun⟩ := exec_tdPassStart_trigger hs hn hstart hend hanchor hpend hnone
    exact ⟨t, hexec, hbegun.shown, hrest, hbegun.counted, hbegun.keeps⟩
  · exact exec_tdPassStart_overlap hs hn hstart hend hanchor hpend hpass hbefore
  · obtain ⟨t, hexec, hnext, hbegun⟩ := exec_tdPassStart_periodic hs hn hstart hend hanchor hen hacq hnone rfl
    exact ⟨t, hexec, hbegun.shown, hnext, hbegun.now, hbegun.counted, hbegun.keeps⟩
  · obtain ⟨t, hexec, hlast, hcount, hshown, hnow, hkeeps⟩ := exec_tdViolation hs hn hstart hend rfl hrend hpass htold hviols hlt hstop
    refine ⟨t, hexec, hlast, hcount, hshown, hnow, hkeeps.told fun j hj => ?_⟩
    simpa only [keyIn, List.map_cons, List.map_nil, ← Nat.add_assoc] using hj
  · exact exec_spectralVerdict_within hs hn hstart hend rfl hoff ⟨rfl, hrend, hready, hen⟩ (beyondBins_eq_nil_iff.mpr hwithin)
  · obtain ⟨t, hexec, hrun, hnext, hcount, hlast, hkeeps⟩ := exec_spectralVerdict_beyond hs hn hstart hend rfl hoff ⟨rfl, hrend, hready, hen⟩
      (fun hnil => beyondBins_eq_nil_iff.mp hnil hbeyond) hconsec hlt hstop htrig
    refine ⟨t, hexec, hrun, hnext, hcount, hlast, hkeeps.told fun j hj => ?_⟩
    simpa only [keyIn, List.map_cons, List.map_nil, ← Nat.add_assoc] using hj
  · obtain ⟨hwindow, hword⟩ := tdVertex_inWindow h4 hbank hi hj
    exact exec_stencilMaskWrite hacc hwindow hword ((State.maskWrite_td h4 hn hown hbank hi hj).trans (if_neg (Ne.symm hfree)))
  · exact exec_stencilMaskWrite_locked hs hn hacc hown hbank hi hj hforce
  · obtain ⟨hwindow, hword⟩ := spVertex_inWindow h4 hbank hi hj
    exact exec_stencilMaskWrite hacc hwindow hword ((State.maskWrite_sp h4 hn hown hbank hi hj).trans (if_neg (Ne.symm hfree)))
  · exact exec_stencilMaskWrite_limit hs hn hacc rfl hbad

end Sys2Proof.Machine
end
